-- ==== Sys2Proof/Word.lean ====
section
/-! DEFINITION. Word.lean: the machine's word types and their plainest arithmetic (R1, R4, R6). -/
namespace Sys2Proof

/-- A BAR 0 register is 32 bits wide (R8). -/
abbrev Word := BitVec 32

/-- One byte. -/
abbrev Byte := BitVec 8

/-- A signed number read from the low `n` bits of a natural number (two's complement). -/
def sext (n x : Nat) : Int :=
  let y := x % 2 ^ n
  if n = 0 then 0 else if y < 2 ^ (n - 1) then (y : Int) else (y : Int) - (2 ^ n : Nat)

/-- The low `n` bits, two's complement, of an integer. -/
def wrapBits (n : Nat) (x : Int) : Nat := (x % ((2 ^ n : Nat) : Int)).toNat

/-- Saturating addition at an upper limit. -/
def satAdd (limit a b : Nat) : Nat := min limit (a + b)

end Sys2Proof
end

