-- ==== Sys2Proof/Syntax.lean ====
section
/-! DEFINITION. Syntax.lean: the commands the block takes, one constructor per row of the opcode table, and the plain
data their operands are made of. Operands that come from outside the block (lines read, energies measured, bytes
fetched) stand in the command: the environment supplies them. -/
namespace Sys2Proof


/-- A module found by the cage scan (R70): what the device reads from its lower memory and page 00h. -/
structure ModInfo where
  /-- Identifier and revision are supported (CMIS 4.0 to 5.2). -/
  supported : Bool
  /-- Revision byte, major in [7:4], minor in [3:0]. -/
  rev : Nat
  /-- Advertised applications in order: application number, host interface as a PRT_CFG mode, host lanes, FEC
  the application code names (as PRT_CFG.FEC). -/
  apps : List (Nat × Nat × Nat × Nat)
  /-- CMIS media type is passive or linear-active copper (R63). -/
  copper : Bool
deriving DecidableEq, Repr

/-- The lines of one present cage as one scan reads them (R69); a cage not listed reads absent. -/
structure CageLine where
  cage : Fin 256
  int : Bool
  info : ModInfo
deriving DecidableEq, Repr

/-- Why a port lost its lock (R62, R102). -/
inductive LossCause where
  | signal | cdr | blockLock
deriving DecidableEq, Repr

/-- A supervisor's errand (R26). -/
inductive SupCmd where
  /-- Configuration write: BAR 0 address and value. -/
  | write (addr : Nat) (value : BitVec 32)
  /-- Block reset: block number of R414 and die mask. -/
  | reset (block mask : Nat)
  /-- Fault report toward CD0: class, block, kind, instance. -/
  | fault (cls block kind inst : Nat)
deriving DecidableEq, Repr

/-- A sideband message (R16), in three priorities. -/
inductive SbMsg where
  /-- Time alignment: tick-boundary disagreement of the die in 1/64 ns (R31, R37). -/
  | timeAlign (skew : Nat)
  /-- A fault report: class, block, kind, instance (R475). -/
  | fault (cls block kind inst : Nat)
  /-- A die supervisor command (R26). -/
  | supervisor (cmd : SupCmd)
deriving DecidableEq, Repr

/-- What a scrub step, or the scrub pass it ends, finds in a die's table memories (R163 to R165). -/
inductive ScrubFind where
  | clean
  /-- A single-bit error, or a TCAM array row that differs from its copy; the table it lies in. -/
  | corrected (table : Nat)
  /-- Uncorrectable: an exact-match unit or a TCAM row, by table and place. -/
  | entry (table place : Nat)
  /-- A trie node, by table, VRF and address bytes of its prefix, and the prefix length. -/
  | node (table : Nat) (key : List (BitVec 8)) (len : Nat)
  /-- An action profile: direction, stage, slot, profile. -/
  | profile (dir stage slot profile : Nat)
  /-- The keymap of a bound table. -/
  | keymap (table : Nat)
deriving DecidableEq, Repr

/-- Where a command comes from, and so where its reply goes (R392, R424, R430). -/
inductive CmdSrc where
  /-- Command ring `r`. -/
  | ring (r : Nat)
  /-- Relayed by another device: its number and the reply token of R452. -/
  | relay (dev token : Nat)
  /-- Submitted by a reckoner through block 22: reckoner, tag, and pool address of the packet (R392). -/
  | reckoner (k tag addr : Nat)
deriving DecidableEq, Repr

/-- What an opcode needs of its command's header (R425). -/
structure CmdHdr where
  src : CmdSrc
  tag : Nat
  /-- NO_REPLY. -/
  noReply : Bool := false
  /-- Batch id when BATCH is set (R431). -/
  batch : Option (BitVec 32) := none
deriving DecidableEq, Repr


/-- Registers whose writes change reserves (R243). -/
inductive ResvReg where
  /-- BUF_Q_CFG of a queue of a die. -/
  | queue (die : Fin 2) (q : Fin 4096)
  /-- PRT_HEADROOM of a port. -/
  | headroom (p : Fin 512)
  | levelPool (die : Fin 2)
  | spillTail (die : Fin 2)
deriving DecidableEq, Repr

/-- SCH_ registers with checks of their own on writes (R276, R281). -/
inductive SchReg where
  | qCfg (die : Fin 2) (q : Fin 4096)
  | qRate (die : Fin 2) (q : Fin 4096)
  | qBurst (die : Fin 2) (q : Fin 4096)
  | portRate (p : Fin 512)
  | portBurst (p : Fin 512)
  | smpCfg (die : Fin 2)
deriving DecidableEq, Repr

/-- The fields a Q_SHAPE command sets: those its valid mask names (R433). -/
structure ShapeSet where
  rate : Option (BitVec 32) := none
  burst : Option (BitVec 32) := none
  quantum : Option (BitVec 32) := none
  overhead : Option (BitVec 8) := none
  strict : Option Bool := none
  shapeEn : Option Bool := none
deriving DecidableEq, Repr


/-- Registers of a trigger output (R330, R333). -/
inductive TrigReg where
  | cfg | secLo | secHi | ns | period | width | adj
deriving DecidableEq, Repr


/-- What a read of an HBM burst finds (R370): nothing, or a corrected error, whose correction write a newer write may
supersede. -/
inductive HbmErr where
  | none
  | corrected (burst : Fin 32) (superseded : Bool)
deriving DecidableEq, Repr

/-- An activation made in a calendar frame: its pseudo-channel, row and requester (R369), and what its read finds. -/
structure HbmAct where
  stack : Fin 4
  pc : Fin 64
  row : Fin 524288
  req : BitVec 12
  err : HbmErr := .none
deriving DecidableEq, Repr

/-- What freezes a controller (R375). -/
inductive FreezeKind where
  | ue | caParity | thermal
deriving DecidableEq, Repr



/-- A microword at its execution (R383): the reckoner that runs it, its D and A fields and its immediate, and what the
SECDED code of the control store finds in it on the fetch: 0 nothing, 1 a corrected error, 2 an uncorrectable word (R396).
The operation is the command's own. -/
structure Micro where
  k : Fin 128
  d : Fin 32 := 0
  a : Fin 32 := 0
  imm : BitVec 16 := 0
  ecc : Fin 3 := 0
deriving DecidableEq, Repr


/-- What the bus or the environment of a DMA channel reports (R422); RANGE, LOOP_SUSPECT and CFG the channel finds itself. -/
inductive HaltCause where
  | busErr | wrFlush | selfAddr
deriving DecidableEq, Repr


/-- What a closed rod used, in µJ (R459, R460): the seven supplies' sensors, the 16 accounts, the four work classes, and the
committed energy the estimators charge to best-effort bytes. -/
structure RodEnergy where
  sensors : List Nat := []
  accounts : List Nat := []
  classes : List Nat := []
  best : Nat := 0
deriving DecidableEq, Repr

/-- What a die's collector learns beside the reports of the device's own blocks (R475, R493, R495). -/
inductive Found where
  /-- An error reported by a block agent: class code 0xA to 0xE of its chapter, block, kind, instance, detail. -/
  | fault (cls block kind inst : Nat) (detail : List (BitVec 8))
  /-- A checker of the die makes a check; an armed one is fed inverted check bits. -/
  | check (checker : BitVec 16)
  /-- The write to FLT_K_ADDR that the armed K-series register waits for. -/
  | kWrite
  /-- A read of a word whose check bits that write corrupted: checker and word address. -/
  | kRead (checker : BitVec 16) (addr : BitVec 32)
deriving DecidableEq, Repr

/-- Why a column suffers a hard fault (R482). -/
inductive ColFault where
  | uncorrectable | parity | noIssue
deriving DecidableEq, Repr

/-- A failure of the built-in self-test (R520). -/
inductive BistFail where
  | column (c : Fin 16)
  | reckoner (k : Fin 128)
  /-- A die-link module: link direction (2 × link + direction) and module. -/
  | module (dir : Fin 6) (m : Fin 16)
  /-- Another unit: the block it lies in. -/
  | other (block : Fin 27)
deriving DecidableEq, Repr


/-- The commands (spec/opcode_table.json), in the table's order. -/
inductive Instr where
  /-- REGISTER_WRITE (R6): a host write: `bar2` names BAR 2 (the MSI-X table, R413), `width` is in bits. -/
  | registerWrite (bar2 : Bool) (addr : Nat) (width : Nat) (value : BitVec 32)
  /-- READ_CLEAR (R6): a host read of BAR 0 address `addr`; `width` is in bits. -/
  | readClear (addr : Nat) (width : Nat)
  /-- PAIR_LOW_READ_LATCH (R9): a host read of the low word of a register pair. -/
  | pairLowReadLatch (addr : Nat)
  /-- PAIR_LOW_WRITE_COMMIT (R9): the high word written and held, then the low word. -/
  | pairLowWriteCommit (addr : Nat) (high low : BitVec 32)
  /-- TICK_BOUNDARY (R39): the start of the next tick. -/
  | tickBoundary
  /-- ROD_BOUNDARY (R39): the start of a rod: the energies of the closed rod. -/
  | rodBoundary (e : RodEnergy)
  /-- DECK_BOUNDARY (R39): the start of a deck: dies that got no deck number, follower dies whose deck number differs, the result of the collector's own check, and the on-die corrections the four stacks report (R360). -/
  | deckBoundary (quiet : List (Fin 4)) (differs : List (Fin 4)) (selfCheck : Bool) (ecc : List Nat)
  /-- HBM_CALENDAR_FRAME (R44): the activations made in the frame. -/
  | hbmCalendarFrame (acts : List HbmAct)
  /-- PPS_OUT_RISE (R329). -/
  | ppsOutRise
  /-- PPS_OUT_FALL (R329). -/
  | ppsOutFall
  /-- TICK_STEP (R35): the step due at this boundary. -/
  | tickStep
  /-- SLEW_DONE (R34): the phase offset has been removed. -/
  | slewDone
  /-- GRID_CHECK (R54): grid errors found, in 1/1,024 ns; a port not listed has none. -/
  | gridCheck (errors : List (Fin 512 × Nat))
  /-- INJECT_LATE (R43): the oldest inject of a column has waited too long. -/
  | injectLate (col : Fin 16)
  /-- NONFLOW_LATE (R51): a request of a class, addressed to a pseudo-channel. -/
  | nonflowLate (die : Fin 2) (cls : Fin 8) (stack : Fin 4) (pc : Fin 64)
  /-- PLAN_LATE (R463): the plan of the next rod is not complete. -/
  | planLate
  /-- SEAL_LATE (R352): the sum of the oldest closed deck is not formed in time. -/
  | sealLate
  /-- CMD_LATE (R49): the first released scheduled command of a die that has not begun within its deck. -/
  | cmdLate (die : Fin 2)
  /-- DIE_LINK_LANE_FAIL (R14): link direction (2 × link + direction), 64 × module + lane. -/
  | dieLinkLaneFail (dir : Fin 6) (lane : Fin 1024)
  /-- DIE_LINK_RETRAIN_DONE (R14): link direction. -/
  | dieLinkRetrainDone (dir : Fin 6)
  /-- SIDEBAND_MESSAGE (R16): messages waiting at one end of a sideband. -/
  | sidebandMessage (link : Fin 3) (dir : Fin 2) (msgs : List SbMsg)
  /-- SUPERVISOR_COMMAND (R26): a die supervisor carries out an errand. -/
  | supervisorCommand (die : Fin 4) (cmd : SupCmd)
  /-- FRAME_CHUNK_ARRIVE (R111): bytes of a frame received on port p; the first chunk gives the frame's length with FCS, and its place in the tick in 2^-16 ns. -/
  | frameChunkArrive (p : Fin 512) (first last : Bool) (len : Nat) (bytes : List Byte) (frac : Nat)
  /-- PACKET_ISSUE (R111): the column of port p issues; `again`: the packet recirculates at stage 11; `ecc`: the error the flow memories meet (R192). -/
  | packetIssue (p : Fin 512) (again : Bool) (ecc : Fin 4)
  /-- INJECT_ISSUE (R43): the oldest inject of a column takes a bubble. -/
  | injectIssue (col : Fin 16) (again : Bool)
  /-- FLOW_DATA_RETURN (R189): the data of an outstanding lookup return. -/
  | flowDataReturn (die : Fin 2) (n : Nat)
  /-- PARKED_RESUME (R188): the resume position takes the column's ready packet. -/
  | parkedResume (col : Fin 16) (again ecc : Bool)
  /-- FLOW_LATE (R231): the 768th parked cycle of a packet. -/
  | flowLate (col : Fin 16)
  /-- REPLICATION_TAKE_UP (R254): the engine takes up its oldest frame. -/
  | replicationTakeUp (die : Fin 2)
  /-- FRAME_END (R121): the last byte of the frame arriving on port p. -/
  | frameEnd (p : Fin 512)
  /-- COPY_DEQUEUE (R267): the scheduler of port p, dt past the tick boundary in 2^-16 ns. -/
  | copyDequeue (p : Fin 512) (dt : Nat)
  /-- COPY_TRANSMIT_END (R248): the last byte of the copy in transmission leaves. -/
  | copyTransmitEnd (p : Fin 512)
  /-- SHAPER_WHEEL_REFILL (R273): a due wheel entry: a queue by its die-local index, a port shaper by 4,096 + port mod 256. -/
  | shaperWheelRefill (die : Fin 2) (n : Fin 4352)
  /-- LEVEL_COPY_DEQUEUE (R291): the port is taken for `busy` more by another class, its next block boundaries lie `alignR` and `alignT` past the release time and the present. -/
  | levelCopyDequeue (p : Fin 512) (busy alignR alignT : Nat)
  /-- LEVEL_RELEASE_GATE (R291): the departure boundary of the copy at the gate. -/
  | levelReleaseGate (p : Fin 512)
  /-- JOURNAL_ROW_WRITE (R341): the records staged, up to the end of the ring's current row of 16. -/
  | journalRowWrite (die : Fin 2)
  /-- PORT_CREATE (R91): PRT_CFG write with MODE not 0 on a port of MODE 0. -/
  | portCreate (p : Fin 512) (value : BitVec 32)
  /-- PORT_ENABLE (R59): PRT_CFG write that sets EN. -/
  | portEnable (p : Fin 512) (value : BitVec 32)
  /-- PORT_DISABLE (R60): PRT_CFG write that clears EN. -/
  | portDisable (p : Fin 512) (value : BitVec 32)
  /-- PORT_REMOVE (R91): PRT_CFG write of MODE 0 with EN 0. -/
  | portRemove (p : Fin 512) (value : BitVec 32)
  /-- SIGNAL_DETECT (R556): signal on every lane of a cageless port. -/
  | signalDetect (p : Fin 512)
  /-- AUTONEG_RESOLVED (R63): Clause 73 exchange done: modes the partner advertises, its RS-FEC ability, whether either end asks for RS-FEC, its EEE ability. -/
  | autonegResolved (p : Fin 512) (partner : List Nat) (rsAble rsAsk eee : Bool)
  /-- LINK_TRAINING_DONE (R64): training or preset settling done. -/
  | linkTrainingDone (p : Fin 512)
  /-- TRAIN_FAIL (R64): training fails under its timers. -/
  | trainFail (p : Fin 512)
  /-- LOCK_ACQUIRED (R62): block and FEC lock. -/
  | lockAcquired (p : Fin 512)
  /-- LOCK_TIMEOUT (R62): 10 decks in LOCKING. -/
  | lockTimeout (p : Fin 512)
  /-- LOSS_OF_SIGNAL (R62): signal, CDR or block lock lost. -/
  | lossOfSignal (p : Fin 512) (cause : LossCause)
  /-- FAULT_SETS_RECEIVED (R62): remote or local fault ordered sets. -/
  | faultSetsReceived (p : Fin 512) (remote : Bool)
  /-- FAULT_SETS_CLEARED (R62): the fault ordered sets clear. -/
  | faultSetsCleared (p : Fin 512)
  /-- MGMT_LAYER_TIMEOUT (R65): 10 rods in UP without hello. -/
  | mgmtLayerTimeout (p : Fin 512)
  /-- CAGE_SCAN (R69): one scan of the cage lines. -/
  | cageScan (lines : List CageLine)
  /-- MODULE_READY (R70): ModuleReady and DataPathActivated. -/
  | moduleReady (c : Fin 256)
  /-- MODULE_INIT_TIMEOUT (R70): a module wait runs out. -/
  | moduleInitTimeout (c : Fin 256)
  /-- MOD_FLAG (R73): the module's flag pages, read after MOD_INT. -/
  | modFlag (c : Fin 256) (flags : Nat)
  /-- WATERMARK_WRITE (R76): PRT_WM write. -/
  | watermarkWrite (p : Fin 512) (q : Fin 8) (value : BitVec 32)
  /-- XOFF_REFRESH (R77): half the advertised pause time has elapsed. -/
  | xoffRefresh (p : Fin 512) (q : Fin 8)
  /-- PAUSE_FRAME_RECEIVE (R79): a PAUSE (quanta of index 0) or PFC frame. -/
  | pauseFrameReceive (p : Fin 512) (pfc : Bool) (vec : BitVec 8) (quanta : List Nat)
  /-- PAUSE_EXPIRE (R79): a received pause time runs out. -/
  | pauseExpire (p : Fin 512) (q : Fin 8)
  /-- PFC_WD_TRIP (R80): the watchdog time has passed. -/
  | pfcWdTrip (p : Fin 512) (q : Fin 8)
  /-- PFC_WD_RESTORE (R80): the restore time has passed. -/
  | pfcWdRestore (p : Fin 512) (q : Fin 8)
  /-- SHED_PROPOSAL (R82): average loads over the window, in percent of the capacity that would remain. -/
  | shedProposal (p : Fin 512) (tx rx : Nat)
  /-- SHED_STEP (R82): the agreed rod boundary. -/
  | shedStep (p : Fin 512)
  /-- WAKE_PROPOSAL (R83): transmit load over one rod in percent. -/
  | wakeProposal (p : Fin 512) (tx : Nat)
  /-- LANE_RESTORE (R83): the rod boundary of restoration. -/
  | laneRestore (p : Fin 512)
  /-- LPI_ENTER (R84): ticks with nothing to send. -/
  | lpiEnter (p : Fin 512) (idle : Nat)
  /-- PG_ENABLE (R85): PRT_PG_CTRL write that sets EN. -/
  | pgEnable (g : Fin 128) (value : BitVec 32)
  /-- PG_SWITCH (R86): second tick boundary after a loss. -/
  | pgSwitch (g : Fin 128)
  /-- PG_REVERT (R87): wait-to-restore over. -/
  | pgRevert (g : Fin 128)
  /-- LANE_CAL_TRIGGER (R89): a calibration trigger; `temp` is the die temperature. -/
  | laneCalTrigger (n : Fin 512) (temp : Nat)
  /-- LANE_CAL_DONE (R89): a run completes with its delays. -/
  | laneCalDone (n : Fin 512) (rx tx : Nat) (converged : Bool)
  /-- RAIL_GROUP_ENABLE (R93): RAIL_GRP_CFG write that sets EN. -/
  | railGroupEnable (g : Fin 128) (value : BitVec 32)
  /-- RAIL_GROUP_DISABLE (R97): RAIL_GRP_CFG write that clears EN. -/
  | railGroupDisable (g : Fin 128) (value : BitVec 32)
  /-- RAIL_DST_CONFIG_WRITE (R94): RAIL_DST_CFG write. -/
  | railDstConfigWrite (n : Fin 512) (value : BitVec 32)
  /-- RAIL_DST_START (R94): the added lane's FIFO has reached the group delay. -/
  | railDstStart (n : Fin 512)
  /-- RAIL_ACTIVE (R97): source locked and lanes calibrated. -/
  | railActive (g : Fin 128)
  /-- RAIL_SRC_LOSS (R102): loss of signal or CDR unlock on the selected source. -/
  | railSrcLoss (g : Fin 128)
  /-- RAIL_ALT_SWITCH (R103): every FIFO re-centred on the other source. -/
  | railAltSwitch (g : Fin 128)
  /-- RAIL_SRC_RETURN (R104): CDR lock returns on the source. -/
  | railSrcReturn (g : Fin 128)
  /-- SEL_PRIMARY (R104): write of SEL_PRIMARY. -/
  | selPrimary (g : Fin 128)
  /-- RAIL_DST_RETIRED (R105): self-check or calibration fails. -/
  | railDstRetired (n : Fin 512)
  /-- RAIL_FIFO_ADJUST_DONE (R101): a stepping destination reaches its setting. -/
  | railFifoAdjustDone (n : Fin 512)
  /-- PARSER_SWAP (R133): PAR_CTRL write. -/
  | parserSwap (die : Fin 2) (value : BitVec 32)
  /-- EM_MOVE_STEP (R151): the next move of the table's chain. -/
  | emMoveStep (die : Fin 2) (table : Fin 128)
  /-- TCAM_ROW_MOVE (R160): the next shift of the table's insertion. -/
  | tcamRowMove (die : Fin 2) (table : Fin 128)
  /-- TCAM_RESPACING_SWEEP (R160): the queued sweep of a table. -/
  | tcamRespacingSweep (die : Fin 2) (table : Fin 128)
  /-- LPM_NODE_FREE (R155): 2 ticks after the parent pointer switch. -/
  | lpmNodeFree (die : Fin 2) (table : Fin 128)
  /-- TABLE_SCRUB_STEP (R164): a word read by the scrubber of the TCAM arrays or of the other memories, what it finds, and whether the pass ends with it. -/
  | tableScrubStep (die : Fin 2) (tcam : Bool) (find : ScrubFind) (passEnd : Bool)
  /-- VERSION_RETIRE (R170): the previous table version. -/
  | versionRetire
  /-- FLOW_WRITEBACK_DONE (R191): a write response of a pseudo-channel. -/
  | flowWritebackDone (die : Fin 2) (pc : Fin 128)
  /-- KILL_ENTRY_RELEASE (R195): an entry of the kill list, by its place. -/
  | killEntryRelease (die : Fin 2) (entry : Nat)
  /-- IPFIX_PERIODIC_EXPORT (R210): a live record, by its locator. -/
  | ipfixPeriodicExport (die : Fin 2) (locator : BitVec 32)
  /-- IPFIX_TEMPLATE_RESEND (R210): a deck that is a multiple of 1,000. -/
  | ipfixTemplateResend (die : Fin 2)
  /-- LEARN_TASK (R217): the oldest learn request not yet run. -/
  | learnTask (die : Fin 2)
  /-- FLOW_PLACE_COMMIT (R219): an operation whose moves are done, by its place in the operation table. -/
  | flowPlaceCommit (die : Fin 2) (op : Nat)
  /-- LEARN_HOLD_EXPIRE (R216): a learn-table entry, by its place. -/
  | learnHoldExpire (die : Fin 2) (entry : Nat)
  /-- MOVE_LOCK_COPY (R221): the next move of an operation. -/
  | moveLockCopy (die : Fin 2) (op : Nat)
  /-- MOVE_SWITCH (R221): the move in progress of an operation. -/
  | moveSwitch (die : Fin 2) (op : Nat)
  /-- AGE_SWEEP_VISIT (R227): the next bucket of the sweep. -/
  | ageSweepVisit (die : Fin 2)
  /-- COMPARE_AND_DELETE (R228): the oldest compare-and-delete presented. -/
  | compareAndDelete (die : Fin 2)
  /-- RETIRE_ROW_COPY (R234): the next row of a retiring channel. -/
  | retireRowCopy (die : Fin 2)
  /-- REHASH_MIGRATE_STEP (R237): the next bucket of the migration. -/
  | rehashMigrateStep (die : Fin 2)
  /-- FLOW_CACHE_FLUSH (R238): the next cache set of the flush. -/
  | flowCacheFlush (die : Fin 2)
  /-- RESERVE_WRITE (R243): a host write of a register that sets a reserve. -/
  | reserveWrite (r : ResvReg) (value : BitVec 32)
  /-- AUDIT_PASS (R259): what the pass finds: cells neither free nor reached, how many free cells are reached, frame handles with the references found. -/
  | auditPass (die : Fin 2) (leaked : List (Fin 393216)) (used : Nat) (beyond : List (Nat × Nat))
  /-- SPILL_ROW_WRITE (R262): the deep queue whose four tail cells are written. -/
  | spillRowWrite (die : Fin 2) (q : Fin 4096)
  /-- SPILL_ROW_READBACK (R262): the deep queue whose row is read back. -/
  | spillRowReadback (die : Fin 2) (q : Fin 4096)
  /-- SHAPER_CONFIG_WRITE (R276): a host write of a SCH_ register. -/
  | shaperConfigWrite (r : SchReg) (value : BitVec 32)
  /-- QUEUE_SAMPLE_PERIOD (R279): a sampling period of a die. -/
  | queueSamplePeriod (die : Fin 2)
  /-- LEVEL_GROUP_CFG_WRITE (R289): a host write of LVL_GRP_CFG. -/
  | levelGroupCfgWrite (g : Fin 1024) (value : BitVec 32)
  /-- LEVEL_QUEUE_CFG_WRITE (R285): a host write of LVL_Q_CFG. -/
  | levelQueueCfgWrite (n : Fin 1024) (value : BitVec 32)
  /-- PTP_FRAME_RECEIVE (R316): a whole frame without FCS, stamped dt (2^-16 ns) past the tick boundary. -/
  | ptpFrameReceive (p : Fin 512) (bytes : List (BitVec 8)) (dt : Nat)
  /-- TIME_TASK (R317): the oldest message of the die's time queue; time within the tick at which an answer is sent; port states the best master clock algorithm of IEEE 1588-2019 gives under STATE_SRC 2. -/
  | timeTask (die : Fin 2) (dt : Nat) (bmca : List (Fin 512 × Fin 7))
  /-- PTP_SYNC_SEND (R319): sent dt (2^-16 ns) past the tick boundary. -/
  | ptpSyncSend (p : Fin 512) (dt : Nat)
  /-- PTP_DELAY_REQ_SEND (R321). -/
  | ptpDelayReqSend (p : Fin 512) (dt : Nat)
  /-- PTP_PDELAY_REQ_SEND (R318). -/
  | ptpPdelayReqSend (p : Fin 512) (dt : Nat)
  /-- PTP_ANNOUNCE_SEND (R315). -/
  | ptpAnnounceSend (p : Fin 512) (dt : Nat)
  /-- SERVO_OFFSET (R327): the oldest accepted offset. -/
  | servoOffset
  /-- EXCLUSION_REINSTATE (R326). -/
  | exclusionReinstate (p : Fin 512)
  /-- PTP_SOURCE_LOST (R324): the loss conditions of R324, as they stand. -/
  | ptpSourceLost
  /-- REF_INPUT_FAIL (R311): 0 REFCLK0, 1 TIMEREF_IN, 2 SyncE. -/
  | refInputFail (input : Fin 3)
  /-- REF_SWITCH (R311). -/
  | refSwitch
  /-- TIME_TRIGGER_WRITE (R330): a host write of a trigger's register. -/
  | timeTriggerWrite (n : Fin 8) (r : TrigReg) (value : BitVec 32)
  /-- TRIGGER_EDGE (R330). -/
  | triggerEdge (n : Fin 8)
  /-- CAPTURE_EDGE (R331): dt (2^-16 ns) past the tick boundary; input 8 is PPS_IN. -/
  | captureEdge (n : Fin 9) (falling : Bool) (dt : Nat)
  /-- CAPTURE_FIFO_POP (R333): a host read of TIM_CAPT_SEC_LO. -/
  | captureFifoPop (n : Fin 9)
  /-- TIME_NOW_LATCH (R333): a host read of TIM_NOW_SEC_LO. -/
  | timeNowLatch
  /-- JOURNAL_ENABLE (R348): a write of JRN_CTRL with EN 1. -/
  | journalEnable (value : BitVec 32)
  /-- JOURNAL_DISABLE (R348): a write of JRN_CTRL with EN 0. -/
  | journalDisable (value : BitVec 32)
  /-- JRN_ROOT_TASK (R351). -/
  | jrnRootTask (die : Fin 2)
  /-- JRN_SUM_TASK (R352). -/
  | jrnSumTask
  /-- DOMAIN_SUM_DEADLINE (R357). -/
  | domainSumDeadline
  /-- JRN_DRAIN_TASK (R344): rows of 16 records copied under DRAIN 1; under DRAIN 2 one journal frame. -/
  | jrnDrainTask (die : Fin 2) (rows : Nat)
  /-- JOURNAL_RD_WRITE (R344): a host write of the pair JRN_RD. -/
  | journalRdWrite (die : Fin 2) (value : BitVec 64)
  /-- FAULT_SEAL (R355). -/
  | faultSeal
  /-- MEM_COMMIT (R362): a write of MEM_CTRL with COMMIT 1. -/
  | memCommit (value : BitVec 32)
  /-- HBM_REGION_CLEAR_DONE (R362). -/
  | hbmRegionClearDone
  /-- HBM_SCRUB_READ (R371): the next row of the stack's pass. -/
  | hbmScrubRead (stack : Fin 4) (err : HbmErr)
  /-- HBM_TEMP_READ (R372): the reading in °C; none: it fails. -/
  | hbmTempRead (stack : Fin 4) (temp : Option (BitVec 8))
  /-- TARGETED_REFRESH (R374). -/
  | targetedRefresh (stack : Fin 4) (pc : Fin 64) (row : Fin 524288)
  /-- RH_INTERVAL_END (R374). -/
  | rhIntervalEnd (stack : Fin 4)
  /-- HBM_FREEZE (R375): the failing access. -/
  | hbmFreeze (stack : Fin 4) (kind : FreezeKind) (pc : Fin 64) (row : Fin 524288) (burst : Fin 32) (cls : Fin 10) (req : BitVec 12) (tag syndrome : BitVec 16)
  /-- HBM_RUNTIME_LANE_REPAIR (R377). -/
  | hbmRuntimeLaneRepair (stack : Fin 4)
  /-- QLOG_DATA_READ (R380): a host read of MEM_QLOG_DATA. -/
  | qlogDataRead (stack : Fin 4)
  /-- NOP (R385): a reckoner executes the microword. -/
  | nop (w : Micro)
  /-- ADD (R385): a reckoner executes the microword. -/
  | add (w : Micro)
  /-- SUB (R385): a reckoner executes the microword. -/
  | sub (w : Micro)
  /-- AND (R385): a reckoner executes the microword. -/
  | and (w : Micro)
  /-- OR (R385): a reckoner executes the microword. -/
  | or (w : Micro)
  /-- XOR (R385): a reckoner executes the microword. -/
  | xor (w : Micro)
  /-- SHL (R385): a reckoner executes the microword. -/
  | shl (w : Micro)
  /-- SHR (R385): a reckoner executes the microword. -/
  | shr (w : Micro)
  /-- SAR (R385): a reckoner executes the microword. -/
  | sar (w : Micro)
  /-- MUL (R385): a reckoner executes the microword. -/
  | mul (w : Micro)
  /-- SLTU (R385): a reckoner executes the microword. -/
  | sltu (w : Micro)
  /-- SEQ (R385): a reckoner executes the microword. -/
  | seq (w : Micro)
  /-- MINU (R385): a reckoner executes the microword. -/
  | minu (w : Micro)
  /-- MAXU (R385): a reckoner executes the microword. -/
  | maxu (w : Micro)
  /-- FFS (R385): a reckoner executes the microword. -/
  | ffs (w : Micro)
  /-- POPC (R385): a reckoner executes the microword. -/
  | popc (w : Micro)
  /-- ADDI (R385): a reckoner executes the microword. -/
  | addi (w : Micro)
  /-- ANDI (R385): a reckoner executes the microword. -/
  | andi (w : Micro)
  /-- ORI (R385): a reckoner executes the microword. -/
  | ori (w : Micro)
  /-- XORI (R385): a reckoner executes the microword. -/
  | xori (w : Micro)
  /-- SHLI (R385): a reckoner executes the microword. -/
  | shli (w : Micro)
  /-- SHRI (R385): a reckoner executes the microword. -/
  | shri (w : Micro)
  /-- SARI (R385): a reckoner executes the microword. -/
  | sari (w : Micro)
  /-- SHIN (R385): a reckoner executes the microword. -/
  | shin (w : Micro)
  /-- SLTUI (R385): a reckoner executes the microword. -/
  | sltui (w : Micro)
  /-- SEQI (R385): a reckoner executes the microword. -/
  | seqi (w : Micro)
  /-- BFX (R385): a reckoner executes the microword. -/
  | bfx (w : Micro)
  /-- BFI (R385): a reckoner executes the microword. -/
  | bfi (w : Micro)
  /-- BSWAP (R385): a reckoner executes the microword. -/
  | bswap (w : Micro)
  /-- CRC (R385): a reckoner executes the microword. -/
  | crc (w : Micro)
  /-- RAND (R385): a reckoner executes the microword. -/
  | rand (w : Micro)
  /-- JMP (R385): a reckoner executes the microword. -/
  | jmp (w : Micro)
  /-- BZ (R385): a reckoner executes the microword. -/
  | bz (w : Micro)
  /-- BNZ (R385): a reckoner executes the microword. -/
  | bnz (w : Micro)
  /-- CALL (R385): a reckoner executes the microword. -/
  | call (w : Micro)
  /-- RET (R385): a reckoner executes the microword. -/
  | ret (w : Micro)
  /-- JMPT (R385): a reckoner executes the microword. -/
  | jmpt (w : Micro)
  /-- GET (R387): a reckoner executes the microword. -/
  | get (w : Micro)
  /-- WAIT (R388): a reckoner executes the microword. -/
  | wait (w : Micro)
  /-- PARK (R389): a reckoner executes the microword. -/
  | park (w : Micro)
  /-- DONE (R390): a reckoner executes the microword. -/
  | done (w : Micro)
  /-- TASK (R393): a reckoner executes the microword. -/
  | task (w : Micro)
  /-- POST (R394): a reckoner executes the microword. -/
  | post (w : Micro)
  /-- REPLY (R390): a reckoner executes the microword. -/
  | reply (w : Micro)
  /-- EVT (R385): a reckoner executes the microword. -/
  | evt (w : Micro)
  /-- LD (R385): a reckoner executes the microword. -/
  | ld (w : Micro)
  /-- ST (R385): a reckoner executes the microword. -/
  | st (w : Micro)
  /-- LDP (R385): a reckoner executes the microword. -/
  | ldp (w : Micro)
  /-- STP (R385): a reckoner executes the microword. -/
  | stp (w : Micro)
  /-- HRD (R391): a reckoner executes the microword. -/
  | hrd (w : Micro)
  /-- HWR (R391): a reckoner executes the microword. -/
  | hwr (w : Micro)
  /-- BLK (R392): a reckoner executes the microword. -/
  | blk (w : Micro)
  /-- INJ (R395): a reckoner executes the microword. -/
  | inj (w : Micro)
  /-- TIME (R385): a reckoner executes the microword. -/
  | time (w : Micro)
  /-- FAULT (R385): a reckoner executes the microword. -/
  | fault (w : Micro)
  /-- DISPATCH_GRANT (R404): the dispatcher of a core die. -/
  | dispatchGrant (die : Fin 2)
  /-- WAIT_CONDITION_MET (R388): a reckoner in WAIT. -/
  | waitConditionMet (k : Fin 128)
  /-- PARK_CONDITION_MET (R389): a parked task's entry. -/
  | parkConditionMet (die : Fin 2) (n : Fin 16384)
  /-- OPERAND_ARRIVE (R394): operand tag (R394) and operand. -/
  | operandArrive (tag : BitVec 32) (value : BitVec 64)
  /-- MEMORY_TAG_COMPLETE (R391): a memory tag of a reckoner. -/
  | memoryTagComplete (k : Fin 128) (tag : BitVec 32)
  /-- BLOCK_ANSWER (R392): a block tag of a reckoner. -/
  | blockAnswer (k : Fin 128) (tag : BitVec 32)
  /-- TASK_LATE (R405): the entry of a running task. -/
  | taskLate (die : Fin 2) (n : Fin 16384)
  /-- RECKONER_HARD_FAULT (R407): hung sequencer, or an uncorrectable error. -/
  | reckonerHardFault (k : Fin 128) (hang : Bool)
  /-- CS_REPAIR (R396): a word found uncorrectable. -/
  | csRepair (die : Fin 2) (addr : Fin 32768)
  /-- CS_SCRUB_PASS (R396): words found in error: corrected, or (true) uncorrectable. -/
  | csScrubPass (die : Fin 2) (finds : List (Fin 32768 × Bool))
  /-- REMAINDER_TASK (R432): the oldest task's frame. -/
  | remainderTask (die : Fin 2)
  /-- INJECT_NOTE_TASK (R395). -/
  | injectNoteTask (die : Fin 2)
  /-- FLOW_ENGINE_TASK (R408): the step it runs: 0 sweep, 1 rehash, 2 retirement. -/
  | flowEngineTask (die : Fin 2) (what : Fin 3)
  /-- EXPORT_TASK (R210): an EXPORT task builds one message. -/
  | exportTask (die : Fin 2)
  /-- ENERGY_PLAN_TASK (R464): demand in µJ of the activities E0 to E4, then D0 to D6, in the next rod. -/
  | energyPlanTask (demand : List Nat)
  /-- COLUMN_GATE (R470): a column. -/
  | columnGate (col : Fin 16)
  /-- NRG_LIMIT_REG_WRITE (R461): a write of NRG_LIMIT. -/
  | nrgLimitRegWrite (value : BitVec 32)
  /-- COMMAND_FETCH (R424): the slot's bytes, none on a bus error. -/
  | commandFetch (r : Fin 16) (slot : Option (List (BitVec 8)))
  /-- CR_PROD_WRITE (R424): a write of DMA_CR_PROD. -/
  | crProdWrite (r : Fin 16) (value : BitVec 32)
  /-- RELAY_TIMEOUT (R430): the oldest relayed command whose limit has passed. -/
  | relayTimeout
  /-- BATCH_EXPIRED (R431): an open batch. -/
  | batchExpired (batch : BitVec 32)
  /-- FUNCTION_LEVEL_RESET (R415). -/
  | functionLevelReset
  /-- PCIE_LINK_LOSS (R415). -/
  | pcieLinkLoss
  /-- IRQ_HOLDOFF_END (R416): a source. -/
  | irqHoldoffEnd (source : Fin 128)
  /-- DMA_START (R419): a write of DMA_CH_CTRL with START set. -/
  | dmaStart (n : Fin 64) (value : BitVec 32)
  /-- DMA_DISABLE (R423): a write of DMA_CH_CTRL with DISABLE set. -/
  | dmaDisable (n : Fin 64) (value : BitVec 32)
  /-- DMA_RING_TAIL_WRITE (R420): a write of DMA_CH_RING_TAIL. -/
  | dmaRingTailWrite (n : Fin 64) (value : BitVec 32)
  /-- DMA_TRANSFER_DONE (R419): the bytes read from host memory, for a host source. -/
  | dmaTransferDone (n : Fin 64) (data : List (BitVec 8))
  /-- DMA_DESCRIPTOR_DONE (R420): the descriptor's bytes, and the bytes read from host memory for a host source. -/
  | dmaDescriptorDone (n : Fin 64) (desc data : List (BitVec 8))
  /-- DMA_HALT (R422): the latched address and direction; the descriptor in progress and the bytes moved before. -/
  | dmaHalt (n : Fin 64) (cause : HaltCause) (addr : BitVec 64) (write onDesc : Bool) (desc : List (BitVec 8)) (moved : Nat) (data : List (BitVec 8))
  /-- CPL_TIMEOUT (R422): the request's address; the descriptor in progress and the bytes moved before. -/
  | cplTimeout (n : Fin 64) (addr : BitVec 64) (onDesc : Bool) (desc : List (BitVec 8)) (moved : Nat) (data : List (BitVec 8))
  /-- POOL_SPLIT_WRITE (R434): a write of POOL_SPLIT. -/
  | poolSplitWrite (die : Fin 2) (value : BitVec 32)
  /-- POOL_MIN_WRITE (R435): a write of POOL_MIN_A or (b) POOL_MIN_B. -/
  | poolMinWrite (die : Fin 2) (owner : Fin 16) (b : Bool) (value : BitVec 32)
  /-- POOL_BUFFER_RETURN (R437): an owner returns the buffer at an address. -/
  | poolBufferReturn (owner : Fin 16) (addr : BitVec 32)
  /-- DEV_INFO (R433). -/
  | devInfo (h : CmdHdr)
  /-- DEV_NOP (R433). -/
  | devNop (h : CmdHdr)
  /-- DEV_REG_READ (R433). -/
  | devRegRead (h : CmdHdr) (offset : BitVec 32) (count : BitVec 16)
  /-- DEV_REG_WRITE (R433). -/
  | devRegWrite (h : CmdHdr) (offset value mask : BitVec 32)
  /-- DEV_BLOCK_RESET (R525). -/
  | devBlockReset (h : CmdHdr) (block mask : BitVec 8)
  /-- DEV_BATCH_COMMIT (R431). -/
  | devBatchCommit (h : CmdHdr) (batch : BitVec 32)
  /-- DEV_BATCH_ABORT (R431). -/
  | devBatchAbort (h : CmdHdr) (batch : BitVec 32)
  /-- DEV_INJECT (R433): the inject descriptor of R395 and the frame. -/
  | devInject (h : CmdHdr) (desc : Vector (BitVec 8) 16) (frame : List (BitVec 8))
  /-- DEV_CERT_READ (R528). -/
  | devCertRead (h : CmdHdr) (offset count : BitVec 16)
  /-- PRT_MOD_READ (R73): the bytes the module answers. -/
  | prtModRead (h : CmdHdr) (cage bank page offset count : BitVec 8) (data : List (BitVec 8))
  /-- PRT_MOD_WRITE (R73): the bytes to write. -/
  | prtModWrite (h : CmdHdr) (cage bank page offset count : BitVec 8) (data : List (BitVec 8))
  /-- PRT_CAL_RUN (R433): first lane and number of lanes. -/
  | prtCalRun (h : CmdHdr) (first count : BitVec 16)
  /-- TBL_CREATE (R146). -/
  | tblCreate (h : CmdHdr) (table : BitVec 8) (desc : List (BitVec 8))
  /-- TBL_DESTROY (R147). -/
  | tblDestroy (h : CmdHdr) (table : BitVec 8)
  /-- TBL_BIND (R147). -/
  | tblBind (h : CmdHdr) (table dir stage slot : BitVec 8) (segs : List (BitVec 8)) (companion : BitVec 8)
  /-- TBL_UNBIND (R147). -/
  | tblUnbind (h : CmdHdr) (table : BitVec 8)
  /-- TBL_INSERT (R151): flags as R433: REPLACE bit 7, die mask bits 1 and 0. -/
  | tblInsert (h : CmdHdr) (table flags plen : BitVec 8) (prio : BitVec 32) (result key mask : List (BitVec 8))
  /-- TBL_DELETE (R433). -/
  | tblDelete (h : CmdHdr) (table mask plen : BitVec 8) (handle : BitVec 32) (key : List (BitVec 8))
  /-- TBL_READ (R169). -/
  | tblRead (h : CmdHdr) (table mask plen : BitVec 8) (handle : BitVec 32) (key : List (BitVec 8))
  /-- TCAM_STEP (R162). -/
  | tcamStep (h : CmdHdr) (table die start count : BitVec 8) (key : List (BitVec 8))
  /-- TBL_PROFILE_WRITE (R143). -/
  | tblProfileWrite (h : CmdHdr) (mask dir stage slot profile : BitVec 8) (entry : List (BitVec 8))
  /-- TBL_PARSE_WRITE (R113). -/
  | tblParseWrite (h : CmdHdr) (mask kind : BitVec 8) (index : BitVec 16) (entry : List (BitVec 8))
  /-- TBL_PARSE_SWAP (R133). -/
  | tblParseSwap (h : CmdHdr) (mask : BitVec 8)
  /-- FLOW_INSERT (R219): key of 40 bytes, record bytes 40 to 63. -/
  | flowInsert (h : CmdHdr) (die profile flags : BitVec 8) (key bytes : List (BitVec 8))
  /-- FLOW_DELETE (R226). -/
  | flowDelete (h : CmdHdr) (die profile : BitVec 8) (key : List (BitVec 8))
  /-- FLOW_READ (R433). -/
  | flowRead (h : CmdHdr) (die profile : BitVec 8) (key : List (BitVec 8))
  /-- FLOW_WRITE (R433). -/
  | flowWrite (h : CmdHdr) (die profile : BitVec 8) (key : List (BitVec 8)) (mask : BitVec 32) (bytes : List (BitVec 8))
  /-- FLOW_KILL (R195). -/
  | flowKill (h : CmdHdr) (die profile : BitVec 8) (key : List (BitVec 8))
  /-- FLOW_UNKILL (R195). -/
  | flowUnkill (h : CmdHdr) (die profile : BitVec 8) (key : List (BitVec 8))
  /-- FLOW_KIND_WRITE (R557). -/
  | flowKindWrite (h : CmdHdr) (mask kind : BitVec 8) (index offset count : BitVec 16) (bytes : List (BitVec 8))
  /-- FLOW_RETIRE_PC (R233). -/
  | flowRetirePc (h : CmdHdr) (die channel : BitVec 8)
  /-- FLOW_REHASH (R236). -/
  | flowRehash (h : CmdHdr) (die : BitVec 8)
  /-- Q_SHAPE (R276). -/
  | qShape (h : CmdHdr) (port : BitVec 16) (queue : BitVec 8) (set : ShapeSet)
  /-- Q_FLUSH (R276). -/
  | qFlush (h : CmdHdr) (port : BitVec 16) (queue : BitVec 8)
  /-- MC_WRITE (R252). -/
  | mcWrite (h : CmdHdr) (group : BitVec 16) (pruneSrc jrn copyId : Bool) (ports : BitVec 512) (pgs : BitVec 128)
  /-- MC_READ (R252). -/
  | mcRead (h : CmdHdr) (group : BitVec 16)
  /-- LVL_GROUP_WRITE (R284). -/
  | lvlGroupWrite (h : CmdHdr) (group : BitVec 16) (l : BitVec 32) (lateMax : BitVec 16) (en unlockedOk grid : Bool) (lateAct : BitVec 2)
  /-- LVL_QUEUE_WRITE (R285). -/
  | lvlQueueWrite (h : CmdHdr) (queue group dest : BitVec 16) (maxCells : BitVec 32) (en pg : Bool)
  /-- LVL_RANK_WRITE (R290). -/
  | lvlRankWrite (h : CmdHdr) (first count : BitVec 16) (ranks : List (BitVec 16))
  /-- TIME_SET (R314). -/
  | timeSet (h : CmdHdr) (seconds : BitVec 48) (ns : BitVec 32)
  /-- TIME_READ (R433). -/
  | timeRead (h : CmdHdr)
  /-- TIME_PORT_STATE (R313). -/
  | timePortState (h : CmdHdr) (port : BitVec 16) (state : BitVec 8)
  /-- TIME_TRIG (R330): the flags byte as EN, POL and LOCK_GATE (GATE for PPS_OUT). -/
  | timeTrig (h : CmdHdr) (output : BitVec 8) (en pol gate : Bool) (seconds : BitVec 48) (ns period width count : BitVec 32) (adj : BitVec 16)
  /-- TIME_ASYM (R322). -/
  | timeAsym (h : CmdHdr) (port const : BitVec 16) (asymUnc : BitVec 8) (coef : BitVec 32)
  /-- TIME_UTC (R304): the flags byte as the TIM_UTC bits. -/
  | timeUtc (h : CmdHdr) (offset : BitVec 16) (fromPtp valid leap59 leap61 : Bool)
  /-- JRN_READ (R344). -/
  | jrnRead (h : CmdHdr) (die : BitVec 8) (count : BitVec 16) (first : BitVec 64)
  /-- JRN_SUM_READ (R354). -/
  | jrnSumRead (h : CmdHdr) (deck : BitVec 64)
  /-- JRN_CHILD_READ (R358). -/
  | jrnChildRead (h : CmdHdr) (deck : BitVec 64)
  /-- JRN_PORT_SET (R345). -/
  | jrnPortSet (h : CmdHdr) (port : BitVec 16) (recs : BitVec 8) (dst src : BitVec 48)
  /-- MC_OPEN_LOAD (R401): host address and length, and the bytes read there. -/
  | mcOpenLoad (h : CmdHdr) (addr : BitVec 64) (len : BitVec 32) (image : List (BitVec 8))
  /-- MC_OPEN_ENABLE (R401). -/
  | mcOpenEnable (h : CmdHdr)
  /-- MC_OPEN_DISABLE (R401). -/
  | mcOpenDisable (h : CmdHdr)
  /-- MC_CALL (R402): die, operand count, user type and operands. -/
  | mcCall (h : CmdHdr) (die count : BitVec 8) (type : BitVec 16) (operands : List (BitVec 64))
  /-- FLT_INJECT_ARM (R493). -/
  | fltInjectArm (h : CmdHdr) (die : BitVec 8) (checker : BitVec 16) (pattern : BitVec 64) (count : BitVec 32)
  /-- FLT_LOG_READ (R479). -/
  | fltLogRead (h : CmdHdr) (die : BitVec 8) (first count : BitVec 16)
  /-- FLT_LOG_CLEAR (R479). -/
  | fltLogClear (h : CmdHdr) (die : BitVec 8)
  /-- NRG_LIMIT (R461). -/
  | nrgLimit (h : CmdHdr) (watts : BitVec 16)
  /-- NRG_READ (R472). -/
  | nrgRead (h : CmdHdr) (rods : BitVec 16)
  /-- OTP_READ (R526). -/
  | otpRead (h : CmdHdr) (bank : BitVec 8) (offset count : BitVec 16)
  /-- OTP_BURN (R531): the generation; for each generation tried, the bits that do not burn; and whether power is lost during the last of them. -/
  | otpBurn (h : CmdHdr) (gen : Vector (BitVec 8) 256) (fails : List (List (Fin 2048))) (cut : Bool)
  /-- DOM_STATUS (R457). -/
  | domStatus (h : CmdHdr)
  /-- DOM_NEIGH (R457). -/
  | domNeigh (h : CmdHdr) (first count : BitVec 16)
  /-- DOMAIN_ENABLE (R440): a write of DOM_CTRL with EN 1. -/
  | domainEnable (value : BitVec 32)
  /-- DOMAIN_DISABLE (R449): a write of DOM_CTRL with EN 0. -/
  | domainDisable (value : BitVec 32)
  /-- RULEY_FRAME_RECEIVE (R441): a whole frame without FCS. -/
  | ruleyFrameReceive (p : Fin 512) (bytes : List (BitVec 8))
  /-- REASSEMBLY_TIMEOUT (R441): the oldest message of the die's domain queue that lacks a part. -/
  | reassemblyTimeout (die : Fin 2)
  /-- HELLO (R444): a DOMAIN task takes the oldest HELLO of the die's domain queue. -/
  | hello (die : Fin 2)
  /-- HELLO_RESEND (R443). -/
  | helloResend (p : Fin 512)
  /-- KEEPALIVE (R443). -/
  | keepalive
  /-- ADJACENCY_LOST (R444). -/
  | adjacencyLost (p : Fin 512)
  /-- ROOT_TAKEOVER (R445). -/
  | rootTakeover
  /-- ADOPT_REQ (R447): the oldest message of the type in the die's domain queue. -/
  | adoptReq (die : Fin 2)
  /-- ADOPT_ACK (R447): the oldest message of the type in the die's domain queue. -/
  | adoptAck (die : Fin 2)
  /-- ADOPT_NAK (R447): the oldest message of the type in the die's domain queue. -/
  | adoptNak (die : Fin 2)
  /-- ADOPT_TIMEOUT (R447). -/
  | adoptTimeout
  /-- LEAVE (R448): the oldest message of the type in the die's domain queue. -/
  | leave (die : Fin 2)
  /-- MOVE (R448): the oldest message of the type in the die's domain queue. -/
  | move (die : Fin 2)
  /-- JOIN_NAK (R448): the oldest message of the type in the die's domain queue. -/
  | joinNak (die : Fin 2)
  /-- RULEY_CMD (R452): the oldest message of the type in the die's domain queue. -/
  | ruleyCmd (die : Fin 2)
  /-- RULEY_REPLY (R452): the oldest message of the type in the die's domain queue. -/
  | ruleyReply (die : Fin 2)
  /-- RULEY_SUM (R357): the oldest message of the type in the die's domain queue. -/
  | ruleySum (die : Fin 2)
  /-- RULEY_FAULT (R455): the oldest message of the type in the die's domain queue. -/
  | ruleyFault (die : Fin 2)
  /-- SHED_REQ (R82): a SHED_REQ arrives on port p: proposed rod boundary, lanes that remain, the proposer's loads in percent. -/
  | shedReq (p : Fin 512) (rod : Nat) (lanes : Nat) (tx rx : Nat)
  /-- SHED_ACK (R82): a SHED_ACK arrives on port p. -/
  | shedAck (p : Fin 512) (rod : Nat)
  /-- SHED_NAK (R82): a SHED_NAK arrives on port p. -/
  | shedNak (p : Fin 512) (rod : Nat)
  /-- WAKE_REQ (R83): a WAKE_REQ arrives on port p. -/
  | wakeReq (p : Fin 512) (rod : Nat)
  /-- FAULT_CLASSIFY (R475): the collector of a die, and what its agents report beside the faults of the device's own commands. -/
  | faultClassify (die : Fin 2) (found : List Found)
  /-- FAULT_HANDLING_END (R480): a collector. -/
  | faultHandlingEnd (die : Fin 2)
  /-- FAULT_QUEUE_REPORT (R481): a collector. -/
  | faultQueueReport (die : Fin 2)
  /-- COLUMN_HARD_FAULT (R482): a column. -/
  | columnHardFault (col : Fin 16) (kind : ColFault)
  /-- COLUMN_REMAP_DONE (R483): a column. -/
  | columnRemapDone (col : Fin 16)
  /-- SAFE_STATE_ENTER (R485). -/
  | safeStateEnter
  /-- SUPERVISOR_SAFE_TIMEOUT (R485): 0 CD1, 1 PD0, 2 PD1. -/
  | supervisorSafeTimeout (die : Fin 3)
  /-- SEAL_ABANDONED (R486). -/
  | sealAbandoned
  /-- SAFE_STATE_EXIT (R490): a write of FLT_EXIT. -/
  | safeStateExit (value : BitVec 32)
  /-- KMODE_ENTER (R495). -/
  | kmodeEnter
  /-- KMODE_EXIT (R495). -/
  | kmodeExit
  /-- K_INJECT_ARM (R495). -/
  | kInjectArm
  /-- COUNTER_OVERFLOW (R501): a counter and the events it receives in one cycle. -/
  | counterOverflow (u : Fin 32) (c : Fin 8) (n : Nat)
  /-- COUNTER_OVF_CLEAR (R501): a write of CNT_OVF[j]. -/
  | counterOvfClear (j : Fin 8) (value : BitVec 32)
  /-- SNAPSHOT_REQUEST (R504). -/
  | snapshotRequest
  /-- PERST_L_RELEASE (R511). -/
  | perstLRelease
  /-- PERST_L_ASSERT (R524). -/
  | perstLAssert
  /-- OTP_SENSE (R530): duration of the step. -/
  | otpSense (us : BitVec 32)
  /-- PLL_LOCK (R511): duration of the step. -/
  | pllLock (us : BitVec 32)
  /-- PLL_LOCK_TIMEOUT (R521). -/
  | pllLockTimeout
  /-- DIE_LINK_TRAINING (R511): duration of the step; failed lanes: link direction (2 × link + direction) and 64 × module + lane. -/
  | dieLinkTraining (us : BitVec 32) (bad : List (Fin 6 × Fin 1024))
  /-- HBM_TRAINING (R377): a stack, whether its training succeeded, the time since the step began. -/
  | hbmTraining (stack : Fin 4) (ok : Bool) (us : BitVec 32)
  /-- SERDES_CALIBRATION (R511): duration of the step, lanes that did not converge. -/
  | serdesCalibration (us : BitVec 32) (bad : List (Fin 512))
  /-- MICROCODE_LOAD (R516): duration of the step, the bytes of the flash slot read. -/
  | microcodeLoad (us : BitVec 32) (image : List (BitVec 8))
  /-- HOST_BOOT_GO (R517): a write of OTP_BOOT_CTRL. -/
  | hostBootGo (value : BitVec 32)
  /-- HBM_INITIALISATION (R518): duration of the step. -/
  | hbmInitialisation (us : BitVec 32)
  /-- BRING_UP (R519): duration of the step; whether the known-answer tests and the key check pass. -/
  | bringUp (us : BitVec 32) (pass : Bool)
  /-- BIST (R520): duration of the step, the failures found. -/
  | bist (us : BitVec 32) (fails : List BistFail)
  /-- SUPPLY_UNDER_VOLTAGE (R542): a rail. -/
  | supplyUnderVoltage (r : Fin 7)
  /-- SUPPLY_OVER_VOLTAGE (R542): a rail. -/
  | supplyOverVoltage (r : Fin 7)
  /-- KEEPER_POWER_ON_RESET (R542). -/
  | keeperPowerOnReset
  /-- GRAVE_LATCH_CLEAR (R543). -/
  | graveLatchClear
  /-- REFCLK_LOSS (R544): 0 REFCLK1, 1 REFCLK2, 2 REFCLK3. -/
  | refclkLoss (n : Fin 3)
  /-- JUNCTION_SENSOR_SAMPLE (R553): °C: 16 sensors of CD0, 16 of CD1, 8 of PD0, 8 of PD1. -/
  | junctionSensorSample (temps : Vector (BitVec 8) 48)
  /-- OTP_WINDOW_READ (R533). -/
  | otpWindowRead
  /-- BYPASS (R550). -/
  | bypass
  /-- IDCODE (R550). -/
  | idcode
  /-- SAMPLE_PRELOAD (R550): levels on the pins and levels shifted in, by ball number. -/
  | samplePreload (pins load : List (Nat × Bool))
  /-- EXTEST (R550): levels on the pins, by ball number. -/
  | extest (pins : List (Nat × Bool))
  /-- PCIE_LINK_UP (R513): rate (1: 2.5 GT/s to 6: 64 GT/s) and lanes of the trained link. -/
  | pcieLinkUp (gen : Fin 7) (width : Fin 17)
  /-- SUPPLY_VALID_RESTART (R542). -/
  | supplyValidRestart
  /-- DMA_RR_RD_WRITE (R426): a write of DMA_RR_RD. -/
  | dmaRrRdWrite (r : Fin 16) (value : BitVec 32)
deriving DecidableEq, Repr

end Sys2Proof
end

