-- ==== Sys2Proof/Config.lean ====
section
/-! DEFINITION. Config.lean: what an implementation fixes and the free values: constants with no body. -/
namespace Sys2Proof

/-- The free values of the model: the value of the k-th open choice. No proof can evaluate it (log entry 2). -/
opaque Config.freeNat : Nat → Nat

/-- Factory delay of a lane at a mode, receive (`false`) or transmit (`true`), in 1/1,024 ns (R89): fixed per part. -/
opaque Config.laneDelay : Nat → Nat → Bool → Nat

/-- Energy of one unit of work of an activity, E0 to E4 then D0 to D6, in µJ (R465): the factory bank holds it per part. -/
opaque Config.unitEnergy : Nat → Nat

/-- Flags byte of a multicast group as MC_READ returns it, from PRUNE_SRC, JRN and COPYID: the spec gives no bit places. -/
opaque Config.mcFlags : Bool → Bool → Bool → BitVec 8

/-- organizationSubType of the TLV of R323, which the spec does not give. -/
opaque Config.ptpSubtype : BitVec 24

/-- Source IP address and time to live of PTP messages of a port over UDP (R315). -/
opaque Config.ptpSource : Nat → BitVec 128 × BitVec 8

/-- Grandmaster fields of a sent Announce message, grandmasterPriority1 to timeSource: the spec gives no values; by the
count of free values drawn. -/
opaque Config.ptpAnnounce : Nat → BitVec 136

/-- The data of an event for which no rule gives one (R417), by its code, tick and entry sequence. -/
opaque Config.eventData : Nat → Nat → Nat → BitVec 64

/-- The ECDSA P-256 signature of a message with the identity key (R353), by the count of free values drawn: FIPS 186-5
draws a secret number for each. -/
opaque Config.sign : List (BitVec 8) → Nat → BitVec 512

/-- A word of a frozen controller's command log or queue: stack, tick of the freeze, log, index (R375, R380). -/
opaque Config.qlog : Nat → Nat → Nat → Nat → BitVec 32

/-- Kind, check width, class of an uncorrectable result and instance of a checker of a die, by its identifier; none where
no checker has it (R493, FLT_CHK_DESC): the spec names no checker. -/
opaque Config.checker : Nat → Nat → Option (Nat × Nat × Nat × Nat)

/-- The detail of a fault's log entry where no rule gives it (R478: as the block records it), by fault code, tick and entry
sequence. -/
opaque Config.faultDetail : Nat → Nat → Nat → BitVec 256

/-- Does an ECDSA P-256 signature of a message verify under a public key, x then y (FIPS 186-5; R400, R516)? -/
opaque Config.verify : List (BitVec 8) → List (BitVec 8) → List (BitVec 8) → Bool

/-- The identity certificate in DER form, from bytes 32 to 251 of the key bank and the template fixed in the keeper logic
(R528). -/
opaque Config.certDer : List (BitVec 8) → List (BitVec 8)

end Sys2Proof
end

