-- ==== Sys2Proof/Machine/KV.lean ====
section
/-! DEFINITION. Machine/KV.lean: sparse maps from a number to a value, kept in one canonical form: keys strictly
rising, and no entry equal to what an unlisted key reads as. Registers, memories and per-entity state use them. -/
namespace Sys2Proof.Machine

/-- The value at a key; `d` is what an unlisted key reads as. -/
def kvGet {α : Type} (d : α) : List (Nat × α) → Nat → α
  | [], _ => d
  | (k, v) :: m, a => if k = a then v else kvGet d m a

/-- The map without a key. -/
def kvErase {α : Type} (a : Nat) : List (Nat × α) → List (Nat × α)
  | [] => []
  | (k, v) :: m => if k = a then kvErase a m else (k, v) :: kvErase a m

/-- The map with a value at a key, in canonical form: a value equal to `d` is not listed. -/
def kvSet {α : Type} [DecidableEq α] (d : α) (a : Nat) (v : α) : List (Nat × α) → List (Nat × α)
  | [] => if v = d then [] else [(a, v)]
  | (k, w) :: m =>
    if a < k then (if v = d then kvErase a ((k, w) :: m) else (a, v) :: (k, w) :: m)
    else if a = k then (if v = d then kvErase a m else (a, v) :: m)
    else (k, w) :: kvSet d a v m

/-- Canonical form: keys strictly rising, no listed value equal to what its key reads as when unlisted. -/
def kvWf {α : Type} [DecidableEq α] (d : Nat → α) (m : List (Nat × α)) : Prop :=
  m.Pairwise (fun x y => x.1 < y.1) ∧ ∀ e ∈ m, e.2 ≠ d e.1

/-- A byte-addressed memory whose unlisted bytes read 0. -/
abbrev Mem := List Host.Cell

/-- One byte of a memory. -/
def memByte (m : Mem) (a : Nat) : Byte := kvGet 0 m a

/-- Bytes of a memory from an address. -/
def memRead (m : Mem) (a : Nat) : Nat → List Byte
  | 0 => []
  | n + 1 => memByte m a :: memRead m (a + 1) n

/-- A memory with bytes stored from an address, the first byte lowest. -/
def memWrite (m : Mem) (a : Nat) : List Byte → Mem
  | [] => m
  | b :: bs => memWrite (kvSet 0 a b m) (a + 1) bs

/-- The `n` bytes of a number, most significant byte first (R4). -/
def beBytes : Nat → Nat → List Byte
  | 0, _ => []
  | n + 1, v => BitVec.ofNat 8 (v / 256 ^ n) :: beBytes n v

/-- The number that bytes spell, most significant byte first (R4). -/
def ofBe (l : List Byte) : Nat := l.foldl (fun acc b => acc * 256 + b.toNat) 0

/-- The `n` bytes of a list from an offset; a missing byte reads 0. -/
def bytesAt (l : List Byte) (off : Nat) : Nat → List Byte
  | 0 => []
  | n + 1 => l.getD off 0 :: bytesAt l (off + 1) n

/-- The number in `n` bytes of a list from an offset, most significant byte first (R4). -/
def beAt (l : List Byte) (off n : Nat) : Nat := ofBe (bytesAt l off n)

/-- `n` zero bytes. -/
def zeros (n : Nat) : List Byte := List.replicate n 0

/-- Replace the element at an index of a list; an index beyond the end changes nothing. -/
def setAt {α : Type} : List α → Nat → α → List α
  | [], _, _ => []
  | _ :: l, 0, v => v :: l
  | x :: l, n + 1, v => x :: setAt l n v

/-- Overwrite bytes of a list from an offset, the length kept. -/
def putAt (l : List Byte) (off : Nat) : List Byte → List Byte
  | [] => l
  | b :: bs => putAt (setAt l off b) (off + 1) bs

/-- Bits `hi` down to `lo` of a number. -/
def bits (v hi lo : Nat) : Nat := v / 2 ^ lo % 2 ^ (hi + 1 - lo)

/-- A number with bits `hi` down to `lo` replaced. -/
def putBits (v hi lo x : Nat) : Nat :=
  v / 2 ^ (hi + 1) * 2 ^ (hi + 1) + x % 2 ^ (hi + 1 - lo) * 2 ^ lo + v % 2 ^ lo

/-- Insert by a key before the first element with a larger key (equal keys keep arrival order). -/
def insertBy {α : Type} (key : α → Nat) (x : α) : List α → List α
  | [] => [x]
  | y :: l => if key x < key y then x :: y :: l else y :: insertBy key x l

/-- Stable sort by a key. -/
def sortBy {α : Type} (key : α → Nat) (l : List α) : List α :=
  l.foldl (fun acc x => insertBy key x acc) []

end Sys2Proof.Machine
end

