-- ==== Sys2Proof/Machine/Crypto.lean ====
section
/-! DEFINITION. Machine/Crypto.lean: the published functions the spec names: CRC-32C, and SHA-256 of FIPS 180-4
(R10). PRESUMED: the spec names them; their constants are those of the published standards (log entry 5). -/
namespace Sys2Proof.Machine

/-- One bit step of the reflected CRC-32C (Castagnoli) register. -/
def crcBit (c : Nat) : Nat :=
  if c % 2 = 1 then Nat.xor (c / 2) 0x82F63B78 else c / 2

/-- CRC-32C register after one byte. -/
def crcByte (c : Nat) (b : Byte) : Nat :=
  let x := Nat.xor c b.toNat
  crcBit (crcBit (crcBit (crcBit (crcBit (crcBit (crcBit (crcBit x)))))))

/-- CRC-32C state continued over bytes (the CRC micro-operation, R385). -/
def crcCont (c : Nat) (l : List Byte) : Nat := l.foldl crcByte c

/-- CRC-32C of bytes: register preset to ones and complemented at the end. -/
def crc32c (l : List Byte) : Nat := Nat.xor (crcCont 0xFFFFFFFF l) 0xFFFFFFFF

/-- CRC-32 of IEEE 802.3, the Ethernet frame check sequence: one bit step. -/
def fcsBit (c : Nat) : Nat :=
  if c % 2 = 1 then Nat.xor (c / 2) 0xEDB88320 else c / 2

/-- CRC-32 register of the FCS after one byte. -/
def fcsByte (c : Nat) (b : Byte) : Nat :=
  let x := Nat.xor c b.toNat
  fcsBit (fcsBit (fcsBit (fcsBit (fcsBit (fcsBit (fcsBit (fcsBit x)))))))

/-- The Ethernet FCS of bytes. -/
def fcs32 (l : List Byte) : Nat := Nat.xor (l.foldl fcsByte 0xFFFFFFFF) 0xFFFFFFFF

/-- The four FCS bytes as they stand in a frame: least significant byte first (IEEE 802.3). -/
def fcsBytes (l : List Byte) : List Byte := (beBytes 4 (fcs32 l)).reverse

/-- Rotate a 32-bit number right. -/
def rotr32 (x n : Nat) : Nat := Nat.lor (x / 2 ^ n) (x * 2 ^ (32 - n) % 2 ^ 32)

/-- SHA-256 round constants (FIPS 180-4). -/
def sha256K : List Nat := [
  0x428a2f98, 0x71374491, 0xb5c0fbcf, 0xe9b5dba5, 0x3956c25b, 0x59f111f1, 0x923f82a4, 0xab1c5ed5,
  0xd807aa98, 0x12835b01, 0x243185be, 0x550c7dc3, 0x72be5d74, 0x80deb1fe, 0x9bdc06a7, 0xc19bf174,
  0xe49b69c1, 0xefbe4786, 0x0fc19dc6, 0x240ca1cc, 0x2de92c6f, 0x4a7484aa, 0x5cb0a9dc, 0x76f988da,
  0x983e5152, 0xa831c66d, 0xb00327c8, 0xbf597fc7, 0xc6e00bf3, 0xd5a79147, 0x06ca6351, 0x14292967,
  0x27b70a85, 0x2e1b2138, 0x4d2c6dfc, 0x53380d13, 0x650a7354, 0x766a0abb, 0x81c2c92e, 0x92722c85,
  0xa2bfe8a1, 0xa81a664b, 0xc24b8b70, 0xc76c51a3, 0xd192e819, 0xd6990624, 0xf40e3585, 0x106aa070,
  0x19a4c116, 0x1e376c08, 0x2748774c, 0x34b0bcb5, 0x391c0cb3, 0x4ed8aa4a, 0x5b9cca4f, 0x682e6ff3,
  0x748f82ee, 0x78a5636f, 0x84c87814, 0x8cc70208, 0x90befffa, 0xa4506ceb, 0xbef9a3f7, 0xc67178f2]

/-- SHA-256 initial hash value (FIPS 180-4). -/
def sha256H : List Nat := [
  0x6a09e667, 0xbb67ae85, 0x3c6ef372, 0xa54ff53a, 0x510e527f, 0x9b05688c, 0x1f83d9ab, 0x5be0cd19]

/-- Extend the message schedule, newest word first, by `n` words. -/
def shaSchedule : Nat → List Nat → List Nat
  | 0, w => w
  | n + 1, w =>
    let a := w.getD 1 0
    let b := w.getD 14 0
    let s1 := Nat.xor (Nat.xor (rotr32 a 17) (rotr32 a 19)) (a / 2 ^ 10)
    let s0 := Nat.xor (Nat.xor (rotr32 b 7) (rotr32 b 18)) (b / 2 ^ 3)
    shaSchedule n (((s1 + w.getD 6 0 + s0 + w.getD 15 0) % 2 ^ 32) :: w)

/-- One SHA-256 round on the eight working variables. -/
def shaRound (v : List Nat) (kw : Nat) : List Nat :=
  match v with
  | [a, b, c, d, e, f, g, h] =>
    let s1 := Nat.xor (Nat.xor (rotr32 e 6) (rotr32 e 11)) (rotr32 e 25)
    let ch := Nat.xor (Nat.land e f) (Nat.land (Nat.xor e 0xFFFFFFFF) g)
    let t1 := h + s1 + ch + kw
    let s0 := Nat.xor (Nat.xor (rotr32 a 2) (rotr32 a 13)) (rotr32 a 22)
    let mj := Nat.xor (Nat.xor (Nat.land a b) (Nat.land a c)) (Nat.land b c)
    [(t1 + s0 + mj) % 2 ^ 32, a, b, c, (d + t1) % 2 ^ 32, e, f, g]
  | _ => v

/-- The sixteen 32-bit words of a 64-byte block. -/
def shaWords (blk : List Byte) : Nat → List Nat
  | 0 => []
  | n + 1 => beAt blk (60 - 4 * n) 4 :: shaWords blk n

/-- The SHA-256 compression of one block. -/
def shaBlock (h : List Nat) (blk : List Byte) : List Nat :=
  let w := (shaSchedule 48 (shaWords blk 16).reverse).reverse
  let v := (List.zipWith (· + ·) sha256K w).foldl shaRound h
  List.zipWith (fun x y => (x + y) % 2 ^ 32) h v

/-- The compression of the first `n` blocks of padded bytes. -/
def shaBlocks : Nat → List Nat → List Byte → List Nat
  | 0, h, _ => h
  | n + 1, h, l => shaBlocks n (shaBlock h (l.take 64)) (l.drop 64)

/-- SHA-256 of bytes (FIPS 180-4), 32 bytes. -/
def sha256 (l : List Byte) : List Byte :=
  let n := l.length
  let pad := l ++ [0x80] ++ zeros ((119 - n % 64) % 64) ++ beBytes 8 (8 * n)
  (shaBlocks (pad.length / 64) sha256H pad).flatMap (beBytes 4)

end Sys2Proof.Machine
end

