-- ==== Sys2Proof/Machine/RegMap.lean ====
section
/-! DEFINITION. Machine/RegMap.lean: the BAR 0 register map (R412 to R414 and the register tables at the end of each chapter).
For every register an address function `r…` (block base of R414 plus the offset the chapter gives), for every field narrower than
32 bits a `Fld` named `f…`, and one table of descriptors per block from which the reset value and the register types of R6 are read. -/
namespace Sys2Proof.Machine

/-- Register field types of R6. -/
inductive FTy where
  | ro | rw | rw1c | rw1s | wo | rc
deriving DecidableEq, Repr

/-- A field: its highest and lowest bit. -/
structure Fld where
  hi : Nat
  lo : Nat
deriving DecidableEq, Repr

/-- A field with its type and its reset value. -/
structure FDesc where
  fld : Fld
  ty : FTy
  reset : Nat
deriving DecidableEq, Repr

/-- A register array: offset of its first element in its block, its index strides and counts (largest stride first), its fields. -/
structure RDesc where
  off : Nat
  dims : List (Nat × Nat)
  fields : List FDesc
deriving DecidableEq, Repr

/-- The whole register as one field. -/
def fALL : Fld := ⟨31, 0⟩

/-! ### TCK_ block (R56 to R56), base 0x0 -/
def rTCK_CTRL : Nat := 0x0 + 0x0000
def fTCK_CTRL_SLEW_PPM : Fld := ⟨15, 8⟩
def fTCK_CTRL_STEP_EN : Fld := ⟨0, 0⟩
def rTCK_STATUS : Nat := 0x0 + 0x0004
def fTCK_STATUS_DIE_MISMATCH : Fld := ⟨5, 5⟩
def fTCK_STATUS_STEPPED : Fld := ⟨4, 4⟩
def fTCK_STATUS_SLEWING : Fld := ⟨3, 3⟩
def fTCK_STATUS_LOCKED : Fld := ⟨2, 2⟩
def fTCK_STATUS_DOMAIN : Fld := ⟨1, 1⟩
def fTCK_STATUS_RUNNING : Fld := ⟨0, 0⟩
def rTCK_NUM_LO : Nat := 0x0 + 0x0008
def rTCK_NUM_HI : Nat := 0x0 + 0x000C
def rTCK_DECK_LO : Nat := 0x0 + 0x0010
def rTCK_DECK_HI : Nat := 0x0 + 0x0014
def fTCK_DECK_HI_DECK : Fld := ⟨15, 0⟩
def rTCK_POS : Nat := 0x0 + 0x0018
def fTCK_POS_TICK_IN_ROD : Fld := ⟨25, 16⟩
def fTCK_POS_ROD_IN_DECK : Fld := ⟨6, 0⟩
def rTCK_STEP_THRESH : Nat := 0x0 + 0x001C
def rTCK_LAST_STEP_LO : Nat := 0x0 + 0x0020
def rTCK_LAST_STEP_HI : Nat := 0x0 + 0x0024
def rTCK_SKIPPED : Nat := 0x0 + 0x0028
def rTCK_GRID : Nat := 0x0 + 0x002C
def fTCK_GRID_PERIOD_LOG2 : Fld := ⟨12, 8⟩
def fTCK_GRID_GRID_LOST : Fld := ⟨1, 1⟩
def fTCK_GRID_GRID_VALID : Fld := ⟨0, 0⟩
def rTCK_SKEW : Nat := 0x0 + 0x0030
def fTCK_SKEW_MAX : Fld := ⟨7, 0⟩
def rTCK_INJECT_WAIT : Nat := 0x0 + 0x0034
def fTCK_INJECT_WAIT_WAIT : Fld := ⟨15, 0⟩
def rTCK_LATE_STATUS : Nat := 0x0 + 0x0038
def fTCK_LATE_STATUS_LATE : Fld := ⟨11, 0⟩
def rTCK_LATE_IRQ_EN : Nat := 0x0 + 0x003C
def fTCK_LATE_IRQ_EN_LATE : Fld := ⟨11, 0⟩
def rTCK_LATE_CNT_LO (n : Nat) : Nat := 0x0 + 0x0040 + 8 * n
def rTCK_LATE_CNT_HI (n : Nat) : Nat := 0x0 + 0x0044 + 8 * n

/-- Registers of the TCK_ block, part 0. -/
def regsTCK0 : List RDesc := [
  ⟨0x0, [], [⟨fTCK_CTRL_SLEW_PPM, .rw, 20⟩, ⟨fTCK_CTRL_STEP_EN, .rw, 1⟩]⟩,
  ⟨0x4, [], [⟨fTCK_STATUS_DIE_MISMATCH, .rw1c, 0⟩, ⟨fTCK_STATUS_STEPPED, .rw1c, 0⟩, ⟨fTCK_STATUS_SLEWING, .ro, 0⟩, ⟨fTCK_STATUS_LOCKED, .ro, 0⟩, ⟨fTCK_STATUS_DOMAIN, .ro, 0⟩, ⟨fTCK_STATUS_RUNNING, .ro, 0⟩]⟩,
  ⟨0x8, [], [⟨fALL, .ro, 0⟩]⟩,
  ⟨0xC, [], [⟨fALL, .ro, 0⟩]⟩,
  ⟨0x10, [], [⟨fALL, .ro, 0⟩]⟩,
  ⟨0x14, [], [⟨fTCK_DECK_HI_DECK, .ro, 0⟩]⟩,
  ⟨0x18, [], [⟨fTCK_POS_TICK_IN_ROD, .ro, 0⟩, ⟨fTCK_POS_ROD_IN_DECK, .ro, 0⟩]⟩,
  ⟨0x1C, [], [⟨fALL, .rw, 100⟩]⟩,
  ⟨0x20, [], [⟨fALL, .ro, 0⟩]⟩,
  ⟨0x24, [], [⟨fALL, .ro, 0⟩]⟩,
  ⟨0x28, [], [⟨fALL, .ro, 0⟩]⟩,
  ⟨0x2C, [], [⟨fTCK_GRID_PERIOD_LOG2, .ro, 5⟩, ⟨fTCK_GRID_GRID_LOST, .rw1c, 0⟩, ⟨fTCK_GRID_GRID_VALID, .ro, 0⟩]⟩,
  ⟨0x30, [], [⟨fTCK_SKEW_MAX, .rc, 0⟩]⟩,
  ⟨0x34, [], [⟨fTCK_INJECT_WAIT_WAIT, .rw, 1000⟩]⟩,
  ⟨0x38, [], [⟨fTCK_LATE_STATUS_LATE, .rw1c, 0⟩]⟩,
  ⟨0x3C, [], [⟨fTCK_LATE_IRQ_EN_LATE, .rw, 0⟩]⟩,
  ⟨0x40, [(8, 12)], [⟨fALL, .ro, 0⟩]⟩,
  ⟨0x44, [(8, 12)], [⟨fALL, .ro, 0⟩]⟩]
def regsTCK : List RDesc := regsTCK0

/-! ### PRT_ block (R91 to R91), base 0x100000 -/
def rPRT_CFG (p : Nat) : Nat := 0x100000 + 0x40 * p + 0x00
def fPRT_CFG_EN : Fld := ⟨31, 31⟩
def fPRT_CFG_MODE : Fld := ⟨30, 27⟩
def fPRT_CFG_FEC : Fld := ⟨26, 25⟩
def fPRT_CFG_AN_EN : Fld := ⟨24, 24⟩
def fPRT_CFG_LT_EN : Fld := ⟨23, 23⟩
def fPRT_CFG_FC_MODE : Fld := ⟨22, 21⟩
def fPRT_CFG_GRID_EN : Fld := ⟨20, 20⟩
def fPRT_CFG_SHED_EN : Fld := ⟨19, 19⟩
def fPRT_CFG_EEE_EN : Fld := ⟨18, 18⟩
def fPRT_CFG_LOOPBACK : Fld := ⟨17, 16⟩
def fPRT_CFG_MAX_FRAME : Fld := ⟨13, 0⟩
def rPRT_STATUS (p : Nat) : Nat := 0x100000 + 0x40 * p + 0x04
def fPRT_STATUS_STATE : Fld := ⟨31, 28⟩
def fPRT_STATUS_LINK : Fld := ⟨27, 27⟩
def fPRT_STATUS_MOD_PRESENT : Fld := ⟨26, 26⟩
def fPRT_STATUS_OFF_GRID : Fld := ⟨25, 25⟩
def fPRT_STATUS_PAUSED_RX : Fld := ⟨24, 24⟩
def fPRT_STATUS_PFC_WD_TRIP : Fld := ⟨23, 16⟩
def fPRT_STATUS_ACTIVE_LANES_LOG2 : Fld := ⟨15, 12⟩
def fPRT_STATUS_LPI_TX : Fld := ⟨11, 11⟩
def fPRT_STATUS_LPI_RX : Fld := ⟨10, 10⟩
def fPRT_STATUS_CFG_ERR : Fld := ⟨9, 9⟩
def fPRT_STATUS_LOS_EVT : Fld := ⟨8, 8⟩
def fPRT_STATUS_REMOTE_FAULT : Fld := ⟨7, 7⟩
def fPRT_STATUS_LOCAL_FAULT : Fld := ⟨6, 6⟩
def rPRT_PARTNER (p : Nat) : Nat := 0x100000 + 0x40 * p + 0x08
def fPRT_PARTNER_LINK_MODE : Fld := ⟨31, 28⟩
def fPRT_PARTNER_FEC : Fld := ⟨27, 26⟩
def fPRT_PARTNER_JEVAR : Fld := ⟨25, 25⟩
def fPRT_PARTNER_SHED_CAP : Fld := ⟨24, 24⟩
def fPRT_PARTNER_TIME_STEP : Fld := ⟨23, 22⟩
def fPRT_PARTNER_DELAY_MECH : Fld := ⟨21, 20⟩
def fPRT_PARTNER_RULEY : Fld := ⟨19, 19⟩
def fPRT_PARTNER_AN_DONE : Fld := ⟨18, 18⟩
def fPRT_PARTNER_PARTNER_DEV : Fld := ⟨15, 0⟩
def rPRT_FC (p : Nat) : Nat := 0x100000 + 0x40 * p + 0x0C
def fPRT_FC_PFC_EN : Fld := ⟨31, 24⟩
def fPRT_FC_XOFF_QUANTA : Fld := ⟨23, 8⟩
def rPRT_SHED (p : Nat) : Nat := 0x100000 + 0x40 * p + 0x10
def fPRT_SHED_WINDOW_RODS : Fld := ⟨31, 24⟩
def fPRT_SHED_SHED_PCT : Fld := ⟨23, 16⟩
def fPRT_SHED_WAKE_PCT : Fld := ⟨15, 8⟩
def fPRT_SHED_MIN_LANES_LOG2 : Fld := ⟨7, 4⟩
def rPRT_EEE (p : Nat) : Nat := 0x100000 + 0x40 * p + 0x14
def fPRT_EEE_IDLE_TICKS : Fld := ⟨31, 16⟩
def rPRT_PFC_WD (p : Nat) : Nat := 0x100000 + 0x40 * p + 0x18
def fPRT_PFC_WD_WD_MS : Fld := ⟨31, 16⟩
def fPRT_PFC_WD_RESTORE_MS : Fld := ⟨15, 0⟩
def rPRT_HEADROOM (p : Nat) : Nat := 0x100000 + 0x40 * p + 0x1C
def fPRT_HEADROOM_CELLS : Fld := ⟨16, 0⟩
def rPRT_WM (p q : Nat) : Nat := 0x100000 + 0x40 * p + 0x20 + 4 * q
def fPRT_WM_XOFF_CELLS : Fld := ⟨31, 16⟩
def fPRT_WM_XON_CELLS : Fld := ⟨15, 0⟩
def rPRT_LANE_CAL_RX (n : Nat) : Nat := 0x100000 + 0x8000 + 8 * n
def fPRT_LANE_CAL_RX_REFINED : Fld := ⟨31, 31⟩
def fPRT_LANE_CAL_RX_DELAY : Fld := ⟨15, 0⟩
def rPRT_LANE_CAL_TX (n : Nat) : Nat := 0x100000 + 0x8004 + 8 * n
def fPRT_LANE_CAL_TX_REFINED : Fld := ⟨31, 31⟩
def fPRT_LANE_CAL_TX_DELAY : Fld := ⟨15, 0⟩
def rPRT_CAGE (c : Nat) : Nat := 0x100000 + 0x9000 + 8 * c
def fPRT_CAGE_VALID : Fld := ⟨31, 31⟩
def fPRT_CAGE_BUS : Fld := ⟨27, 24⟩
def fPRT_CAGE_MUX_ADDR : Fld := ⟨23, 17⟩
def fPRT_CAGE_MUX_CHAN : Fld := ⟨16, 14⟩
def fPRT_CAGE_WIDTH_LOG2 : Fld := ⟨11, 10⟩
def fPRT_CAGE_FIRST_LANE : Fld := ⟨8, 0⟩
def rPRT_CAGE_STATE (c : Nat) : Nat := 0x100000 + 0x9004 + 8 * c
def fPRT_CAGE_STATE_MSTATE : Fld := ⟨31, 28⟩
def fPRT_CAGE_STATE_CMIS_REV : Fld := ⟨27, 20⟩
def fPRT_CAGE_STATE_APPSEL : Fld := ⟨19, 12⟩
def fPRT_CAGE_STATE_PRESENT : Fld := ⟨11, 11⟩
def fPRT_CAGE_STATE_INT : Fld := ⟨10, 10⟩
def rPRT_PG_CTRL (g : Nat) : Nat := 0x100000 + 0x9800 + 16 * g
def fPRT_PG_CTRL_EN : Fld := ⟨31, 31⟩
def fPRT_PG_CTRL_REVERTIVE : Fld := ⟨30, 30⟩
def fPRT_PG_CTRL_RF_TRIGGER : Fld := ⟨29, 29⟩
def fPRT_PG_CTRL_DIE : Fld := ⟨28, 28⟩
def fPRT_PG_CTRL_WTR_DECKS : Fld := ⟨23, 0⟩
def rPRT_PG_STATUS (g : Nat) : Nat := 0x100000 + 0x9804 + 16 * g
def fPRT_PG_STATUS_ACTIVE_IDX : Fld := ⟨31, 30⟩
def fPRT_PG_STATUS_MEMBER_UP : Fld := ⟨29, 26⟩
def fPRT_PG_STATUS_WTR_RUNNING : Fld := ⟨25, 25⟩
def fPRT_PG_STATUS_NO_MEMBER : Fld := ⟨24, 24⟩
def fPRT_PG_STATUS_CFG_ERR : Fld := ⟨23, 23⟩
def fPRT_PG_STATUS_SWITCHES : Fld := ⟨15, 0⟩
def rPRT_PG_MEMB01 (g : Nat) : Nat := 0x100000 + 0x9808 + 16 * g
def fPRT_PG_MEMB01_V1 : Fld := ⟨31, 31⟩
def fPRT_PG_MEMB01_PORT1 : Fld := ⟨24, 16⟩
def fPRT_PG_MEMB01_V0 : Fld := ⟨15, 15⟩
def fPRT_PG_MEMB01_PORT0 : Fld := ⟨8, 0⟩
def rPRT_PG_MEMB23 (g : Nat) : Nat := 0x100000 + 0x980C + 16 * g
def fPRT_PG_MEMB23_V1 : Fld := ⟨31, 31⟩
def fPRT_PG_MEMB23_PORT1 : Fld := ⟨24, 16⟩
def fPRT_PG_MEMB23_V0 : Fld := ⟨15, 15⟩
def fPRT_PG_MEMB23_PORT0 : Fld := ⟨8, 0⟩
def rPRT_SCAN : Nat := 0x100000 + 0xA000
def fPRT_SCAN_EN : Fld := ⟨31, 31⟩
def fPRT_SCAN_CLK_DIV : Fld := ⟨15, 8⟩
def fPRT_SCAN_CHAINS : Fld := ⟨2, 0⟩
def rPRT_EVT_STATUS : Nat := 0x100000 + 0xA004
def fPRT_EVT_STATUS_EVT : Fld := ⟨14, 1⟩
def rPRT_EVT_IRQ_EN : Nat := 0x100000 + 0xA008
def fPRT_EVT_IRQ_EN_EVT : Fld := ⟨14, 1⟩
def rPRT_CAL_CTRL : Nat := 0x100000 + 0xA00C
def fPRT_CAL_CTRL_PERIOD_DECKS : Fld := ⟨31, 16⟩
def fPRT_CAL_CTRL_TEMP_STEP_C : Fld := ⟨7, 0⟩

/-- Registers of the PRT_ block, part 0. -/
def regsPRT0 : List RDesc := [
  ⟨0x0, [(64, 512)], [⟨fPRT_CFG_EN, .rw, 0⟩, ⟨fPRT_CFG_MODE, .rw, 0⟩, ⟨fPRT_CFG_FEC, .rw, 3⟩, ⟨fPRT_CFG_AN_EN, .rw, 1⟩, ⟨fPRT_CFG_LT_EN, .rw, 1⟩, ⟨fPRT_CFG_FC_MODE, .rw, 0⟩, ⟨fPRT_CFG_GRID_EN, .rw, 0⟩, ⟨fPRT_CFG_SHED_EN, .rw, 0⟩, ⟨fPRT_CFG_EEE_EN, .rw, 0⟩, ⟨fPRT_CFG_LOOPBACK, .rw, 0⟩, ⟨fPRT_CFG_MAX_FRAME, .rw, 9216⟩]⟩,
  ⟨0x4, [(64, 512)], [⟨fPRT_STATUS_STATE, .ro, 0⟩, ⟨fPRT_STATUS_LINK, .ro, 0⟩, ⟨fPRT_STATUS_MOD_PRESENT, .ro, 0⟩, ⟨fPRT_STATUS_OFF_GRID, .ro, 0⟩, ⟨fPRT_STATUS_PAUSED_RX, .ro, 0⟩, ⟨fPRT_STATUS_PFC_WD_TRIP, .ro, 0⟩, ⟨fPRT_STATUS_ACTIVE_LANES_LOG2, .ro, 0⟩, ⟨fPRT_STATUS_LPI_TX, .ro, 0⟩, ⟨fPRT_STATUS_LPI_RX, .ro, 0⟩, ⟨fPRT_STATUS_CFG_ERR, .rw1c, 0⟩, ⟨fPRT_STATUS_LOS_EVT, .rw1c, 0⟩, ⟨fPRT_STATUS_REMOTE_FAULT, .ro, 0⟩, ⟨fPRT_STATUS_LOCAL_FAULT, .ro, 0⟩]⟩,
  ⟨0x8, [(64, 512)], [⟨fPRT_PARTNER_LINK_MODE, .ro, 0⟩, ⟨fPRT_PARTNER_FEC, .ro, 0⟩, ⟨fPRT_PARTNER_JEVAR, .ro, 0⟩, ⟨fPRT_PARTNER_SHED_CAP, .ro, 0⟩, ⟨fPRT_PARTNER_TIME_STEP, .ro, 0⟩, ⟨fPRT_PARTNER_DELAY_MECH, .ro, 0⟩, ⟨fPRT_PARTNER_RULEY, .ro, 0⟩, ⟨fPRT_PARTNER_AN_DONE, .ro, 0⟩, ⟨fPRT_PARTNER_PARTNER_DEV, .ro, 65535⟩]⟩,
  ⟨0xC, [(64, 512)], [⟨fPRT_FC_PFC_EN, .rw, 0⟩, ⟨fPRT_FC_XOFF_QUANTA, .rw, 65535⟩]⟩,
  ⟨0x10, [(64, 512)], [⟨fPRT_SHED_WINDOW_RODS, .rw, 100⟩, ⟨fPRT_SHED_SHED_PCT, .rw, 40⟩, ⟨fPRT_SHED_WAKE_PCT, .rw, 70⟩, ⟨fPRT_SHED_MIN_LANES_LOG2, .rw, 0⟩]⟩,
  ⟨0x14, [(64, 512)], [⟨fPRT_EEE_IDLE_TICKS, .rw, 1000⟩]⟩,
  ⟨0x18, [(64, 512)], [⟨fPRT_PFC_WD_WD_MS, .rw, 100⟩, ⟨fPRT_PFC_WD_RESTORE_MS, .rw, 100⟩]⟩,
  ⟨0x1C, [(64, 512)], [⟨fPRT_HEADROOM_CELLS, .rw, 0⟩]⟩,
  ⟨0x20, [(64, 512), (4, 8)], [⟨fPRT_WM_XOFF_CELLS, .rw, 0⟩, ⟨fPRT_WM_XON_CELLS, .rw, 0⟩]⟩,
  ⟨0x8000, [(8, 512)], [⟨fPRT_LANE_CAL_RX_REFINED, .ro, 0⟩, ⟨fPRT_LANE_CAL_RX_DELAY, .ro, 0⟩]⟩,
  ⟨0x8004, [(8, 512)], [⟨fPRT_LANE_CAL_TX_REFINED, .ro, 0⟩, ⟨fPRT_LANE_CAL_TX_DELAY, .ro, 0⟩]⟩,
  ⟨0x9000, [(8, 256)], [⟨fPRT_CAGE_VALID, .rw, 0⟩, ⟨fPRT_CAGE_BUS, .rw, 0⟩, ⟨fPRT_CAGE_MUX_ADDR, .rw, 0⟩, ⟨fPRT_CAGE_MUX_CHAN, .rw, 0⟩, ⟨fPRT_CAGE_WIDTH_LOG2, .rw, 0⟩, ⟨fPRT_CAGE_FIRST_LANE, .rw, 0⟩]⟩,
  ⟨0x9004, [(8, 256)], [⟨fPRT_CAGE_STATE_MSTATE, .ro, 0⟩, ⟨fPRT_CAGE_STATE_CMIS_REV, .ro, 0⟩, ⟨fPRT_CAGE_STATE_APPSEL, .ro, 0⟩, ⟨fPRT_CAGE_STATE_PRESENT, .ro, 0⟩, ⟨fPRT_CAGE_STATE_INT, .ro, 0⟩]⟩,
  ⟨0x9800, [(16, 128)], [⟨fPRT_PG_CTRL_EN, .rw, 0⟩, ⟨fPRT_PG_CTRL_REVERTIVE, .rw, 0⟩, ⟨fPRT_PG_CTRL_RF_TRIGGER, .rw, 0⟩, ⟨fPRT_PG_CTRL_DIE, .rw, 0⟩, ⟨fPRT_PG_CTRL_WTR_DECKS, .rw, 10000⟩]⟩,
  ⟨0x9804, [(16, 128)], [⟨fPRT_PG_STATUS_ACTIVE_IDX, .ro, 0⟩, ⟨fPRT_PG_STATUS_MEMBER_UP, .ro, 0⟩, ⟨fPRT_PG_STATUS_WTR_RUNNING, .ro, 0⟩, ⟨fPRT_PG_STATUS_NO_MEMBER, .ro, 0⟩, ⟨fPRT_PG_STATUS_CFG_ERR, .rw1c, 0⟩, ⟨fPRT_PG_STATUS_SWITCHES, .ro, 0⟩]⟩,
  ⟨0x9808, [(16, 128)], [⟨fPRT_PG_MEMB01_V1, .rw, 0⟩, ⟨fPRT_PG_MEMB01_PORT1, .rw, 0⟩, ⟨fPRT_PG_MEMB01_V0, .rw, 0⟩, ⟨fPRT_PG_MEMB01_PORT0, .rw, 0⟩]⟩,
  ⟨0x980C, [(16, 128)], [⟨fPRT_PG_MEMB23_V1, .rw, 0⟩, ⟨fPRT_PG_MEMB23_PORT1, .rw, 0⟩, ⟨fPRT_PG_MEMB23_V0, .rw, 0⟩, ⟨fPRT_PG_MEMB23_PORT0, .rw, 0⟩]⟩,
  ⟨0xA000, [], [⟨fPRT_SCAN_EN, .rw, 1⟩, ⟨fPRT_SCAN_CLK_DIV, .rw, 63⟩, ⟨fPRT_SCAN_CHAINS, .rw, 4⟩]⟩,
  ⟨0xA004, [], [⟨fPRT_EVT_STATUS_EVT, .rw1c, 0⟩]⟩,
  ⟨0xA008, [], [⟨fPRT_EVT_IRQ_EN_EVT, .rw, 0⟩]⟩,
  ⟨0xA00C, [], [⟨fPRT_CAL_CTRL_PERIOD_DECKS, .rw, 1000⟩, ⟨fPRT_CAL_CTRL_TEMP_STEP_C, .rw, 10⟩]⟩]
def regsPRT : List RDesc := regsPRT0

/-! ### RAIL_ block (R110 to R110), base 0x200000 -/
def rRAIL_GRP_CFG (g : Nat) : Nat := 0x200000 + 0x40 * g + 0x00
def fRAIL_GRP_CFG_EN : Fld := ⟨31, 31⟩
def fRAIL_GRP_CFG_JRN : Fld := ⟨30, 30⟩
def fRAIL_GRP_CFG_ALT_EN : Fld := ⟨29, 29⟩
def fRAIL_GRP_CFG_LOSS_ACT : Fld := ⟨28, 27⟩
def fRAIL_GRP_CFG_ALT_SRC : Fld := ⟨24, 16⟩
def fRAIL_GRP_CFG_SRC : Fld := ⟨8, 0⟩
def rRAIL_GRP_STATUS (g : Nat) : Nat := 0x200000 + 0x40 * g + 0x04
def fRAIL_GRP_STATUS_STATE : Fld := ⟨31, 30⟩
def fRAIL_GRP_STATUS_ON_ALT : Fld := ⟨29, 29⟩
def fRAIL_GRP_STATUS_TAP_BLIND : Fld := ⟨28, 28⟩
def fRAIL_GRP_STATUS_CFG_ERR : Fld := ⟨27, 27⟩
def fRAIL_GRP_STATUS_SRC_LOSS_EVT : Fld := ⟨26, 26⟩
def fRAIL_GRP_STATUS_DST_COUNT : Fld := ⟨7, 0⟩
def rRAIL_GRP_DELAY (g : Nat) : Nat := 0x200000 + 0x40 * g + 0x08
def fRAIL_GRP_DELAY_ADJUSTING : Fld := ⟨31, 31⟩
def fRAIL_GRP_DELAY_DELAY : Fld := ⟨15, 0⟩
def rRAIL_GRP_CTRL (g : Nat) : Nat := 0x200000 + 0x40 * g + 0x0C
def fRAIL_GRP_CTRL_SEL_PRIMARY : Fld := ⟨0, 0⟩
def rRAIL_GRP_FRAMES_LO (g : Nat) : Nat := 0x200000 + 0x40 * g + 0x10
def rRAIL_GRP_FRAMES_HI (g : Nat) : Nat := 0x200000 + 0x40 * g + 0x14
def rRAIL_GRP_LOSS (g : Nat) : Nat := 0x200000 + 0x40 * g + 0x18
def fRAIL_GRP_LOSS_LOSSES : Fld := ⟨31, 16⟩
def fRAIL_GRP_LOSS_SWITCHES : Fld := ⟨15, 0⟩
def rRAIL_GRP_BLIND (g : Nat) : Nat := 0x200000 + 0x40 * g + 0x1C
def rRAIL_DST_CFG (n : Nat) : Nat := 0x200000 + 0x2000 + 8 * n
def fRAIL_DST_CFG_VALID : Fld := ⟨31, 31⟩
def fRAIL_DST_CFG_GROUP : Fld := ⟨6, 0⟩
def rRAIL_DST_STATUS (n : Nat) : Nat := 0x200000 + 0x2004 + 8 * n
def fRAIL_DST_STATUS_DSTATE : Fld := ⟨31, 30⟩
def fRAIL_DST_STATUS_ADJUSTING : Fld := ⟨29, 29⟩
def fRAIL_DST_STATUS_CFG_ERR : Fld := ⟨28, 28⟩
def fRAIL_DST_STATUS_FIFO_POS : Fld := ⟨11, 0⟩
def rRAIL_EVT_STATUS : Nat := 0x200000 + 0x3000
def fRAIL_EVT_STATUS_DST_RETIRED : Fld := ⟨3, 3⟩
def fRAIL_EVT_STATUS_ALT_SWITCH : Fld := ⟨2, 2⟩
def fRAIL_EVT_STATUS_SRC_LOSS : Fld := ⟨1, 1⟩
def fRAIL_EVT_STATUS_ACTIVE : Fld := ⟨0, 0⟩
def rRAIL_EVT_IRQ_EN : Nat := 0x200000 + 0x3004
def fRAIL_EVT_IRQ_EN_DST_RETIRED : Fld := ⟨3, 3⟩
def fRAIL_EVT_IRQ_EN_ALT_SWITCH : Fld := ⟨2, 2⟩
def fRAIL_EVT_IRQ_EN_SRC_LOSS : Fld := ⟨1, 1⟩
def fRAIL_EVT_IRQ_EN_ACTIVE : Fld := ⟨0, 0⟩

/-- Registers of the RAIL_ block, part 0. -/
def regsRAIL0 : List RDesc := [
  ⟨0x0, [(64, 128)], [⟨fRAIL_GRP_CFG_EN, .rw, 0⟩, ⟨fRAIL_GRP_CFG_JRN, .rw, 0⟩, ⟨fRAIL_GRP_CFG_ALT_EN, .rw, 0⟩, ⟨fRAIL_GRP_CFG_LOSS_ACT, .rw, 0⟩, ⟨fRAIL_GRP_CFG_ALT_SRC, .rw, 0⟩, ⟨fRAIL_GRP_CFG_SRC, .rw, 0⟩]⟩,
  ⟨0x4, [(64, 128)], [⟨fRAIL_GRP_STATUS_STATE, .ro, 0⟩, ⟨fRAIL_GRP_STATUS_ON_ALT, .ro, 0⟩, ⟨fRAIL_GRP_STATUS_TAP_BLIND, .ro, 0⟩, ⟨fRAIL_GRP_STATUS_CFG_ERR, .rw1c, 0⟩, ⟨fRAIL_GRP_STATUS_SRC_LOSS_EVT, .rw1c, 0⟩, ⟨fRAIL_GRP_STATUS_DST_COUNT, .ro, 0⟩]⟩,
  ⟨0x8, [(64, 128)], [⟨fRAIL_GRP_DELAY_ADJUSTING, .ro, 0⟩, ⟨fRAIL_GRP_DELAY_DELAY, .ro, 0⟩]⟩,
  ⟨0xC, [(64, 128)], [⟨fRAIL_GRP_CTRL_SEL_PRIMARY, .wo, 0⟩]⟩,
  ⟨0x10, [(64, 128)], [⟨fALL, .ro, 0⟩]⟩,
  ⟨0x14, [(64, 128)], [⟨fALL, .ro, 0⟩]⟩,
  ⟨0x18, [(64, 128)], [⟨fRAIL_GRP_LOSS_LOSSES, .ro, 0⟩, ⟨fRAIL_GRP_LOSS_SWITCHES, .ro, 0⟩]⟩,
  ⟨0x1C, [(64, 128)], [⟨fALL, .rc, 0⟩]⟩,
  ⟨0x2000, [(8, 512)], [⟨fRAIL_DST_CFG_VALID, .rw, 0⟩, ⟨fRAIL_DST_CFG_GROUP, .rw, 0⟩]⟩,
  ⟨0x2004, [(8, 512)], [⟨fRAIL_DST_STATUS_DSTATE, .ro, 0⟩, ⟨fRAIL_DST_STATUS_ADJUSTING, .ro, 0⟩, ⟨fRAIL_DST_STATUS_CFG_ERR, .rw1c, 0⟩, ⟨fRAIL_DST_STATUS_FIFO_POS, .ro, 0⟩]⟩,
  ⟨0x3000, [], [⟨fRAIL_EVT_STATUS_DST_RETIRED, .rw1c, 0⟩, ⟨fRAIL_EVT_STATUS_ALT_SWITCH, .rw1c, 0⟩, ⟨fRAIL_EVT_STATUS_SRC_LOSS, .rw1c, 0⟩, ⟨fRAIL_EVT_STATUS_ACTIVE, .rw1c, 0⟩]⟩,
  ⟨0x3004, [], [⟨fRAIL_EVT_IRQ_EN_DST_RETIRED, .rw, 0⟩, ⟨fRAIL_EVT_IRQ_EN_ALT_SWITCH, .rw, 0⟩, ⟨fRAIL_EVT_IRQ_EN_SRC_LOSS, .rw, 0⟩, ⟨fRAIL_EVT_IRQ_EN_ACTIVE, .rw, 0⟩]⟩]
def regsRAIL : List RDesc := regsRAIL0

/-! ### PAR_ block (R134 to R134), base 0x300000 -/
def rPAR_CTRL (d : Nat) : Nat := 0x300000 + 0x400 * d + 0x000
def fPAR_CTRL_SWAP : Fld := ⟨0, 0⟩
def rPAR_STATUS (d : Nat) : Nat := 0x300000 + 0x400 * d + 0x004
def fPAR_STATUS_SWAP_REFUSED : Fld := ⟨3, 3⟩
def fPAR_STATUS_SWAP_PENDING : Fld := ⟨2, 2⟩
def fPAR_STATUS_OLD_BANK_BUSY : Fld := ⟨1, 1⟩
def fPAR_STATUS_ACTIVE_BANK : Fld := ⟨0, 0⟩
def rPAR_RMD_CFG (d : Nat) : Nat := 0x300000 + 0x400 * d + 0x008
def fPAR_RMD_CFG_RATE : Fld := ⟨31, 16⟩
def fPAR_RMD_CFG_MAX_CELLS : Fld := ⟨15, 0⟩
def rPAR_RMD_STATUS (d : Nat) : Nat := 0x300000 + 0x400 * d + 0x00C
def fPAR_RMD_STATUS_FULL : Fld := ⟨31, 31⟩
def fPAR_RMD_STATUS_CELLS : Fld := ⟨30, 14⟩
def fPAR_RMD_STATUS_DEPTH : Fld := ⟨13, 0⟩
def rPAR_CNT_LO (d i : Nat) : Nat := 0x300000 + 0x400 * d + 0x100 + 8 * i
def rPAR_CNT_HI (d i : Nat) : Nat := 0x300000 + 0x400 * d + 0x104 + 8 * i
def rPAR_REASON_CNT (d k : Nat) : Nat := 0x300000 + 0x400 * d + 0x200 + 4 * k

/-- Registers of the PAR_ block, part 0. -/
def regsPAR0 : List RDesc := [
  ⟨0x0, [(1024, 2)], [⟨fPAR_CTRL_SWAP, .wo, 0⟩]⟩,
  ⟨0x4, [(1024, 2)], [⟨fPAR_STATUS_SWAP_REFUSED, .rw1c, 0⟩, ⟨fPAR_STATUS_SWAP_PENDING, .ro, 0⟩, ⟨fPAR_STATUS_OLD_BANK_BUSY, .ro, 0⟩, ⟨fPAR_STATUS_ACTIVE_BANK, .ro, 0⟩]⟩,
  ⟨0x8, [(1024, 2)], [⟨fPAR_RMD_CFG_RATE, .rw, 4096⟩, ⟨fPAR_RMD_CFG_MAX_CELLS, .rw, 16384⟩]⟩,
  ⟨0xC, [(1024, 2)], [⟨fPAR_RMD_STATUS_FULL, .ro, 0⟩, ⟨fPAR_RMD_STATUS_CELLS, .ro, 0⟩, ⟨fPAR_RMD_STATUS_DEPTH, .ro, 0⟩]⟩,
  ⟨0x100, [(1024, 2), (8, 16)], [⟨fALL, .ro, 0⟩]⟩,
  ⟨0x104, [(1024, 2), (8, 16)], [⟨fALL, .ro, 0⟩]⟩,
  ⟨0x200, [(1024, 2), (4, 64)], [⟨fALL, .rc, 0⟩]⟩]
def regsPAR : List RDesc := regsPAR0

/-! ### TBL_ block (R172 to R172), base 0x400000 -/
def rTBL_CTRL (d : Nat) : Nat := 0x400000 + 0x2000 * d + 0x000
def fTBL_CTRL_RESPACE_EN : Fld := ⟨1, 1⟩
def fTBL_CTRL_SCRUB_EN : Fld := ⟨0, 0⟩
def rTBL_STATUS (d : Nat) : Nat := 0x400000 + 0x2000 * d + 0x004
def fTBL_STATUS_RESPACING : Fld := ⟨2, 2⟩
def fTBL_STATUS_COMMIT_PENDING : Fld := ⟨1, 1⟩
def fTBL_STATUS_PREV_HELD : Fld := ⟨0, 0⟩
def rTBL_VERSION (d : Nat) : Nat := 0x400000 + 0x2000 * d + 0x008
def fTBL_VERSION_PREVIOUS : Fld := ⟨31, 16⟩
def fTBL_VERSION_CURRENT : Fld := ⟨15, 0⟩
def rTBL_COMMIT_LO (d : Nat) : Nat := 0x400000 + 0x2000 * d + 0x010
def rTBL_COMMIT_HI (d : Nat) : Nat := 0x400000 + 0x2000 * d + 0x014
def rTBL_SCRUB (d : Nat) : Nat := 0x400000 + 0x2000 * d + 0x018
def fTBL_SCRUB_TCAM_DECKS : Fld := ⟨31, 16⟩
def fTBL_SCRUB_SRAM_DECKS : Fld := ⟨15, 0⟩
def rTBL_SCRUB_STATUS (d : Nat) : Nat := 0x400000 + 0x2000 * d + 0x01C
def fTBL_SCRUB_STATUS_TCAM_LAG : Fld := ⟨31, 16⟩
def fTBL_SCRUB_STATUS_SRAM_LAG : Fld := ⟨15, 0⟩
def rTBL_EVT_STATUS (d : Nat) : Nat := 0x400000 + 0x2000 * d + 0x020
def fTBL_EVT_STATUS_HOLES_LOW : Fld := ⟨3, 3⟩
def fTBL_EVT_STATUS_COMMIT_DEFERRED : Fld := ⟨2, 2⟩
def fTBL_EVT_STATUS_POISON : Fld := ⟨1, 1⟩
def fTBL_EVT_STATUS_REHASH : Fld := ⟨0, 0⟩
def rTBL_EVT_IRQ_EN (d : Nat) : Nat := 0x400000 + 0x2000 * d + 0x024
def fTBL_EVT_IRQ_EN_HOLES_LOW : Fld := ⟨3, 3⟩
def fTBL_EVT_IRQ_EN_COMMIT_DEFERRED : Fld := ⟨2, 2⟩
def fTBL_EVT_IRQ_EN_POISON : Fld := ⟨1, 1⟩
def fTBL_EVT_IRQ_EN_REHASH : Fld := ⟨0, 0⟩
def rTBL_CNT_LO (d i : Nat) : Nat := 0x400000 + 0x2000 * d + 0x100 + 8 * i
def rTBL_CNT_HI (d i : Nat) : Nat := 0x400000 + 0x2000 * d + 0x104 + 8 * i
def rTBL_T_STATUS (d t : Nat) : Nat := 0x400000 + 0x2000 * d + 0x1000 + 0x20 * t + 0x00
def fTBL_T_STATUS_EN : Fld := ⟨31, 31⟩
def fTBL_T_STATUS_TYPE : Fld := ⟨30, 28⟩
def fTBL_T_STATUS_VERSIONED : Fld := ⟨27, 27⟩
def fTBL_T_STATUS_BOUND : Fld := ⟨26, 26⟩
def fTBL_T_STATUS_DIR : Fld := ⟨25, 25⟩
def fTBL_T_STATUS_STAGE : Fld := ⟨24, 21⟩
def fTBL_T_STATUS_SLOT : Fld := ⟨20, 20⟩
def rTBL_T_OCC (d t : Nat) : Nat := 0x400000 + 0x2000 * d + 0x1000 + 0x20 * t + 0x04
def rTBL_T_HIT_LO (d t : Nat) : Nat := 0x400000 + 0x2000 * d + 0x1000 + 0x20 * t + 0x08
def rTBL_T_HIT_HI (d t : Nat) : Nat := 0x400000 + 0x2000 * d + 0x1000 + 0x20 * t + 0x0C
def rTBL_T_MISS_LO (d t : Nat) : Nat := 0x400000 + 0x2000 * d + 0x1000 + 0x20 * t + 0x10
def rTBL_T_MISS_HI (d t : Nat) : Nat := 0x400000 + 0x2000 * d + 0x1000 + 0x20 * t + 0x14
def rTBL_T_TIE (d t : Nat) : Nat := 0x400000 + 0x2000 * d + 0x1000 + 0x20 * t + 0x18
def rTBL_T_FAULT (d t : Nat) : Nat := 0x400000 + 0x2000 * d + 0x1000 + 0x20 * t + 0x1C
def fTBL_T_FAULT_POISONED : Fld := ⟨31, 16⟩
def fTBL_T_FAULT_NO_ROOM : Fld := ⟨15, 0⟩

/-- Registers of the TBL_ block, part 0. -/
def regsTBL0 : List RDesc := [
  ⟨0x0, [(8192, 2)], [⟨fTBL_CTRL_RESPACE_EN, .rw, 1⟩, ⟨fTBL_CTRL_SCRUB_EN, .rw, 1⟩]⟩,
  ⟨0x4, [(8192, 2)], [⟨fTBL_STATUS_RESPACING, .ro, 0⟩, ⟨fTBL_STATUS_COMMIT_PENDING, .ro, 0⟩, ⟨fTBL_STATUS_PREV_HELD, .ro, 0⟩]⟩,
  ⟨0x8, [(8192, 2)], [⟨fTBL_VERSION_PREVIOUS, .ro, 0⟩, ⟨fTBL_VERSION_CURRENT, .ro, 0⟩]⟩,
  ⟨0x10, [(8192, 2)], [⟨fALL, .ro, 0⟩]⟩,
  ⟨0x14, [(8192, 2)], [⟨fALL, .ro, 0⟩]⟩,
  ⟨0x18, [(8192, 2)], [⟨fTBL_SCRUB_TCAM_DECKS, .rw, 1⟩, ⟨fTBL_SCRUB_SRAM_DECKS, .rw, 100⟩]⟩,
  ⟨0x1C, [(8192, 2)], [⟨fTBL_SCRUB_STATUS_TCAM_LAG, .ro, 0⟩, ⟨fTBL_SCRUB_STATUS_SRAM_LAG, .ro, 0⟩]⟩,
  ⟨0x20, [(8192, 2)], [⟨fTBL_EVT_STATUS_HOLES_LOW, .rw1c, 0⟩, ⟨fTBL_EVT_STATUS_COMMIT_DEFERRED, .rw1c, 0⟩, ⟨fTBL_EVT_STATUS_POISON, .rw1c, 0⟩, ⟨fTBL_EVT_STATUS_REHASH, .rw1c, 0⟩]⟩,
  ⟨0x24, [(8192, 2)], [⟨fTBL_EVT_IRQ_EN_HOLES_LOW, .rw, 0⟩, ⟨fTBL_EVT_IRQ_EN_COMMIT_DEFERRED, .rw, 0⟩, ⟨fTBL_EVT_IRQ_EN_POISON, .rw, 0⟩, ⟨fTBL_EVT_IRQ_EN_REHASH, .rw, 0⟩]⟩,
  ⟨0x100, [(8192, 2), (8, 8)], [⟨fALL, .ro, 0⟩]⟩,
  ⟨0x104, [(8192, 2), (8, 8)], [⟨fALL, .ro, 0⟩]⟩,
  ⟨0x1000, [(8192, 2), (32, 128)], [⟨fTBL_T_STATUS_EN, .ro, 0⟩, ⟨fTBL_T_STATUS_TYPE, .ro, 0⟩, ⟨fTBL_T_STATUS_VERSIONED, .ro, 0⟩, ⟨fTBL_T_STATUS_BOUND, .ro, 0⟩, ⟨fTBL_T_STATUS_DIR, .ro, 0⟩, ⟨fTBL_T_STATUS_STAGE, .ro, 0⟩, ⟨fTBL_T_STATUS_SLOT, .ro, 0⟩]⟩,
  ⟨0x1004, [(8192, 2), (32, 128)], [⟨fALL, .ro, 0⟩]⟩,
  ⟨0x1008, [(8192, 2), (32, 128)], [⟨fALL, .ro, 0⟩]⟩,
  ⟨0x100C, [(8192, 2), (32, 128)], [⟨fALL, .ro, 0⟩]⟩,
  ⟨0x1010, [(8192, 2), (32, 128)], [⟨fALL, .ro, 0⟩]⟩,
  ⟨0x1014, [(8192, 2), (32, 128)], [⟨fALL, .ro, 0⟩]⟩,
  ⟨0x1018, [(8192, 2), (32, 128)], [⟨fALL, .ro, 0⟩]⟩,
  ⟨0x101C, [(8192, 2), (32, 128)], [⟨fTBL_T_FAULT_POISONED, .ro, 0⟩, ⟨fTBL_T_FAULT_NO_ROOM, .ro, 0⟩]⟩]
def regsTBL : List RDesc := regsTBL0

/-! ### FLW_ block (R212 to R239), base 0x500000 -/
def rFLW_CTRL (d : Nat) : Nat := 0x500000 + 0x1000 * d + 0x000
def fFLW_CTRL_EXPORT_EN : Fld := ⟨2, 2⟩
def fFLW_CTRL_LEARN_EN : Fld := ⟨1, 1⟩
def fFLW_CTRL_EN : Fld := ⟨0, 0⟩
def rFLW_STATUS (d : Nat) : Nat := 0x500000 + 0x1000 * d + 0x004
def fFLW_STATUS_ABSENT : Fld := ⟨1, 1⟩
def fFLW_STATUS_READY : Fld := ⟨0, 0⟩
def rFLW_REGION (d : Nat) : Nat := 0x500000 + 0x1000 * d + 0x008
def fFLW_REGION_UNITS : Fld := ⟨7, 0⟩
def rFLW_SEED_H1 (d : Nat) : Nat := 0x500000 + 0x1000 * d + 0x00C
def rFLW_SEED_H2 (d : Nat) : Nat := 0x500000 + 0x1000 * d + 0x010
def rFLW_CACHE_CFG (d : Nat) : Nat := 0x500000 + 0x1000 * d + 0x014
def fFLW_CACHE_CFG_STAY_MAX : Fld := ⟨7, 4⟩
def rFLW_CARRY_CFG (d : Nat) : Nat := 0x500000 + 0x1000 * d + 0x018
def fFLW_CARRY_CFG_HIGH_PCT : Fld := ⟨7, 0⟩
def rFLW_CARRY_STATUS (d : Nat) : Nat := 0x500000 + 0x1000 * d + 0x01C
def fFLW_CARRY_STATUS_ENTRIES : Fld := ⟨17, 0⟩
def rFLW_TAGS (d : Nat) : Nat := 0x500000 + 0x1000 * d + 0x020
def fFLW_TAGS_WB_INUSE : Fld := ⟨29, 16⟩
def fFLW_TAGS_LOOKUP_INUSE : Fld := ⟨13, 0⟩
def rFLW_KILL_STATUS (d : Nat) : Nat := 0x500000 + 0x1000 * d + 0x024
def fFLW_KILL_STATUS_ENTRIES : Fld := ⟨12, 0⟩
def rFLW_EVT_STATUS (d : Nat) : Nat := 0x500000 + 0x1000 * d + 0x028
def fFLW_EVT_STATUS_NAT_POOL_LOW : Fld := ⟨3, 3⟩
def fFLW_EVT_STATUS_TAG_LOW : Fld := ⟨2, 2⟩
def fFLW_EVT_STATUS_KILL_LIST_FULL : Fld := ⟨1, 1⟩
def fFLW_EVT_STATUS_CARRY_HIGH : Fld := ⟨0, 0⟩
def rFLW_EVT_IRQ_EN (d : Nat) : Nat := 0x500000 + 0x1000 * d + 0x02C
def fFLW_EVT_IRQ_EN_NAT_POOL_LOW : Fld := ⟨3, 3⟩
def fFLW_EVT_IRQ_EN_TAG_LOW : Fld := ⟨2, 2⟩
def fFLW_EVT_IRQ_EN_KILL_LIST_FULL : Fld := ⟨1, 1⟩
def fFLW_EVT_IRQ_EN_CARRY_HIGH : Fld := ⟨0, 0⟩
def rFLW_IPFIX_CFG (d : Nat) : Nat := 0x500000 + 0x1000 * d + 0x030
def fFLW_IPFIX_CFG_ACTIVE_DECKS : Fld := ⟨31, 16⟩
def fFLW_IPFIX_CFG_MAX_MSG : Fld := ⟨13, 0⟩
def rFLW_PROF_A (d p : Nat) : Nat := 0x500000 + 0x1000 * d + 0x100 + 8 * p
def fFLW_PROF_A_KIND : Fld := ⟨31, 28⟩
def fFLW_PROF_A_LATE_ACT : Fld := ⟨27, 26⟩
def fFLW_PROF_A_LEARN : Fld := ⟨25, 24⟩
def fFLW_PROF_A_MISS_ACT : Fld := ⟨23, 22⟩
def fFLW_PROF_A_SEQ_SLOT : Fld := ⟨21, 18⟩
def fFLW_PROF_A_GAP_ACT : Fld := ⟨17, 16⟩
def fFLW_PROF_A_DUP_ACT : Fld := ⟨15, 14⟩
def fFLW_PROF_A_DENY_ACT : Fld := ⟨13, 12⟩
def fFLW_PROF_A_THR_ACT : Fld := ⟨11, 10⟩
def fFLW_PROF_A_LEVEL_GROUP : Fld := ⟨9, 0⟩
def rFLW_PROF_B (d p : Nat) : Nat := 0x500000 + 0x1000 * d + 0x104 + 8 * p
def fFLW_PROF_B_TCP_HTYPE : Fld := ⟨31, 24⟩
def fFLW_PROF_B_TCP_OCC : Fld := ⟨23, 21⟩
def fFLW_PROF_B_STRICT : Fld := ⟨20, 20⟩
def fFLW_PROF_B_EXPORT : Fld := ⟨19, 19⟩
def fFLW_PROF_B_TEMPLATE : Fld := ⟨18, 9⟩
def rFLW_CNT_LO (d i : Nat) : Nat := 0x500000 + 0x1000 * d + 0x200 + 8 * i
def rFLW_CNT_HI (d i : Nat) : Nat := 0x500000 + 0x1000 * d + 0x204 + 8 * i
def rFLW_PC_LATE (d k : Nat) : Nat := 0x500000 + 0x1000 * d + 0x400 + 4 * k
def rFLW_LEARN_CFG (d : Nat) : Nat := 0x500000 + 0x1000 * d + 0x040
def fFLW_LEARN_CFG_RATE : Fld := ⟨31, 16⟩
def fFLW_LEARN_CFG_HOLD_RODS : Fld := ⟨15, 8⟩
def fFLW_LEARN_CFG_DEADLINE : Fld := ⟨7, 0⟩
def rFLW_LEARN_STATUS (d : Nat) : Nat := 0x500000 + 0x1000 * d + 0x044
def fFLW_LEARN_STATUS_ENTRIES : Fld := ⟨14, 0⟩
def rFLW_INS_CFG (d : Nat) : Nat := 0x500000 + 0x1000 * d + 0x048
def fFLW_INS_CFG_MAX_MOVES : Fld := ⟨3, 0⟩
def rFLW_AGE_CFG (d : Nat) : Nat := 0x500000 + 0x1000 * d + 0x04C
def fFLW_AGE_CFG_EN : Fld := ⟨31, 31⟩
def fFLW_AGE_CFG_PERIOD_DECKS : Fld := ⟨22, 0⟩
def rFLW_AGE_STATUS (d : Nat) : Nat := 0x500000 + 0x1000 * d + 0x050
def fFLW_AGE_STATUS_LAG_RODS : Fld := ⟨23, 0⟩
def rFLW_AGE_PTR (d : Nat) : Nat := 0x500000 + 0x1000 * d + 0x054
def fFLW_AGE_PTR_BUCKET : Fld := ⟨26, 0⟩
def rFLW_RETIRE (d : Nat) : Nat := 0x500000 + 0x1000 * d + 0x058
def fFLW_RETIRE_BUSY : Fld := ⟨31, 31⟩
def fFLW_RETIRE_PC : Fld := ⟨30, 24⟩
def fFLW_RETIRE_COUNT : Fld := ⟨23, 20⟩
def rFLW_RETIRE_PROG (d : Nat) : Nat := 0x500000 + 0x1000 * d + 0x05C
def fFLW_RETIRE_PROG_ROWS_DONE : Fld := ⟨18, 0⟩
def rFLW_PC_RETIRED (d j : Nat) : Nat := 0x500000 + 0x1000 * d + 0x060 + 4 * j
def rFLW_SPARE (d : Nat) : Nat := 0x500000 + 0x1000 * d + 0x070
def fFLW_SPARE_STACK1 : Fld := ⟨15, 8⟩
def fFLW_SPARE_STACK0 : Fld := ⟨7, 0⟩
def rFLW_REHASH (d : Nat) : Nat := 0x500000 + 0x1000 * d + 0x074
def fFLW_REHASH_STATE : Fld := ⟨31, 30⟩
def fFLW_REHASH_PASS : Fld := ⟨29, 24⟩
def fFLW_REHASH_STUCK : Fld := ⟨23, 0⟩
def rFLW_REHASH_CFG (d : Nat) : Nat := 0x500000 + 0x1000 * d + 0x078
def fFLW_REHASH_CFG_RATE : Fld := ⟨31, 16⟩
def fFLW_REHASH_CFG_PASSES : Fld := ⟨3, 0⟩
def rFLW_REHASH_PTR (d : Nat) : Nat := 0x500000 + 0x1000 * d + 0x07C
def fFLW_REHASH_PTR_BUCKET : Fld := ⟨26, 0⟩
def rFLW_OLD_SEED_H1 (d : Nat) : Nat := 0x500000 + 0x1000 * d + 0x080
def rFLW_OLD_SEED_H2 (d : Nat) : Nat := 0x500000 + 0x1000 * d + 0x084
def rFLW_RACE_EVT_STATUS (d : Nat) : Nat := 0x500000 + 0x1000 * d + 0x088
def fFLW_RACE_EVT_STATUS_SWEEP_LAG_EVT : Fld := ⟨3, 3⟩
def fFLW_RACE_EVT_STATUS_REHASH_STUCK_EVT : Fld := ⟨2, 2⟩
def fFLW_RACE_EVT_STATUS_REHASH_DONE : Fld := ⟨1, 1⟩
def fFLW_RACE_EVT_STATUS_PC_RETIRED : Fld := ⟨0, 0⟩
def rFLW_RACE_EVT_IRQ_EN (d : Nat) : Nat := 0x500000 + 0x1000 * d + 0x08C
def fFLW_RACE_EVT_IRQ_EN_SWEEP_LAG_EVT : Fld := ⟨3, 3⟩
def fFLW_RACE_EVT_IRQ_EN_REHASH_STUCK_EVT : Fld := ⟨2, 2⟩
def fFLW_RACE_EVT_IRQ_EN_REHASH_DONE : Fld := ⟨1, 1⟩
def fFLW_RACE_EVT_IRQ_EN_PC_RETIRED : Fld := ⟨0, 0⟩
def rFLW_AGE (d p : Nat) : Nat := 0x500000 + 0x1000 * d + 0x180 + 8 * p
def fFLW_AGE_AGE_DECKS : Fld := ⟨21, 0⟩
def rFLW_AGE_TCP (d p : Nat) : Nat := 0x500000 + 0x1000 * d + 0x184 + 8 * p
def fFLW_AGE_TCP_EMBRYO_DECKS : Fld := ⟨31, 16⟩
def fFLW_AGE_TCP_CLOSING_DECKS : Fld := ⟨15, 0⟩
def rFLW_RACE_CNT_LO (d i : Nat) : Nat := 0x500000 + 0x1000 * d + 0x600 + 8 * i
def rFLW_RACE_CNT_HI (d i : Nat) : Nat := 0x500000 + 0x1000 * d + 0x604 + 8 * i
def rFLW_PC_LAGRUN (d k : Nat) : Nat := 0x500000 + 0x1000 * d + 0x800 + 4 * k
def fFLW_PC_LAGRUN_DECKS : Fld := ⟨7, 0⟩

/-- Registers of the FLW_ block, part 0. -/
def regsFLW0 : List RDesc := [
  ⟨0x0, [(4096, 2)], [⟨fFLW_CTRL_EXPORT_EN, .rw, 0⟩, ⟨fFLW_CTRL_LEARN_EN, .rw, 0⟩, ⟨fFLW_CTRL_EN, .rw, 1⟩]⟩,
  ⟨0x4, [(4096, 2)], [⟨fFLW_STATUS_ABSENT, .ro, 0⟩, ⟨fFLW_STATUS_READY, .ro, 0⟩]⟩,
  ⟨0x8, [(4096, 2)], [⟨fFLW_REGION_UNITS, .ro, 0⟩]⟩,
  ⟨0xC, [(4096, 2)], [⟨fALL, .ro, 0⟩]⟩,
  ⟨0x10, [(4096, 2)], [⟨fALL, .ro, 0⟩]⟩,
  ⟨0x14, [(4096, 2)], [⟨fFLW_CACHE_CFG_STAY_MAX, .rw, 4⟩]⟩,
  ⟨0x18, [(4096, 2)], [⟨fFLW_CARRY_CFG_HIGH_PCT, .rw, 75⟩]⟩,
  ⟨0x1C, [(4096, 2)], [⟨fFLW_CARRY_STATUS_ENTRIES, .ro, 0⟩]⟩,
  ⟨0x20, [(4096, 2)], [⟨fFLW_TAGS_WB_INUSE, .ro, 0⟩, ⟨fFLW_TAGS_LOOKUP_INUSE, .ro, 0⟩]⟩,
  ⟨0x24, [(4096, 2)], [⟨fFLW_KILL_STATUS_ENTRIES, .ro, 0⟩]⟩,
  ⟨0x28, [(4096, 2)], [⟨fFLW_EVT_STATUS_NAT_POOL_LOW, .rw1c, 0⟩, ⟨fFLW_EVT_STATUS_TAG_LOW, .rw1c, 0⟩, ⟨fFLW_EVT_STATUS_KILL_LIST_FULL, .rw1c, 0⟩, ⟨fFLW_EVT_STATUS_CARRY_HIGH, .rw1c, 0⟩]⟩,
  ⟨0x2C, [(4096, 2)], [⟨fFLW_EVT_IRQ_EN_NAT_POOL_LOW, .rw, 0⟩, ⟨fFLW_EVT_IRQ_EN_TAG_LOW, .rw, 0⟩, ⟨fFLW_EVT_IRQ_EN_KILL_LIST_FULL, .rw, 0⟩, ⟨fFLW_EVT_IRQ_EN_CARRY_HIGH, .rw, 0⟩]⟩,
  ⟨0x30, [(4096, 2)], [⟨fFLW_IPFIX_CFG_ACTIVE_DECKS, .rw, 60000⟩, ⟨fFLW_IPFIX_CFG_MAX_MSG, .rw, 1400⟩]⟩,
  ⟨0x100, [(4096, 2), (8, 16)], [⟨fFLW_PROF_A_KIND, .rw, 0⟩, ⟨fFLW_PROF_A_LATE_ACT, .rw, 0⟩, ⟨fFLW_PROF_A_LEARN, .rw, 0⟩, ⟨fFLW_PROF_A_MISS_ACT, .rw, 0⟩, ⟨fFLW_PROF_A_SEQ_SLOT, .rw, 15⟩, ⟨fFLW_PROF_A_GAP_ACT, .rw, 0⟩, ⟨fFLW_PROF_A_DUP_ACT, .rw, 0⟩, ⟨fFLW_PROF_A_DENY_ACT, .rw, 1⟩, ⟨fFLW_PROF_A_THR_ACT, .rw, 0⟩, ⟨fFLW_PROF_A_LEVEL_GROUP, .rw, 0⟩]⟩,
  ⟨0x104, [(4096, 2), (8, 16)], [⟨fFLW_PROF_B_TCP_HTYPE, .rw, 6⟩, ⟨fFLW_PROF_B_TCP_OCC, .rw, 4⟩, ⟨fFLW_PROF_B_STRICT, .rw, 0⟩, ⟨fFLW_PROF_B_EXPORT, .rw, 0⟩, ⟨fFLW_PROF_B_TEMPLATE, .rw, 0⟩]⟩,
  ⟨0x200, [(4096, 2), (8, 24)], [⟨fALL, .ro, 0⟩]⟩,
  ⟨0x204, [(4096, 2), (8, 24)], [⟨fALL, .ro, 0⟩]⟩,
  ⟨0x400, [(4096, 2), (4, 128)], [⟨fALL, .rc, 0⟩]⟩,
  ⟨0x40, [(4096, 2)], [⟨fFLW_LEARN_CFG_RATE, .rw, 1000⟩, ⟨fFLW_LEARN_CFG_HOLD_RODS, .rw, 10⟩, ⟨fFLW_LEARN_CFG_DEADLINE, .rw, 10⟩]⟩,
  ⟨0x44, [(4096, 2)], [⟨fFLW_LEARN_STATUS_ENTRIES, .ro, 0⟩]⟩,
  ⟨0x48, [(4096, 2)], [⟨fFLW_INS_CFG_MAX_MOVES, .rw, 4⟩]⟩,
  ⟨0x4C, [(4096, 2)], [⟨fFLW_AGE_CFG_EN, .rw, 0⟩, ⟨fFLW_AGE_CFG_PERIOD_DECKS, .rw, 1000⟩]⟩,
  ⟨0x50, [(4096, 2)], [⟨fFLW_AGE_STATUS_LAG_RODS, .ro, 0⟩]⟩,
  ⟨0x54, [(4096, 2)], [⟨fFLW_AGE_PTR_BUCKET, .ro, 0⟩]⟩]
/-- Registers of the FLW_ block, part 1. -/
def regsFLW1 : List RDesc := [
  ⟨0x58, [(4096, 2)], [⟨fFLW_RETIRE_BUSY, .ro, 0⟩, ⟨fFLW_RETIRE_PC, .ro, 0⟩, ⟨fFLW_RETIRE_COUNT, .ro, 0⟩]⟩,
  ⟨0x5C, [(4096, 2)], [⟨fFLW_RETIRE_PROG_ROWS_DONE, .ro, 0⟩]⟩,
  ⟨0x60, [(4096, 2), (4, 4)], [⟨fALL, .ro, 0⟩]⟩,
  ⟨0x70, [(4096, 2)], [⟨fFLW_SPARE_STACK1, .ro, 0⟩, ⟨fFLW_SPARE_STACK0, .ro, 0⟩]⟩,
  ⟨0x74, [(4096, 2)], [⟨fFLW_REHASH_STATE, .ro, 0⟩, ⟨fFLW_REHASH_PASS, .ro, 0⟩, ⟨fFLW_REHASH_STUCK, .ro, 0⟩]⟩,
  ⟨0x78, [(4096, 2)], [⟨fFLW_REHASH_CFG_RATE, .rw, 500⟩, ⟨fFLW_REHASH_CFG_PASSES, .rw, 3⟩]⟩,
  ⟨0x7C, [(4096, 2)], [⟨fFLW_REHASH_PTR_BUCKET, .ro, 0⟩]⟩,
  ⟨0x80, [(4096, 2)], [⟨fALL, .ro, 0⟩]⟩,
  ⟨0x84, [(4096, 2)], [⟨fALL, .ro, 0⟩]⟩,
  ⟨0x88, [(4096, 2)], [⟨fFLW_RACE_EVT_STATUS_SWEEP_LAG_EVT, .rw1c, 0⟩, ⟨fFLW_RACE_EVT_STATUS_REHASH_STUCK_EVT, .rw1c, 0⟩, ⟨fFLW_RACE_EVT_STATUS_REHASH_DONE, .rw1c, 0⟩, ⟨fFLW_RACE_EVT_STATUS_PC_RETIRED, .rw1c, 0⟩]⟩,
  ⟨0x8C, [(4096, 2)], [⟨fFLW_RACE_EVT_IRQ_EN_SWEEP_LAG_EVT, .rw, 0⟩, ⟨fFLW_RACE_EVT_IRQ_EN_REHASH_STUCK_EVT, .rw, 0⟩, ⟨fFLW_RACE_EVT_IRQ_EN_REHASH_DONE, .rw, 0⟩, ⟨fFLW_RACE_EVT_IRQ_EN_PC_RETIRED, .rw, 0⟩]⟩,
  ⟨0x180, [(4096, 2), (8, 16)], [⟨fFLW_AGE_AGE_DECKS, .rw, 0⟩]⟩,
  ⟨0x184, [(4096, 2), (8, 16)], [⟨fFLW_AGE_TCP_EMBRYO_DECKS, .rw, 0⟩, ⟨fFLW_AGE_TCP_CLOSING_DECKS, .rw, 0⟩]⟩,
  ⟨0x600, [(4096, 2), (8, 16)], [⟨fALL, .ro, 0⟩]⟩,
  ⟨0x604, [(4096, 2), (8, 16)], [⟨fALL, .ro, 0⟩]⟩,
  ⟨0x800, [(4096, 2), (4, 128)], [⟨fFLW_PC_LAGRUN_DECKS, .ro, 0⟩]⟩]
def regsFLW : List RDesc := regsFLW0 ++ regsFLW1

/-! ### BUF_ block (R265 to R265), base 0x600000 -/
def rBUF_STATUS (d : Nat) : Nat := 0x600000 + 0x10000 * d + 0x0000
def fBUF_STATUS_AUDIT_RUNNING : Fld := ⟨2, 2⟩
def fBUF_STATUS_NO_FREE : Fld := ⟨1, 1⟩
def fBUF_STATUS_RESV_ERR : Fld := ⟨0, 0⟩
def rBUF_FREE (d : Nat) : Nat := 0x600000 + 0x10000 * d + 0x0004
def fBUF_FREE_CELLS : Fld := ⟨18, 0⟩
def rBUF_RESV (d : Nat) : Nat := 0x600000 + 0x10000 * d + 0x0008
def fBUF_RESV_CELLS : Fld := ⟨18, 0⟩
def rBUF_SHARED (d : Nat) : Nat := 0x600000 + 0x10000 * d + 0x000C
def fBUF_SHARED_CELLS : Fld := ⟨18, 0⟩
def rBUF_LEVEL_POOL (d : Nat) : Nat := 0x600000 + 0x10000 * d + 0x0010
def fBUF_LEVEL_POOL_CELLS : Fld := ⟨18, 0⟩
def rBUF_ECN_CFG (d : Nat) : Nat := 0x600000 + 0x10000 * d + 0x0014
def fBUF_ECN_CFG_HTYPE4 : Fld := ⟨31, 24⟩
def fBUF_ECN_CFG_HTYPE6 : Fld := ⟨23, 16⟩
def fBUF_ECN_CFG_OCC : Fld := ⟨15, 13⟩
def rBUF_AUDIT_CFG (d : Nat) : Nat := 0x600000 + 0x10000 * d + 0x0018
def fBUF_AUDIT_CFG_EN : Fld := ⟨31, 31⟩
def fBUF_AUDIT_CFG_PERIOD_DECKS : Fld := ⟨15, 0⟩
def rBUF_AUDIT_STATUS (d : Nat) : Nat := 0x600000 + 0x10000 * d + 0x001C
def fBUF_AUDIT_STATUS_FIRST_HANDLE : Fld := ⟨18, 0⟩
def rBUF_SPILL_CFG (d : Nat) : Nat := 0x600000 + 0x10000 * d + 0x0020
def fBUF_SPILL_CFG_ROWS_PER_TICK : Fld := ⟨31, 28⟩
def fBUF_SPILL_CFG_Q_MAX_UNITS : Fld := ⟨27, 16⟩
def fBUF_SPILL_CFG_HEAD_CELLS : Fld := ⟨8, 0⟩
def rBUF_SPILL_TAIL (d : Nat) : Nat := 0x600000 + 0x10000 * d + 0x0024
def fBUF_SPILL_TAIL_CELLS : Fld := ⟨16, 0⟩
def rBUF_SPILL_STATUS (d : Nat) : Nat := 0x600000 + 0x10000 * d + 0x0028
def fBUF_SPILL_STATUS_ROWS : Fld := ⟨24, 0⟩
def rBUF_MIR_SIZE (d : Nat) : Nat := 0x600000 + 0x10000 * d + 0x002C
def rBUF_MIR_WR (d : Nat) : Nat := 0x600000 + 0x10000 * d + 0x0030
def rBUF_MIR_RD (d : Nat) : Nat := 0x600000 + 0x10000 * d + 0x0034
def rBUF_EVT_STATUS (d : Nat) : Nat := 0x600000 + 0x10000 * d + 0x0038
def fBUF_EVT_STATUS_RESV_ERR : Fld := ⟨4, 4⟩
def fBUF_EVT_STATUS_SPILL_HIGH : Fld := ⟨3, 3⟩
def fBUF_EVT_STATUS_MIRROR_FULL : Fld := ⟨2, 2⟩
def fBUF_EVT_STATUS_FREE_AND_USED : Fld := ⟨1, 1⟩
def fBUF_EVT_STATUS_LEAK : Fld := ⟨0, 0⟩
def rBUF_EVT_IRQ_EN (d : Nat) : Nat := 0x600000 + 0x10000 * d + 0x003C
def fBUF_EVT_IRQ_EN_RESV_ERR : Fld := ⟨4, 4⟩
def fBUF_EVT_IRQ_EN_SPILL_HIGH : Fld := ⟨3, 3⟩
def fBUF_EVT_IRQ_EN_MIRROR_FULL : Fld := ⟨2, 2⟩
def fBUF_EVT_IRQ_EN_FREE_AND_USED : Fld := ⟨1, 1⟩
def fBUF_EVT_IRQ_EN_LEAK : Fld := ⟨0, 0⟩
def rBUF_CNT_LO (d i : Nat) : Nat := 0x600000 + 0x10000 * d + 0x0100 + 8 * i
def rBUF_CNT_HI (d i : Nat) : Nat := 0x600000 + 0x10000 * d + 0x0104 + 8 * i
def rBUF_MIR_SESS_A (d s : Nat) : Nat := 0x600000 + 0x10000 * d + 0x0400 + 8 * s
def fBUF_MIR_SESS_A_EN : Fld := ⟨31, 31⟩
def fBUF_MIR_SESS_A_DROPS : Fld := ⟨30, 30⟩
def fBUF_MIR_SESS_A_SAMPLE_N : Fld := ⟨23, 0⟩
def rBUF_MIR_SESS_B (d s : Nat) : Nat := 0x600000 + 0x10000 * d + 0x0404 + 8 * s
def fBUF_MIR_SESS_B_MAX_PER_ROD : Fld := ⟨15, 0⟩
def rBUF_WRED (d w c : Nat) : Nat := 0x600000 + 0x10000 * d + 0x0800 + 16 * w + 4 * c
def fBUF_WRED_MAX_P : Fld := ⟨31, 24⟩
def fBUF_WRED_MIN : Fld := ⟨23, 12⟩
def fBUF_WRED_MAX : Fld := ⟨11, 0⟩
def rBUF_WRED_W (d w : Nat) : Nat := 0x600000 + 0x10000 * d + 0x0800 + 16 * w + 0x0C
def fBUF_WRED_W_W : Fld := ⟨3, 0⟩
def rBUF_Q_CFG (d q : Nat) : Nat := 0x600000 + 0x10000 * d + 0x8000 + 8 * q
def fBUF_Q_CFG_ALPHA_LOG2 : Fld := ⟨31, 28⟩
def fBUF_Q_CFG_WRED : Fld := ⟨27, 22⟩
def fBUF_Q_CFG_ECN_EN : Fld := ⟨21, 21⟩
def fBUF_Q_CFG_DEEP : Fld := ⟨20, 20⟩
def fBUF_Q_CFG_MIN_CELLS : Fld := ⟨16, 0⟩
def rBUF_Q_STAT (d q : Nat) : Nat := 0x600000 + 0x10000 * d + 0x8004 + 8 * q
def fBUF_Q_STAT_SPILLED : Fld := ⟨31, 31⟩
def fBUF_Q_STAT_OVER : Fld := ⟨30, 30⟩
def fBUF_Q_STAT_DEPTH : Fld := ⟨18, 0⟩

/-- Registers of the BUF_ block, part 0. -/
def regsBUF0 : List RDesc := [
  ⟨0x0, [(65536, 2)], [⟨fBUF_STATUS_AUDIT_RUNNING, .ro, 0⟩, ⟨fBUF_STATUS_NO_FREE, .rw1c, 0⟩, ⟨fBUF_STATUS_RESV_ERR, .rw1c, 0⟩]⟩,
  ⟨0x4, [(65536, 2)], [⟨fBUF_FREE_CELLS, .ro, 393216⟩]⟩,
  ⟨0x8, [(65536, 2)], [⟨fBUF_RESV_CELLS, .ro, 0⟩]⟩,
  ⟨0xC, [(65536, 2)], [⟨fBUF_SHARED_CELLS, .ro, 0⟩]⟩,
  ⟨0x10, [(65536, 2)], [⟨fBUF_LEVEL_POOL_CELLS, .rw, 16384⟩]⟩,
  ⟨0x14, [(65536, 2)], [⟨fBUF_ECN_CFG_HTYPE4, .rw, 3⟩, ⟨fBUF_ECN_CFG_HTYPE6, .rw, 7⟩, ⟨fBUF_ECN_CFG_OCC, .rw, 0⟩]⟩,
  ⟨0x18, [(65536, 2)], [⟨fBUF_AUDIT_CFG_EN, .rw, 1⟩, ⟨fBUF_AUDIT_CFG_PERIOD_DECKS, .rw, 100⟩]⟩,
  ⟨0x1C, [(65536, 2)], [⟨fBUF_AUDIT_STATUS_FIRST_HANDLE, .ro, 0⟩]⟩,
  ⟨0x20, [(65536, 2)], [⟨fBUF_SPILL_CFG_ROWS_PER_TICK, .rw, 8⟩, ⟨fBUF_SPILL_CFG_Q_MAX_UNITS, .rw, 1024⟩, ⟨fBUF_SPILL_CFG_HEAD_CELLS, .rw, 256⟩]⟩,
  ⟨0x24, [(65536, 2)], [⟨fBUF_SPILL_TAIL_CELLS, .rw, 8192⟩]⟩,
  ⟨0x28, [(65536, 2)], [⟨fBUF_SPILL_STATUS_ROWS, .ro, 0⟩]⟩,
  ⟨0x2C, [(65536, 2)], [⟨fALL, .ro, 0⟩]⟩,
  ⟨0x30, [(65536, 2)], [⟨fALL, .ro, 0⟩]⟩,
  ⟨0x34, [(65536, 2)], [⟨fALL, .rw, 0⟩]⟩,
  ⟨0x38, [(65536, 2)], [⟨fBUF_EVT_STATUS_RESV_ERR, .rw1c, 0⟩, ⟨fBUF_EVT_STATUS_SPILL_HIGH, .rw1c, 0⟩, ⟨fBUF_EVT_STATUS_MIRROR_FULL, .rw1c, 0⟩, ⟨fBUF_EVT_STATUS_FREE_AND_USED, .rw1c, 0⟩, ⟨fBUF_EVT_STATUS_LEAK, .rw1c, 0⟩]⟩,
  ⟨0x3C, [(65536, 2)], [⟨fBUF_EVT_IRQ_EN_RESV_ERR, .rw, 0⟩, ⟨fBUF_EVT_IRQ_EN_SPILL_HIGH, .rw, 0⟩, ⟨fBUF_EVT_IRQ_EN_MIRROR_FULL, .rw, 0⟩, ⟨fBUF_EVT_IRQ_EN_FREE_AND_USED, .rw, 0⟩, ⟨fBUF_EVT_IRQ_EN_LEAK, .rw, 0⟩]⟩,
  ⟨0x100, [(65536, 2), (8, 26)], [⟨fALL, .ro, 0⟩]⟩,
  ⟨0x104, [(65536, 2), (8, 26)], [⟨fALL, .ro, 0⟩]⟩,
  ⟨0x408, [(65536, 2), (8, 63)], [⟨fBUF_MIR_SESS_A_EN, .rw, 0⟩, ⟨fBUF_MIR_SESS_A_DROPS, .rw, 0⟩, ⟨fBUF_MIR_SESS_A_SAMPLE_N, .rw, 1⟩]⟩,
  ⟨0x40C, [(65536, 2), (8, 63)], [⟨fBUF_MIR_SESS_B_MAX_PER_ROD, .rw, 0⟩]⟩,
  ⟨0x810, [(65536, 2), (16, 63), (4, 3)], [⟨fBUF_WRED_MAX_P, .rw, 0⟩, ⟨fBUF_WRED_MIN, .rw, 0⟩, ⟨fBUF_WRED_MAX, .rw, 0⟩]⟩,
  ⟨0x81C, [(65536, 2), (16, 63)], [⟨fBUF_WRED_W_W, .rw, 9⟩]⟩,
  ⟨0x8000, [(65536, 2), (8, 4096)], [⟨fBUF_Q_CFG_ALPHA_LOG2, .rw, 0⟩, ⟨fBUF_Q_CFG_WRED, .rw, 0⟩, ⟨fBUF_Q_CFG_ECN_EN, .rw, 0⟩, ⟨fBUF_Q_CFG_DEEP, .rw, 0⟩, ⟨fBUF_Q_CFG_MIN_CELLS, .rw, 8⟩]⟩,
  ⟨0x8004, [(65536, 2), (8, 4096)], [⟨fBUF_Q_STAT_SPILLED, .ro, 0⟩, ⟨fBUF_Q_STAT_OVER, .ro, 0⟩, ⟨fBUF_Q_STAT_DEPTH, .ro, 0⟩]⟩]
def regsBUF : List RDesc := regsBUF0

/-! ### SCH_ block (R283 to R283), base 0x700000 -/
def rSCH_CTRL (d : Nat) : Nat := 0x700000 + 0x20000 * d + 0x0000
def fSCH_CTRL_EN : Fld := ⟨0, 0⟩
def rSCH_STATUS (d : Nat) : Nat := 0x700000 + 0x20000 * d + 0x0004
def fSCH_STATUS_CFG_ERR : Fld := ⟨1, 1⟩
def fSCH_STATUS_SAMPLING : Fld := ⟨0, 0⟩
def rSCH_SMP_CFG (d : Nat) : Nat := 0x700000 + 0x20000 * d + 0x0008
def fSCH_SMP_CFG_PERIOD_RODS : Fld := ⟨31, 16⟩
def fSCH_SMP_CFG_RING_LOG2 : Fld := ⟨4, 0⟩
def rSCH_SMP_WR (d : Nat) : Nat := 0x700000 + 0x20000 * d + 0x000C
def rSCH_SMP_RD (d : Nat) : Nat := 0x700000 + 0x20000 * d + 0x0010
def rSCH_EVT_STATUS (d : Nat) : Nat := 0x700000 + 0x20000 * d + 0x0014
def fSCH_EVT_STATUS_SMP_SKIPPED : Fld := ⟨1, 1⟩
def fSCH_EVT_STATUS_SMP_FULL : Fld := ⟨0, 0⟩
def rSCH_EVT_IRQ_EN (d : Nat) : Nat := 0x700000 + 0x20000 * d + 0x0018
def fSCH_EVT_IRQ_EN_SMP_SKIPPED : Fld := ⟨1, 1⟩
def fSCH_EVT_IRQ_EN_SMP_FULL : Fld := ⟨0, 0⟩
def rSCH_CNT_LO (d i : Nat) : Nat := 0x700000 + 0x20000 * d + 0x0100 + 8 * i
def rSCH_CNT_HI (d i : Nat) : Nat := 0x700000 + 0x20000 * d + 0x0104 + 8 * i
def rSCH_Q_CFG (d q : Nat) : Nat := 0x700000 + 0x20000 * d + 0x4000 + 16 * q
def fSCH_Q_CFG_SHAPE_EN : Fld := ⟨31, 31⟩
def fSCH_Q_CFG_STRICT : Fld := ⟨30, 30⟩
def fSCH_Q_CFG_SMP : Fld := ⟨29, 29⟩
def fSCH_Q_CFG_QUANTUM : Fld := ⟨24, 0⟩
def rSCH_Q_RATE (d q : Nat) : Nat := 0x700000 + 0x20000 * d + 0x4004 + 16 * q
def fSCH_Q_RATE_RATE : Fld := ⟨29, 0⟩
def rSCH_Q_BURST (d q : Nat) : Nat := 0x700000 + 0x20000 * d + 0x4008 + 16 * q
def fSCH_Q_BURST_OVERHEAD : Fld := ⟨31, 25⟩
def fSCH_Q_BURST_BURST : Fld := ⟨24, 0⟩
def rSCH_Q_STATE (d q : Nat) : Nat := 0x700000 + 0x20000 * d + 0x400C + 16 * q
def fSCH_Q_STATE_ON_WHEEL : Fld := ⟨31, 31⟩
def fSCH_Q_STATE_COARSE : Fld := ⟨30, 30⟩
def fSCH_Q_STATE_STOPPED : Fld := ⟨29, 29⟩
def fSCH_Q_STATE_CREDIT_POS : Fld := ⟨28, 28⟩
def fSCH_Q_STATE_DEFICIT : Fld := ⟨24, 0⟩
def rSCH_PORT_RATE (d p : Nat) : Nat := 0x700000 + 0x20000 * d + 0x14000 + 16 * p
def fSCH_PORT_RATE_SHAPE_EN : Fld := ⟨31, 31⟩
def fSCH_PORT_RATE_RATE : Fld := ⟨29, 0⟩
def rSCH_PORT_BURST (d p : Nat) : Nat := 0x700000 + 0x20000 * d + 0x14004 + 16 * p
def fSCH_PORT_BURST_BURST : Fld := ⟨24, 0⟩
def rSCH_QPRI_LO (d p : Nat) : Nat := 0x700000 + 0x20000 * d + 0x14008 + 16 * p
def fSCH_QPRI_LO_MAP : Fld := ⟨23, 0⟩
def rSCH_QPRI_HI (d p : Nat) : Nat := 0x700000 + 0x20000 * d + 0x1400C + 16 * p
def fSCH_QPRI_HI_MAP : Fld := ⟨23, 0⟩

/-- Registers of the SCH_ block, part 0. -/
def regsSCH0 : List RDesc := [
  ⟨0x0, [(131072, 2)], [⟨fSCH_CTRL_EN, .rw, 1⟩]⟩,
  ⟨0x4, [(131072, 2)], [⟨fSCH_STATUS_CFG_ERR, .rw1c, 0⟩, ⟨fSCH_STATUS_SAMPLING, .ro, 0⟩]⟩,
  ⟨0x8, [(131072, 2)], [⟨fSCH_SMP_CFG_PERIOD_RODS, .rw, 100⟩, ⟨fSCH_SMP_CFG_RING_LOG2, .rw, 20⟩]⟩,
  ⟨0xC, [(131072, 2)], [⟨fALL, .ro, 0⟩]⟩,
  ⟨0x10, [(131072, 2)], [⟨fALL, .rw, 0⟩]⟩,
  ⟨0x14, [(131072, 2)], [⟨fSCH_EVT_STATUS_SMP_SKIPPED, .rw1c, 0⟩, ⟨fSCH_EVT_STATUS_SMP_FULL, .rw1c, 0⟩]⟩,
  ⟨0x18, [(131072, 2)], [⟨fSCH_EVT_IRQ_EN_SMP_SKIPPED, .rw, 0⟩, ⟨fSCH_EVT_IRQ_EN_SMP_FULL, .rw, 0⟩]⟩,
  ⟨0x100, [(131072, 2), (8, 8)], [⟨fALL, .ro, 0⟩]⟩,
  ⟨0x104, [(131072, 2), (8, 8)], [⟨fALL, .ro, 0⟩]⟩,
  ⟨0x4000, [(131072, 2), (16, 4096)], [⟨fSCH_Q_CFG_SHAPE_EN, .rw, 0⟩, ⟨fSCH_Q_CFG_STRICT, .rw, 0⟩, ⟨fSCH_Q_CFG_SMP, .rw, 1⟩, ⟨fSCH_Q_CFG_QUANTUM, .rw, 9236⟩]⟩,
  ⟨0x4004, [(131072, 2), (16, 4096)], [⟨fSCH_Q_RATE_RATE, .rw, 800000000⟩]⟩,
  ⟨0x4008, [(131072, 2), (16, 4096)], [⟨fSCH_Q_BURST_OVERHEAD, .rw, 0⟩, ⟨fSCH_Q_BURST_BURST, .rw, 16384⟩]⟩,
  ⟨0x400C, [(131072, 2), (16, 4096)], [⟨fSCH_Q_STATE_ON_WHEEL, .ro, 0⟩, ⟨fSCH_Q_STATE_COARSE, .ro, 0⟩, ⟨fSCH_Q_STATE_STOPPED, .ro, 0⟩, ⟨fSCH_Q_STATE_CREDIT_POS, .ro, 1⟩, ⟨fSCH_Q_STATE_DEFICIT, .ro, 0⟩]⟩,
  ⟨0x14000, [(131072, 2), (16, 256)], [⟨fSCH_PORT_RATE_SHAPE_EN, .rw, 0⟩, ⟨fSCH_PORT_RATE_RATE, .rw, 800000000⟩]⟩,
  ⟨0x14004, [(131072, 2), (16, 256)], [⟨fSCH_PORT_BURST_BURST, .rw, 16384⟩]⟩,
  ⟨0x14008, [(131072, 2), (16, 256)], [⟨fSCH_QPRI_LO_MAP, .rw, 16434824⟩]⟩,
  ⟨0x1400C, [(131072, 2), (16, 256)], [⟨fSCH_QPRI_HI_MAP, .rw, 16777215⟩]⟩]
def regsSCH : List RDesc := regsSCH0

/-! ### LVL_ block (R301 to R301), base 0x800000 -/
def rLVL_CTRL : Nat := 0x800000 + 0x0000
def fLVL_CTRL_EN : Fld := ⟨0, 0⟩
def rLVL_STATUS : Nat := 0x800000 + 0x0004
def fLVL_STATUS_ANY_SUSPENDED : Fld := ⟨1, 1⟩
def fLVL_STATUS_CFG_ERR : Fld := ⟨0, 0⟩
def rLVL_EVT_STATUS : Nat := 0x800000 + 0x0008
def fLVL_EVT_STATUS_POOL_HIGH : Fld := ⟨3, 3⟩
def fLVL_EVT_STATUS_LATE_DROP : Fld := ⟨2, 2⟩
def fLVL_EVT_STATUS_RESUME : Fld := ⟨1, 1⟩
def fLVL_EVT_STATUS_SUSPEND : Fld := ⟨0, 0⟩
def rLVL_EVT_IRQ_EN : Nat := 0x800000 + 0x000C
def fLVL_EVT_IRQ_EN_POOL_HIGH : Fld := ⟨3, 3⟩
def fLVL_EVT_IRQ_EN_LATE_DROP : Fld := ⟨2, 2⟩
def fLVL_EVT_IRQ_EN_RESUME : Fld := ⟨1, 1⟩
def fLVL_EVT_IRQ_EN_SUSPEND : Fld := ⟨0, 0⟩
def rLVL_GRP_CFG (g : Nat) : Nat := 0x800000 + 0x1000 + 16 * g + 0x0
def fLVL_GRP_CFG_EN : Fld := ⟨31, 31⟩
def fLVL_GRP_CFG_UNLOCKED_OK : Fld := ⟨30, 30⟩
def fLVL_GRP_CFG_GRID : Fld := ⟨29, 29⟩
def fLVL_GRP_CFG_LATE_ACT : Fld := ⟨28, 27⟩
def fLVL_GRP_CFG_L : Fld := ⟨16, 0⟩
def rLVL_GRP_LATE (g : Nat) : Nat := 0x800000 + 0x1000 + 16 * g + 0x4
def fLVL_GRP_LATE_LATE_MAX : Fld := ⟨15, 0⟩
def rLVL_GRP_STATUS (g : Nat) : Nat := 0x800000 + 0x1000 + 16 * g + 0x8
def fLVL_GRP_STATUS_STATE : Fld := ⟨31, 29⟩
def fLVL_GRP_STATUS_CFG_ERR : Fld := ⟨28, 28⟩
def fLVL_GRP_STATUS_L_PREV : Fld := ⟨16, 0⟩
def rLVL_GRP_CHG (g : Nat) : Nat := 0x800000 + 0x1000 + 16 * g + 0xC
def rLVL_Q_CFG (i : Nat) : Nat := 0x800000 + 0x5000 + 16 * i + 0x0
def fLVL_Q_CFG_EN : Fld := ⟨31, 31⟩
def fLVL_Q_CFG_PG : Fld := ⟨30, 30⟩
def fLVL_Q_CFG_GROUP : Fld := ⟨29, 20⟩
def fLVL_Q_CFG_DEST : Fld := ⟨8, 0⟩
def rLVL_Q_LIMIT (i : Nat) : Nat := 0x800000 + 0x5000 + 16 * i + 0x4
def fLVL_Q_LIMIT_MAX_CELLS : Fld := ⟨18, 0⟩
def rLVL_Q_STATUS (i : Nat) : Nat := 0x800000 + 0x5000 + 16 * i + 0x8
def fLVL_Q_STATUS_QSTATE : Fld := ⟨31, 30⟩
def fLVL_Q_STATUS_OFF_GRID : Fld := ⟨29, 29⟩
def fLVL_Q_STATUS_CELLS : Fld := ⟨18, 0⟩
def rLVL_Q_DEPTH (i : Nat) : Nat := 0x800000 + 0x5000 + 16 * i + 0xC
def fLVL_Q_DEPTH_COPIES : Fld := ⟨16, 0⟩
def rLVL_RANK (p : Nat) : Nat := 0x800000 + 0x9000 + 4 * p
def fLVL_RANK_RANK : Fld := ⟨9, 0⟩
def rLVL_CNT_LO (d i : Nat) : Nat := 0x800000 + 0xA000 + 0x100 * d + 8 * i
def rLVL_CNT_HI (d i : Nat) : Nat := 0x800000 + 0xA000 + 0x100 * d + 0x4 + 8 * i
def rLVL_DIE_STATUS (d : Nat) : Nat := 0x800000 + 0xA000 + 0x100 * d + 0x80
def fLVL_DIE_STATUS_COPIES : Fld := ⟨16, 0⟩

/-- Registers of the LVL_ block, part 0. -/
def regsLVL0 : List RDesc := [
  ⟨0x0, [], [⟨fLVL_CTRL_EN, .rw, 1⟩]⟩,
  ⟨0x4, [], [⟨fLVL_STATUS_ANY_SUSPENDED, .ro, 0⟩, ⟨fLVL_STATUS_CFG_ERR, .rw1c, 0⟩]⟩,
  ⟨0x8, [], [⟨fLVL_EVT_STATUS_POOL_HIGH, .rw1c, 0⟩, ⟨fLVL_EVT_STATUS_LATE_DROP, .rw1c, 0⟩, ⟨fLVL_EVT_STATUS_RESUME, .rw1c, 0⟩, ⟨fLVL_EVT_STATUS_SUSPEND, .rw1c, 0⟩]⟩,
  ⟨0xC, [], [⟨fLVL_EVT_IRQ_EN_POOL_HIGH, .rw, 0⟩, ⟨fLVL_EVT_IRQ_EN_LATE_DROP, .rw, 0⟩, ⟨fLVL_EVT_IRQ_EN_RESUME, .rw, 0⟩, ⟨fLVL_EVT_IRQ_EN_SUSPEND, .rw, 0⟩]⟩,
  ⟨0x1000, [(16, 1024)], [⟨fLVL_GRP_CFG_EN, .rw, 0⟩, ⟨fLVL_GRP_CFG_UNLOCKED_OK, .rw, 0⟩, ⟨fLVL_GRP_CFG_GRID, .rw, 0⟩, ⟨fLVL_GRP_CFG_LATE_ACT, .rw, 0⟩, ⟨fLVL_GRP_CFG_L, .rw, 60⟩]⟩,
  ⟨0x1004, [(16, 1024)], [⟨fLVL_GRP_LATE_LATE_MAX, .rw, 0⟩]⟩,
  ⟨0x1008, [(16, 1024)], [⟨fLVL_GRP_STATUS_STATE, .ro, 0⟩, ⟨fLVL_GRP_STATUS_CFG_ERR, .rw1c, 0⟩, ⟨fLVL_GRP_STATUS_L_PREV, .ro, 60⟩]⟩,
  ⟨0x100C, [(16, 1024)], [⟨fALL, .ro, 0⟩]⟩,
  ⟨0x5000, [(16, 1024)], [⟨fLVL_Q_CFG_EN, .rw, 0⟩, ⟨fLVL_Q_CFG_PG, .rw, 0⟩, ⟨fLVL_Q_CFG_GROUP, .rw, 0⟩, ⟨fLVL_Q_CFG_DEST, .rw, 0⟩]⟩,
  ⟨0x5004, [(16, 1024)], [⟨fLVL_Q_LIMIT_MAX_CELLS, .rw, 4096⟩]⟩,
  ⟨0x5008, [(16, 1024)], [⟨fLVL_Q_STATUS_QSTATE, .ro, 0⟩, ⟨fLVL_Q_STATUS_OFF_GRID, .ro, 0⟩, ⟨fLVL_Q_STATUS_CELLS, .ro, 0⟩]⟩,
  ⟨0x500C, [(16, 1024)], [⟨fLVL_Q_DEPTH_COPIES, .ro, 0⟩]⟩,
  ⟨0x9000, [(4, 512)], [⟨fLVL_RANK_RANK, .rw, 0⟩]⟩,
  ⟨0xA000, [(256, 2), (8, 16)], [⟨fALL, .ro, 0⟩]⟩,
  ⟨0xA004, [(256, 2), (8, 16)], [⟨fALL, .ro, 0⟩]⟩,
  ⟨0xA080, [(256, 2)], [⟨fLVL_DIE_STATUS_COPIES, .ro, 0⟩]⟩]
def regsLVL : List RDesc := regsLVL0

/-! ### TIM_ block (R333 to R333), base 0x900000 -/
def rTIM_CTRL : Nat := 0x900000 + 0x0000
def fTIM_CTRL_PTP_DOMAIN : Fld := ⟨31, 24⟩
def fTIM_CTRL_STATE_SRC : Fld := ⟨23, 22⟩
def fTIM_CTRL_ROOT_FREE : Fld := ⟨3, 3⟩
def fTIM_CTRL_MON_EN : Fld := ⟨2, 2⟩
def fTIM_CTRL_EN : Fld := ⟨0, 0⟩
def rTIM_STATUS : Nat := 0x900000 + 0x0004
def fTIM_STATUS_SSTATE : Fld := ⟨31, 30⟩
def fTIM_STATUS_TIME_LOCKED : Fld := ⟨29, 29⟩
def fTIM_STATUS_SYNCE_IN_USE : Fld := ⟨28, 28⟩
def fTIM_STATUS_REF_ACTIVE : Fld := ⟨27, 26⟩
def fTIM_STATUS_DEPTH : Fld := ⟨25, 18⟩
def fTIM_STATUS_SRC_PPS : Fld := ⟨10, 10⟩
def fTIM_STATUS_SRC_VALID : Fld := ⟨9, 9⟩
def fTIM_STATUS_SRC_PORT : Fld := ⟨8, 0⟩
def rTIM_NOW_SEC_LO : Nat := 0x900000 + 0x0008
def rTIM_NOW_SEC_HI : Nat := 0x900000 + 0x000C
def rTIM_NOW_NS : Nat := 0x900000 + 0x0010
def rTIM_NOW_FRAC : Nat := 0x900000 + 0x0014
def rTIM_UNC : Nat := 0x900000 + 0x0018
def fTIM_UNC_U_DOM : Fld := ⟨31, 16⟩
def fTIM_UNC_U_LINK : Fld := ⟨15, 0⟩
def rTIM_OFFSET : Nat := 0x900000 + 0x001C
def rTIM_FREQ : Nat := 0x900000 + 0x0020
def rTIM_GAIN : Nat := 0x900000 + 0x0024
def fTIM_GAIN_KP_LOG2 : Fld := ⟨15, 8⟩
def fTIM_GAIN_KI_LOG2 : Fld := ⟨7, 0⟩
def rTIM_LOCK : Nat := 0x900000 + 0x0028
def fTIM_LOCK_LOCK_N : Fld := ⟨31, 24⟩
def fTIM_LOCK_LOCK : Fld := ⟨23, 12⟩
def fTIM_LOCK_UNLOCK : Fld := ⟨11, 0⟩
def rTIM_UNC_MAX : Nat := 0x900000 + 0x002C
def fTIM_UNC_MAX_ROOT_UNC : Fld := ⟨31, 16⟩
def fTIM_UNC_MAX_UNC_MAX : Fld := ⟨15, 0⟩
def rTIM_HOLD : Nat := 0x900000 + 0x0030
def fTIM_HOLD_DRIFT_SE : Fld := ⟨31, 16⟩
def fTIM_HOLD_DRIFT_FREE : Fld := ⟨15, 0⟩
def rTIM_HOLD_AGE : Nat := 0x900000 + 0x0034
def fTIM_HOLD_AGE_AGE : Fld := ⟨31, 16⟩
def fTIM_HOLD_AGE_HOLD_AVG_DECKS : Fld := ⟨15, 0⟩
def rTIM_EXCL : Nat := 0x900000 + 0x0038
def fTIM_EXCL_SPREAD_NS : Fld := ⟨31, 24⟩
def fTIM_EXCL_EXCL_NS : Fld := ⟨23, 16⟩
def fTIM_EXCL_AGREE_NS : Fld := ⟨15, 8⟩
def fTIM_EXCL_DELAY_JUMP_NS : Fld := ⟨7, 0⟩
def rTIM_EXCL_REINST : Nat := 0x900000 + 0x003C
def rTIM_REF : Nat := 0x900000 + 0x0040
def fTIM_REF_PPS_IN_PHASE : Fld := ⟨5, 5⟩
def fTIM_REF_TIMEREF_25M : Fld := ⟨4, 4⟩
def fTIM_REF_AUTO : Fld := ⟨3, 3⟩
def fTIM_REF_SEL : Fld := ⟨1, 0⟩
def rTIM_SYNCE : Nat := 0x900000 + 0x0044
def fTIM_SYNCE_EN : Fld := ⟨31, 31⟩
def fTIM_SYNCE_FOLLOW : Fld := ⟨30, 30⟩
def fTIM_SYNCE_PORT : Fld := ⟨20, 12⟩
def fTIM_SYNCE_BW : Fld := ⟨7, 0⟩
def rTIM_UTC : Nat := 0x900000 + 0x0048
def fTIM_UTC_FROM_PTP : Fld := ⟨19, 19⟩
def fTIM_UTC_VALID : Fld := ⟨18, 18⟩
def fTIM_UTC_LEAP59 : Fld := ⟨17, 17⟩
def fTIM_UTC_LEAP61 : Fld := ⟨16, 16⟩
def fTIM_UTC_OFFSET : Fld := ⟨15, 0⟩
def rTIM_PPS_OUT : Nat := 0x900000 + 0x004C
def fTIM_PPS_OUT_EN : Fld := ⟨31, 31⟩
def fTIM_PPS_OUT_GATE : Fld := ⟨30, 30⟩
def fTIM_PPS_OUT_ADJ : Fld := ⟨15, 0⟩
def rTIM_PPS_WIDTH : Nat := 0x900000 + 0x0050
def fTIM_PPS_WIDTH_WIDTH_US : Fld := ⟨19, 0⟩
def rTIM_ORG_ID : Nat := 0x900000 + 0x0054
def fTIM_ORG_ID_ORG_ID : Fld := ⟨23, 0⟩
def rTIM_EVT_STATUS : Nat := 0x900000 + 0x0058
def fTIM_EVT_STATUS_REF_SWITCH : Fld := ⟨7, 7⟩
def fTIM_EVT_STATUS_TRIG_MISSED : Fld := ⟨6, 6⟩
def fTIM_EVT_STATUS_CAPT_EVT : Fld := ⟨5, 5⟩
def fTIM_EVT_STATUS_SRC_EXCLUDED : Fld := ⟨4, 4⟩
def fTIM_EVT_STATUS_SRC_CHANGE : Fld := ⟨3, 3⟩
def fTIM_EVT_STATUS_HOLDOVER : Fld := ⟨2, 2⟩
def fTIM_EVT_STATUS_UNLOCKED : Fld := ⟨1, 1⟩
def fTIM_EVT_STATUS_LOCKED : Fld := ⟨0, 0⟩
def rTIM_EVT_IRQ_EN : Nat := 0x900000 + 0x005C
def fTIM_EVT_IRQ_EN_REF_SWITCH : Fld := ⟨7, 7⟩
def fTIM_EVT_IRQ_EN_TRIG_MISSED : Fld := ⟨6, 6⟩
def fTIM_EVT_IRQ_EN_CAPT_EVT : Fld := ⟨5, 5⟩
def fTIM_EVT_IRQ_EN_SRC_EXCLUDED : Fld := ⟨4, 4⟩
def fTIM_EVT_IRQ_EN_SRC_CHANGE : Fld := ⟨3, 3⟩
def fTIM_EVT_IRQ_EN_HOLDOVER : Fld := ⟨2, 2⟩
def fTIM_EVT_IRQ_EN_UNLOCKED : Fld := ⟨1, 1⟩
def fTIM_EVT_IRQ_EN_LOCKED : Fld := ⟨0, 0⟩
def rTIM_CNT_LO (i : Nat) : Nat := 0x900000 + 0x0100 + 8 * i
def rTIM_CNT_HI (i : Nat) : Nat := 0x900000 + 0x0104 + 8 * i
def rTIM_PORT_CFG (p : Nat) : Nat := 0x900000 + 0x1000 + 16 * p + 0x0
def fTIM_PORT_CFG_PTP_EN : Fld := ⟨31, 31⟩
def fTIM_PORT_CFG_TRANSPORT : Fld := ⟨30, 29⟩
def fTIM_PORT_CFG_ONE_STEP_EN : Fld := ⟨28, 28⟩
def fTIM_PORT_CFG_DELAY : Fld := ⟨27, 26⟩
def fTIM_PORT_CFG_TC_EN : Fld := ⟨25, 25⟩
def fTIM_PORT_CFG_HOST_SLAVE : Fld := ⟨24, 24⟩
def fTIM_PORT_CFG_HOST_MASTER : Fld := ⟨23, 23⟩
def fTIM_PORT_CFG_HA : Fld := ⟨22, 22⟩
def fTIM_PORT_CFG_LOG_SYNC : Fld := ⟨21, 18⟩
def fTIM_PORT_CFG_LOG_DELAY : Fld := ⟨17, 14⟩
def fTIM_PORT_CFG_LOG_ANNOUNCE : Fld := ⟨13, 10⟩
def rTIM_PORT_STATE (p : Nat) : Nat := 0x900000 + 0x1000 + 16 * p + 0x4
def fTIM_PORT_STATE_PSTATE : Fld := ⟨31, 29⟩
def fTIM_PORT_STATE_MONITOR : Fld := ⟨28, 28⟩
def fTIM_PORT_STATE_EXCLUDED : Fld := ⟨27, 27⟩
def fTIM_PORT_STATE_U_LINK : Fld := ⟨15, 0⟩
def rTIM_PORT_DELAY (p : Nat) : Nat := 0x900000 + 0x1000 + 16 * p + 0x8
def rTIM_PORT_ASYM (p : Nat) : Nat := 0x900000 + 0x1000 + 16 * p + 0xC
def fTIM_PORT_ASYM_CONST : Fld := ⟨31, 16⟩
def fTIM_PORT_ASYM_ASYM_UNC : Fld := ⟨15, 8⟩
def fTIM_PORT_ASYM_PARENT_UNC : Fld := ⟨7, 0⟩
def rTIM_PORT_COEF (p : Nat) : Nat := 0x900000 + 0x3000 + 4 * p
def rTIM_TRIG_CFG (n : Nat) : Nat := 0x900000 + 0x4000 + 32 * n + 0x00
def fTIM_TRIG_CFG_EN : Fld := ⟨31, 31⟩
def fTIM_TRIG_CFG_POL : Fld := ⟨30, 30⟩
def fTIM_TRIG_CFG_LOCK_GATE : Fld := ⟨29, 29⟩
def fTIM_TRIG_CFG_CFG_ERR : Fld := ⟨28, 28⟩
def fTIM_TRIG_CFG_COUNT : Fld := ⟨23, 0⟩
def rTIM_TRIG_SEC_LO (n : Nat) : Nat := 0x900000 + 0x4000 + 32 * n + 0x04
def rTIM_TRIG_SEC_HI (n : Nat) : Nat := 0x900000 + 0x4000 + 32 * n + 0x08
def rTIM_TRIG_NS (n : Nat) : Nat := 0x900000 + 0x4000 + 32 * n + 0x0C
def rTIM_TRIG_PERIOD (n : Nat) : Nat := 0x900000 + 0x4000 + 32 * n + 0x10
def rTIM_TRIG_WIDTH (n : Nat) : Nat := 0x900000 + 0x4000 + 32 * n + 0x14
def rTIM_TRIG_ADJ (n : Nat) : Nat := 0x900000 + 0x4000 + 32 * n + 0x18
def fTIM_TRIG_ADJ_ADJ : Fld := ⟨15, 0⟩
def rTIM_TRIG_STATUS (n : Nat) : Nat := 0x900000 + 0x4000 + 32 * n + 0x1C
def rTIM_CAPT_CFG (n : Nat) : Nat := 0x900000 + 0x5000 + 32 * n + 0x00
def fTIM_CAPT_CFG_EN : Fld := ⟨31, 31⟩
def fTIM_CAPT_CFG_EDGE : Fld := ⟨30, 29⟩
def fTIM_CAPT_CFG_JRN : Fld := ⟨28, 28⟩
def rTIM_CAPT_SEC_LO (n : Nat) : Nat := 0x900000 + 0x5000 + 32 * n + 0x04
def rTIM_CAPT_SEC_HI (n : Nat) : Nat := 0x900000 + 0x5000 + 32 * n + 0x08
def rTIM_CAPT_NS (n : Nat) : Nat := 0x900000 + 0x5000 + 32 * n + 0x0C
def rTIM_CAPT_FRAC (n : Nat) : Nat := 0x900000 + 0x5000 + 32 * n + 0x10
def rTIM_CAPT_STATUS (n : Nat) : Nat := 0x900000 + 0x5000 + 32 * n + 0x14
def fTIM_CAPT_STATUS_OVF : Fld := ⟨31, 31⟩
def fTIM_CAPT_STATUS_DEPTH : Fld := ⟨6, 0⟩

/-- Registers of the TIM_ block, part 0. -/
def regsTIM0 : List RDesc := [
  ⟨0x0, [], [⟨fTIM_CTRL_PTP_DOMAIN, .rw, 0⟩, ⟨fTIM_CTRL_STATE_SRC, .rw, 0⟩, ⟨fTIM_CTRL_ROOT_FREE, .rw, 0⟩, ⟨fTIM_CTRL_MON_EN, .rw, 1⟩, ⟨fTIM_CTRL_EN, .rw, 1⟩]⟩,
  ⟨0x4, [], [⟨fTIM_STATUS_SSTATE, .ro, 0⟩, ⟨fTIM_STATUS_TIME_LOCKED, .ro, 0⟩, ⟨fTIM_STATUS_SYNCE_IN_USE, .ro, 0⟩, ⟨fTIM_STATUS_REF_ACTIVE, .ro, 0⟩, ⟨fTIM_STATUS_DEPTH, .ro, 255⟩, ⟨fTIM_STATUS_SRC_PPS, .ro, 0⟩, ⟨fTIM_STATUS_SRC_VALID, .ro, 0⟩, ⟨fTIM_STATUS_SRC_PORT, .ro, 0⟩]⟩,
  ⟨0x8, [], [⟨fALL, .ro, 0⟩]⟩,
  ⟨0xC, [], [⟨fALL, .ro, 0⟩]⟩,
  ⟨0x10, [], [⟨fALL, .ro, 0⟩]⟩,
  ⟨0x14, [], [⟨fALL, .ro, 0⟩]⟩,
  ⟨0x18, [], [⟨fTIM_UNC_U_DOM, .ro, 65535⟩, ⟨fTIM_UNC_U_LINK, .ro, 65535⟩]⟩,
  ⟨0x1C, [], [⟨fALL, .ro, 0⟩]⟩,
  ⟨0x20, [], [⟨fALL, .ro, 0⟩]⟩,
  ⟨0x24, [], [⟨fTIM_GAIN_KP_LOG2, .rw, 1⟩, ⟨fTIM_GAIN_KI_LOG2, .rw, 5⟩]⟩,
  ⟨0x28, [], [⟨fTIM_LOCK_LOCK_N, .rw, 64⟩, ⟨fTIM_LOCK_LOCK, .rw, 64⟩, ⟨fTIM_LOCK_UNLOCK, .rw, 800⟩]⟩,
  ⟨0x2C, [], [⟨fTIM_UNC_MAX_ROOT_UNC, .rw, 0⟩, ⟨fTIM_UNC_MAX_UNC_MAX, .rw, 1600⟩]⟩,
  ⟨0x30, [], [⟨fTIM_HOLD_DRIFT_SE, .rw, 50⟩, ⟨fTIM_HOLD_DRIFT_FREE, .rw, 1000⟩]⟩,
  ⟨0x34, [], [⟨fTIM_HOLD_AGE_AGE, .rw, 100⟩, ⟨fTIM_HOLD_AGE_HOLD_AVG_DECKS, .rw, 1000⟩]⟩,
  ⟨0x38, [], [⟨fTIM_EXCL_SPREAD_NS, .rw, 20⟩, ⟨fTIM_EXCL_EXCL_NS, .rw, 25⟩, ⟨fTIM_EXCL_AGREE_NS, .rw, 5⟩, ⟨fTIM_EXCL_DELAY_JUMP_NS, .rw, 10⟩]⟩,
  ⟨0x3C, [], [⟨fALL, .rw, 10000⟩]⟩,
  ⟨0x40, [], [⟨fTIM_REF_PPS_IN_PHASE, .rw, 0⟩, ⟨fTIM_REF_TIMEREF_25M, .rw, 0⟩, ⟨fTIM_REF_AUTO, .rw, 1⟩, ⟨fTIM_REF_SEL, .rw, 0⟩]⟩,
  ⟨0x44, [], [⟨fTIM_SYNCE_EN, .rw, 1⟩, ⟨fTIM_SYNCE_FOLLOW, .rw, 1⟩, ⟨fTIM_SYNCE_PORT, .rw, 0⟩, ⟨fTIM_SYNCE_BW, .rw, 30⟩]⟩,
  ⟨0x48, [], [⟨fTIM_UTC_FROM_PTP, .rw, 1⟩, ⟨fTIM_UTC_VALID, .rw, 0⟩, ⟨fTIM_UTC_LEAP59, .rw, 0⟩, ⟨fTIM_UTC_LEAP61, .rw, 0⟩, ⟨fTIM_UTC_OFFSET, .rw, 0⟩]⟩,
  ⟨0x4C, [], [⟨fTIM_PPS_OUT_EN, .rw, 1⟩, ⟨fTIM_PPS_OUT_GATE, .rw, 1⟩, ⟨fTIM_PPS_OUT_ADJ, .rw, 0⟩]⟩,
  ⟨0x50, [], [⟨fTIM_PPS_WIDTH_WIDTH_US, .rw, 100000⟩]⟩,
  ⟨0x54, [], [⟨fTIM_ORG_ID_ORG_ID, .ro, 0⟩]⟩,
  ⟨0x58, [], [⟨fTIM_EVT_STATUS_REF_SWITCH, .rw1c, 0⟩, ⟨fTIM_EVT_STATUS_TRIG_MISSED, .rw1c, 0⟩, ⟨fTIM_EVT_STATUS_CAPT_EVT, .rw1c, 0⟩, ⟨fTIM_EVT_STATUS_SRC_EXCLUDED, .rw1c, 0⟩, ⟨fTIM_EVT_STATUS_SRC_CHANGE, .rw1c, 0⟩, ⟨fTIM_EVT_STATUS_HOLDOVER, .rw1c, 0⟩, ⟨fTIM_EVT_STATUS_UNLOCKED, .rw1c, 0⟩, ⟨fTIM_EVT_STATUS_LOCKED, .rw1c, 0⟩]⟩,
  ⟨0x5C, [], [⟨fTIM_EVT_IRQ_EN_REF_SWITCH, .rw, 0⟩, ⟨fTIM_EVT_IRQ_EN_TRIG_MISSED, .rw, 0⟩, ⟨fTIM_EVT_IRQ_EN_CAPT_EVT, .rw, 0⟩, ⟨fTIM_EVT_IRQ_EN_SRC_EXCLUDED, .rw, 0⟩, ⟨fTIM_EVT_IRQ_EN_SRC_CHANGE, .rw, 0⟩, ⟨fTIM_EVT_IRQ_EN_HOLDOVER, .rw, 0⟩, ⟨fTIM_EVT_IRQ_EN_UNLOCKED, .rw, 0⟩, ⟨fTIM_EVT_IRQ_EN_LOCKED, .rw, 0⟩]⟩]
/-- Registers of the TIM_ block, part 1. -/
def regsTIM1 : List RDesc := [
  ⟨0x100, [(8, 16)], [⟨fALL, .ro, 0⟩]⟩,
  ⟨0x104, [(8, 16)], [⟨fALL, .ro, 0⟩]⟩,
  ⟨0x1000, [(16, 512)], [⟨fTIM_PORT_CFG_PTP_EN, .rw, 0⟩, ⟨fTIM_PORT_CFG_TRANSPORT, .rw, 0⟩, ⟨fTIM_PORT_CFG_ONE_STEP_EN, .rw, 1⟩, ⟨fTIM_PORT_CFG_DELAY, .rw, 0⟩, ⟨fTIM_PORT_CFG_TC_EN, .rw, 0⟩, ⟨fTIM_PORT_CFG_HOST_SLAVE, .rw, 0⟩, ⟨fTIM_PORT_CFG_HOST_MASTER, .rw, 0⟩, ⟨fTIM_PORT_CFG_HA, .rw, 0⟩, ⟨fTIM_PORT_CFG_LOG_SYNC, .rw, 12⟩, ⟨fTIM_PORT_CFG_LOG_DELAY, .rw, 12⟩, ⟨fTIM_PORT_CFG_LOG_ANNOUNCE, .rw, 0⟩]⟩,
  ⟨0x1004, [(16, 512)], [⟨fTIM_PORT_STATE_PSTATE, .ro, 0⟩, ⟨fTIM_PORT_STATE_MONITOR, .ro, 0⟩, ⟨fTIM_PORT_STATE_EXCLUDED, .ro, 0⟩, ⟨fTIM_PORT_STATE_U_LINK, .ro, 65535⟩]⟩,
  ⟨0x1008, [(16, 512)], [⟨fALL, .ro, 0⟩]⟩,
  ⟨0x100C, [(16, 512)], [⟨fTIM_PORT_ASYM_CONST, .rw, 0⟩, ⟨fTIM_PORT_ASYM_ASYM_UNC, .rw, 16⟩, ⟨fTIM_PORT_ASYM_PARENT_UNC, .rw, 25⟩]⟩,
  ⟨0x3000, [(4, 512)], [⟨fALL, .rw, 0⟩]⟩,
  ⟨0x4000, [(32, 8)], [⟨fTIM_TRIG_CFG_EN, .rw, 0⟩, ⟨fTIM_TRIG_CFG_POL, .rw, 0⟩, ⟨fTIM_TRIG_CFG_LOCK_GATE, .rw, 1⟩, ⟨fTIM_TRIG_CFG_CFG_ERR, .rw1c, 0⟩, ⟨fTIM_TRIG_CFG_COUNT, .rw, 0⟩]⟩,
  ⟨0x4004, [(32, 8)], [⟨fALL, .rw, 0⟩]⟩,
  ⟨0x4008, [(32, 8)], [⟨fALL, .rw, 0⟩]⟩,
  ⟨0x400C, [(32, 8)], [⟨fALL, .rw, 0⟩]⟩,
  ⟨0x4010, [(32, 8)], [⟨fALL, .rw, 0⟩]⟩,
  ⟨0x4014, [(32, 8)], [⟨fALL, .rw, 0⟩]⟩,
  ⟨0x4018, [(32, 8)], [⟨fTIM_TRIG_ADJ_ADJ, .rw, 0⟩]⟩,
  ⟨0x401C, [(32, 8)], [⟨fALL, .ro, 0⟩]⟩,
  ⟨0x5000, [(32, 9)], [⟨fTIM_CAPT_CFG_EN, .rw, 0⟩, ⟨fTIM_CAPT_CFG_EDGE, .rw, 1⟩, ⟨fTIM_CAPT_CFG_JRN, .rw, 0⟩]⟩,
  ⟨0x5004, [(32, 9)], [⟨fALL, .rc, 0⟩]⟩,
  ⟨0x5008, [(32, 9)], [⟨fALL, .ro, 0⟩]⟩,
  ⟨0x500C, [(32, 9)], [⟨fALL, .ro, 0⟩]⟩,
  ⟨0x5010, [(32, 9)], [⟨fALL, .ro, 0⟩]⟩,
  ⟨0x5014, [(32, 9)], [⟨fTIM_CAPT_STATUS_OVF, .rw1c, 0⟩, ⟨fTIM_CAPT_STATUS_DEPTH, .ro, 0⟩]⟩]
def regsTIM : List RDesc := regsTIM0 ++ regsTIM1

/-! ### JRN_ block (R359 to R359), base 0xa00000 -/
def rJRN_CTRL : Nat := 0xA00000 + 0x0000
def fJRN_CTRL_EN : Fld := ⟨31, 31⟩
def fJRN_CTRL_UNLOCKED_OK : Fld := ⟨30, 30⟩
def fJRN_CTRL_POLICY : Fld := ⟨29, 28⟩
def fJRN_CTRL_UNLOCK_ACT : Fld := ⟨27, 27⟩
def fJRN_CTRL_DRAIN : Fld := ⟨26, 25⟩
def fJRN_CTRL_DIGEST_LEN : Fld := ⟨24, 16⟩
def fJRN_CTRL_SIGN_DECKS : Fld := ⟨15, 0⟩
def rJRN_STATUS : Nat := 0xA00000 + 0x0004
def fJRN_STATUS_STATE : Fld := ⟨31, 29⟩
def fJRN_STATUS_FULL1 : Fld := ⟨28, 28⟩
def fJRN_STATUS_FULL0 : Fld := ⟨27, 27⟩
def fJRN_STATUS_KEY_MISMATCH : Fld := ⟨26, 26⟩
def fJRN_STATUS_UNLOCKED : Fld := ⟨25, 25⟩
def fJRN_STATUS_SUM_FULL : Fld := ⟨24, 24⟩
def rJRN_RUN_DECK_LO : Nat := 0xA00000 + 0x0008
def rJRN_RUN_DECK_HI : Nat := 0xA00000 + 0x000C
def rJRN_SUM_DECK_LO : Nat := 0xA00000 + 0x0010
def rJRN_SUM_DECK_HI : Nat := 0xA00000 + 0x0014
def rJRN_SIGNED_LO : Nat := 0xA00000 + 0x0018
def rJRN_SIGNED_HI : Nat := 0xA00000 + 0x001C
def rJRN_SUM_SIZE : Nat := 0xA00000 + 0x0020
def rJRN_SUM_WR : Nat := 0xA00000 + 0x0024
def rJRN_SUM_RD : Nat := 0xA00000 + 0x0028
def rJRN_CHILD_SIZE : Nat := 0xA00000 + 0x002C
def rJRN_CHILD_WR : Nat := 0xA00000 + 0x0030
def rJRN_CHILD_RD : Nat := 0xA00000 + 0x0034
def rJRN_SUM_CFG : Nat := 0xA00000 + 0x0038
def fJRN_SUM_CFG_CHILD_LOG2 : Fld := ⟨12, 8⟩
def fJRN_SUM_CFG_SUM_LOG2 : Fld := ⟨4, 0⟩
def rJRN_DOM_CFG : Nat := 0xA00000 + 0x003C
def fJRN_DOM_CFG_EN : Fld := ⟨31, 31⟩
def fJRN_DOM_CFG_WAIT_DECKS : Fld := ⟨7, 0⟩
def rJRN_TRL_CFG : Nat := 0xA00000 + 0x0040
def fJRN_TRL_CFG_MARKER : Fld := ⟨31, 16⟩
def fJRN_TRL_CFG_MAX_LEN : Fld := ⟨13, 0⟩
def rJRN_PORT_CFG : Nat := 0xA00000 + 0x0044
def fJRN_PORT_CFG_PORT : Fld := ⟨31, 23⟩
def fJRN_PORT_CFG_RECS : Fld := ⟨15, 8⟩
def rJRN_PORT_ETYPE : Nat := 0xA00000 + 0x0048
def fJRN_PORT_ETYPE_ETYPE : Fld := ⟨15, 0⟩
def rJRN_DMA_CFG : Nat := 0xA00000 + 0x004C
def fJRN_DMA_CFG_CHANNEL : Fld := ⟨31, 26⟩
def rJRN_EVT_STATUS : Nat := 0xA00000 + 0x0050
def fJRN_EVT_STATUS_SUM_FULL : Fld := ⟨5, 5⟩
def fJRN_EVT_STATUS_CHILD_ABSENT : Fld := ⟨4, 4⟩
def fJRN_EVT_STATUS_SEAL_LATE : Fld := ⟨3, 3⟩
def fJRN_EVT_STATUS_SEALED : Fld := ⟨2, 2⟩
def fJRN_EVT_STATUS_RESUMED : Fld := ⟨1, 1⟩
def fJRN_EVT_STATUS_FULL : Fld := ⟨0, 0⟩
def rJRN_EVT_IRQ_EN : Nat := 0xA00000 + 0x0054
def fJRN_EVT_IRQ_EN_SUM_FULL : Fld := ⟨5, 5⟩
def fJRN_EVT_IRQ_EN_CHILD_ABSENT : Fld := ⟨4, 4⟩
def fJRN_EVT_IRQ_EN_SEAL_LATE : Fld := ⟨3, 3⟩
def fJRN_EVT_IRQ_EN_SEALED : Fld := ⟨2, 2⟩
def fJRN_EVT_IRQ_EN_RESUMED : Fld := ⟨1, 1⟩
def fJRN_EVT_IRQ_EN_FULL : Fld := ⟨0, 0⟩
def rJRN_SIZE (d : Nat) : Nat := 0xA00000 + 0x0100 + 0x80 * d + 0x00
def rJRN_WR_LO (d : Nat) : Nat := 0xA00000 + 0x100 + 0x80 * d + 0x04
def rJRN_WR_HI (d : Nat) : Nat := 0xA00000 + 0x100 + 0x80 * d + 0x08
def rJRN_RD_LO (d : Nat) : Nat := 0xA00000 + 0x100 + 0x80 * d + 0x0C
def rJRN_RD_HI (d : Nat) : Nat := 0xA00000 + 0x100 + 0x80 * d + 0x10
def rJRN_RESV (d : Nat) : Nat := 0xA00000 + 0x100 + 0x80 * d + 0x14
def fJRN_RESV_ENTRIES : Fld := ⟨26, 0⟩
def rJRN_CNT_LO (d i : Nat) : Nat := 0xA00000 + 0x100 + 0x80 * d + 0x20 + 8 * i
def rJRN_CNT_HI (d i : Nat) : Nat := 0xA00000 + 0x100 + 0x80 * d + 0x24 + 8 * i
def rJRN_TRL_EN (j : Nat) : Nat := 0xA00000 + 0x0400 + 4 * j

/-- Registers of the JRN_ block, part 0. -/
def regsJRN0 : List RDesc := [
  ⟨0x0, [], [⟨fJRN_CTRL_EN, .rw, 0⟩, ⟨fJRN_CTRL_UNLOCKED_OK, .rw, 0⟩, ⟨fJRN_CTRL_POLICY, .rw, 0⟩, ⟨fJRN_CTRL_UNLOCK_ACT, .rw, 0⟩, ⟨fJRN_CTRL_DRAIN, .rw, 0⟩, ⟨fJRN_CTRL_DIGEST_LEN, .rw, 128⟩, ⟨fJRN_CTRL_SIGN_DECKS, .rw, 1000⟩]⟩,
  ⟨0x4, [], [⟨fJRN_STATUS_STATE, .ro, 0⟩, ⟨fJRN_STATUS_FULL1, .ro, 0⟩, ⟨fJRN_STATUS_FULL0, .ro, 0⟩, ⟨fJRN_STATUS_KEY_MISMATCH, .ro, 0⟩, ⟨fJRN_STATUS_UNLOCKED, .ro, 0⟩, ⟨fJRN_STATUS_SUM_FULL, .ro, 0⟩]⟩,
  ⟨0x8, [], [⟨fALL, .ro, 0⟩]⟩,
  ⟨0xC, [], [⟨fALL, .ro, 0⟩]⟩,
  ⟨0x10, [], [⟨fALL, .ro, 0⟩]⟩,
  ⟨0x14, [], [⟨fALL, .ro, 0⟩]⟩,
  ⟨0x18, [], [⟨fALL, .ro, 0⟩]⟩,
  ⟨0x1C, [], [⟨fALL, .ro, 0⟩]⟩,
  ⟨0x20, [], [⟨fALL, .ro, 0⟩]⟩,
  ⟨0x24, [], [⟨fALL, .ro, 0⟩]⟩,
  ⟨0x28, [], [⟨fALL, .rw, 0⟩]⟩,
  ⟨0x2C, [], [⟨fALL, .ro, 0⟩]⟩,
  ⟨0x30, [], [⟨fALL, .ro, 0⟩]⟩,
  ⟨0x34, [], [⟨fALL, .rw, 0⟩]⟩,
  ⟨0x38, [], [⟨fJRN_SUM_CFG_CHILD_LOG2, .rw, 24⟩, ⟨fJRN_SUM_CFG_SUM_LOG2, .rw, 22⟩]⟩,
  ⟨0x3C, [], [⟨fJRN_DOM_CFG_EN, .rw, 1⟩, ⟨fJRN_DOM_CFG_WAIT_DECKS, .rw, 2⟩]⟩,
  ⟨0x40, [], [⟨fJRN_TRL_CFG_MARKER, .ro, 59297⟩, ⟨fJRN_TRL_CFG_MAX_LEN, .rw, 9216⟩]⟩,
  ⟨0x44, [], [⟨fJRN_PORT_CFG_PORT, .rw, 0⟩, ⟨fJRN_PORT_CFG_RECS, .rw, 22⟩]⟩,
  ⟨0x48, [], [⟨fJRN_PORT_ETYPE_ETYPE, .rw, 34998⟩]⟩,
  ⟨0x4C, [], [⟨fJRN_DMA_CFG_CHANNEL, .rw, 0⟩]⟩,
  ⟨0x50, [], [⟨fJRN_EVT_STATUS_SUM_FULL, .rw1c, 0⟩, ⟨fJRN_EVT_STATUS_CHILD_ABSENT, .rw1c, 0⟩, ⟨fJRN_EVT_STATUS_SEAL_LATE, .rw1c, 0⟩, ⟨fJRN_EVT_STATUS_SEALED, .rw1c, 0⟩, ⟨fJRN_EVT_STATUS_RESUMED, .rw1c, 0⟩, ⟨fJRN_EVT_STATUS_FULL, .rw1c, 0⟩]⟩,
  ⟨0x54, [], [⟨fJRN_EVT_IRQ_EN_SUM_FULL, .rw, 0⟩, ⟨fJRN_EVT_IRQ_EN_CHILD_ABSENT, .rw, 0⟩, ⟨fJRN_EVT_IRQ_EN_SEAL_LATE, .rw, 0⟩, ⟨fJRN_EVT_IRQ_EN_SEALED, .rw, 0⟩, ⟨fJRN_EVT_IRQ_EN_RESUMED, .rw, 0⟩, ⟨fJRN_EVT_IRQ_EN_FULL, .rw, 0⟩]⟩,
  ⟨0x100, [(128, 2)], [⟨fALL, .ro, 134217728⟩]⟩,
  ⟨0x104, [(128, 2)], [⟨fALL, .ro, 0⟩]⟩]
/-- Registers of the JRN_ block, part 1. -/
def regsJRN1 : List RDesc := [
  ⟨0x108, [(128, 2)], [⟨fALL, .ro, 0⟩]⟩,
  ⟨0x10C, [(128, 2)], [⟨fALL, .rw, 0⟩]⟩,
  ⟨0x110, [(128, 2)], [⟨fALL, .rw, 0⟩]⟩,
  ⟨0x114, [(128, 2)], [⟨fJRN_RESV_ENTRIES, .ro, 0⟩]⟩,
  ⟨0x120, [(128, 2), (8, 12)], [⟨fALL, .ro, 0⟩]⟩,
  ⟨0x124, [(128, 2), (8, 12)], [⟨fALL, .ro, 0⟩]⟩,
  ⟨0x400, [(4, 16)], [⟨fALL, .rw, 0⟩]⟩]
def regsJRN : List RDesc := regsJRN0 ++ regsJRN1

/-! ### MEM_ block (R380 to R380), base 0xb00000 -/
def rMEM_CTRL : Nat := 0xB00000 + 0x0000
def fMEM_CTRL_RH_EN : Fld := ⟨2, 2⟩
def fMEM_CTRL_SCRUB_EN : Fld := ⟨1, 1⟩
def fMEM_CTRL_COMMIT : Fld := ⟨0, 0⟩
def rMEM_STATUS : Nat := 0xB00000 + 0x0004
def fMEM_STATUS_FROZEN : Fld := ⟨15, 12⟩
def fMEM_STATUS_FAILED : Fld := ⟨11, 8⟩
def fMEM_STATUS_CLEARING : Fld := ⟨2, 2⟩
def fMEM_STATUS_PART_ERR : Fld := ⟨1, 1⟩
def fMEM_STATUS_COMMITTED : Fld := ⟨0, 0⟩
def rMEM_PART_A : Nat := 0xB00000 + 0x0008
def fMEM_PART_A_FLOW : Fld := ⟨31, 24⟩
def fMEM_PART_A_SPILL : Fld := ⟨23, 16⟩
def fMEM_PART_A_JOURNAL : Fld := ⟨15, 8⟩
def fMEM_PART_A_TALLY : Fld := ⟨7, 0⟩
def rMEM_PART_B : Nat := 0xB00000 + 0x000C
def fMEM_PART_B_MIRROR : Fld := ⟨31, 24⟩
def fMEM_PART_B_AUX : Fld := ⟨23, 16⟩
def fMEM_PART_B_SPARE : Fld := ⟨15, 8⟩
def rMEM_SCRUB : Nat := 0xB00000 + 0x0010
def rMEM_SCRUB_STATUS : Nat := 0xB00000 + 0x0014
def fMEM_SCRUB_STATUS_LAG : Fld := ⟨31, 16⟩
def fMEM_SCRUB_STATUS_PASSES : Fld := ⟨15, 0⟩
def rMEM_RH : Nat := 0xB00000 + 0x0018
def fMEM_RH_THRESH : Fld := ⟨31, 16⟩
def fMEM_RH_GAP_TICKS : Fld := ⟨15, 0⟩
def rMEM_TEMP : Nat := 0xB00000 + 0x001C
def fMEM_TEMP_HOT_C : Fld := ⟨7, 0⟩
def rMEM_EVT_STATUS : Nat := 0xB00000 + 0x0020
def fMEM_EVT_STATUS_TRAIN_FAIL : Fld := ⟨5, 5⟩
def fMEM_EVT_STATUS_FROZEN : Fld := ⟨4, 4⟩
def fMEM_EVT_STATUS_CE : Fld := ⟨3, 3⟩
def fMEM_EVT_STATUS_RH_THROTTLE : Fld := ⟨2, 2⟩
def fMEM_EVT_STATUS_REF_CHANGE : Fld := ⟨1, 1⟩
def fMEM_EVT_STATUS_HOT : Fld := ⟨0, 0⟩
def rMEM_EVT_IRQ_EN : Nat := 0xB00000 + 0x0024
def fMEM_EVT_IRQ_EN_TRAIN_FAIL : Fld := ⟨5, 5⟩
def fMEM_EVT_IRQ_EN_FROZEN : Fld := ⟨4, 4⟩
def fMEM_EVT_IRQ_EN_CE : Fld := ⟨3, 3⟩
def fMEM_EVT_IRQ_EN_RH_THROTTLE : Fld := ⟨2, 2⟩
def fMEM_EVT_IRQ_EN_REF_CHANGE : Fld := ⟨1, 1⟩
def fMEM_EVT_IRQ_EN_HOT : Fld := ⟨0, 0⟩
def rMEM_NFLATE (d c : Nat) : Nat := 0xB00000 + 0x0040 + 0x20 * d + 4 * c
def rMEM_S_STATUS (s : Nat) : Nat := 0xB00000 + 0x100 + 0x100 * s + 0x00
def fMEM_S_STATUS_TRAINED : Fld := ⟨31, 31⟩
def fMEM_S_STATUS_FROZEN : Fld := ⟨30, 30⟩
def fMEM_S_STATUS_REF_2X : Fld := ⟨29, 29⟩
def fMEM_S_STATUS_HOT : Fld := ⟨28, 28⟩
def fMEM_S_STATUS_LANES_REPAIRED : Fld := ⟨15, 8⟩
def fMEM_S_STATUS_TEMP : Fld := ⟨7, 0⟩
def rMEM_CE_ADDR (s : Nat) : Nat := 0xB00000 + 0x100 + 0x100 * s + 0x04
def fMEM_CE_ADDR_PC : Fld := ⟨31, 26⟩
def fMEM_CE_ADDR_ROW : Fld := ⟨25, 6⟩
def fMEM_CE_ADDR_BURST : Fld := ⟨4, 0⟩
def rMEM_CE_REQ (s : Nat) : Nat := 0xB00000 + 0x100 + 0x100 * s + 0x08
def fMEM_CE_REQ_REQ : Fld := ⟨11, 0⟩
def rMEM_FRZ_KIND (s : Nat) : Nat := 0xB00000 + 0x100 + 0x100 * s + 0x10
def fMEM_FRZ_KIND_KIND : Fld := ⟨31, 30⟩
def fMEM_FRZ_KIND_PC : Fld := ⟨29, 24⟩
def fMEM_FRZ_KIND_BANK : Fld := ⟨23, 20⟩
def fMEM_FRZ_KIND_CLASS : Fld := ⟨19, 16⟩
def fMEM_FRZ_KIND_SYNDROME : Fld := ⟨15, 0⟩
def rMEM_FRZ_ADDR (s : Nat) : Nat := 0xB00000 + 0x100 + 0x100 * s + 0x14
def fMEM_FRZ_ADDR_ROW : Fld := ⟨31, 12⟩
def fMEM_FRZ_ADDR_BURST : Fld := ⟨4, 0⟩
def rMEM_FRZ_REQ (s : Nat) : Nat := 0xB00000 + 0x100 + 0x100 * s + 0x18
def fMEM_FRZ_REQ_REQ : Fld := ⟨27, 16⟩
def fMEM_FRZ_REQ_TAG : Fld := ⟨15, 0⟩
def rMEM_QLOG_SEL (s : Nat) : Nat := 0xB00000 + 0x100 + 0x100 * s + 0x1C
def fMEM_QLOG_SEL_LOG : Fld := ⟨31, 31⟩
def fMEM_QLOG_SEL_INDEX : Fld := ⟨15, 0⟩
def rMEM_QLOG_DATA (s : Nat) : Nat := 0xB00000 + 0x100 + 0x100 * s + 0x20
def rMEM_S_CNT_LO (s i : Nat) : Nat := 0xB00000 + 0x100 + 0x100 * s + 0x40 + 8 * i
def rMEM_S_CNT_HI (s i : Nat) : Nat := 0xB00000 + 0x100 + 0x100 * s + 0x44 + 8 * i
def rMEM_PC_NF (s k : Nat) : Nat := 0xB00000 + 0x1000 + 0x100 * s + 4 * k
def fMEM_PC_NF_RUN : Fld := ⟨31, 24⟩
def fMEM_PC_NF_LATE : Fld := ⟨23, 0⟩

/-- Registers of the MEM_ block, part 0. -/
def regsMEM0 : List RDesc := [
  ⟨0x0, [], [⟨fMEM_CTRL_RH_EN, .rw, 1⟩, ⟨fMEM_CTRL_SCRUB_EN, .rw, 1⟩, ⟨fMEM_CTRL_COMMIT, .wo, 0⟩]⟩,
  ⟨0x4, [], [⟨fMEM_STATUS_FROZEN, .ro, 0⟩, ⟨fMEM_STATUS_FAILED, .ro, 0⟩, ⟨fMEM_STATUS_CLEARING, .ro, 0⟩, ⟨fMEM_STATUS_PART_ERR, .rw1c, 0⟩, ⟨fMEM_STATUS_COMMITTED, .ro, 0⟩]⟩,
  ⟨0x8, [], [⟨fMEM_PART_A_FLOW, .rw, 64⟩, ⟨fMEM_PART_A_SPILL, .rw, 128⟩, ⟨fMEM_PART_A_JOURNAL, .rw, 64⟩, ⟨fMEM_PART_A_TALLY, .rw, 32⟩]⟩,
  ⟨0xC, [], [⟨fMEM_PART_B_MIRROR, .rw, 8⟩, ⟨fMEM_PART_B_AUX, .rw, 24⟩, ⟨fMEM_PART_B_SPARE, .rw, 8⟩]⟩,
  ⟨0x10, [], [⟨fALL, .rw, 1000⟩]⟩,
  ⟨0x14, [], [⟨fMEM_SCRUB_STATUS_LAG, .ro, 0⟩, ⟨fMEM_SCRUB_STATUS_PASSES, .ro, 0⟩]⟩,
  ⟨0x18, [], [⟨fMEM_RH_THRESH, .rw, 2048⟩, ⟨fMEM_RH_GAP_TICKS, .rw, 64⟩]⟩,
  ⟨0x1C, [], [⟨fMEM_TEMP_HOT_C, .rw, 95⟩]⟩,
  ⟨0x20, [], [⟨fMEM_EVT_STATUS_TRAIN_FAIL, .rw1c, 0⟩, ⟨fMEM_EVT_STATUS_FROZEN, .rw1c, 0⟩, ⟨fMEM_EVT_STATUS_CE, .rw1c, 0⟩, ⟨fMEM_EVT_STATUS_RH_THROTTLE, .rw1c, 0⟩, ⟨fMEM_EVT_STATUS_REF_CHANGE, .rw1c, 0⟩, ⟨fMEM_EVT_STATUS_HOT, .rw1c, 0⟩]⟩,
  ⟨0x24, [], [⟨fMEM_EVT_IRQ_EN_TRAIN_FAIL, .rw, 0⟩, ⟨fMEM_EVT_IRQ_EN_FROZEN, .rw, 0⟩, ⟨fMEM_EVT_IRQ_EN_CE, .rw, 0⟩, ⟨fMEM_EVT_IRQ_EN_RH_THROTTLE, .rw, 0⟩, ⟨fMEM_EVT_IRQ_EN_REF_CHANGE, .rw, 0⟩, ⟨fMEM_EVT_IRQ_EN_HOT, .rw, 0⟩]⟩,
  ⟨0x40, [(32, 2), (4, 8)], [⟨fALL, .rc, 0⟩]⟩,
  ⟨0x100, [(256, 4)], [⟨fMEM_S_STATUS_TRAINED, .ro, 0⟩, ⟨fMEM_S_STATUS_FROZEN, .ro, 0⟩, ⟨fMEM_S_STATUS_REF_2X, .ro, 0⟩, ⟨fMEM_S_STATUS_HOT, .ro, 0⟩, ⟨fMEM_S_STATUS_LANES_REPAIRED, .ro, 0⟩, ⟨fMEM_S_STATUS_TEMP, .ro, 0⟩]⟩,
  ⟨0x104, [(256, 4)], [⟨fMEM_CE_ADDR_PC, .ro, 0⟩, ⟨fMEM_CE_ADDR_ROW, .ro, 0⟩, ⟨fMEM_CE_ADDR_BURST, .ro, 0⟩]⟩,
  ⟨0x108, [(256, 4)], [⟨fMEM_CE_REQ_REQ, .ro, 0⟩]⟩,
  ⟨0x110, [(256, 4)], [⟨fMEM_FRZ_KIND_KIND, .ro, 0⟩, ⟨fMEM_FRZ_KIND_PC, .ro, 0⟩, ⟨fMEM_FRZ_KIND_BANK, .ro, 0⟩, ⟨fMEM_FRZ_KIND_CLASS, .ro, 0⟩, ⟨fMEM_FRZ_KIND_SYNDROME, .ro, 0⟩]⟩,
  ⟨0x114, [(256, 4)], [⟨fMEM_FRZ_ADDR_ROW, .ro, 0⟩, ⟨fMEM_FRZ_ADDR_BURST, .ro, 0⟩]⟩,
  ⟨0x118, [(256, 4)], [⟨fMEM_FRZ_REQ_REQ, .ro, 0⟩, ⟨fMEM_FRZ_REQ_TAG, .ro, 0⟩]⟩,
  ⟨0x11C, [(256, 4)], [⟨fMEM_QLOG_SEL_LOG, .rw, 0⟩, ⟨fMEM_QLOG_SEL_INDEX, .rw, 0⟩]⟩,
  ⟨0x120, [(256, 4)], [⟨fALL, .ro, 0⟩]⟩,
  ⟨0x140, [(256, 4), (8, 8)], [⟨fALL, .ro, 0⟩]⟩,
  ⟨0x144, [(256, 4), (8, 8)], [⟨fALL, .ro, 0⟩]⟩,
  ⟨0x1000, [(256, 4), (4, 64)], [⟨fMEM_PC_NF_RUN, .ro, 0⟩, ⟨fMEM_PC_NF_LATE, .rc, 0⟩]⟩]
def regsMEM : List RDesc := regsMEM0

/-! ### RCK_ block (R411 to R411), base 0xc00000 -/
def rRCK_CTRL : Nat := 0xC00000 + 0x0000
def fRCK_CTRL_TRACE_MODE : Fld := ⟨2, 1⟩
def fRCK_CTRL_CS_SCRUB_EN : Fld := ⟨0, 0⟩
def rRCK_STATUS : Nat := 0xC00000 + 0x0004
def fRCK_STATUS_VENDOR_LOADED : Fld := ⟨3, 3⟩
def fRCK_STATUS_OPEN_LOADED : Fld := ⟨2, 2⟩
def fRCK_STATUS_OPEN_BUSY : Fld := ⟨1, 1⟩
def fRCK_STATUS_USER_ON : Fld := ⟨0, 0⟩
def rRCK_VENDOR_VER : Nat := 0xC00000 + 0x0008
def fRCK_VENDOR_VER_MAJOR : Fld := ⟨31, 24⟩
def fRCK_VENDOR_VER_MINOR : Fld := ⟨23, 16⟩
def fRCK_VENDOR_VER_BUILD : Fld := ⟨15, 0⟩
def rRCK_OPEN_ID_LO : Nat := 0xC00000 + 0x000C
def rRCK_OPEN_ID_HI : Nat := 0xC00000 + 0x0010
def rRCK_OPEN_CTRL : Nat := 0xC00000 + 0x0014
def fRCK_OPEN_CTRL_USER_EN : Fld := ⟨31, 31⟩
def fRCK_OPEN_CTRL_RMD_USER : Fld := ⟨30, 30⟩
def fRCK_OPEN_CTRL_OWNER : Fld := ⟨29, 26⟩
def fRCK_OPEN_CTRL_BLK_WR : Fld := ⟨19, 0⟩
def rRCK_HEAP_BASE : Nat := 0xC00000 + 0x0018
def fRCK_HEAP_BASE_MIB : Fld := ⟨15, 0⟩
def rRCK_HEAP_SIZE : Nat := 0xC00000 + 0x001C
def fRCK_HEAP_SIZE_MIB : Fld := ⟨15, 0⟩
def rRCK_CMD_CFG : Nat := 0xC00000 + 0x0020
def fRCK_CMD_CFG_DEADLINE : Fld := ⟨31, 16⟩
def fRCK_CMD_CFG_BUDGET : Fld := ⟨15, 0⟩
def rRCK_IDLE_PC : Nat := 0xC00000 + 0x0024
def fRCK_IDLE_PC_PC : Fld := ⟨14, 0⟩
def rRCK_TRACE_CFG : Nat := 0xC00000 + 0x0028
def fRCK_TRACE_CFG_RING_LOG2 : Fld := ⟨4, 0⟩
def rRCK_EVT_STATUS : Nat := 0xC00000 + 0x002C
def fRCK_EVT_STATUS_CS_REPAIR : Fld := ⟨5, 5⟩
def fRCK_EVT_STATUS_TABLE_LOW : Fld := ⟨4, 4⟩
def fRCK_EVT_STATUS_TRACE_FULL : Fld := ⟨3, 3⟩
def fRCK_EVT_STATUS_RETIRED : Fld := ⟨2, 2⟩
def fRCK_EVT_STATUS_MICROFAULT : Fld := ⟨1, 1⟩
def fRCK_EVT_STATUS_DISCARD : Fld := ⟨0, 0⟩
def rRCK_EVT_IRQ_EN : Nat := 0xC00000 + 0x0030
def fRCK_EVT_IRQ_EN_CS_REPAIR : Fld := ⟨5, 5⟩
def fRCK_EVT_IRQ_EN_TABLE_LOW : Fld := ⟨4, 4⟩
def fRCK_EVT_IRQ_EN_TRACE_FULL : Fld := ⟨3, 3⟩
def fRCK_EVT_IRQ_EN_RETIRED : Fld := ⟨2, 2⟩
def fRCK_EVT_IRQ_EN_MICROFAULT : Fld := ⟨1, 1⟩
def fRCK_EVT_IRQ_EN_DISCARD : Fld := ⟨0, 0⟩
def rRCK_MF_INFO : Nat := 0xC00000 + 0x0034
def fRCK_MF_INFO_CAUSE : Fld := ⟨31, 24⟩
def fRCK_MF_INFO_OPEN : Fld := ⟨23, 23⟩
def fRCK_MF_INFO_RECKONER : Fld := ⟨22, 16⟩
def fRCK_MF_INFO_PC : Fld := ⟨14, 0⟩
def rRCK_MF_WORD : Nat := 0xC00000 + 0x0038
def rRCK_ENTRY_SEL : Nat := 0xC00000 + 0x0040
def fRCK_ENTRY_SEL_INDEX : Fld := ⟨11, 0⟩
def rRCK_ENTRY_DATA : Nat := 0xC00000 + 0x0044
def rRCK_D_TASKS (d : Nat) : Nat := 0xC00000 + 0x0100 + 0x100 * d + 0x00
def fRCK_D_TASKS_READY : Fld := ⟨30, 16⟩
def fRCK_D_TASKS_IN_USE : Fld := ⟨14, 0⟩
def rRCK_D_RECK (d : Nat) : Nat := 0xC00000 + 0x100 + 0x100 * d + 0x04
def fRCK_D_RECK_WAITING : Fld := ⟨22, 16⟩
def fRCK_D_RECK_RUNNING : Fld := ⟨14, 8⟩
def fRCK_D_RECK_RETIRED : Fld := ⟨6, 0⟩
def rRCK_D_OCC (d : Nat) : Nat := 0xC00000 + 0x100 + 0x100 * d + 0x08
def fRCK_D_OCC_PCT : Fld := ⟨6, 0⟩
def rRCK_D_RESV (d : Nat) : Nat := 0xC00000 + 0x100 + 0x100 * d + 0x0C
def fRCK_D_RESV_ENTRIES : Fld := ⟨13, 0⟩
def rRCK_D_RETIRED_LO (d : Nat) : Nat := 0xC00000 + 0x100 + 0x100 * d + 0x10
def rRCK_D_RETIRED_HI (d : Nat) : Nat := 0xC00000 + 0x100 + 0x100 * d + 0x14
def rRCK_D_TRACE_WR (d : Nat) : Nat := 0xC00000 + 0x100 + 0x100 * d + 0x18
def rRCK_D_TRACE_RD (d : Nat) : Nat := 0xC00000 + 0x100 + 0x100 * d + 0x1C
def rRCK_D_CNT_LO (d i : Nat) : Nat := 0xC00000 + 0x100 + 0x100 * d + 0x40 + 8 * i
def rRCK_D_CNT_HI (d i : Nat) : Nat := 0xC00000 + 0x100 + 0x100 * d + 0x44 + 8 * i
def rRCK_TYPE_CFG (j : Nat) : Nat := 0xC00000 + 0x0400 + 4 * j
def fRCK_TYPE_CFG_DEADLINE : Fld := ⟨31, 12⟩
def fRCK_TYPE_CFG_BUDGET : Fld := ⟨11, 2⟩
def fRCK_TYPE_CFG_COMMITTED : Fld := ⟨1, 1⟩
def fRCK_TYPE_CFG_NO_REISSUE : Fld := ⟨0, 0⟩
def rRCK_K_STATUS (k : Nat) : Nat := 0xC00000 + 0x0800 + 8 * k
def fRCK_K_STATUS_KSTATE : Fld := ⟨31, 29⟩
def fRCK_K_STATUS_PC : Fld := ⟨14, 0⟩
def rRCK_K_TASK (k : Nat) : Nat := 0xC00000 + 0x0804 + 8 * k
def fRCK_K_TASK_VALID : Fld := ⟨31, 31⟩
def fRCK_K_TASK_GENERATION : Fld := ⟨30, 23⟩
def fRCK_K_TASK_INDEX : Fld := ⟨13, 0⟩

/-- Registers of the RCK_ block, part 0. -/
def regsRCK0 : List RDesc := [
  ⟨0x0, [], [⟨fRCK_CTRL_TRACE_MODE, .rw, 0⟩, ⟨fRCK_CTRL_CS_SCRUB_EN, .rw, 1⟩]⟩,
  ⟨0x4, [], [⟨fRCK_STATUS_VENDOR_LOADED, .ro, 0⟩, ⟨fRCK_STATUS_OPEN_LOADED, .ro, 0⟩, ⟨fRCK_STATUS_OPEN_BUSY, .ro, 0⟩, ⟨fRCK_STATUS_USER_ON, .ro, 0⟩]⟩,
  ⟨0x8, [], [⟨fRCK_VENDOR_VER_MAJOR, .ro, 0⟩, ⟨fRCK_VENDOR_VER_MINOR, .ro, 0⟩, ⟨fRCK_VENDOR_VER_BUILD, .ro, 0⟩]⟩,
  ⟨0xC, [], [⟨fALL, .ro, 0⟩]⟩,
  ⟨0x10, [], [⟨fALL, .ro, 0⟩]⟩,
  ⟨0x14, [], [⟨fRCK_OPEN_CTRL_USER_EN, .rw, 0⟩, ⟨fRCK_OPEN_CTRL_RMD_USER, .rw, 0⟩, ⟨fRCK_OPEN_CTRL_OWNER, .rw, 0⟩, ⟨fRCK_OPEN_CTRL_BLK_WR, .rw, 0⟩]⟩,
  ⟨0x18, [], [⟨fRCK_HEAP_BASE_MIB, .rw, 0⟩]⟩,
  ⟨0x1C, [], [⟨fRCK_HEAP_SIZE_MIB, .rw, 0⟩]⟩,
  ⟨0x20, [], [⟨fRCK_CMD_CFG_DEADLINE, .rw, 1000⟩, ⟨fRCK_CMD_CFG_BUDGET, .rw, 200⟩]⟩,
  ⟨0x24, [], [⟨fRCK_IDLE_PC_PC, .ro, 0⟩]⟩,
  ⟨0x28, [], [⟨fRCK_TRACE_CFG_RING_LOG2, .rw, 20⟩]⟩,
  ⟨0x2C, [], [⟨fRCK_EVT_STATUS_CS_REPAIR, .rw1c, 0⟩, ⟨fRCK_EVT_STATUS_TABLE_LOW, .rw1c, 0⟩, ⟨fRCK_EVT_STATUS_TRACE_FULL, .rw1c, 0⟩, ⟨fRCK_EVT_STATUS_RETIRED, .rw1c, 0⟩, ⟨fRCK_EVT_STATUS_MICROFAULT, .rw1c, 0⟩, ⟨fRCK_EVT_STATUS_DISCARD, .rw1c, 0⟩]⟩,
  ⟨0x30, [], [⟨fRCK_EVT_IRQ_EN_CS_REPAIR, .rw, 0⟩, ⟨fRCK_EVT_IRQ_EN_TABLE_LOW, .rw, 0⟩, ⟨fRCK_EVT_IRQ_EN_TRACE_FULL, .rw, 0⟩, ⟨fRCK_EVT_IRQ_EN_RETIRED, .rw, 0⟩, ⟨fRCK_EVT_IRQ_EN_MICROFAULT, .rw, 0⟩, ⟨fRCK_EVT_IRQ_EN_DISCARD, .rw, 0⟩]⟩,
  ⟨0x34, [], [⟨fRCK_MF_INFO_CAUSE, .ro, 0⟩, ⟨fRCK_MF_INFO_OPEN, .ro, 0⟩, ⟨fRCK_MF_INFO_RECKONER, .ro, 0⟩, ⟨fRCK_MF_INFO_PC, .ro, 0⟩]⟩,
  ⟨0x38, [], [⟨fALL, .ro, 0⟩]⟩,
  ⟨0x40, [], [⟨fRCK_ENTRY_SEL_INDEX, .rw, 0⟩]⟩,
  ⟨0x44, [], [⟨fALL, .ro, 0⟩]⟩,
  ⟨0x100, [(256, 2)], [⟨fRCK_D_TASKS_READY, .ro, 0⟩, ⟨fRCK_D_TASKS_IN_USE, .ro, 0⟩]⟩,
  ⟨0x104, [(256, 2)], [⟨fRCK_D_RECK_WAITING, .ro, 0⟩, ⟨fRCK_D_RECK_RUNNING, .ro, 0⟩, ⟨fRCK_D_RECK_RETIRED, .ro, 0⟩]⟩,
  ⟨0x108, [(256, 2)], [⟨fRCK_D_OCC_PCT, .ro, 0⟩]⟩,
  ⟨0x10C, [(256, 2)], [⟨fRCK_D_RESV_ENTRIES, .rw, 1024⟩]⟩,
  ⟨0x110, [(256, 2)], [⟨fALL, .ro, 0⟩]⟩,
  ⟨0x114, [(256, 2)], [⟨fALL, .ro, 0⟩]⟩,
  ⟨0x118, [(256, 2)], [⟨fALL, .ro, 0⟩]⟩]
/-- Registers of the RCK_ block, part 1. -/
def regsRCK1 : List RDesc := [
  ⟨0x11C, [(256, 2)], [⟨fALL, .rw, 0⟩]⟩,
  ⟨0x140, [(256, 2), (8, 12)], [⟨fALL, .ro, 0⟩]⟩,
  ⟨0x144, [(256, 2), (8, 12)], [⟨fALL, .ro, 0⟩]⟩,
  ⟨0x400, [(4, 64)], [⟨fRCK_TYPE_CFG_DEADLINE, .rw, 0⟩, ⟨fRCK_TYPE_CFG_BUDGET, .rw, 0⟩, ⟨fRCK_TYPE_CFG_COMMITTED, .ro, 0⟩, ⟨fRCK_TYPE_CFG_NO_REISSUE, .ro, 0⟩]⟩,
  ⟨0x800, [(8, 128)], [⟨fRCK_K_STATUS_KSTATE, .ro, 4⟩, ⟨fRCK_K_STATUS_PC, .ro, 0⟩]⟩,
  ⟨0x804, [(8, 128)], [⟨fRCK_K_TASK_VALID, .ro, 0⟩, ⟨fRCK_K_TASK_GENERATION, .ro, 0⟩, ⟨fRCK_K_TASK_INDEX, .ro, 0⟩]⟩]
def regsRCK : List RDesc := regsRCK0 ++ regsRCK1

/-! ### DMA_ block (R438 to R438), base 0xd00000 -/
def rDMA_CTRL : Nat := 0xD00000 + 0x0000
def fDMA_CTRL_EVT_EN : Fld := ⟨1, 1⟩
def fDMA_CTRL_CMD_EN : Fld := ⟨0, 0⟩
def rDMA_STATUS : Nat := 0xD00000 + 0x0004
def fDMA_STATUS_GEN : Fld := ⟨31, 28⟩
def fDMA_STATUS_WIDTH : Fld := ⟨27, 22⟩
def fDMA_STATUS_LINK_LOST : Fld := ⟨21, 21⟩
def fDMA_STATUS_FLR_SEEN : Fld := ⟨20, 20⟩
def fDMA_STATUS_OUTSTANDING : Fld := ⟨12, 0⟩
def rDMA_CPL_TIMEOUT : Nat := 0xD00000 + 0x0008
def fDMA_CPL_TIMEOUT_US : Fld := ⟨15, 0⟩
def rDMA_CMD_CFG : Nat := 0xD00000 + 0x000C
def fDMA_CMD_CFG_RELAY_DECKS : Fld := ⟨31, 16⟩
def fDMA_CMD_CFG_BATCH_TTL : Fld := ⟨15, 0⟩
def rDMA_EVT_BASE_LO : Nat := 0xD00000 + 0x0010
def rDMA_EVT_BASE_HI : Nat := 0xD00000 + 0x0014
def rDMA_EVT_CFG : Nat := 0xD00000 + 0x0018
def fDMA_EVT_CFG_SIZE_LOG2 : Fld := ⟨4, 0⟩
def rDMA_EVT_WR : Nat := 0xD00000 + 0x001C
def rDMA_EVT_RD : Nat := 0xD00000 + 0x0020
def rDMA_EVT_STATUS : Nat := 0xD00000 + 0x0024
def fDMA_EVT_STATUS_BATCH_EXPIRED : Fld := ⟨3, 3⟩
def fDMA_EVT_STATUS_PUNT_DROP : Fld := ⟨2, 2⟩
def fDMA_EVT_STATUS_RING_ERR : Fld := ⟨1, 1⟩
def fDMA_EVT_STATUS_CHAN_HALT : Fld := ⟨0, 0⟩
def rDMA_EVT_IRQ_EN : Nat := 0xD00000 + 0x0028
def fDMA_EVT_IRQ_EN_BATCH_EXPIRED : Fld := ⟨3, 3⟩
def fDMA_EVT_IRQ_EN_PUNT_DROP : Fld := ⟨2, 2⟩
def fDMA_EVT_IRQ_EN_RING_ERR : Fld := ⟨1, 1⟩
def fDMA_EVT_IRQ_EN_CHAN_HALT : Fld := ⟨0, 0⟩
def rDMA_PUNT_MAP_LO : Nat := 0xD00000 + 0x002C
def rDMA_PUNT_MAP_HI : Nat := 0xD00000 + 0x0030
def rDMA_CNT_LO (i : Nat) : Nat := 0xD00000 + 0x0100 + 8 * i
def rDMA_CNT_HI (i : Nat) : Nat := 0xD00000 + 0x0104 + 8 * i
def rDMA_CR_BASE_LO (r : Nat) : Nat := 0xD00000 + 0x1000 + 0x40 * r + 0x00
def rDMA_CR_BASE_HI (r : Nat) : Nat := 0xD00000 + 0x1000 + 0x40 * r + 0x04
def rDMA_RR_BASE_LO (r : Nat) : Nat := 0xD00000 + 0x1000 + 0x40 * r + 0x14
def rDMA_RR_BASE_HI (r : Nat) : Nat := 0xD00000 + 0x1000 + 0x40 * r + 0x18
def rDMA_CR_CFG (r : Nat) : Nat := 0xD00000 + 0x1000 + 0x40 * r + 0x08
def fDMA_CR_CFG_EN : Fld := ⟨31, 31⟩
def fDMA_CR_CFG_SIZE_LOG2 : Fld := ⟨30, 26⟩
def fDMA_CR_CFG_SLOT_LOG2 : Fld := ⟨25, 22⟩
def fDMA_CR_CFG_MAX_OUT : Fld := ⟨12, 0⟩
def rDMA_CR_PROD (r : Nat) : Nat := 0xD00000 + 0x1000 + 0x40 * r + 0x0C
def rDMA_CR_CONS (r : Nat) : Nat := 0xD00000 + 0x1000 + 0x40 * r + 0x10
def rDMA_RR_WR (r : Nat) : Nat := 0xD00000 + 0x1000 + 0x40 * r + 0x1C
def rDMA_RR_RD (r : Nat) : Nat := 0xD00000 + 0x1000 + 0x40 * r + 0x20
def rDMA_CR_STATUS (r : Nat) : Nat := 0xD00000 + 0x1000 + 0x40 * r + 0x24
def fDMA_CR_STATUS_ERR : Fld := ⟨31, 31⟩
def fDMA_CR_STATUS_CAUSE : Fld := ⟨30, 28⟩
def fDMA_CR_STATUS_OUT : Fld := ⟨12, 0⟩
def rDMA_PUNT_BASE_LO (q : Nat) : Nat := 0xD00000 + 0x2000 + 0x20 * q + 0x00
def rDMA_PUNT_BASE_HI (q : Nat) : Nat := 0xD00000 + 0x2000 + 0x20 * q + 0x04
def rDMA_PUNT_CFG (q : Nat) : Nat := 0xD00000 + 0x2000 + 0x20 * q + 0x08
def fDMA_PUNT_CFG_EN : Fld := ⟨31, 31⟩
def fDMA_PUNT_CFG_SIZE_LOG2 : Fld := ⟨20, 16⟩
def fDMA_PUNT_CFG_SLOT_LOG2 : Fld := ⟨11, 8⟩
def rDMA_PUNT_WR (q : Nat) : Nat := 0xD00000 + 0x2000 + 0x20 * q + 0x0C
def rDMA_PUNT_RD (q : Nat) : Nat := 0xD00000 + 0x2000 + 0x20 * q + 0x10
def rDMA_IRQ_MAP (s : Nat) : Nat := 0xD00000 + 0x3000 + 4 * s
def fDMA_IRQ_MAP_EN : Fld := ⟨31, 31⟩
def fDMA_IRQ_MAP_HOLDOFF_RODS : Fld := ⟨23, 16⟩
def fDMA_IRQ_MAP_VECTOR : Fld := ⟨10, 0⟩
def rDMA_CH_SRC_LO (n : Nat) : Nat := 0xD00000 + 0x8000 + 0x40 * n + 0x00
def rDMA_CH_SRC_HI (n : Nat) : Nat := 0xD00000 + 0x8000 + 0x40 * n + 0x04
def rDMA_CH_DST_LO (n : Nat) : Nat := 0xD00000 + 0x8000 + 0x40 * n + 0x08
def rDMA_CH_DST_HI (n : Nat) : Nat := 0xD00000 + 0x8000 + 0x40 * n + 0x0C
def rDMA_CH_DESC_LO (n : Nat) : Nat := 0xD00000 + 0x8000 + 0x40 * n + 0x1C
def rDMA_CH_DESC_HI (n : Nat) : Nat := 0xD00000 + 0x8000 + 0x40 * n + 0x20
def rDMA_CH_COUNT (n : Nat) : Nat := 0xD00000 + 0x8000 + 0x40 * n + 0x10
def rDMA_CH_CTRL (n : Nat) : Nat := 0xD00000 + 0x8000 + 0x40 * n + 0x14
def fDMA_CH_CTRL_START : Fld := ⟨31, 31⟩
def fDMA_CH_CTRL_DISABLE : Fld := ⟨30, 30⟩
def fDMA_CH_CTRL_MODE : Fld := ⟨29, 28⟩
def fDMA_CH_CTRL_SRC_SPACE : Fld := ⟨26, 24⟩
def fDMA_CH_CTRL_DST_SPACE : Fld := ⟨23, 21⟩
def rDMA_CH_STATUS (n : Nat) : Nat := 0xD00000 + 0x8000 + 0x40 * n + 0x18
def fDMA_CH_STATUS_STATE : Fld := ⟨31, 30⟩
def fDMA_CH_STATUS_DONE : Fld := ⟨29, 29⟩
def fDMA_CH_STATUS_ZERO : Fld := ⟨28, 28⟩
def fDMA_CH_STATUS_CAUSE : Fld := ⟨27, 24⟩
def fDMA_CH_STATUS_ERR_DIR : Fld := ⟨23, 23⟩
def fDMA_CH_STATUS_ERR_DESC : Fld := ⟨22, 22⟩
def fDMA_CH_STATUS_DESCS : Fld := ⟨15, 0⟩
def rDMA_CH_HOP (n : Nat) : Nat := 0xD00000 + 0x8000 + 0x40 * n + 0x24
def fDMA_CH_HOP_LIMIT : Fld := ⟨15, 0⟩
def rDMA_CH_RING_CFG (n : Nat) : Nat := 0xD00000 + 0x8000 + 0x40 * n + 0x28
def fDMA_CH_RING_CFG_RING_SIZE_LOG2 : Fld := ⟨4, 0⟩
def rDMA_CH_RING_TAIL (n : Nat) : Nat := 0xD00000 + 0x8000 + 0x40 * n + 0x2C
def rDMA_CH_RING_HEAD (n : Nat) : Nat := 0xD00000 + 0x8000 + 0x40 * n + 0x30
def rDMA_CH_ERR_LO (n : Nat) : Nat := 0xD00000 + 0x8000 + 0x40 * n + 0x34
def rDMA_CH_ERR_HI (n : Nat) : Nat := 0xD00000 + 0x8000 + 0x40 * n + 0x38

/-- Registers of the DMA_ block, part 0. -/
def regsDMA0 : List RDesc := [
  ⟨0x0, [], [⟨fDMA_CTRL_EVT_EN, .rw, 0⟩, ⟨fDMA_CTRL_CMD_EN, .rw, 0⟩]⟩,
  ⟨0x4, [], [⟨fDMA_STATUS_GEN, .ro, 0⟩, ⟨fDMA_STATUS_WIDTH, .ro, 0⟩, ⟨fDMA_STATUS_LINK_LOST, .rw1c, 0⟩, ⟨fDMA_STATUS_FLR_SEEN, .rw1c, 0⟩, ⟨fDMA_STATUS_OUTSTANDING, .ro, 0⟩]⟩,
  ⟨0x8, [], [⟨fDMA_CPL_TIMEOUT_US, .rw, 1000⟩]⟩,
  ⟨0xC, [], [⟨fDMA_CMD_CFG_RELAY_DECKS, .rw, 100⟩, ⟨fDMA_CMD_CFG_BATCH_TTL, .rw, 1000⟩]⟩,
  ⟨0x10, [], [⟨fALL, .rw, 0⟩]⟩,
  ⟨0x14, [], [⟨fALL, .rw, 0⟩]⟩,
  ⟨0x18, [], [⟨fDMA_EVT_CFG_SIZE_LOG2, .rw, 12⟩]⟩,
  ⟨0x1C, [], [⟨fALL, .ro, 0⟩]⟩,
  ⟨0x20, [], [⟨fALL, .rw, 0⟩]⟩,
  ⟨0x24, [], [⟨fDMA_EVT_STATUS_BATCH_EXPIRED, .rw1c, 0⟩, ⟨fDMA_EVT_STATUS_PUNT_DROP, .rw1c, 0⟩, ⟨fDMA_EVT_STATUS_RING_ERR, .rw1c, 0⟩, ⟨fDMA_EVT_STATUS_CHAN_HALT, .rw1c, 0⟩]⟩,
  ⟨0x28, [], [⟨fDMA_EVT_IRQ_EN_BATCH_EXPIRED, .rw, 0⟩, ⟨fDMA_EVT_IRQ_EN_PUNT_DROP, .rw, 0⟩, ⟨fDMA_EVT_IRQ_EN_RING_ERR, .rw, 0⟩, ⟨fDMA_EVT_IRQ_EN_CHAN_HALT, .rw, 0⟩]⟩,
  ⟨0x2C, [], [⟨fALL, .rw, 0⟩]⟩,
  ⟨0x30, [], [⟨fALL, .rw, 0⟩]⟩,
  ⟨0x100, [(8, 8)], [⟨fALL, .ro, 0⟩]⟩,
  ⟨0x104, [(8, 8)], [⟨fALL, .ro, 0⟩]⟩,
  ⟨0x1000, [(64, 16)], [⟨fALL, .rw, 0⟩]⟩,
  ⟨0x1004, [(64, 16)], [⟨fALL, .rw, 0⟩]⟩,
  ⟨0x1014, [(64, 16)], [⟨fALL, .rw, 0⟩]⟩,
  ⟨0x1018, [(64, 16)], [⟨fALL, .rw, 0⟩]⟩,
  ⟨0x1008, [(64, 16)], [⟨fDMA_CR_CFG_EN, .rw, 0⟩, ⟨fDMA_CR_CFG_SIZE_LOG2, .rw, 8⟩, ⟨fDMA_CR_CFG_SLOT_LOG2, .rw, 8⟩, ⟨fDMA_CR_CFG_MAX_OUT, .rw, 256⟩]⟩,
  ⟨0x100C, [(64, 16)], [⟨fALL, .rw, 0⟩]⟩,
  ⟨0x1010, [(64, 16)], [⟨fALL, .ro, 0⟩]⟩,
  ⟨0x101C, [(64, 16)], [⟨fALL, .ro, 0⟩]⟩,
  ⟨0x1020, [(64, 16)], [⟨fALL, .rw, 0⟩]⟩]
/-- Registers of the DMA_ block, part 1. -/
def regsDMA1 : List RDesc := [
  ⟨0x1024, [(64, 16)], [⟨fDMA_CR_STATUS_ERR, .rw1c, 0⟩, ⟨fDMA_CR_STATUS_CAUSE, .ro, 0⟩, ⟨fDMA_CR_STATUS_OUT, .ro, 0⟩]⟩,
  ⟨0x2000, [(32, 16)], [⟨fALL, .rw, 0⟩]⟩,
  ⟨0x2004, [(32, 16)], [⟨fALL, .rw, 0⟩]⟩,
  ⟨0x2008, [(32, 16)], [⟨fDMA_PUNT_CFG_EN, .rw, 0⟩, ⟨fDMA_PUNT_CFG_SIZE_LOG2, .rw, 10⟩, ⟨fDMA_PUNT_CFG_SLOT_LOG2, .rw, 11⟩]⟩,
  ⟨0x200C, [(32, 16)], [⟨fALL, .ro, 0⟩]⟩,
  ⟨0x2010, [(32, 16)], [⟨fALL, .rw, 0⟩]⟩,
  ⟨0x3000, [(4, 128)], [⟨fDMA_IRQ_MAP_EN, .rw, 0⟩, ⟨fDMA_IRQ_MAP_HOLDOFF_RODS, .rw, 0⟩, ⟨fDMA_IRQ_MAP_VECTOR, .rw, 0⟩]⟩,
  ⟨0x8000, [(64, 64)], [⟨fALL, .rw, 0⟩]⟩,
  ⟨0x8004, [(64, 64)], [⟨fALL, .rw, 0⟩]⟩,
  ⟨0x8008, [(64, 64)], [⟨fALL, .rw, 0⟩]⟩,
  ⟨0x800C, [(64, 64)], [⟨fALL, .rw, 0⟩]⟩,
  ⟨0x801C, [(64, 64)], [⟨fALL, .rw, 0⟩]⟩,
  ⟨0x8020, [(64, 64)], [⟨fALL, .rw, 0⟩]⟩,
  ⟨0x8010, [(64, 64)], [⟨fALL, .rw, 0⟩]⟩,
  ⟨0x8014, [(64, 64)], [⟨fDMA_CH_CTRL_START, .wo, 0⟩, ⟨fDMA_CH_CTRL_DISABLE, .wo, 0⟩, ⟨fDMA_CH_CTRL_MODE, .rw, 0⟩, ⟨fDMA_CH_CTRL_SRC_SPACE, .rw, 0⟩, ⟨fDMA_CH_CTRL_DST_SPACE, .rw, 0⟩]⟩,
  ⟨0x8018, [(64, 64)], [⟨fDMA_CH_STATUS_STATE, .ro, 0⟩, ⟨fDMA_CH_STATUS_DONE, .rw1c, 0⟩, ⟨fDMA_CH_STATUS_ZERO, .rw1c, 0⟩, ⟨fDMA_CH_STATUS_CAUSE, .ro, 0⟩, ⟨fDMA_CH_STATUS_ERR_DIR, .ro, 0⟩, ⟨fDMA_CH_STATUS_ERR_DESC, .ro, 0⟩, ⟨fDMA_CH_STATUS_DESCS, .ro, 0⟩]⟩,
  ⟨0x8024, [(64, 64)], [⟨fDMA_CH_HOP_LIMIT, .rw, 4096⟩]⟩,
  ⟨0x8028, [(64, 64)], [⟨fDMA_CH_RING_CFG_RING_SIZE_LOG2, .rw, 8⟩]⟩,
  ⟨0x802C, [(64, 64)], [⟨fALL, .rw, 0⟩]⟩,
  ⟨0x8030, [(64, 64)], [⟨fALL, .ro, 0⟩]⟩,
  ⟨0x8034, [(64, 64)], [⟨fALL, .ro, 0⟩]⟩,
  ⟨0x8038, [(64, 64)], [⟨fALL, .ro, 0⟩]⟩]
def regsDMA : List RDesc := regsDMA0 ++ regsDMA1

/-! ### POOL_ block (R439 to R439), base 0xe00000 -/
def rPOOL_SPLIT (d : Nat) : Nat := 0xE00000 + 0x100 * d + 0x00
def fPOOL_SPLIT_P16K : Fld := ⟨31, 24⟩
def fPOOL_SPLIT_P4K : Fld := ⟨23, 16⟩
def fPOOL_SPLIT_P1K : Fld := ⟨15, 8⟩
def fPOOL_SPLIT_P256 : Fld := ⟨7, 0⟩
def rPOOL_STATUS (d : Nat) : Nat := 0xE00000 + 0x100 * d + 0x04
def fPOOL_STATUS_SPLIT_ERR : Fld := ⟨2, 2⟩
def fPOOL_STATUS_RESV_ERR : Fld := ⟨1, 1⟩
def fPOOL_STATUS_BAD_RETURN : Fld := ⟨0, 0⟩
def rPOOL_FREE_A (d : Nat) : Nat := 0xE00000 + 0x100 * d + 0x08
def fPOOL_FREE_A_HI : Fld := ⟨31, 16⟩
def fPOOL_FREE_A_LO : Fld := ⟨15, 0⟩
def rPOOL_FREE_B (d : Nat) : Nat := 0xE00000 + 0x100 * d + 0x0C
def fPOOL_FREE_B_HI : Fld := ⟨31, 16⟩
def fPOOL_FREE_B_LO : Fld := ⟨15, 0⟩
def rPOOL_LOW (d : Nat) : Nat := 0xE00000 + 0x100 * d + 0x10
def fPOOL_LOW_PCT : Fld := ⟨6, 0⟩
def rPOOL_CNT_LO (d i : Nat) : Nat := 0xE00000 + 0x100 * d + 0x20 + 8 * i
def rPOOL_CNT_HI (d i : Nat) : Nat := 0xE00000 + 0x100 * d + 0x24 + 8 * i
def rPOOL_EVT_STATUS : Nat := 0xE00000 + 0x0800
def fPOOL_EVT_STATUS_BAD_RETURN : Fld := ⟨1, 1⟩
def fPOOL_EVT_STATUS_LOW : Fld := ⟨0, 0⟩
def rPOOL_EVT_IRQ_EN : Nat := 0xE00000 + 0x0804
def fPOOL_EVT_IRQ_EN_BAD_RETURN : Fld := ⟨1, 1⟩
def fPOOL_EVT_IRQ_EN_LOW : Fld := ⟨0, 0⟩
def rPOOL_MIN_A (d o : Nat) : Nat := 0xE00000 + 0x1000 + 0x100 * d + 0x10 * o + 0x0
def fPOOL_MIN_A_HI : Fld := ⟨31, 16⟩
def fPOOL_MIN_A_LO : Fld := ⟨15, 0⟩
def rPOOL_MIN_B (d o : Nat) : Nat := 0xE00000 + 0x1000 + 0x100 * d + 0x10 * o + 0x4
def fPOOL_MIN_B_HI : Fld := ⟨31, 16⟩
def fPOOL_MIN_B_LO : Fld := ⟨15, 0⟩
def rPOOL_HELD_A (d o : Nat) : Nat := 0xE00000 + 0x1000 + 0x100 * d + 0x10 * o + 0x8
def fPOOL_HELD_A_HI : Fld := ⟨31, 16⟩
def fPOOL_HELD_A_LO : Fld := ⟨15, 0⟩
def rPOOL_HELD_B (d o : Nat) : Nat := 0xE00000 + 0x1000 + 0x100 * d + 0x10 * o + 0xC
def fPOOL_HELD_B_HI : Fld := ⟨31, 16⟩
def fPOOL_HELD_B_LO : Fld := ⟨15, 0⟩

/-- Registers of the POOL_ block, part 0. -/
def regsPOOL0 : List RDesc := [
  ⟨0x0, [(256, 2)], [⟨fPOOL_SPLIT_P16K, .rw, 8⟩, ⟨fPOOL_SPLIT_P4K, .rw, 8⟩, ⟨fPOOL_SPLIT_P1K, .rw, 8⟩, ⟨fPOOL_SPLIT_P256, .rw, 8⟩]⟩,
  ⟨0x4, [(256, 2)], [⟨fPOOL_STATUS_SPLIT_ERR, .rw1c, 0⟩, ⟨fPOOL_STATUS_RESV_ERR, .rw1c, 0⟩, ⟨fPOOL_STATUS_BAD_RETURN, .rw1c, 0⟩]⟩,
  ⟨0x8, [(256, 2)], [⟨fPOOL_FREE_A_HI, .ro, 8192⟩, ⟨fPOOL_FREE_A_LO, .ro, 2048⟩]⟩,
  ⟨0xC, [(256, 2)], [⟨fPOOL_FREE_B_HI, .ro, 512⟩, ⟨fPOOL_FREE_B_LO, .ro, 128⟩]⟩,
  ⟨0x10, [(256, 2)], [⟨fPOOL_LOW_PCT, .rw, 10⟩]⟩,
  ⟨0x20, [(256, 2), (8, 4)], [⟨fALL, .ro, 0⟩]⟩,
  ⟨0x24, [(256, 2), (8, 4)], [⟨fALL, .ro, 0⟩]⟩,
  ⟨0x800, [], [⟨fPOOL_EVT_STATUS_BAD_RETURN, .rw1c, 0⟩, ⟨fPOOL_EVT_STATUS_LOW, .rw1c, 0⟩]⟩,
  ⟨0x804, [], [⟨fPOOL_EVT_IRQ_EN_BAD_RETURN, .rw, 0⟩, ⟨fPOOL_EVT_IRQ_EN_LOW, .rw, 0⟩]⟩,
  ⟨0x1000, [(256, 2), (16, 16)], [⟨fPOOL_MIN_A_HI, .rw, 0⟩, ⟨fPOOL_MIN_A_LO, .rw, 0⟩]⟩,
  ⟨0x1004, [(256, 2), (16, 16)], [⟨fPOOL_MIN_B_HI, .rw, 0⟩, ⟨fPOOL_MIN_B_LO, .rw, 0⟩]⟩,
  ⟨0x1008, [(256, 2), (16, 16)], [⟨fPOOL_HELD_A_HI, .ro, 0⟩, ⟨fPOOL_HELD_A_LO, .ro, 0⟩]⟩,
  ⟨0x100C, [(256, 2), (16, 16)], [⟨fPOOL_HELD_B_HI, .ro, 0⟩, ⟨fPOOL_HELD_B_LO, .ro, 0⟩]⟩]
def regsPOOL : List RDesc := regsPOOL0

/-! ### DOM_ block (R458 to R458), base 0xf00000 -/
def rDOM_CTRL : Nat := 0xF00000 + 0x0000
def fDOM_CTRL_EN : Fld := ⟨31, 31⟩
def fDOM_CTRL_ROOT_ELIG : Fld := ⟨30, 30⟩
def fDOM_CTRL_FALLBACK_EN : Fld := ⟨29, 29⟩
def rDOM_ID : Nat := 0xF00000 + 0x0004
def fDOM_ID_DOMAIN : Fld := ⟨31, 16⟩
def fDOM_ID_DEVICE : Fld := ⟨10, 0⟩
def rDOM_ROOT_CFG : Nat := 0xF00000 + 0x0008
def fDOM_ROOT_CFG_ROOT_HOLD_RODS : Fld := ⟨15, 8⟩
def fDOM_ROOT_CFG_ROOT_PRI : Fld := ⟨7, 0⟩
def rDOM_ETYPE : Nat := 0xF00000 + 0x000C
def fDOM_ETYPE_ETYPE : Fld := ⟨15, 0⟩
def rDOM_TIMER : Nat := 0xF00000 + 0x0010
def fDOM_TIMER_FLOOD_HOPS : Fld := ⟨15, 8⟩
def fDOM_TIMER_MISS_RODS : Fld := ⟨7, 0⟩
def rDOM_STATUS : Nat := 0xF00000 + 0x0014
def fDOM_STATUS_STATE : Fld := ⟨31, 29⟩
def fDOM_STATUS_CFG_ERR : Fld := ⟨28, 28⟩
def fDOM_STATUS_PARENT_PORT : Fld := ⟨24, 16⟩
def fDOM_STATUS_DEPTH : Fld := ⟨15, 8⟩
def fDOM_STATUS_CHILDREN : Fld := ⟨5, 0⟩
def rDOM_TREE : Nat := 0xF00000 + 0x0018
def fDOM_TREE_ROOT_VALID : Fld := ⟨31, 31⟩
def fDOM_TREE_ROOT : Fld := ⟨26, 16⟩
def fDOM_TREE_PARENT_VALID : Fld := ⟨15, 15⟩
def fDOM_TREE_PARENT : Fld := ⟨10, 0⟩
def rDOM_SERIAL_LO : Nat := 0xF00000 + 0x001C
def rDOM_SERIAL_HI : Nat := 0xF00000 + 0x0020
def rDOM_EVT_STATUS : Nat := 0xF00000 + 0x0024
def fDOM_EVT_STATUS_NEIGH_CHANGE : Fld := ⟨8, 8⟩
def fDOM_EVT_STATUS_DEPTH_LIMIT : Fld := ⟨7, 7⟩
def fDOM_EVT_STATUS_FALLBACK_USED : Fld := ⟨6, 6⟩
def fDOM_EVT_STATUS_REMOTE_FAULT : Fld := ⟨5, 5⟩
def fDOM_EVT_STATUS_DUP_NUMBER : Fld := ⟨4, 4⟩
def fDOM_EVT_STATUS_CHILD_LOST : Fld := ⟨3, 3⟩
def fDOM_EVT_STATUS_CHILD_JOIN : Fld := ⟨2, 2⟩
def fDOM_EVT_STATUS_PARENT_CHANGE : Fld := ⟨1, 1⟩
def fDOM_EVT_STATUS_STATE_CHANGE : Fld := ⟨0, 0⟩
def rDOM_EVT_IRQ_EN : Nat := 0xF00000 + 0x0028
def fDOM_EVT_IRQ_EN_NEIGH_CHANGE : Fld := ⟨8, 8⟩
def fDOM_EVT_IRQ_EN_DEPTH_LIMIT : Fld := ⟨7, 7⟩
def fDOM_EVT_IRQ_EN_FALLBACK_USED : Fld := ⟨6, 6⟩
def fDOM_EVT_IRQ_EN_REMOTE_FAULT : Fld := ⟨5, 5⟩
def fDOM_EVT_IRQ_EN_DUP_NUMBER : Fld := ⟨4, 4⟩
def fDOM_EVT_IRQ_EN_CHILD_LOST : Fld := ⟨3, 3⟩
def fDOM_EVT_IRQ_EN_CHILD_JOIN : Fld := ⟨2, 2⟩
def fDOM_EVT_IRQ_EN_PARENT_CHANGE : Fld := ⟨1, 1⟩
def fDOM_EVT_IRQ_EN_STATE_CHANGE : Fld := ⟨0, 0⟩
def rDOM_PORT_EN (j : Nat) : Nat := 0xF00000 + 0x0040 + 4 * j
def rDOM_CNT_LO (i : Nat) : Nat := 0xF00000 + 0x0100 + 8 * i
def rDOM_CNT_HI (i : Nat) : Nat := 0xF00000 + 0x0104 + 8 * i

/-- Registers of the DOM_ block, part 0. -/
def regsDOM0 : List RDesc := [
  ⟨0x0, [], [⟨fDOM_CTRL_EN, .rw, 0⟩, ⟨fDOM_CTRL_ROOT_ELIG, .rw, 0⟩, ⟨fDOM_CTRL_FALLBACK_EN, .rw, 1⟩]⟩,
  ⟨0x4, [], [⟨fDOM_ID_DOMAIN, .rw, 0⟩, ⟨fDOM_ID_DEVICE, .rw, 0⟩]⟩,
  ⟨0x8, [], [⟨fDOM_ROOT_CFG_ROOT_HOLD_RODS, .rw, 20⟩, ⟨fDOM_ROOT_CFG_ROOT_PRI, .rw, 0⟩]⟩,
  ⟨0xC, [], [⟨fDOM_ETYPE_ETYPE, .rw, 34997⟩]⟩,
  ⟨0x10, [], [⟨fDOM_TIMER_FLOOD_HOPS, .rw, 12⟩, ⟨fDOM_TIMER_MISS_RODS, .rw, 21⟩]⟩,
  ⟨0x14, [], [⟨fDOM_STATUS_STATE, .ro, 0⟩, ⟨fDOM_STATUS_CFG_ERR, .rw1c, 0⟩, ⟨fDOM_STATUS_PARENT_PORT, .ro, 0⟩, ⟨fDOM_STATUS_DEPTH, .ro, 255⟩, ⟨fDOM_STATUS_CHILDREN, .ro, 0⟩]⟩,
  ⟨0x18, [], [⟨fDOM_TREE_ROOT_VALID, .ro, 0⟩, ⟨fDOM_TREE_ROOT, .ro, 0⟩, ⟨fDOM_TREE_PARENT_VALID, .ro, 0⟩, ⟨fDOM_TREE_PARENT, .ro, 0⟩]⟩,
  ⟨0x1C, [], [⟨fALL, .ro, 0⟩]⟩,
  ⟨0x20, [], [⟨fALL, .ro, 0⟩]⟩,
  ⟨0x24, [], [⟨fDOM_EVT_STATUS_NEIGH_CHANGE, .rw1c, 0⟩, ⟨fDOM_EVT_STATUS_DEPTH_LIMIT, .rw1c, 0⟩, ⟨fDOM_EVT_STATUS_FALLBACK_USED, .rw1c, 0⟩, ⟨fDOM_EVT_STATUS_REMOTE_FAULT, .rw1c, 0⟩, ⟨fDOM_EVT_STATUS_DUP_NUMBER, .rw1c, 0⟩, ⟨fDOM_EVT_STATUS_CHILD_LOST, .rw1c, 0⟩, ⟨fDOM_EVT_STATUS_CHILD_JOIN, .rw1c, 0⟩, ⟨fDOM_EVT_STATUS_PARENT_CHANGE, .rw1c, 0⟩, ⟨fDOM_EVT_STATUS_STATE_CHANGE, .rw1c, 0⟩]⟩,
  ⟨0x28, [], [⟨fDOM_EVT_IRQ_EN_NEIGH_CHANGE, .rw, 0⟩, ⟨fDOM_EVT_IRQ_EN_DEPTH_LIMIT, .rw, 0⟩, ⟨fDOM_EVT_IRQ_EN_FALLBACK_USED, .rw, 0⟩, ⟨fDOM_EVT_IRQ_EN_REMOTE_FAULT, .rw, 0⟩, ⟨fDOM_EVT_IRQ_EN_DUP_NUMBER, .rw, 0⟩, ⟨fDOM_EVT_IRQ_EN_CHILD_LOST, .rw, 0⟩, ⟨fDOM_EVT_IRQ_EN_CHILD_JOIN, .rw, 0⟩, ⟨fDOM_EVT_IRQ_EN_PARENT_CHANGE, .rw, 0⟩, ⟨fDOM_EVT_IRQ_EN_STATE_CHANGE, .rw, 0⟩]⟩,
  ⟨0x40, [(4, 16)], [⟨fALL, .rw, 0⟩]⟩,
  ⟨0x100, [(8, 12)], [⟨fALL, .ro, 0⟩]⟩,
  ⟨0x104, [(8, 12)], [⟨fALL, .ro, 0⟩]⟩]
def regsDOM : List RDesc := regsDOM0

/-! ### NRG_ block (R474 to R474), base 0x1000000 -/
def rNRG_CTRL : Nat := 0x1000000 + 0x0000
def fNRG_CTRL_EN : Fld := ⟨31, 31⟩
def fNRG_CTRL_GATE_EN : Fld := ⟨30, 30⟩
def fNRG_CTRL_THR_MODE : Fld := ⟨29, 28⟩
def fNRG_CTRL_MARGIN_PCT : Fld := ⟨7, 0⟩
def rNRG_LIMIT : Nat := 0x1000000 + 0x0004
def fNRG_LIMIT_WATTS : Fld := ⟨9, 0⟩
def rNRG_STATUS : Nat := 0x1000000 + 0x0008
def fNRG_STATUS_THROTTLING : Fld := ⟨31, 31⟩
def fNRG_STATUS_OVER : Fld := ⟨30, 30⟩
def fNRG_STATUS_XCHK_BAD : Fld := ⟨29, 29⟩
def fNRG_STATUS_LEVEL : Fld := ⟨8, 0⟩
def rNRG_ROD_LO : Nat := 0x1000000 + 0x000C
def rNRG_ROD_HI : Nat := 0x1000000 + 0x0010
def rNRG_PLAN : Nat := 0x1000000 + 0x0014
def fNRG_PLAN_RELEASE_RODS : Fld := ⟨31, 24⟩
def fNRG_PLAN_FORECAST_RODS : Fld := ⟨23, 16⟩
def fNRG_PLAN_EMIN_PCT : Fld := ⟨15, 8⟩
def fNRG_PLAN_DMIN_PCT : Fld := ⟨7, 0⟩
def rNRG_GATE : Nat := 0x1000000 + 0x0018
def fNRG_GATE_IDLE_RODS : Fld := ⟨7, 0⟩
def rNRG_XCHK : Nat := 0x1000000 + 0x001C
def fNRG_XCHK_RODS : Fld := ⟨15, 8⟩
def fNRG_XCHK_TOL_PCT : Fld := ⟨7, 0⟩
def rNRG_EVT_CFG : Nat := 0x1000000 + 0x0020
def fNRG_EVT_CFG_OVER_RODS : Fld := ⟨15, 0⟩
def rNRG_EVT_STATUS : Nat := 0x1000000 + 0x0024
def fNRG_EVT_STATUS_LIMIT_CHANGE : Fld := ⟨4, 4⟩
def fNRG_EVT_STATUS_XCHK : Fld := ⟨3, 3⟩
def fNRG_EVT_STATUS_OVER : Fld := ⟨2, 2⟩
def fNRG_EVT_STATUS_THROTTLE_OFF : Fld := ⟨1, 1⟩
def fNRG_EVT_STATUS_THROTTLE_ON : Fld := ⟨0, 0⟩
def rNRG_EVT_IRQ_EN : Nat := 0x1000000 + 0x0028
def fNRG_EVT_IRQ_EN_LIMIT_CHANGE : Fld := ⟨4, 4⟩
def fNRG_EVT_IRQ_EN_XCHK : Fld := ⟨3, 3⟩
def fNRG_EVT_IRQ_EN_OVER : Fld := ⟨2, 2⟩
def fNRG_EVT_IRQ_EN_THROTTLE_OFF : Fld := ⟨1, 1⟩
def fNRG_EVT_IRQ_EN_THROTTLE_ON : Fld := ⟨0, 0⟩
def rNRG_RING : Nat := 0x1000000 + 0x002C
def fNRG_RING_RING_LOG2 : Fld := ⟨4, 0⟩
def rNRG_RING_WR : Nat := 0x1000000 + 0x0030
def rNRG_RING_RD : Nat := 0x1000000 + 0x0034
def rNRG_ACCT (a : Nat) : Nat := 0x1000000 + 0x0100 + 4 * a
def rNRG_CLASS (c : Nat) : Nat := 0x1000000 + 0x0140 + 4 * c
def rNRG_SENSOR (k : Nat) : Nat := 0x1000000 + 0x0160 + 4 * k
def rNRG_CNT_LO (i : Nat) : Nat := 0x1000000 + 0x0200 + 8 * i
def rNRG_CNT_HI (i : Nat) : Nat := 0x1000000 + 0x0204 + 8 * i
def rNRG_BE (p : Nat) : Nat := 0x1000000 + 0x0400 + 4 * p
def fNRG_BE_PRI : Fld := ⟨7, 0⟩

/-- Registers of the NRG_ block, part 0. -/
def regsNRG0 : List RDesc := [
  ⟨0x0, [], [⟨fNRG_CTRL_EN, .rw, 1⟩, ⟨fNRG_CTRL_GATE_EN, .rw, 0⟩, ⟨fNRG_CTRL_THR_MODE, .rw, 2⟩, ⟨fNRG_CTRL_MARGIN_PCT, .rw, 5⟩]⟩,
  ⟨0x4, [], [⟨fNRG_LIMIT_WATTS, .rw, 900⟩]⟩,
  ⟨0x8, [], [⟨fNRG_STATUS_THROTTLING, .ro, 0⟩, ⟨fNRG_STATUS_OVER, .ro, 0⟩, ⟨fNRG_STATUS_XCHK_BAD, .ro, 0⟩, ⟨fNRG_STATUS_LEVEL, .ro, 0⟩]⟩,
  ⟨0xC, [], [⟨fALL, .ro, 0⟩]⟩,
  ⟨0x10, [], [⟨fALL, .ro, 0⟩]⟩,
  ⟨0x14, [], [⟨fNRG_PLAN_RELEASE_RODS, .rw, 10⟩, ⟨fNRG_PLAN_FORECAST_RODS, .rw, 8⟩, ⟨fNRG_PLAN_EMIN_PCT, .rw, 25⟩, ⟨fNRG_PLAN_DMIN_PCT, .rw, 10⟩]⟩,
  ⟨0x18, [], [⟨fNRG_GATE_IDLE_RODS, .rw, 10⟩]⟩,
  ⟨0x1C, [], [⟨fNRG_XCHK_RODS, .rw, 10⟩, ⟨fNRG_XCHK_TOL_PCT, .rw, 10⟩]⟩,
  ⟨0x20, [], [⟨fNRG_EVT_CFG_OVER_RODS, .rw, 100⟩]⟩,
  ⟨0x24, [], [⟨fNRG_EVT_STATUS_LIMIT_CHANGE, .rw1c, 0⟩, ⟨fNRG_EVT_STATUS_XCHK, .rw1c, 0⟩, ⟨fNRG_EVT_STATUS_OVER, .rw1c, 0⟩, ⟨fNRG_EVT_STATUS_THROTTLE_OFF, .rw1c, 0⟩, ⟨fNRG_EVT_STATUS_THROTTLE_ON, .rw1c, 0⟩]⟩,
  ⟨0x28, [], [⟨fNRG_EVT_IRQ_EN_LIMIT_CHANGE, .rw, 0⟩, ⟨fNRG_EVT_IRQ_EN_XCHK, .rw, 0⟩, ⟨fNRG_EVT_IRQ_EN_OVER, .rw, 0⟩, ⟨fNRG_EVT_IRQ_EN_THROTTLE_OFF, .rw, 0⟩, ⟨fNRG_EVT_IRQ_EN_THROTTLE_ON, .rw, 0⟩]⟩,
  ⟨0x2C, [], [⟨fNRG_RING_RING_LOG2, .rw, 16⟩]⟩,
  ⟨0x30, [], [⟨fALL, .ro, 0⟩]⟩,
  ⟨0x34, [], [⟨fALL, .rw, 0⟩]⟩,
  ⟨0x100, [(4, 16)], [⟨fALL, .ro, 0⟩]⟩,
  ⟨0x140, [(4, 4)], [⟨fALL, .ro, 0⟩]⟩,
  ⟨0x160, [(4, 7)], [⟨fALL, .ro, 0⟩]⟩,
  ⟨0x200, [(8, 8)], [⟨fALL, .ro, 0⟩]⟩,
  ⟨0x204, [(8, 8)], [⟨fALL, .ro, 0⟩]⟩,
  ⟨0x400, [(4, 512)], [⟨fNRG_BE_PRI, .rw, 0⟩]⟩]
def regsNRG : List RDesc := regsNRG0

/-! ### FLT_ block (R496 to R496), base 0x1100000 -/
def rFLT_CTRL : Nat := 0x1100000 + 0x0000
def fFLT_CTRL_INJ_EN : Fld := ⟨0, 0⟩
def rFLT_MODE : Nat := 0x1100000 + 0x0004
def fFLT_MODE_KMODE_DIS : Fld := ⟨1, 1⟩
def fFLT_MODE_DIRECT : Fld := ⟨0, 0⟩
def rFLT_STATUS : Nat := 0x1100000 + 0x0008
def fFLT_STATUS_SAFE : Fld := ⟨31, 31⟩
def fFLT_STATUS_GRAVE : Fld := ⟨30, 30⟩
def fFLT_STATUS_SEAL : Fld := ⟨29, 28⟩
def fFLT_STATUS_SAFE_CLASS : Fld := ⟨27, 24⟩
def rFLT_SAFE_CODE : Nat := 0x1100000 + 0x000C
def rFLT_SAFE_TICK_LO : Nat := 0x1100000 + 0x0010
def rFLT_SAFE_TICK_HI : Nat := 0x1100000 + 0x0014
def rFLT_EXIT : Nat := 0x1100000 + 0x0018
def fFLT_EXIT_KEY : Fld := ⟨15, 0⟩
def rFLT_ALIVE : Nat := 0x1100000 + 0x001C
def fFLT_ALIVE_P : Fld := ⟨31, 31⟩
def fFLT_ALIVE_N : Fld := ⟨30, 30⟩
def fFLT_ALIVE_RUNNING : Fld := ⟨29, 29⟩
def rFLT_EVT_STATUS : Nat := 0x1100000 + 0x0020
def fFLT_EVT_STATUS_LOG_FULL : Fld := ⟨4, 4⟩
def fFLT_EVT_STATUS_INJECT_DONE : Fld := ⟨3, 3⟩
def fFLT_EVT_STATUS_SAFE : Fld := ⟨2, 2⟩
def fFLT_EVT_STATUS_CONTAINED : Fld := ⟨1, 1⟩
def fFLT_EVT_STATUS_LOGGED : Fld := ⟨0, 0⟩
def rFLT_EVT_IRQ_EN : Nat := 0x1100000 + 0x0024
def fFLT_EVT_IRQ_EN_LOG_FULL : Fld := ⟨4, 4⟩
def fFLT_EVT_IRQ_EN_INJECT_DONE : Fld := ⟨3, 3⟩
def fFLT_EVT_IRQ_EN_SAFE : Fld := ⟨2, 2⟩
def fFLT_EVT_IRQ_EN_CONTAINED : Fld := ⟨1, 1⟩
def fFLT_EVT_IRQ_EN_LOGGED : Fld := ⟨0, 0⟩
def rFLT_CHK_SEL : Nat := 0x1100000 + 0x0028
def fFLT_CHK_SEL_DIE : Fld := ⟨16, 16⟩
def fFLT_CHK_SEL_CHECKER : Fld := ⟨15, 0⟩
def rFLT_CHK_DESC : Nat := 0x1100000 + 0x002C
def fFLT_CHK_DESC_EXISTS : Fld := ⟨31, 31⟩
def fFLT_CHK_DESC_KIND : Fld := ⟨30, 28⟩
def fFLT_CHK_DESC_WIDTH : Fld := ⟨27, 20⟩
def fFLT_CHK_DESC_UE_CLASS : Fld := ⟨19, 16⟩
def fFLT_CHK_DESC_COUNT : Fld := ⟨10, 0⟩
def rFLT_COL_RETIRED : Nat := 0x1100000 + 0x0030
def fFLT_COL_RETIRED_MAP : Fld := ⟨15, 0⟩
def rFLT_D_STATUS (d : Nat) : Nat := 0x1100000 + 0x0100 + 0x80 * d + 0x00
def fFLT_D_STATUS_HANDLING : Fld := ⟨31, 31⟩
def fFLT_D_STATUS_QUEUED : Fld := ⟨25, 21⟩
def fFLT_D_STATUS_OPEN_ENTRY : Fld := ⟨10, 0⟩
def rFLT_D_LOG (d : Nat) : Nat := 0x1100000 + 0x100 + 0x80 * d + 0x04
def fFLT_D_LOG_DROPPED : Fld := ⟨31, 16⟩
def fFLT_D_LOG_LOST_HIGH : Fld := ⟨15, 11⟩
def fFLT_D_LOG_ENTRIES : Fld := ⟨10, 0⟩
def rFLT_D_ARMED (d : Nat) : Nat := 0x1100000 + 0x100 + 0x80 * d + 0x08
def fFLT_D_ARMED_CHECKERS : Fld := ⟨4, 0⟩
def rFLT_D_CNT_LO (d c : Nat) : Nat := 0x1100000 + 0x100 + 0x80 * d + 0x10 + 8 * c
def rFLT_D_CNT_HI (d c : Nat) : Nat := 0x1100000 + 0x100 + 0x80 * d + 0x14 + 8 * c
def rFLT_KMODE : Nat := 0x1100000 + 0x0800
def fFLT_KMODE_ACTIVE : Fld := ⟨31, 31⟩
def fFLT_KMODE_EXIT : Fld := ⟨1, 1⟩
def fFLT_KMODE_ENTER : Fld := ⟨0, 0⟩
def rFLT_K_TARGET : Nat := 0x1100000 + 0x0804
def rFLT_K_ADDR : Nat := 0x1100000 + 0x0808
def rFLT_K_SYN_LO : Nat := 0x1100000 + 0x080C
def rFLT_K_SYN_HI : Nat := 0x1100000 + 0x0810
def rFLT_K_CTRL : Nat := 0x1100000 + 0x0814
def fFLT_K_CTRL_DONE : Fld := ⟨1, 1⟩
def fFLT_K_CTRL_ARM : Fld := ⟨0, 0⟩

/-- Registers of the FLT_ block, part 0. -/
def regsFLT0 : List RDesc := [
  ⟨0x0, [], [⟨fFLT_CTRL_INJ_EN, .rw, 0⟩]⟩,
  ⟨0x4, [], [⟨fFLT_MODE_KMODE_DIS, .ro, 0⟩, ⟨fFLT_MODE_DIRECT, .ro, 0⟩]⟩,
  ⟨0x8, [], [⟨fFLT_STATUS_SAFE, .ro, 0⟩, ⟨fFLT_STATUS_GRAVE, .ro, 0⟩, ⟨fFLT_STATUS_SEAL, .ro, 0⟩, ⟨fFLT_STATUS_SAFE_CLASS, .ro, 0⟩]⟩,
  ⟨0xC, [], [⟨fALL, .ro, 0⟩]⟩,
  ⟨0x10, [], [⟨fALL, .ro, 0⟩]⟩,
  ⟨0x14, [], [⟨fALL, .ro, 0⟩]⟩,
  ⟨0x18, [], [⟨fFLT_EXIT_KEY, .wo, 0⟩]⟩,
  ⟨0x1C, [], [⟨fFLT_ALIVE_P, .ro, 0⟩, ⟨fFLT_ALIVE_N, .ro, 0⟩, ⟨fFLT_ALIVE_RUNNING, .ro, 0⟩]⟩,
  ⟨0x20, [], [⟨fFLT_EVT_STATUS_LOG_FULL, .rw1c, 0⟩, ⟨fFLT_EVT_STATUS_INJECT_DONE, .rw1c, 0⟩, ⟨fFLT_EVT_STATUS_SAFE, .rw1c, 0⟩, ⟨fFLT_EVT_STATUS_CONTAINED, .rw1c, 0⟩, ⟨fFLT_EVT_STATUS_LOGGED, .rw1c, 0⟩]⟩,
  ⟨0x24, [], [⟨fFLT_EVT_IRQ_EN_LOG_FULL, .rw, 0⟩, ⟨fFLT_EVT_IRQ_EN_INJECT_DONE, .rw, 0⟩, ⟨fFLT_EVT_IRQ_EN_SAFE, .rw, 0⟩, ⟨fFLT_EVT_IRQ_EN_CONTAINED, .rw, 0⟩, ⟨fFLT_EVT_IRQ_EN_LOGGED, .rw, 0⟩]⟩,
  ⟨0x28, [], [⟨fFLT_CHK_SEL_DIE, .rw, 0⟩, ⟨fFLT_CHK_SEL_CHECKER, .rw, 0⟩]⟩,
  ⟨0x2C, [], [⟨fFLT_CHK_DESC_EXISTS, .ro, 0⟩, ⟨fFLT_CHK_DESC_KIND, .ro, 0⟩, ⟨fFLT_CHK_DESC_WIDTH, .ro, 0⟩, ⟨fFLT_CHK_DESC_UE_CLASS, .ro, 0⟩, ⟨fFLT_CHK_DESC_COUNT, .ro, 0⟩]⟩,
  ⟨0x30, [], [⟨fFLT_COL_RETIRED_MAP, .ro, 0⟩]⟩,
  ⟨0x100, [(128, 2)], [⟨fFLT_D_STATUS_HANDLING, .ro, 0⟩, ⟨fFLT_D_STATUS_QUEUED, .ro, 0⟩, ⟨fFLT_D_STATUS_OPEN_ENTRY, .ro, 0⟩]⟩,
  ⟨0x104, [(128, 2)], [⟨fFLT_D_LOG_DROPPED, .ro, 0⟩, ⟨fFLT_D_LOG_LOST_HIGH, .ro, 0⟩, ⟨fFLT_D_LOG_ENTRIES, .ro, 0⟩]⟩,
  ⟨0x108, [(128, 2)], [⟨fFLT_D_ARMED_CHECKERS, .ro, 0⟩]⟩,
  ⟨0x110, [(128, 2), (8, 5)], [⟨fALL, .ro, 0⟩]⟩,
  ⟨0x114, [(128, 2), (8, 5)], [⟨fALL, .ro, 0⟩]⟩,
  ⟨0x800, [], [⟨fFLT_KMODE_ACTIVE, .ro, 0⟩, ⟨fFLT_KMODE_EXIT, .wo, 0⟩, ⟨fFLT_KMODE_ENTER, .wo, 0⟩]⟩,
  ⟨0x804, [], [⟨fALL, .rw, 0⟩]⟩,
  ⟨0x808, [], [⟨fALL, .rw, 0⟩]⟩,
  ⟨0x80C, [], [⟨fALL, .rw, 0⟩]⟩,
  ⟨0x810, [], [⟨fALL, .rw, 0⟩]⟩,
  ⟨0x814, [], [⟨fFLT_K_CTRL_DONE, .rw1c, 0⟩, ⟨fFLT_K_CTRL_ARM, .rw, 0⟩]⟩]
def regsFLT : List RDesc := regsFLT0

/-! ### CNT_ block (R510 to R510), base 0x1200000 -/
def rCNT_CYC_LO (u : Nat) : Nat := 0x1200000 + 0x400 * u + 0x000
def rCNT_CYC_HI (u : Nat) : Nat := 0x1200000 + 0x400 * u + 0x004
def rCNT_CFG (u i : Nat) : Nat := 0x1200000 + 0x400 * u + 0x020 + 0x20 * i
def fCNT_CFG_EN : Fld := ⟨31, 31⟩
def fCNT_CFG_IRQ : Fld := ⟨30, 30⟩
def fCNT_CFG_RELOAD_EN : Fld := ⟨29, 29⟩
def fCNT_CFG_FREEZE : Fld := ⟨28, 28⟩
def fCNT_CFG_FROZEN : Fld := ⟨27, 27⟩
def fCNT_CFG_EVENT : Fld := ⟨7, 0⟩
def rCNT_VAL_LO (u i : Nat) : Nat := 0x1200000 + 0x400 * u + 0x20 + 0x20 * i + 0x04
def rCNT_VAL_HI (u i : Nat) : Nat := 0x1200000 + 0x400 * u + 0x20 + 0x20 * i + 0x08
def rCNT_RLD_LO (u i : Nat) : Nat := 0x1200000 + 0x400 * u + 0x20 + 0x20 * i + 0x0C
def rCNT_RLD_HI (u i : Nat) : Nat := 0x1200000 + 0x400 * u + 0x20 + 0x20 * i + 0x10
def rCNT_SLOT_LO (u k : Nat) : Nat := 0x1200000 + 0x400 * u + 0x120 + 8 * k
def rCNT_SLOT_HI (u k : Nat) : Nat := 0x1200000 + 0x400 * u + 0x124 + 8 * k
def rCNT_CTRL : Nat := 0x1200000 + 0x8000
def fCNT_CTRL_SNAP_PENDING : Fld := ⟨2, 2⟩
def fCNT_CTRL_SNAP : Fld := ⟨1, 1⟩
def fCNT_CTRL_RUN : Fld := ⟨0, 0⟩
def rCNT_SNAP_TICK_LO : Nat := 0x1200000 + 0x8004
def rCNT_SNAP_TICK_HI : Nat := 0x1200000 + 0x8008
def rCNT_EVT_STATUS : Nat := 0x1200000 + 0x800C
def fCNT_EVT_STATUS_SNAP_DONE : Fld := ⟨1, 1⟩
def fCNT_EVT_STATUS_OVF_EVT : Fld := ⟨0, 0⟩
def rCNT_EVT_IRQ_EN : Nat := 0x1200000 + 0x8010
def fCNT_EVT_IRQ_EN_SNAP_DONE : Fld := ⟨1, 1⟩
def fCNT_EVT_IRQ_EN_OVF_EVT : Fld := ⟨0, 0⟩
def rCNT_OVF (j : Nat) : Nat := 0x1200000 + 0x8020 + 4 * j
def rCNT_PORT_LO (p i : Nat) : Nat := 0x1200000 + 0x20000 + 0x100 * p + 8 * i
def rCNT_PORT_HI (p i : Nat) : Nat := 0x1200000 + 0x20000 + 0x100 * p + 8 * i + 4
def rCNT_DROP_LO (d dir c : Nat) : Nat := 0x1200000 + 0x40000 + 0x800 * (2 * d + dir) + 8 * c
def rCNT_DROP_HI (d dir c : Nat) : Nat := 0x1200000 + 0x40000 + 0x800 * (2 * d + dir) + 8 * c + 4

/-- Registers of the CNT_ block, part 0. -/
def regsCNT0 : List RDesc := [
  ⟨0x0, [(1024, 32)], [⟨fALL, .ro, 0⟩]⟩,
  ⟨0x4, [(1024, 32)], [⟨fALL, .ro, 0⟩]⟩,
  ⟨0x20, [(1024, 32), (32, 8)], [⟨fCNT_CFG_EN, .rw, 0⟩, ⟨fCNT_CFG_IRQ, .rw, 0⟩, ⟨fCNT_CFG_RELOAD_EN, .rw, 0⟩, ⟨fCNT_CFG_FREEZE, .rw, 0⟩, ⟨fCNT_CFG_FROZEN, .ro, 0⟩, ⟨fCNT_CFG_EVENT, .rw, 0⟩]⟩,
  ⟨0x24, [(1024, 32), (32, 8)], [⟨fALL, .rw, 0⟩]⟩,
  ⟨0x28, [(1024, 32), (32, 8)], [⟨fALL, .rw, 0⟩]⟩,
  ⟨0x2C, [(1024, 32), (32, 8)], [⟨fALL, .rw, 0⟩]⟩,
  ⟨0x30, [(1024, 32), (32, 8)], [⟨fALL, .rw, 0⟩]⟩,
  ⟨0x120, [(1024, 32), (8, 9)], [⟨fALL, .ro, 0⟩]⟩,
  ⟨0x124, [(1024, 32), (8, 9)], [⟨fALL, .ro, 0⟩]⟩,
  ⟨0x8000, [], [⟨fCNT_CTRL_SNAP_PENDING, .ro, 0⟩, ⟨fCNT_CTRL_SNAP, .wo, 0⟩, ⟨fCNT_CTRL_RUN, .rw, 1⟩]⟩,
  ⟨0x8004, [], [⟨fALL, .ro, 0⟩]⟩,
  ⟨0x8008, [], [⟨fALL, .ro, 0⟩]⟩,
  ⟨0x800C, [], [⟨fCNT_EVT_STATUS_SNAP_DONE, .rw1c, 0⟩, ⟨fCNT_EVT_STATUS_OVF_EVT, .rw1c, 0⟩]⟩,
  ⟨0x8010, [], [⟨fCNT_EVT_IRQ_EN_SNAP_DONE, .rw, 0⟩, ⟨fCNT_EVT_IRQ_EN_OVF_EVT, .rw, 0⟩]⟩,
  ⟨0x8020, [(4, 8)], [⟨fALL, .rw1c, 0⟩]⟩,
  ⟨0x20000, [(256, 512), (8, 32)], [⟨fALL, .ro, 0⟩]⟩,
  ⟨0x20004, [(256, 512), (8, 32)], [⟨fALL, .ro, 0⟩]⟩,
  ⟨0x40000, [(4096, 2), (2048, 2), (8, 256)], [⟨fALL, .ro, 0⟩]⟩,
  ⟨0x40004, [(4096, 2), (2048, 2), (8, 256)], [⟨fALL, .ro, 0⟩]⟩]
def regsCNT : List RDesc := regsCNT0

/-! ### OTP_ block (R533 to R533), base 0x1300000 -/
def rOTP_STATUS : Nat := 0x1300000 + 0x0000
def fOTP_STATUS_SENSED : Fld := ⟨31, 31⟩
def fOTP_STATUS_FACTORY_OK : Fld := ⟨30, 30⟩
def fOTP_STATUS_KEY_OK : Fld := ⟨29, 29⟩
def fOTP_STATUS_CUST_VALID : Fld := ⟨28, 28⟩
def fOTP_STATUS_GEN : Fld := ⟨27, 26⟩
def fOTP_STATUS_GEN_STATE : Fld := ⟨15, 8⟩
def rOTP_BOOT_STATUS : Nat := 0x1300000 + 0x0004
def fOTP_BOOT_STATUS_COMMAND_READY : Fld := ⟨31, 31⟩
def fOTP_BOOT_STATUS_PHASE : Fld := ⟨30, 27⟩
def fOTP_BOOT_STATUS_SOURCE : Fld := ⟨26, 25⟩
def fOTP_BOOT_STATUS_CAUSE : Fld := ⟨24, 21⟩
def fOTP_BOOT_STATUS_BIST_RUN : Fld := ⟨20, 20⟩
def fOTP_BOOT_STATUS_BIST_FAIL : Fld := ⟨19, 19⟩
def rOTP_BOOT_CTRL : Nat := 0x1300000 + 0x0008
def fOTP_BOOT_CTRL_GO : Fld := ⟨31, 31⟩
def fOTP_BOOT_CTRL_LENGTH : Fld := ⟨23, 0⟩
def rOTP_BOOT_TIME (k : Nat) : Nat := 0x1300000 + 0x0010 + 4 * k
def rOTP_READY_TICK_LO : Nat := 0x1300000 + 0x0040
def rOTP_READY_TICK_HI : Nat := 0x1300000 + 0x0044
def rOTP_BURN_STATUS : Nat := 0x1300000 + 0x0048
def fOTP_BURN_STATUS_BUSY : Fld := ⟨31, 31⟩
def fOTP_BURN_STATUS_RESULT : Fld := ⟨30, 28⟩
def fOTP_BURN_STATUS_SPENT_COUNT : Fld := ⟨3, 2⟩
def fOTP_BURN_STATUS_GEN : Fld := ⟨1, 0⟩
def rOTP_EVT_STATUS : Nat := 0x1300000 + 0x004C
def fOTP_EVT_STATUS_BURN_FAIL : Fld := ⟨1, 1⟩
def fOTP_EVT_STATUS_BURN_DONE : Fld := ⟨0, 0⟩
def rOTP_EVT_IRQ_EN : Nat := 0x1300000 + 0x0050
def fOTP_EVT_IRQ_EN_BURN_FAIL : Fld := ⟨1, 1⟩
def fOTP_EVT_IRQ_EN_BURN_DONE : Fld := ⟨0, 0⟩
def rOTP_WIN_SEL : Nat := 0x1300000 + 0x0054
def fOTP_WIN_SEL_BANK : Fld := ⟨29, 28⟩
def fOTP_WIN_SEL_OFFSET : Fld := ⟨9, 0⟩
def rOTP_WIN_DATA : Nat := 0x1300000 + 0x0058

/-- Registers of the OTP_ block, part 0. -/
def regsOTP0 : List RDesc := [
  ⟨0x0, [], [⟨fOTP_STATUS_SENSED, .ro, 0⟩, ⟨fOTP_STATUS_FACTORY_OK, .ro, 0⟩, ⟨fOTP_STATUS_KEY_OK, .ro, 0⟩, ⟨fOTP_STATUS_CUST_VALID, .ro, 0⟩, ⟨fOTP_STATUS_GEN, .ro, 0⟩, ⟨fOTP_STATUS_GEN_STATE, .ro, 0⟩]⟩,
  ⟨0x4, [], [⟨fOTP_BOOT_STATUS_COMMAND_READY, .ro, 0⟩, ⟨fOTP_BOOT_STATUS_PHASE, .ro, 0⟩, ⟨fOTP_BOOT_STATUS_SOURCE, .ro, 0⟩, ⟨fOTP_BOOT_STATUS_CAUSE, .ro, 0⟩, ⟨fOTP_BOOT_STATUS_BIST_RUN, .ro, 0⟩, ⟨fOTP_BOOT_STATUS_BIST_FAIL, .ro, 0⟩]⟩,
  ⟨0x8, [], [⟨fOTP_BOOT_CTRL_GO, .wo, 0⟩, ⟨fOTP_BOOT_CTRL_LENGTH, .rw, 0⟩]⟩,
  ⟨0x10, [(4, 9)], [⟨fALL, .ro, 0⟩]⟩,
  ⟨0x40, [], [⟨fALL, .ro, 0⟩]⟩,
  ⟨0x44, [], [⟨fALL, .ro, 0⟩]⟩,
  ⟨0x48, [], [⟨fOTP_BURN_STATUS_BUSY, .ro, 0⟩, ⟨fOTP_BURN_STATUS_RESULT, .ro, 0⟩, ⟨fOTP_BURN_STATUS_SPENT_COUNT, .ro, 0⟩, ⟨fOTP_BURN_STATUS_GEN, .ro, 0⟩]⟩,
  ⟨0x4C, [], [⟨fOTP_EVT_STATUS_BURN_FAIL, .rw1c, 0⟩, ⟨fOTP_EVT_STATUS_BURN_DONE, .rw1c, 0⟩]⟩,
  ⟨0x50, [], [⟨fOTP_EVT_IRQ_EN_BURN_FAIL, .rw, 0⟩, ⟨fOTP_EVT_IRQ_EN_BURN_DONE, .rw, 0⟩]⟩,
  ⟨0x54, [], [⟨fOTP_WIN_SEL_BANK, .rw, 0⟩, ⟨fOTP_WIN_SEL_OFFSET, .rw, 0⟩]⟩,
  ⟨0x58, [], [⟨fALL, .ro, 0⟩]⟩]
def regsOTP : List RDesc := regsOTP0

/-- The register table of block `b` (R414); a block number with no block has no register. -/
def blockRegs : Nat → List RDesc
  | 0 => regsTCK
  | 1 => regsPRT
  | 2 => regsRAIL
  | 3 => regsPAR
  | 4 => regsTBL
  | 5 => regsFLW
  | 6 => regsBUF
  | 7 => regsSCH
  | 8 => regsLVL
  | 9 => regsTIM
  | 10 => regsJRN
  | 11 => regsMEM
  | 12 => regsRCK
  | 13 => regsDMA
  | 14 => regsPOOL
  | 15 => regsDOM
  | 16 => regsNRG
  | 17 => regsFLT
  | 18 => regsCNT
  | 19 => regsOTP
  | _ => []

/-- Does an offset from the register's first element fall on an element, given its strides and counts? -/
def RDesc.onElem : List (Nat × Nat) → Nat → Bool
  | [], rest => rest == 0
  | (stride, count) :: ds, rest =>
    let i := min (rest / stride) (count - 1)
    RDesc.onElem ds (rest - i * stride)

/-- The descriptor of the register at an address, if the address names one (R414). -/
def regAt (a : Nat) : Option RDesc :=
  let o := a % 0x100000
  (blockRegs (a / 0x100000)).find? fun r => r.off ≤ o && RDesc.onElem r.dims (o - r.off)

/-- POOL_MIN_A[d][o] at reset (R435): 256-byte minimum in the high half, 1 KiB minimum in the low half. -/
def poolMinAReset : Nat → Nat
  | 8 => 2048 * 65536 + 256
  | 9 => 256
  | 10 => 64
  | 12 => 512 * 65536
  | 13 => 256 * 65536 + 64
  | 15 => 256 * 65536 + 64
  | _ => 0

/-- POOL_MIN_B[d][o] at reset (R435): 4 KiB minimum in the high half, 16 KiB minimum in the low half. -/
def poolMinBReset : Nat → Nat
  | 8 => 32 * 65536
  | 9 => 64 * 65536 + 16
  | 10 => 16 * 65536 + 8
  | 11 => 32 * 65536
  | 14 => 16 * 65536 + 8
  | 15 => 16 * 65536 + 4
  | _ => 0

/-- RCK_TYPE_CFG[j] at reset (R408): deadline, budget and COMMITTED of the internal task types; LEARN takes
its deadline from FLW_LEARN_CFG.DEADLINE × 100 (reset 10 × 100). An internal type R408 does not list reads 0. -/
def typeCfgReset : Nat → Nat
  | 0x01 => 1000 * 4096 + 20 * 4
  | 0x02 => 10000 * 4096 + 50 * 4
  | 0x03 => 1000 * 4096 + 5 * 4
  | 0x08 => 100000 * 4096 + 100 * 4
  | 0x10 => 100 * 4096 + 20 * 4 + 2
  | 0x18 => 100000 * 4096 + 1000 * 4 + 2
  | 0x19 => 100000 * 4096 + 1000 * 4 + 2
  | 0x1A => 1000 * 4096 + 100 * 4
  | 0x20 => 100000 * 4096 + 200 * 4
  | 0x28 => 1000 * 4096 + 50 * 4 + 2
  | 0x30 => 1000 * 4096 + 500 * 4 + 2
  | _ => 0

/-- The registers whose reset value depends on their index (LVL_RANK: R290; TIM_CAPT_CFG[8]: R331; RCK_TYPE_CFG:
R408; POOL_MIN: R435). -/
def resetByIndex (a : Nat) : Option Nat :=
  if rLVL_RANK 0 ≤ a && a < rLVL_RANK 512 then some ((a - rLVL_RANK 0) / 4)
  else if a = rTIM_CAPT_CFG 8 then some 0xA0000000
  else if rRCK_TYPE_CFG 0 ≤ a && a < rRCK_TYPE_CFG 64 then some (typeCfgReset ((a - rRCK_TYPE_CFG 0) / 4))
  else if rPOOL_MIN_A 0 0 ≤ a && a < rPOOL_MIN_A 2 0 then
    let o := (a - rPOOL_MIN_A 0 0) / 16 % 16
    if a % 16 = 0 then some (poolMinAReset o) else if a % 16 = 4 then some (poolMinBReset o) else none
  else none

/-- The reset value of the register at an address (the Reset column of its table, all fields together);
an address that names no register reads 0 (R414). -/
def resetOf (a : Nat) : Word :=
  match resetByIndex a with
  | some v => BitVec.ofNat 32 v
  | none =>
    match regAt a with
    | some r => BitVec.ofNat 32 (r.fields.foldl (fun acc f => acc + f.reset * 2 ^ f.fld.lo) 0)
    | none => 0

/-- The EVT_STATUS register and bit of an event code on a core die (the EVT_STATUS tables; PRT_ codes: R74). -/
def evtReg (code d : Nat) : Option (Nat × Nat) :=
  match code with
  | 0x01 => some (rPRT_EVT_STATUS, 1)
  | 0x02 => some (rPRT_EVT_STATUS, 2)
  | 0x03 => some (rPRT_EVT_STATUS, 3)
  | 0x04 => some (rPRT_EVT_STATUS, 4)
  | 0x05 => some (rPRT_EVT_STATUS, 5)
  | 0x06 => some (rPRT_EVT_STATUS, 6)
  | 0x07 => some (rPRT_EVT_STATUS, 7)
  | 0x08 => some (rPRT_EVT_STATUS, 8)
  | 0x09 => some (rPRT_EVT_STATUS, 9)
  | 0x0A => some (rPRT_EVT_STATUS, 10)
  | 0x0B => some (rPRT_EVT_STATUS, 11)
  | 0x0C => some (rPRT_EVT_STATUS, 12)
  | 0x0D => some (rPRT_EVT_STATUS, 13)
  | 0x0E => some (rPRT_EVT_STATUS, 14)
  | 0x13 => some (rRAIL_EVT_STATUS, 3)
  | 0x12 => some (rRAIL_EVT_STATUS, 2)
  | 0x11 => some (rRAIL_EVT_STATUS, 1)
  | 0x10 => some (rRAIL_EVT_STATUS, 0)
  | 0x23 => some (rTBL_EVT_STATUS d, 3)
  | 0x22 => some (rTBL_EVT_STATUS d, 2)
  | 0x21 => some (rTBL_EVT_STATUS d, 1)
  | 0x20 => some (rTBL_EVT_STATUS d, 0)
  | 0x33 => some (rFLW_EVT_STATUS d, 3)
  | 0x32 => some (rFLW_EVT_STATUS d, 2)
  | 0x31 => some (rFLW_EVT_STATUS d, 1)
  | 0x30 => some (rFLW_EVT_STATUS d, 0)
  | 0x37 => some (rFLW_RACE_EVT_STATUS d, 3)
  | 0x36 => some (rFLW_RACE_EVT_STATUS d, 2)
  | 0x35 => some (rFLW_RACE_EVT_STATUS d, 1)
  | 0x34 => some (rFLW_RACE_EVT_STATUS d, 0)
  | 0x44 => some (rBUF_EVT_STATUS d, 4)
  | 0x43 => some (rBUF_EVT_STATUS d, 3)
  | 0x42 => some (rBUF_EVT_STATUS d, 2)
  | 0x41 => some (rBUF_EVT_STATUS d, 1)
  | 0x40 => some (rBUF_EVT_STATUS d, 0)
  | 0x51 => some (rSCH_EVT_STATUS d, 1)
  | 0x50 => some (rSCH_EVT_STATUS d, 0)
  | 0x63 => some (rLVL_EVT_STATUS, 3)
  | 0x62 => some (rLVL_EVT_STATUS, 2)
  | 0x61 => some (rLVL_EVT_STATUS, 1)
  | 0x60 => some (rLVL_EVT_STATUS, 0)
  | 0x77 => some (rTIM_EVT_STATUS, 7)
  | 0x76 => some (rTIM_EVT_STATUS, 6)
  | 0x75 => some (rTIM_EVT_STATUS, 5)
  | 0x74 => some (rTIM_EVT_STATUS, 4)
  | 0x73 => some (rTIM_EVT_STATUS, 3)
  | 0x72 => some (rTIM_EVT_STATUS, 2)
  | 0x71 => some (rTIM_EVT_STATUS, 1)
  | 0x70 => some (rTIM_EVT_STATUS, 0)
  | 0x85 => some (rJRN_EVT_STATUS, 5)
  | 0x84 => some (rJRN_EVT_STATUS, 4)
  | 0x83 => some (rJRN_EVT_STATUS, 3)
  | 0x82 => some (rJRN_EVT_STATUS, 2)
  | 0x81 => some (rJRN_EVT_STATUS, 1)
  | 0x80 => some (rJRN_EVT_STATUS, 0)
  | 0x95 => some (rMEM_EVT_STATUS, 5)
  | 0x94 => some (rMEM_EVT_STATUS, 4)
  | 0x93 => some (rMEM_EVT_STATUS, 3)
  | 0x92 => some (rMEM_EVT_STATUS, 2)
  | 0x91 => some (rMEM_EVT_STATUS, 1)
  | 0x90 => some (rMEM_EVT_STATUS, 0)
  | 0xA5 => some (rRCK_EVT_STATUS, 5)
  | 0xA4 => some (rRCK_EVT_STATUS, 4)
  | 0xA3 => some (rRCK_EVT_STATUS, 3)
  | 0xA2 => some (rRCK_EVT_STATUS, 2)
  | 0xA1 => some (rRCK_EVT_STATUS, 1)
  | 0xA0 => some (rRCK_EVT_STATUS, 0)
  | 0xB3 => some (rDMA_EVT_STATUS, 3)
  | 0xB2 => some (rDMA_EVT_STATUS, 2)
  | 0xB1 => some (rDMA_EVT_STATUS, 1)
  | 0xB0 => some (rDMA_EVT_STATUS, 0)
  | 0xC1 => some (rPOOL_EVT_STATUS, 1)
  | 0xC0 => some (rPOOL_EVT_STATUS, 0)
  | 0xD8 => some (rDOM_EVT_STATUS, 8)
  | 0xD7 => some (rDOM_EVT_STATUS, 7)
  | 0xD6 => some (rDOM_EVT_STATUS, 6)
  | 0xD5 => some (rDOM_EVT_STATUS, 5)
  | 0xD4 => some (rDOM_EVT_STATUS, 4)
  | 0xD3 => some (rDOM_EVT_STATUS, 3)
  | 0xD2 => some (rDOM_EVT_STATUS, 2)
  | 0xD1 => some (rDOM_EVT_STATUS, 1)
  | 0xD0 => some (rDOM_EVT_STATUS, 0)
  | 0xE4 => some (rNRG_EVT_STATUS, 4)
  | 0xE3 => some (rNRG_EVT_STATUS, 3)
  | 0xE2 => some (rNRG_EVT_STATUS, 2)
  | 0xE1 => some (rNRG_EVT_STATUS, 1)
  | 0xE0 => some (rNRG_EVT_STATUS, 0)
  | 0xEC => some (rFLT_EVT_STATUS, 4)
  | 0xEB => some (rFLT_EVT_STATUS, 3)
  | 0xEA => some (rFLT_EVT_STATUS, 2)
  | 0xE9 => some (rFLT_EVT_STATUS, 1)
  | 0xE8 => some (rFLT_EVT_STATUS, 0)
  | 0xC9 => some (rCNT_EVT_STATUS, 1)
  | 0xC8 => some (rCNT_EVT_STATUS, 0)
  | 0xEE => some (rOTP_EVT_STATUS, 1)
  | 0xED => some (rOTP_EVT_STATUS, 0)
  | _ => none

/-! ### Event codes (R74 for the PRT_ block, the EVT_STATUS tables for the others) -/
def ePRT_MOD_ARRIVE : Nat := 0x01
def ePRT_MOD_DEPART : Nat := 0x02
def ePRT_MOD_FAULT : Nat := 0x03
def ePRT_MOD_FLAG : Nat := 0x04
def ePRT_LINK_UP : Nat := 0x05
def ePRT_LINK_DOWN : Nat := 0x06
def ePRT_NEG_FAIL : Nat := 0x07
def ePRT_PARTNER_CHANGE : Nat := 0x08
def ePRT_PFC_WD_TRIP : Nat := 0x09
def ePRT_PFC_WD_RESTORE : Nat := 0x0A
def ePRT_SHED_CHANGE : Nat := 0x0B
def ePRT_PG_SWITCH : Nat := 0x0C
def ePRT_PG_NO_MEMBER : Nat := 0x0D
def ePRT_CAL_DONE : Nat := 0x0E
def eRAIL_DST_RETIRED : Nat := 0x13
def eRAIL_ALT_SWITCH : Nat := 0x12
def eRAIL_SRC_LOSS : Nat := 0x11
def eRAIL_ACTIVE : Nat := 0x10
def eTBL_HOLES_LOW : Nat := 0x23
def eTBL_COMMIT_DEFERRED : Nat := 0x22
def eTBL_POISON : Nat := 0x21
def eTBL_REHASH : Nat := 0x20
def eFLW_NAT_POOL_LOW : Nat := 0x33
def eFLW_TAG_LOW : Nat := 0x32
def eFLW_KILL_LIST_FULL : Nat := 0x31
def eFLW_CARRY_HIGH : Nat := 0x30
def eFLW_RACE_SWEEP_LAG_EVT : Nat := 0x37
def eFLW_RACE_REHASH_STUCK_EVT : Nat := 0x36
def eFLW_RACE_REHASH_DONE : Nat := 0x35
def eFLW_RACE_PC_RETIRED : Nat := 0x34
def eBUF_RESV_ERR : Nat := 0x44
def eBUF_SPILL_HIGH : Nat := 0x43
def eBUF_MIRROR_FULL : Nat := 0x42
def eBUF_FREE_AND_USED : Nat := 0x41
def eBUF_LEAK : Nat := 0x40
def eSCH_SMP_SKIPPED : Nat := 0x51
def eSCH_SMP_FULL : Nat := 0x50
def eLVL_POOL_HIGH : Nat := 0x63
def eLVL_LATE_DROP : Nat := 0x62
def eLVL_RESUME : Nat := 0x61
def eLVL_SUSPEND : Nat := 0x60
def eTIM_REF_SWITCH : Nat := 0x77
def eTIM_TRIG_MISSED : Nat := 0x76
def eTIM_CAPT_EVT : Nat := 0x75
def eTIM_SRC_EXCLUDED : Nat := 0x74
def eTIM_SRC_CHANGE : Nat := 0x73
def eTIM_HOLDOVER : Nat := 0x72
def eTIM_UNLOCKED : Nat := 0x71
def eTIM_LOCKED : Nat := 0x70
def eJRN_SUM_FULL : Nat := 0x85
def eJRN_CHILD_ABSENT : Nat := 0x84
def eJRN_SEAL_LATE : Nat := 0x83
def eJRN_SEALED : Nat := 0x82
def eJRN_RESUMED : Nat := 0x81
def eJRN_FULL : Nat := 0x80
def eMEM_TRAIN_FAIL : Nat := 0x95
def eMEM_FROZEN : Nat := 0x94
def eMEM_CE : Nat := 0x93
def eMEM_RH_THROTTLE : Nat := 0x92
def eMEM_REF_CHANGE : Nat := 0x91
def eMEM_HOT : Nat := 0x90
def eRCK_CS_REPAIR : Nat := 0xA5
def eRCK_TABLE_LOW : Nat := 0xA4
def eRCK_TRACE_FULL : Nat := 0xA3
def eRCK_RETIRED : Nat := 0xA2
def eRCK_MICROFAULT : Nat := 0xA1
def eRCK_DISCARD : Nat := 0xA0
def eDMA_BATCH_EXPIRED : Nat := 0xB3
def eDMA_PUNT_DROP : Nat := 0xB2
def eDMA_RING_ERR : Nat := 0xB1
def eDMA_CHAN_HALT : Nat := 0xB0
def ePOOL_BAD_RETURN : Nat := 0xC1
def ePOOL_LOW : Nat := 0xC0
def eDOM_NEIGH_CHANGE : Nat := 0xD8
def eDOM_DEPTH_LIMIT : Nat := 0xD7
def eDOM_FALLBACK_USED : Nat := 0xD6
def eDOM_REMOTE_FAULT : Nat := 0xD5
def eDOM_DUP_NUMBER : Nat := 0xD4
def eDOM_CHILD_LOST : Nat := 0xD3
def eDOM_CHILD_JOIN : Nat := 0xD2
def eDOM_PARENT_CHANGE : Nat := 0xD1
def eDOM_STATE_CHANGE : Nat := 0xD0
def eNRG_LIMIT_CHANGE : Nat := 0xE4
def eNRG_XCHK : Nat := 0xE3
def eNRG_OVER : Nat := 0xE2
def eNRG_THROTTLE_OFF : Nat := 0xE1
def eNRG_THROTTLE_ON : Nat := 0xE0
def eFLT_LOG_FULL : Nat := 0xEC
def eFLT_INJECT_DONE : Nat := 0xEB
def eFLT_SAFE : Nat := 0xEA
def eFLT_CONTAINED : Nat := 0xE9
def eFLT_LOGGED : Nat := 0xE8
def eCNT_SNAP_DONE : Nat := 0xC9
def eCNT_OVF_EVT : Nat := 0xC8
def eOTP_BURN_FAIL : Nat := 0xEE
def eOTP_BURN_DONE : Nat := 0xED

end Sys2Proof.Machine
end

