-- ==== Sys2Proof/Machine/State.lean ====
section
/-! DEFINITION. Machine/State.lean: everything the spec gives the machine, as plain data, and its state after reset. -/
namespace Sys2Proof.Machine

/-! ### Registers and the host's register access (R6 to R9, R38) -/

/-- Register contents: an address that is not listed holds its reset value (`resetOf`). -/
abbrev Regs := List (Nat × Word)

/-- The state of 64-bit register pairs under R9, and the data of the last host read. -/
structure BusSt where
  /-- Holding copies latched by low-word reads, by address of the high word (R9). -/
  rdHold : List (Nat × Word) := []
  /-- High words written and held until the low word is written, by address of the high word (R9). -/
  wrHold : List (Nat × Word) := []
  /-- Data returned by the last host read (MODEL: the completion of the read). -/
  rdata : Word := 0
deriving DecidableEq, Repr

/-! ### Tick keeping (R33 to R37, R53, R54) -/

/-- The master tick counter, and the pending step or slew. The followers of CD1, PD0 and PD1 hold its number: one that
differs loads it at the deck boundary that finds it (R37). -/
structure TrkSt where
  /-- Master tick number on CD0 (R33, R36); decks and rods are read from it (R1, R2). -/
  tick : Nat := 0
  /-- Phase offset still to be removed by slewing, in 2^-16 ns (R34). -/
  slewLeft : Int := 0
  /-- An offset, in 2^-16 ns, that is to be removed by a step at the next tick boundary (R34, R35). -/
  stepDue : Option Int := none
  /-- The number of the tick that begins has been set by a step (R35). -/
  stepped : Bool := false
  /-- The rod actions, then the deck actions, of the tick that has begun are still to be made (R40). -/
  rodDue : Bool := false
  deckDue : Bool := false
  /-- Journal records of this deck are to carry UNLOCKED because of a step in it (R35, R350). -/
  stepDeck : Option Nat := none
deriving DecidableEq, Repr

/-! ### Die-to-die links and sideband (R12 to R16, R26) -/

/-- One direction of one die-to-die link: 0 CD0↔CD1, 1 CD0↔PD0, 2 CD1↔PD1. -/
structure LinkDir where
  /-- The main band of this direction is stopped (R14). -/
  stopped : Bool := false
  /-- Modules retired (R15). -/
  retired : List Nat := []
  /-- Groups of 32 lanes (2 × module + group) whose redundant lane is in use (R14). -/
  redundant : List Nat := []
  /-- Failed lanes, as 64 × module + lane (R14). -/
  failed : List Nat := []
deriving DecidableEq, Repr

/-! ### Faults (R475 to R481, R493) -/

/-- A fault report on its way to a collector (R475 to R478). -/
structure FaultRep where
  cls : Nat
  block : Nat
  kind : Nat
  inst : Nat
  /-- Tick number of detection. -/
  tick : Nat
  injected : Bool := false
  /-- Detail bytes as the block records them (R478, offset 32). -/
  detail : List Byte := []
deriving DecidableEq, Repr

/-- A fault log entry (R478). -/
structure LogEntry where
  tick : Nat
  code : Nat
  cls : Nat
  injected : Bool
  isOpen : Bool
  marked : Bool
  reported : Bool
  cap : Nat
  joined : Nat
  endTick : Nat
  firstJoined : Nat
  seq : Nat
  detail : List Byte
deriving DecidableEq, Repr

/-- An armed checker (R493). -/
structure Armed where
  checker : Nat
  pattern : Nat
  left : Nat
deriving DecidableEq, Repr

/-- The record a collector is handling (R480). -/
structure HandRec where
  /-- Log entry, 0xFFFF when it has none. -/
  idx : Nat
  cls : Nat
  /-- Fault that opened it, or raised its class last. -/
  code : Nat
  /-- Tick of that fault's classification. -/
  since : Nat
  /-- Handling ends at the next tick boundary: class B, and class C actions complete at detection. -/
  atTick : Bool
deriving DecidableEq, Repr

/-- The fault that takes the device to the safe state (R485). -/
structure SafeDue where
  code : Nat
  cls : Nat
  die : Nat
  /-- Log entry, 0xFFFF when it has none. -/
  idx : Nat
  tick : Nat
  /-- First 16 bytes of its entry. -/
  bytes : List Byte
  /-- Its event and report wait their turn in the queue (R481, DIRECT). -/
  quiet : Bool
deriving DecidableEq, Repr

/-- The fault collector of one core die. -/
structure FltDie where
  /-- Reports raised by the die's blocks and not yet classified. -/
  inbox : List FaultRep := []
  /-- The fault log, by entry index (R478). -/
  log : List (Nat × Option LogEntry) := []
  /-- Entries opened on the die, modulo 2^32. -/
  seq : Nat := 0
  /-- The record being handled (R480). -/
  handling : Option HandRec := none
  /-- Log entry indices waiting to be reported under DIRECT (R481). -/
  queue : List Nat := []
  /-- Armed checkers (R493). -/
  armed : List Armed := []
  /-- The collector's own check of the deck just ended passed (R488). -/
  selfCheck : Bool := true
deriving DecidableEq, Repr

/-- Fault state of the device. -/
structure FltBlk where
  die0 : FltDie := {}
  die1 : FltDie := {}
  /-- Columns stopped by a hard fault and not yet remapped (R482). -/
  stoppedCols : List Nat := []
  /-- Deck in which the seal of R486 began. -/
  sealDeck : Option Nat := none
  /-- Decks each of CD1, PD0, PD1 has gone without a deck number from CD0 (R485). -/
  quietDecks : List (Nat × Nat) := []
  /-- A fault of class D or E has been classified and the safe state not yet entered (R485). -/
  safeDue : Option SafeDue := none
  /-- Core dies whose supervisors have entered the safe state by themselves (R485). -/
  dieSafe : List Nat := []
  /-- The alive pair has been started (R488). -/
  aliveOn : Bool := false
  /-- K-series mode: storage words whose check bits were corrupted (die × 2^16 + checker, address, syndrome) (R495). -/
  corrupted : List (Nat × Nat × Nat) := []
deriving DecidableEq, Repr

/-! ### Start-up, supplies and the board (R511 to R523, R540 to R553) -/

/-- Start-up and what the board does to the device. -/
structure BoardSt where
  /-- PERST_L is asserted. -/
  perst : Bool := true
  /-- Steps of R511 that have ended. -/
  ended : List Nat := []
  /-- A step has failed in a way that stops start-up (R491, R521). -/
  stopped : Bool := false
  /-- The core PLL has locked and the tick counter runs (R36, R511). -/
  clock : Bool := false
  /-- Reset is held for a supply out of its limits before the end of step 2 (R542). -/
  supplyHold : Bool := false
  /-- VDD_IO is below 1.0 V: every output is high-impedance (R542). -/
  hiZ : Bool := false
  /-- The factory bank, the key bank without its private key, and the generation in use, as step 1 read them: a
  generation not in use is empty. -/
  factory : List Byte := []
  key : List Byte := []
  gen : List Byte := []
  /-- Images refused in this start-up: flash slots and host. -/
  refused : Nat := 0
  /-- Stacks whose training has ended (R377). -/
  trained : List Nat := []
  /-- Start-up waits for the host to load the image (R517). -/
  waitHost : Bool := false
  /-- The last step has ended: COMMAND_READY sets at the next tick boundary (R512). -/
  readyDue : Bool := false
  /-- DOM_CTRL.EN is to be set once a bit of DOM_PORT_EN is (R522). -/
  domArmed : Bool := false
  /-- Sensors at 100 °C or above, reported and not yet below 95 °C: 0 to 47 (R553). -/
  hot : List Nat := []
  /-- A sensor read 100 °C or above at the last sampling. -/
  anyHot : Bool := false
  /-- THERMTRIP_L is driven low (R553). -/
  thermtrip : Bool := false
  /-- JTAG: the instruction in force: 0 BYPASS, 1 IDCODE, 2 SAMPLE/PRELOAD, 3 EXTEST (R550), and the data register shifted
  out last. -/
  jtagIr : Nat := 1
  jtagOut : Nat := 0
  /-- Boundary register cells: pins by ball number and the levels loaded by SAMPLE/PRELOAD and driven by EXTEST. -/
  boundary : List (Nat × Bool) := []
  /-- Pin levels the boundary register captured last. -/
  sampled : List (Nat × Bool) := []
deriving DecidableEq, Repr

/-! ### Interrupts, event ring and what the device has sent out -/

/-- One interrupt source (R416). -/
structure IrqSt where
  /-- Asserted and waiting for its holdoff to end or its vector to be unmasked. -/
  waiting : Bool := false
  /-- Rod number of the last message it caused. -/
  lastRod : Option Nat := none
deriving DecidableEq, Repr

/-- An MSI-X table entry (R413). -/
structure MsixEntry where
  addr : Nat := 0
  data : Nat := 0
  masked : Bool := true
  pending : Bool := false
deriving DecidableEq, Repr

/-- A frame the device has sent on a port: port, bytes as sent without FCS, whether its FCS was inverted, egress stamp. -/
structure SentFrame where
  port : Nat
  bytes : List Byte
  stomped : Bool
  stamp : Nat
deriving DecidableEq, Repr

/-- What has left the device, oldest first (MODEL: the outputs, so that statements can speak of them). -/
structure OutSt where
  /-- Host memory as the device's own writes have left it. -/
  hostMem : Mem := []
  /-- MSI-X messages sent: vector number. -/
  msgs : List Nat := []
  /-- Frames sent. -/
  frames : List SentFrame := []
deriving DecidableEq, Repr

/-! ### The tally journal (R334 to R359) -/

/-- The journal of one core die. -/
structure JrnDie where
  /-- Record count n of R339: numbers given out in this run. -/
  n : Nat := 0
  /-- Records numbered and not yet written to the ring, oldest first (R340). -/
  staging : List (List Byte) := []
  /-- The ring, by entry (R340). -/
  ring : List (Nat × List Byte) := []
  /-- Records numbered in the open set (R351). -/
  openSet : List (List Byte) := []
  /-- Sequence number of the first record of the open set. -/
  firstSeq : Nat := 0
  /-- Events not recorded since the die became full, and the stamp of the last one (R343). -/
  gap : Nat := 0
  gapStamp : Nat := 0
  /-- The die was full when last judged (R342, R343). -/
  wasFull : Bool := false
deriving DecidableEq, Repr

/-- A closed record set waiting for its deck sum (R351, R352). -/
structure ClosedSet where
  deck : Nat
  flags : Nat
  first0 : Nat
  first1 : Nat
  recs0 : List (List Byte)
  recs1 : List (List Byte)
  /-- Roots, once the root task has formed them. -/
  root0 : Option (List Byte) := none
  root1 : Option (List Byte) := none
  /-- S(D), once formed. -/
  sum : Option (List Byte) := none
  /-- Child set of R356 and what is known of each child: device, status, C(D). -/
  children : List (Nat × Nat × List Byte) := []
  waiting : List Nat := []
deriving DecidableEq, Repr

/-- The tally journal of the device. -/
structure JrnBlk where
  die0 : JrnDie := {}
  die1 : JrnDie := {}
  /-- Deck of the open set; a set is never closed twice (R350). -/
  openDeck : Nat := 0
  /-- Flags of R354 gathered for the open set. -/
  flags : Nat := 0
  /-- Sets closed and not yet stored, oldest first. -/
  closed : List ClosedSet := []
  /-- S(prev) of the run, G at its start (R349, R352). -/
  prev : List Byte := []
  /-- The run's last set has been closed; DISABLED once it is stored (R348). -/
  last : Bool := false
  /-- Sum ring and child ring, by entry (R354, R358). -/
  sums : List (Nat × List Byte) := []
  childs : List (Nat × List Byte) := []
  /-- POLICY and UNLOCK_ACT in force since the last deck boundary (R359). -/
  policy : Nat := 0
  unlockAct : Bool := false
  /-- Destination and source addresses of journal frames (R345), and a setting that waits for the deck boundary: drain
  port, RECS and addresses. -/
  portAddr : List Byte := []
  portNext : Option (Nat × Nat × List Byte) := none
  /-- Journal frames queued and not yet sent: frame, die, first record count and records (R344). -/
  draining : List (Nat × Nat × Nat × Nat) := []
  /-- Bytes written to the host ring of DRAIN 1. -/
  dmaPos : Nat := 0
  /-- The latest signed sum entry (R344, R357). -/
  signed : List Byte := []
  /-- The hash or signing engine has failed: nothing is signed until reset (R476). -/
  signBroken : Bool := false
  /-- Sums of children for decks not yet closed here: deck, device, C(D). -/
  early : List (Nat × Nat × List Byte) := []
deriving DecidableEq, Repr

/-! ### Ports, cages and protection groups (R57 to R91) -/

/-- What a port keeps beside its registers. -/
structure PortSt where
  /-- Mode and FEC the port runs in: PRT_CFG.MODE, or the mode negotiation resolved to (R63, R66). -/
  mode : Nat := 0
  fec : Nat := 0
  /-- The mode was resolved by Clause 73 (R63). -/
  an : Bool := false
  /-- Layers settled with the partner since entry to UP: 0 to 3 (R65). -/
  layers : Nat := 0
  /-- NO_COMMON_MODE has been raised in this stay in NEGOTIATE (R63). -/
  noCommon : Bool := false
  /-- The partner advertises EEE in auto-negotiation (R84). -/
  eee : Bool := false
  /-- Tick of the last entry to UP (R65, R87). -/
  upTick : Nat := 0
  /-- Priorities the port has paused with its own XOFF, one bit each (R76). -/
  xoffSent : Nat := 0
  /-- Priorities stopped by received PAUSE or PFC: priority, first tick of the stop, first tick after it (R79). -/
  stops : List (Nat × Nat × Nat) := []
  /-- Tick since which a priority has been continuously stopped (R80). -/
  stopSince : List (Nat × Nat) := []
  /-- Tick at which a priority last received XOFF (R80). -/
  lastXoff : List (Nat × Nat) := []
  /-- Shed step agreed: rod of the boundary (R82); `some` on both ends once accepted. -/
  shedRod : Option Nat := none
  /-- A shed request of this port awaits its answer: agreed rod. -/
  shedAsked : Option Nat := none
  /-- Rod until which proposals are blocked (R82). -/
  shedBlocked : Nat := 0
  /-- Lane restoration due: rod of the boundary (R83). -/
  wakeRod : Option Nat := none
  /-- The transmit grid has been established since entry to UP, recalibration, step or GRID_VALID setting (R54). -/
  gridSet : Bool := false
  /-- A frame of the port has been in transmission since this copy number (R86, R248). -/
  sending : Option Nat := none
  /-- The transmitter is idled by the safe state, a disabled port or PERST_L (R57, R485). -/
  idle : Bool := true
deriving DecidableEq, Repr

/-- What a cage keeps beside its registers (R69, R70, R71). -/
structure CageSt where
  /-- Presence and interrupt lines of the previous scan. -/
  rawPresent : Bool := false
  rawInt : Bool := false
  /-- Applications the module advertises, in order: application number, host mode, host lanes, FEC its code names. -/
  apps : List (Nat × Nat × Nat × Nat) := []
  /-- Host mode, lanes and FEC of the active application. -/
  active : Option (Nat × Nat × Nat) := none
  /-- The media is passive or linear-active copper (R63). -/
  copper : Bool := false
  /-- The wait in POWERING_UP follows an arrival, so READY raises MOD_ARRIVE (R70, step 4). -/
  arriving : Bool := false
  /-- Module memory as device and host writes have left it (R70, R73), address page × 256 + offset. -/
  modMem : Mem := []
deriving DecidableEq, Repr

/-- What a protection group keeps beside its registers (R85 to R87). -/
structure PgSt where
  /-- Tick boundary from which member 0's queues are served to the next member (R86). -/
  switchAt : Option Nat := none
deriving DecidableEq, Repr

/-- The ports, cages and protection groups. -/
structure PortBlk where
  ports : List (Nat × PortSt) := []
  cages : List (Nat × CageSt) := []
  groups : List (Nat × PgSt) := []
  /-- Lanes with CDR lock (R62, R102). -/
  cdr : List Nat := []
  /-- Lanes held powered down because start-up calibration did not converge (R521). -/
  badLanes : List Nat := []
  /-- Lanes with a calibration run in progress (R89). -/
  calRunning : List Nat := []
  /-- Delays measured and not yet applied: lane, receive, transmit (R90). -/
  calNew : List (Nat × Nat × Nat) := []
  /-- One more than the die temperature that a temperature or period run of a lane last noted, in °C; 0: none (R89). -/
  calTemp : List (Nat × Nat) := []
  /-- Tick at which a lane's last calibration run started (R89). -/
  calTick : List (Nat × Nat) := []
deriving DecidableEq, Repr

/-! ### The rail (R92 to R110) -/

/-- What a rail group keeps beside its registers. -/
structure RailGrp where
  /-- Lanes of the group that have completed a calibration run since entry to ACQUIRING (R97). -/
  calDone : List Nat := []
  /-- Deck of the last TAP_BLIND mark (R109). -/
  blindDeck : Option Nat := none
deriving DecidableEq, Repr

/-- What a rail destination lane keeps beside its registers. -/
structure RailDst where
  /-- The lane was added and starts copying once its FIFO has reached the group delay (R94). -/
  starting : Bool := false
  /-- FIFO setting it is stepping to, and the change remaining in 1/1,024 ns (R101). -/
  target : Option (Nat × Nat) := none
  /-- Tick at which it began to step. -/
  since : Nat := 0
  /-- Retired until VALID is cleared and set again (R105). -/
  retired : Bool := false
deriving DecidableEq, Repr

/-- The rail of both port dies. -/
structure RailBlk where
  groups : List (Nat × RailGrp) := []
  dsts : List (Nat × RailDst) := []
  /-- Group delays recomputed and not yet applied (R101). -/
  newDelay : List (Nat × Nat) := []
deriving DecidableEq, Repr

/-- Changes of software's making that wait for the next tick boundary (R38), in the order they were made. -/
inductive Deferred where
  /-- PRT_CFG.EN set and its check passed: the port enters WAIT_MODULE (R59, R62). -/
  | portEnable (p : Nat)
  /-- The port's cage was READY when the port began to wait: it leaves WAIT_MODULE (R62, R70). -/
  | portReady (p : Nat)
  /-- PRT_CFG.EN cleared: the port leaves UP (R60). -/
  | portDisable (p : Nat)
  /-- RAIL_GRP_CFG.EN set and its check passed: the group enters ACQUIRING (R97). -/
  | railEnable (g : Nat)
  /-- RAIL_GRP_CFG.EN cleared (R97). -/
  | railDisable (g : Nat)
  /-- A destination lane was removed: it goes idle (R94). -/
  | railRemove (n : Nat)
  /-- A destination lane was retired: it goes idle (R105). -/
  | railIdle (n : Nat)
  /-- RAIL_GRP_CTRL.SEL_PRIMARY: the group returns to its source lane (R104). -/
  | railPrimary (g : Nat)
  /-- PAR_CTRL.SWAP written, or TBL_PARSE_SWAP outside a batch: the other bank becomes active (R133). -/
  | parSwap (die : Nat)
  /-- FLOW_REHASH has drawn a new seed pair: the die is DUAL (R236). -/
  | flwDual (die h1 h2 : Nat)
  /-- A migration pass has ended with no stuck record: the old seed pair is dropped and the flush begins (R238). -/
  | flwSingle (die : Nat)
  /-- A block is reset on the dies of a mask; the command to answer: source and tag (R525). -/
  | blockReset (block mask : Nat) (reply : Option (CmdSrc × Nat))
  /-- A register write that reached a block during its reset (R525). -/
  | heldWrite (a v : Nat)
deriving DecidableEq, Repr

/-! ### Packets, frames and the parser (R111 to R134) -/

/-- A header instance (R116, R129). -/
structure HInst where
  htype : Nat
  depth : Nat
  off : Nat
  len : Nat
deriving DecidableEq, Repr

/-- The parse result (R129), with the outermost covered end in force at issue (R242). -/
structure ParseRes where
  profile : Nat := 0
  flowEn : Bool := false
  frag : Bool := false
  malformed : Bool := false
  limit : Bool := false
  pshort : Bool := false
  matchOvf : Bool := false
  lenTyped : Bool := false
  inject : Bool := false
  partialKey : Bool := false
  reason : Nat := 0
  steps : Nat := 0
  insts : List HInst := []
  payStart : Nat := 0
  payLen : Nat := 0
  /-- Matches kept: pattern number and start offset (R124). -/
  kept : List (Nat × Nat) := []
  lastState : Nat := 0
  bank : Nat := 0
  key : List Byte := []
  keyValid : Nat := 0
  xtrValid : Nat := 0
  xtr : List Nat := []
  covOuter : Option Nat := none
  /-- The frame had ended at issue (R111). -/
  ended : Bool := false
deriving DecidableEq, Repr

/-- One bank of a die's parse memory: raw entries as written; an unlisted entry is all zeros, and profile 0 starts
valid with every action set to remainder (R112, R113, R123, R126). -/
structure ParBank where
  states : List (Nat × List Byte) := []
  trans : List (Nat × List Byte) := []
  pats : List (Nat × List Byte) := []
  profs : List (Nat × List Byte) := []
deriving DecidableEq, Repr

/-- A parse context of a port (R111): the frame it walks, the bank it began on, and its result once the walk is done. -/
structure ParseCtx where
  port : Nat
  frame : Nat
  bank : Nat
  res : Option ParseRes := none
deriving DecidableEq, Repr

/-- A remainder descriptor (R130): its 32 bytes less the fields that follow the frame, which it names. -/
structure RmdDesc where
  frame : Nat
  port : Nat
  profile : Nat
  flags : Nat
  reason : Nat
  depth : Nat
  steps : Nat
  lastState : Nat
  /-- Handle of the frame's first cell: a free value (R240). -/
  handle : Nat
  /-- Cells it holds. -/
  cells : Nat
deriving DecidableEq, Repr

/-- The parser of one core die. -/
structure ParDie where
  bank0 : ParBank := {}
  bank1 : ParBank := {}
  /-- Parse contexts open, oldest first. -/
  ctxs : List ParseCtx := []
  /-- Remainder queue, oldest first (R130). -/
  rmd : List RmdDesc := []
  /-- Packets admitted to the remainder queue in the current rod (R131). -/
  rodRmd : Nat := 0
deriving DecidableEq, Repr

/-- An edit of a packet's edit list, resolved to a frame offset (R144). -/
structure Edit where
  kind : Nat
  off : Nat
  len : Nat
  data : List Byte
  /-- Offset and length of the instance whose IPv4 checksum is recomputed. -/
  csum : Option (Nat × Nat)
deriving DecidableEq, Repr

/-- A packet's descriptor. -/
structure Pkt where
  frame : Nat
  /-- Ingress die, port and column. -/
  die : Nat
  port : Nat
  col : Nat
  pr : ParseRes
  /-- 64 bytes of metadata (R138). -/
  md : List Byte
  /-- 32-byte rewrite block (R138). -/
  rw : List Byte
  edits : List Edit := []
  /-- Table version stamped at issue (R169), and whether it has been lifted (R171). -/
  ver : Nat
  lifted : Bool := false
  /-- Deck, tick and order of arrival at stage 6 (R290): tick, cycle order. -/
  arrTick : Nat := 0
  arrSeq : Nat := 0
  /-- The flow lookup took the late action (R231). -/
  late : Bool := false
  /-- Locator of the record the flow stage used (R181). -/
  loc : Nat := 0xFFFFFFFF
  digest : List Byte := []
  /-- A step of domain time came between its issue and its admission (R298). -/
  stale : Bool := false
deriving DecidableEq, Repr

/-- A frame in the device. -/
structure Frame where
  port : Nat
  /-- Bytes received so far, the FCS included once ended. -/
  bytes : List Byte
  /-- The length the frame will have, its FCS included (log entry 8). -/
  total : Nat
  /-- The last byte has arrived. -/
  last : Bool := false
  /-- FRAME_END has been made: the checks that need the end are done. -/
  ended : Bool := false
  /-- Bad at its end: 1 bad FCS, oversize or runt (R61), 2 short against its covered length (R121), 3 no cell (R242). -/
  bad : Nat := 0
  ts : Nat
  unc : Nat
  /-- Issued: its packet has left the parser. -/
  issued : Bool := false
  /-- The outermost covered end left to check at the frame's end (R121). -/
  covEnd : Option Nat := none
  /-- Rail groups whose record is to be written at the end (R107), with the delay D. -/
  rail : List Nat := []
  /-- Journal records whose digest waits for bytes of the frame: die and sequence number (R338). -/
  recs : List (Nat × Nat) := []
  /-- No cell was free for a part of the frame (R242). -/
  noCell : Bool := false
  /-- Pool buffer of an injected frame, given back once the frame is sent or dropped (R395, R437). -/
  buf : Option Nat := none
  /-- Die of the reckoner that injected it, which is told of a drop under R43 or R132 (R395); none: no reckoner did. -/
  told : Option Nat := none
deriving DecidableEq, Repr

/-! ### The cell buffer, queues and level queues (R240 to R301) -/

/-- Where a cell in use is charged (R245). -/
inductive Charge where
  | reserve (q : Nat)
  | shared
  | headroom (p : Nat)
  | level
  | tail
  /-- Unreserved cells of the remainder path and COPY_HOST (R244). -/
  | remainder
deriving DecidableEq, Repr

/-- A frame's chain on a die (R240): reference count and what its cells are charged to. -/
structure Chain where
  refs : Nat
  parts : List (Charge × Nat)
  /-- Priority its cells count for in the ingress fill (R76). -/
  pri : Nat
deriving DecidableEq, Repr

/-- Level release data of a copy (R286 to R296). -/
structure LvlInfo where
  group : Nat
  queue : Nat
  /-- Release time, 2^-16 ns. -/
  r : Nat
deriving DecidableEq, Repr

/-- One copy of a frame waiting in a queue (R240). -/
structure Copy where
  pkt : Pkt
  /-- Egress port: member 0's for a protection group. -/
  port : Nat
  pg : Option Nat
  queue : Nat
  cells : Nat
  /-- Cells charged to the queue's reserve, the shared pool, a headroom. -/
  resUsed : Nat := 0
  shUsed : Nat := 0
  hdUsed : Nat := 0
  /-- Admission estimate (R242), corrected at the frame's end. -/
  est : Nat
  grant : Nat
  /-- ECN mark bits by colour (R250). -/
  marks : Nat := 0
  /-- A journal entry is reserved for it (R340). -/
  jrn : Bool := false
  lvl : Option LvlInfo := none
  /-- On HBM or in the tail: not on-die (R262). -/
  spilled : Bool := false
  /-- Frame bytes of a copy made by the device itself (journal frames, Ruley, PTP, IPFIX): none for received frames. -/
  own : Option (List Byte) := none
  /-- Its start has been held back by the guard of R294. -/
  held : Bool := false
deriving DecidableEq, Repr

/-- A shaper (R272): credit in 2^-32 bytes, tick of its last refill, rate and burst in use, wheel entry. -/
structure Shaper where
  credit : Int := 16384 * 4294967296
  t0 : Nat := 0
  rate : Nat := 800000000
  burst : Nat := 16384
  /-- Eligible time of its wheel entry, and whether it is on the coarse wheel. -/
  wheel : Option (Nat × Bool) := none
deriving DecidableEq, Repr

/-- What an egress queue keeps beside its registers (R243 to R281). -/
structure QueueSt where
  copies : List Copy := []
  resUsed : Nat := 0
  shUsed : Nat := 0
  /-- WRED average depth in 1/256 cell (R250). -/
  avg : Nat := 0
  /-- DRR deficit in bytes (R270). -/
  deficit : Int := 0
  shaper : Shaper := {}
  /-- Deep queue: SPILLED, rows in HBM, rows of the tail not yet written (R261, R262). -/
  spilled : Bool := false
  rows : Nat := 0
  tailCells : Nat := 0
  /-- Cells read back of a copy not yet whole on-die. -/
  backCells : Nat := 0
  /-- Sampling (R280): greatest sojourn, bytes dequeued and copies refused since the previous sample. -/
  maxSojourn : Nat := 0
  bytesDeq : Nat := 0
  refused : Nat := 0
  /-- How often the queue has emptied: a deficit correction (R271) is for one visit of the queue only. -/
  epoch : Nat := 0
deriving DecidableEq, Repr

/-- A copy in transmission on a port (R248, R269). -/
structure TxSt where
  copy : Copy
  /-- Port that transmits, frame bytes as sent without FCS when the frame had ended, egress time-stamp. -/
  port : Nat
  stamp : Nat
  /-- Journal sequence number, when recorded (R339). -/
  seq : Option Nat
  trailer : Bool
  /-- Charge made at dequeue, for R271's correction: class (2, 3 or 4) and bytes. -/
  cls : Nat
  charged : Nat
  /-- OVERHEAD it was charged with, and how often its queue had emptied then (R271, R275). -/
  overhead : Int := 0
  epoch : Nat := 0
  stomp : Bool := false
  /-- Its ECN field is to be set to CE (R251). -/
  ce : Bool := false
  /-- A level copy that leaves after its first boundary (R296). -/
  late : Bool := false
  /-- Ended by failover: GROUP_ABORT (R86). -/
  abort : Bool := false
deriving DecidableEq, Repr

/-- A frame waiting for the replication engine (R254). -/
structure Repl where
  pkt : Pkt
  est : Nat
deriving DecidableEq, Repr

/-- The buffer, the queues and the scheduler of one core die. -/
structure BufDie where
  /-- Chains held, by frame. -/
  chains : List (Nat × Chain) := []
  /-- Queue state by die-local index (R265). -/
  queues : List (Nat × QueueSt) := []
  /-- Port shapers by port mod 256 (R272). -/
  portShapers : List (Nat × Shaper) := []
  /-- DRR ring position by port mod 256, and whether the queue there has had its quantum (R270). -/
  ring : List (Nat × (Nat × Bool)) := []
  /-- Level copies by level queue, in key order (R290). -/
  levels : List (Nat × List Copy) := []
  repl : List Repl := []
  /-- Mirror sessions: candidates so far, entries in this rod (R256). -/
  mirCand : List (Nat × Nat) := []
  mirRod : List (Nat × Nat) := []
  /-- Mirror ring, by entry; sample ring, by entry (R258, R281). -/
  mirRing : List (Nat × List Byte) := []
  smpRing : List (Nat × List Byte) := []
  /-- Audit: tick of the last pass, cells unreached in it (R259, R260). -/
  auditTick : Nat := 0
  auditSeen : List Nat := []
  /-- Frame handles found with too high a count in the last pass. -/
  auditOver : List Nat := []
  /-- Refill entries left over from the last tick (R48). -/
  refillLate : List Nat := []
  /-- Time each port is next free of level and class-2 frames, in 2^-16 ns ÷ 25, a unit in which every block boundary is
  whole (R292, R295). -/
  lvlFree : List (Nat × Nat) := []
  /-- Key of the copy that departed last from each port (R295). -/
  lvlLast : List (Nat × (Nat × Nat × Nat × Nat)) := []
  /-- Copies made and refused of each multicast group on this die (R252). -/
  mcMade : List (Nat × Nat) := []
  mcRefused : List (Nat × Nat) := []
deriving DecidableEq, Repr

/-! ### Match tables (R135 to R172) -/

/-- A table entry: `place` is the unit (EM), the row (TCAM) or 0 (LPM); `flag` is 0 plain, 1 ADD, 2 DEL (R169). -/
structure TblEntry where
  place : Nat
  key : List Byte
  mask : List Byte := []
  len : Nat := 0
  prio : Nat := 0
  handle : Nat := 0
  result : List Byte
  flag : Nat := 0
  poisoned : Bool := false
deriving DecidableEq, Repr

/-- One table on one die. -/
structure Table where
  desc : List Byte
  seeds : List Nat := []
  entries : List TblEntry := []
  /-- Slot it is bound to: direction, stage, slot; and its keymap of eight segments (R141, R147). -/
  bound : Option (Nat × Nat × Nat) := none
  keymap : List Byte := []
  /-- Its keymap is poisoned (R165). -/
  mapPoison : Bool := false
deriving DecidableEq, Repr

/-- A multicast group (R252): port bitmap, protection-group bitmap, flags. -/
structure McGroup where
  ports : Nat := 0
  pgs : Nat := 0
  prune : Bool := true
  jrn : Bool := false
  copyId : Bool := false
deriving DecidableEq, Repr

/-- The memories that a command writes and that become current at a tick boundary (R38, R166): tables by
128 × die + number, action profiles by slot, multicast groups, kind memory. -/
structure TblMem where
  tables : List (Nat × Option Table) := []
  /-- Action profiles: key ((die × 2 + direction) × 12 + stage) × 2 + slot, times 64, plus the profile (R143). -/
  profiles : List (Nat × List Byte) := []
  /-- Poisoned profiles, by the same key (R165). -/
  badProfiles : List Nat := []
  groups : List (Nat × McGroup) := []
  /-- Kind memory entries: (die × 4 + kind) × 1024 + index (R557). -/
  kind : List (Nat × List Byte) := []
  /-- Poisoned kind-memory entries (R202). -/
  badKind : List Nat := []
deriving DecidableEq, Repr

/-- An insertion waiting for its chain of moves (R151, R160): the moves left, each an entry's old and new place, then
the entry to store. -/
structure InsJob where
  die : Nat
  table : Nat
  moves : List (Nat × Nat)
  entry : TblEntry
  /-- Command that waits for it: source, tag and opcode; and the result of its reply. -/
  reply : Option (CmdSrc × Nat × Nat) := none
  result : List Byte := []
deriving DecidableEq, Repr

/-- The match tables of the device. -/
structure TblBlk where
  /-- As commands have left it. -/
  mem : TblMem := {}
  /-- As the lookups see it: the memory at the last tick boundary. -/
  live : TblMem := {}
  jobs : List InsJob := []
  /-- LPM nodes to be freed: die, table and tick (R155). -/
  oldNodes : List (Nat × Nat × Nat) := []
  /-- Respacing sweeps queued: die, table (R160). -/
  respace : List (Nat × Nat) := []
  /-- Commit requested for the next boundary: batch identifiers (R168, R170). -/
  commit : List Nat := []
  /-- Versioned tables whose binding the last commit changed, with the slot and keymap that packets of the previous
  version still see (R169): 128 × die + table. -/
  prevBind : List (Nat × Option (Nat × Nat × Nat) × List Byte) := []
  /-- Tick of the last commit. -/
  commitTick : Nat := 0
  /-- Scrub passes due: decks since the last TCAM and SRAM pass of each die (R164). -/
  scrubDecks : List (Nat × Nat × Nat) := []
deriving DecidableEq, Repr

/-! ### The flow store (R173 to R239) -/

/-- A slot of a bucket: its entry fields (R179) and its record's 64 bytes (R180). -/
structure FSlot where
  fp : Nat
  lastHit : Nat
  valid : Bool
  pinned : Bool
  moving : Bool
  kind : Nat
  second : Bool
  body : List Byte
deriving DecidableEq, Repr

/-- A bucket (R178). -/
structure Bucket where
  gen : Nat := 0
  lock : Nat := 0
  occ : Nat := 0
  spills : Nat := 0
  slots : List (Nat × Option FSlot) := []
deriving DecidableEq, Repr

/-- A flow cache line (R183). -/
structure FLine where
  body : List Byte
  lastHit : Nat
  second : Bool
  loc : Nat
  dirty : Bool
  stay : Bool
  moving : Bool
deriving DecidableEq, Repr

/-- A carry (R190). -/
structure Carry where
  loc : Nat
  bytes : Nat
  packets : Nat
  lastHit : Nat
deriving DecidableEq, Repr

/-- A flow key with its hashes. -/
structure FKey where
  profile : Nat
  key : List Byte
  h1 : Nat
  h2 : Nat
deriving DecidableEq, Repr

/-- An outstanding lookup (R187). -/
structure FLookup where
  fk : FKey
  /-- A tag is held; else it waits for one (R199). -/
  tag : Bool
  /-- It waits for a victim or a write-back tag (R183, R191): what it found. -/
  fill : Option FLine := none
  /-- Counted late for its pseudo-channel already (R232). -/
  lateCounted : Bool := false
  /-- Tick of its issue (R195). -/
  tick : Nat := 0
deriving DecidableEq, Repr

/-- What a parked packet waits for. -/
inductive Ready where
  | waiting
  | noRecord
  /-- Record data returned; the copy serves if the record is deleted before the packet resumes (R229). -/
  | found (line : FLine)
deriving DecidableEq, Repr

/-- A parked packet (R187). -/
structure Parked where
  pkt : Pkt
  fk : FKey
  tick : Nat
  ready : Ready := .waiting
  /-- Metadata as it stood when stage 5 began, for an LPM key of stage 6 (R137). -/
  prev : List Byte := []
deriving DecidableEq, Repr

/-- A kill-list entry (R195): applies from a boundary; removable after it. -/
structure KillEnt where
  profile : Nat
  h1 : Nat
  h2 : Nat
  key : List Byte
  /-- Tick in which the flag was stored. -/
  stored : Nat
  /-- KILL is set; else it has been cleared by FLOW_UNKILL. -/
  set : Bool
  /-- The record's KILL flag before the change, which holds until the boundary. -/
  was : Bool := false
deriving DecidableEq, Repr

/-- A learn-table entry (R216): its packet's data, and the rod to which a failed key is held. -/
structure LearnEnt where
  fk : FKey
  pkt : Pkt
  len : Nat
  tick : Nat
  /-- TCP flags byte of the packet (R206, R217). -/
  tcp : Option Nat := none
  started : Bool := false
  hold : Option Nat := none
deriving DecidableEq, Repr

/-- An insertion or other engine operation on a flow key (R214), with its placement once chosen. -/
structure EngOp where
  fk : FKey
  body : List Byte
  lastHit : Nat
  /-- Destination bucket and slot reserved, stored as second choice. -/
  dest : Option (Nat × Nat × Bool) := none
  /-- Moves to make, the far end first: source bucket and slot, destination bucket and slot. -/
  moves : List (Nat × Nat × Nat × Nat) := []
  /-- Move in progress after M0 and M1 (R221): tick of M0. -/
  moving : Option Nat := none
  learned : Bool
  /-- Command that waits for it: reply ring, tag and opcode. -/
  reply : Option (CmdSrc × Nat × Nat) := none
  /-- A homing or migration move: no record is placed at its end. -/
  moveOnly : Bool := false
  /-- NAT port allocated for it (R222). -/
  nat : Option Nat := none
deriving DecidableEq, Repr

/-- A retirement in progress (R234): channel, next row, and command to answer. -/
structure RetireJob where
  pc : Nat
  row : Nat
  rows : Nat
  reply : Option (CmdSrc × Nat × Nat) := none
deriving DecidableEq, Repr

/-- A record handed to export (R210, R226). -/
structure ExportRec where
  profile : Nat
  body : List Byte
  lastHit : Nat
deriving DecidableEq, Repr

/-- The flow engine of one core die. -/
structure FlwDie where
  buckets : List (Nat × Bucket) := []
  /-- Cache lines by set, most recently used first (R183). -/
  cache : List (Nat × List FLine) := []
  /-- Carries, oldest first (R190). -/
  carries : List Carry := []
  parked : List Parked := []
  lookups : List FLookup := []
  /-- Write-backs outstanding: the pseudo-channel each waits on (R191). -/
  wbs : List Nat := []
  /-- Tags have been low (fewer than 1,229 free) since the last TAG_LOW. -/
  tagLow : Bool := false
  carryHigh : Bool := false
  kills : List KillEnt := []
  /-- Kill-list contents that lookups see: the list at the last tick boundary (R195). -/
  killsLive : List KillEnt := []
  learns : List LearnEnt := []
  /-- Learn requests admitted in this rod (R215). -/
  rodLearn : Nat := 0
  ops : List EngOp := []
  /-- The ageing sweep (R227, R230): decks of a pass, what the schedule has come to in 1/(100 × that) bucket, and the buckets
  visited. -/
  sweepPer : Nat := 1000
  sweepDue : Nat := 0
  sweepDone : Nat := 0
  lagRaised : Bool := false
  /-- Compare-and-deletes presented by the sweep: locator and LAST_HIT read (R228). -/
  cads : List (Nat × Nat) := []
  retire : Option RetireJob := none
  /-- Rehash: the command to answer; stuck records of the pass in progress (R237). -/
  rehash : Option (CmdSrc × Nat × Nat) := none
  rehashOn : Bool := false
  stuck : Nat := 0
  /-- Next set of the flush (R238). -/
  flushSet : Option Nat := none
  /-- NAT ports held: (pool × 256 + address) × 65,536 + port (R205). -/
  nat : List Nat := []
  /-- Pools told low since they were last at or above their mark. -/
  natLow : List Nat := []
  exports : List ExportRec := []
  /-- Late lookups on each channel in the current deck (R232). -/
  deckLate : List Nat := []
deriving DecidableEq, Repr

/-- A reckoner inject waiting for a bubble or for admission (R43, R395): entry point, bytes, port field, options. -/
structure Inject where
  col : Nat
  port : Nat
  /-- Start state named by its inject descriptor; none at admission. -/
  state : Option Nat
  bytes : List Byte
  /-- Task that queued it, by 16384 × die + index; none for a command's frame. -/
  task : Option Nat
  tick : Nat
  /-- Metadata given by an inject descriptor that enters at admission. -/
  md : List Byte := []
  /-- Pool buffer it occupies: pool number. -/
  buf : Option Nat := none
deriving DecidableEq, Repr

/-- The data path. -/
structure PathBlk where
  frames : List (Nat × Option Frame) := []
  nextFrame : Nat := 0
  /-- Frame arriving on each port. -/
  rx : List (Nat × Option Nat) := []
  /-- Copy in transmission on each port. -/
  tx : List (Nat × Option TxSt) := []
  /-- Level copies dequeued and waiting at a port's release gate (R291). -/
  gate : List (Nat × List TxSt) := []
  par0 : ParDie := {}
  par1 : ParDie := {}
  buf0 : BufDie := {}
  buf1 : BufDie := {}
  flw0 : FlwDie := {}
  flw1 : FlwDie := {}
  /-- Packets that recirculate: waiting to re-enter their column (R42). -/
  recirc : List Pkt := []
  injects : List Inject := []
  /-- Counter of packets that have reached ingress stage 6, for the arrival sequence of R290. -/
  arrivals : Nat := 0
  /-- Slots each column has taken in this tick (R42). -/
  slots : List (Nat × Nat) := []
deriving DecidableEq, Repr

/-! ### Reckoners, tasks and the dispatcher (R381 to R411) -/

/-- Context of a command (R425): where its reply goes, and what it asks for. -/
structure CmdCtx where
  src : CmdSrc
  tag : Nat
  /-- Flags byte of the header. -/
  flags : Nat
  opcode : Nat
  batch : Nat
  /-- Execute-at deck; 0 at once. -/
  deck : Nat := 0
  params : List Byte
  /-- Position of the command in its ring (R428). -/
  pos : Nat := 0
  /-- Pool buffer of owner 8 that holds it (R424). -/
  buf : Option Nat := none
  /-- Its ring has been reset since: its reply is discarded (R415). -/
  dead : Bool := false
deriving DecidableEq, Repr

/-- A condition of WAIT or PARK (R388, R389). -/
inductive Cond where
  | operand (i : Nat)
  /-- Tick boundaries still to pass. -/
  | tick (left : Nat)
  | tag (v : Nat)
  | tags
  /-- Deck boundaries still to pass. -/
  | deck (left : Nat)
deriving DecidableEq, Repr

/-- State of a task entry that is not FREE (R403). -/
inductive TaskSt where
  | waiting
  | ready
  | running (k : Nat)
  | parked (c : Cond)
deriving DecidableEq, Repr

/-- A task (R382, R393, R403). -/
structure Task where
  type : Nat
  gen : Nat
  required : Nat := 0
  present : Nat := 0
  /-- Operands 0 to 3; one not arrived reads 0. -/
  ops : List Nat := [0, 0, 0, 0]
  deadline : Nat
  budget : Nat
  requester : Nat := 0xFFFF
  committed : Bool := false
  trace : Bool := false
  st : TaskSt
  context : Nat := 0
  reissued : Bool := false
  excluded : Option Nat := none
  dispTick : Nat := 0
  /-- It has been granted at least once. -/
  begun : Bool := false
  cmd : Option CmdCtx := none
  replied : Bool := false
deriving DecidableEq, Repr

/-- A task that a producer in hardware asks for and the table has refused (R406): type, operands, requester, deadline. -/
structure TaskReq where
  type : Nat
  ops : List Nat
  requester : Nat := 0xFFFF
  cmd : Option CmdCtx := none
  /-- Deadline tick of a command; 0: the type's default. -/
  deadline : Nat := 0
deriving DecidableEq, Repr

/-- What an outstanding tag of a reckoner stands for (R391, R392). The access itself is made when it is issued. -/
inductive TagKind where
  /-- A read: the stack, the scratch address its 64 bytes go to, and the bytes. -/
  | read (stack scratch : Nat) (data : List Byte)
  | write (stack : Nat)
  /-- A block request: scratch address of the parameter block, and the block as answered. -/
  | block (scratch : Nat) (answer : List Byte)
  /-- A command submitted through block 22. -/
  | command
deriving DecidableEq, Repr

/-- What a reckoner keeps beside RCK_K_STATUS and RCK_K_TASK (R381). -/
structure Reck where
  /-- General registers; G0 is never listed. -/
  g : List (Nat × BitVec 64) := []
  scratch : Mem := []
  /-- Tags outstanding. -/
  tags : List (Nat × TagKind) := []
  /-- Condition of the WAIT it stalls on. -/
  wait : Option Cond := none
  /-- Register D of the GET it waits in. -/
  getD : Nat := 1
deriving DecidableEq, Repr

/-- The dispatcher, the task table and the reckoners of one core die. -/
structure RckDie where
  tasks : List (Nat × Option Task) := []
  /-- Generation of an entry, advanced each time it is freed (R394). -/
  gens : List (Nat × Nat) := []
  held : List TaskReq := []
  /-- TABLE_LOW has been raised since free entries were last at or above 2,048 (R406). -/
  low : Bool := false
  /-- Trace records written, by ring entry (R410). -/
  trace : List (Nat × List Byte) := []
  /-- TRACE_FULL has been raised since the ring last had room. -/
  full : Bool := false
  /-- Reckoner-cycles of the open rod not spent waiting in GET, in reckoner-ticks (R408). -/
  busy : Nat := 0
deriving DecidableEq, Repr

/-- Reckoners and microcode of the device. -/
structure RckBlk where
  die0 : RckDie := {}
  die1 : RckDie := {}
  recks : List (Nat × Reck) := []
  /-- Control-store words as the images have loaded them (R396); both dies hold the same words. -/
  cs : List (Nat × BitVec 32) := []
  /-- Words uncorrectable: die and address (R396). -/
  csBad : List (Nat × Nat) := []
  /-- Entry table (R382), by task type [11:0]. -/
  entries : List (Nat × BitVec 32) := []
  /-- CRC of the open image. -/
  openCrc : Nat := 0
deriving DecidableEq, Repr

/-! ### Host interface, DMA, command packets and pools (R412 to R439) -/

/-- What a command ring keeps beside its registers (R424, R428). -/
structure RingSt where
  /-- Commands fetched and not yet complete, by their position in the ring, and whether each carries FENCE. -/
  out : List (Nat × Bool) := []
deriving DecidableEq, Repr

/-- A staged operation of a batch (R431). -/
inductive StagedOp where
  | bind (table dir stage slot : Nat) (segs : List Byte) (companion : Nat)
  | unbind (table : Nat)
  | insert (table flags plen prio handle : Nat) (result key mask : List Byte)
  | delete (table mask plen handle : Nat) (key : List Byte)
  | profile (mask dir stage slot profile : Nat) (entry : List Byte)
  | parseSwap (mask : Nat)
  | shape (port queue : Nat) (set : ShapeSet)
  | mcWrite (group : Nat) (content : McGroup)
deriving DecidableEq, Repr

/-- An open batch (R431). -/
structure Batch where
  ops : List StagedOp := []
  /-- First failing status and that operation's number. -/
  failed : Option (Nat × Nat) := none
  /-- Deck in which it was opened. -/
  deck : Nat
  /-- DEV_BATCH_COMMIT has been accepted: it takes effect at the next tick boundary; the command to answer. -/
  commit : Option (CmdSrc × Nat × Nat) := none
  /-- Result of the one operation of a batch of one: a write outside a batch to a versioned table (R169). -/
  single : Option (List Byte) := none
deriving DecidableEq, Repr

/-- A relayed command that waits for its reply (R430, R452). -/
structure Relayed where
  ctx : CmdCtx
  /-- Reply token: ring, fetch sequence, die. -/
  token : Nat
  /-- Deck from which the limit counts. -/
  deck : Nat
deriving DecidableEq, Repr

/-- A DMA channel beside its registers (R418 to R423). -/
structure ChanSt where
  /-- Descriptors processed since the last START, or the last tail write that added entries (R421). -/
  hops : Nat := 0
  /-- Chain mode: address of the next descriptor. -/
  next : Nat := 0
deriving DecidableEq, Repr

/-- A core die's buffer pools (R434 to R437): owner of each held buffer, by 16,384 × pool + index; 1 + owner is kept. -/
structure PoolDie where
  held : List (Nat × Nat) := []
  /-- Pools told low since they were last at or above their mark. -/
  low : List Nat := []
  /-- Contents of the pool scratch. -/
  mem : Mem := []
deriving DecidableEq, Repr

/-- The host interface. -/
structure HostBlk where
  rings : List (Nat × RingSt) := []
  /-- Ring the fetcher serves next. -/
  turn : Nat := 0
  /-- The schedule store (R429), oldest first. -/
  store : List CmdCtx := []
  batches : List (Nat × Option Batch) := []
  relayed : List Relayed := []
  chans : List (Nat × ChanSt) := []
  pool0 : PoolDie := {}
  pool1 : PoolDie := {}
  /-- Punt rings told full since they last had room (R432). -/
  puntFull : List Nat := []
  /-- Commands fetched and relayed, modulo 2^32: the fetch sequence of a reply token (R452). -/
  fetchSeq : Nat := 0
  /-- DMA of the journal has been stopped by a reset of the host interface since DRAIN was set (R415). -/
  drainOff : Bool := false
  /-- The PCIe link is trained (R412, R415). -/
  linkUp : Bool := false
deriving DecidableEq, Repr


/-! ### The Ruley domain (R440 to R458) -/

/-- What a HELLO says of its sender (R443). -/
structure HelloBody where
  state : Nat
  depth : Nat
  root : Nat
  rootPri : Nat
  children : Nat
  height : Nat
  caps : Nat
  heard : Nat
  path : List Nat
  serial : Nat
deriving DecidableEq, Repr

/-- The adjacency of a port (R444). -/
structure AdjSt where
  /-- 0 NONE, 1 HEARD, 2 TWO_WAY. -/
  st : Nat := 0
  /-- Rod in which any Ruley frame was last received. -/
  lastRod : Nat := 0
  partner : Nat := 0xFFFF
  hello : Option HelloBody := none
  /-- Rod of entry to UP, from which HELLO is resent until TWO_WAY (R443). -/
  upRod : Nat := 0
  /-- Consecutive keepalives that have told of a root preferred to the device's own (R445). -/
  prefer : Nat := 0
deriving DecidableEq, Repr

/-- A received Ruley frame waiting in a domain queue, or a part of one (R441). -/
structure DomFrame where
  port : Nat
  bytes : List Byte
  tick : Nat
deriving DecidableEq, Repr

/-- A change of device state that waits for the next tick boundary (R449). -/
inductive DomNext where
  | seeking | adopting | root | attached (dev port depth : Nat) (path : List Nat) | blocked | disabled
deriving DecidableEq, Repr

/-- The Ruley protocol engine of the device. -/
structure DomBlk where
  adj : List (Nat × AdjSt) := []
  /-- Children: device and port of the tree link (R447). -/
  children : List (Nat × Nat) := []
  /-- Parent: device and port of the tree link. -/
  parent : Option (Nat × Nat) := none
  path : List Nat := []
  root : Option Nat := none
  rootPri : Nat := 0
  /-- Route table: device and port (R448). -/
  routes : List (Nat × Nat) := []
  /-- The root's registry: device and serial (R448). -/
  registry : List (Nat × Nat) := []
  /-- The candidate asked, its port and the tick of the request (R447), and those that have refused or not answered. -/
  asked : Option (Nat × Nat × Nat) := none
  tried : List Nat := []
  next : Option DomNext := none
  /-- Rod from which the device has been SEEKING (R445), and rod of the last change of state (R457). -/
  seekRod : Nat := 0
  changeRod : Nat := 0
  reparents : Nat := 0
  /-- Ruley frames built (R441). -/
  seq : Nat := 0
  /-- Recent floods: source device, sequence, part, deck (R453). -/
  floods : List (Nat × Nat × Nat × Nat) := []
  fallbackDeck : Option Nat := none
  /-- Domain queues of both dies, and parts of messages not yet whole. -/
  q0 : List DomFrame := []
  q1 : List DomFrame := []
  /-- Sums formed and held while the device has no parent: deck and body (R454). -/
  heldSums : List (Nat × List Byte) := []
  /-- Parent of an adoption that is being replaced: it is told LEAVE once another has adopted the device (R448). -/
  oldParent : Option (Nat × Nat) := none
  /-- The device has been ATTACHED since EN was set: a further adoption is a re-parenting (R450). -/
  hadParent : Bool := false
  /-- Depth while last joined: the deadline of held sums is judged with it (R454). -/
  oldDepth : Nat := 0
deriving DecidableEq, Repr


/-! ### Time, PTP and the servo (R302 to R333) -/

/-- A received PTP frame waiting in a time queue (R316). -/
structure TimFrame where
  port : Nat
  bytes : List Byte
  ts : Nat
  unc : Nat
deriving DecidableEq, Repr

/-- What a Jevar partner's TLV says of it (R323). -/
structure TimTlv where
  dev : Nat
  depth : Nat
  sstate : Nat
  locked : Bool
  uDom : Nat
deriving DecidableEq, Repr

/-- What a PTP port keeps beside its registers (R318 to R326). Times are domain times in 2^-16 ns. -/
structure TimPort where
  /-- Last 16 accepted offsets, newest first (R308, R326). -/
  offs : List Int := []
  /-- Mean path delay accepted last, and the one measured last (R321). -/
  delay : Option Int := none
  measured : Option Int := none
  /-- Delays refused in a row; outliers in a row; samples off the median in a row (R326). -/
  delayBad : Nat := 0
  outliers : Nat := 0
  medianBad : Nat := 0
  /-- Last offset measured. -/
  lastOff : Int := 0
  /-- Tick of the last Sync received, and of entry to SLAVE or PASSIVE (R318, R324). -/
  lastSync : Nat := 0
  entered : Nat := 0
  /-- Two-step Sync that waits for its Follow_Up: sequence, receipt, correction. -/
  sync : Option (Nat × Nat × Int) := none
  /-- Receipt less origin and correction of the last Sync (R321). -/
  downLeg : Option Int := none
  /-- Request sent: sequence and transmit time. -/
  req : Option (Nat × Nat) := none
  /-- Two-step Pdelay_Resp that waits for its Follow_Up: sequence, request receipt, response receipt, correction. -/
  presp : Option (Nat × Nat × Nat × Int) := none
  /-- Sequence numbers of the messages sent: Sync, requests, Announce. -/
  seqSync : Nat := 0
  seqReq : Nat := 0
  seqAnn : Nat := 0
  /-- A PTP message of the partner has arrived since the port took its state (R318). -/
  heard : Bool := false
  /-- Pdelay_Req sent while the delay mechanism is being settled (R318). -/
  probes : Nat := 0
  /-- A valid Pdelay_Resp has arrived since entry to UP (R318). -/
  peer : Bool := false
  tlv : Option TimTlv := none
  /-- logMessageInterval of the partner's Sync. -/
  logSync : Int := -4
  /-- Deck of the last degrading condition while excluded (R326). -/
  exclDeck : Nat := 0
  /-- The L1SYNC exchange has confirmed both ends (R322). -/
  l1 : Bool := false
  /-- Asymmetry in force since the last deck boundary: constant in 1/16 ns, coefficient in 2^-40 (R322). -/
  asym : Int := 0
  coef : Int := 0
deriving DecidableEq, Repr

/-- A trigger output (R330): number of its next edge (2k rising, 2k + 1 falling of pulse k), and the level of its pin. -/
structure TrigSt where
  next : Nat := 0
  high : Bool := false
deriving DecidableEq, Repr

/-- A capture input (R331): the FIFO, oldest first, as stamp, uncertainty and falling edge; time of the last captured edge. -/
structure CaptSt where
  fifo : List (Nat × Nat × Bool) := []
  last : Option Nat := none
deriving DecidableEq, Repr

/-- The time block beside its registers. -/
structure TimBlk where
  /-- Time queues of both dies. -/
  q0 : List TimFrame := []
  q1 : List TimFrame := []
  ports : List (Nat × TimPort) := []
  /-- Offsets accepted and not yet taken by the servo: port, offset, log2 of the Sync interval (R317, R327). -/
  waiting : List (Nat × Int × Int) := []
  /-- Integral term, in 2^-47 ns (R327). -/
  integ : Int := 0
  /-- Frequency correction in force, in 2^-47 ppb, and its values at the last deck boundaries, newest first (R327, R328). -/
  freq : Int := 0
  freqHist : List Int := []
  /-- Accepted offsets within LOCK in a row (R327). -/
  lockRow : Nat := 0
  /-- HOLDOVER: U_DOM and tick at entry (R328). -/
  hold : Option (Nat × Nat) := none
  /-- Host software has set SECONDS (R314). -/
  secSet : Bool := false
  /-- Reference inputs found failed (R311). -/
  refFail : List Nat := []
  /-- PPS_OUT is high, and the domain time of its last rise. -/
  ppsHigh : Bool := false
  ppsRise : Nat := 0
  trigs : List (Nat × TrigSt) := []
  capts : List (Nat × CaptSt) := []
deriving DecidableEq, Repr


/-! ### HBM stacks (R360 to R380) -/

/-- A row a bank's tracker follows (R374): its count and the requesters of its last 64 activations, newest first, with
their ticks. -/
structure RhRow where
  row : Nat
  count : Nat
  reqs : List (Nat × Nat)
deriving DecidableEq, Repr

/-- A stack and its controller. -/
structure HbmStack where
  /-- Trackers by pseudo-channel × 16 + bank (R374). -/
  rh : List (Nat × List RhRow) := []
  /-- Throttles of the interval: pseudo-channel, row, requester and tick of its last activation. -/
  throttled : List (Nat × Nat × Nat × Nat) := []
  /-- Rows whose neighbours await their targeted refresh: pseudo-channel and row. -/
  targets : List (Nat × Nat) := []
  /-- Tick at which the refresh interval began. -/
  rhStart : Nat := 0
  /-- A reading above 85 °C calls for the doubled rate; consecutive readings at 82 °C or below (R372). -/
  hot : Bool := false
  cool : Nat := 0
  /-- Deck in which the scrub pass began, and the row it reads next, as pseudo-channel × 524,288 + row (R371). -/
  scrubDeck : Nat := 0
  scrubNext : Nat := 0
  /-- Tick of the freeze: names the queue log's contents (R375). -/
  frozenTick : Nat := 0
deriving DecidableEq, Repr

/-- The HBM of the device. -/
structure HbmBlk where
  stk : List (Nat × HbmStack) := []
  /-- Pseudo-channels charged with a NONFLOW_LATE in this deck: stack × 64 + pseudo-channel (R379). -/
  nfDeck : List Nat := []
  /-- Bytes written by reckoners and DMA, by the address form of R391. -/
  mem : Mem := []
deriving DecidableEq, Repr


/-! ### The energy ledger (R459 to R472) -/

/-- What the planner keeps of a closed rod (R463): committed, best-effort and sheddable energy, best-effort bytes. -/
structure RodMeas where
  committed : Nat
  be : Nat
  shed : Nat
  beBytes : Nat
deriving DecidableEq, Repr

/-- A plan (R464): for each elastic activity E0 to E4 and deferrable activity D0 to D6 its demand and grant. -/
structure Plan where
  budget : Nat := 0
  pressure : Bool := false
  allowance : Nat := 0
  level : Nat := 0
  /-- Demand and grant by activity: 0 to 4 elastic, 5 to 11 deferrable. -/
  grants : List (Nat × Nat) := []
  total : Nat := 0
  /-- The limit it was made with (R461). -/
  watts : Nat := 0
  limitChg : Bool := false
  /-- A plan has been made: before the first one every activity has its demand. -/
  made : Bool := false
  /-- It was applied again under PLAN_LATE. -/
  late : Bool := false
deriving DecidableEq, Repr

/-- The ledger and the planner. -/
structure NrgBlk where
  /-- Entries of the last 1,000 closed rods, newest first (R472). -/
  entries : List (List Byte) := []
  /-- Measures of the last 64 closed rods, newest first. -/
  hist : List RodMeas := []
  /-- The plan in force, and the plan of the next rod once complete. -/
  plan : Plan := {}
  next : Option Plan := none
  /-- A planning task has been raised: the plan of the next rod is due (R463). -/
  due : Bool := false
  /-- Consecutive rods of disagreement, of agreement, over budget, and of plans whose floor fits (R460, R469). -/
  xchkBad : Nat := 0
  xchkGood : Nat := 0
  overRun : Nat := 0
  fits : Nat := 0
  /-- Ratio of the sensor total to the estimator total of the last closed rod. -/
  sensor : Nat := 0
  estim : Nat := 0
  /-- Best-effort bytes admitted in the open rod and in the last closed one, CD0 and CD1 (R467). -/
  be0 : Nat := 0
  be1 : Nat := 0
  lastBe0 : Nat := 0
  lastBe1 : Nat := 0
  /-- Bytes left of each die's share while throttling by drop. -/
  share0 : Option Nat := none
  share1 : Option Nat := none
  /-- Frames met in the rod, as 2 × frame + die, and whether their copies proceed. -/
  met : List (Nat × Bool) := []
  /-- Energy drops in the open rod. -/
  drops : Nat := 0
  /-- Units left to an activity in the open rod; an activity not listed has its demand (R465). -/
  units : List (Nat × Option Nat) := []
  /-- Gated columns, and whole rods each column has issued no packet (R470). -/
  gated : List Nat := []
  idle : List (Nat × Nat) := []
  /-- Columns that have issued a packet in the open rod. -/
  issued : List Nat := []
  /-- Energy pauses in force: port, priority, first tick after it (R468). -/
  xoff : List (Nat × Nat × Nat) := []
  /-- Ledger ring, by entry (R472). -/
  ring : List (Nat × List Byte) := []
deriving DecidableEq, Repr


/-! ### The whole device -/

/-- Everything the spec gives the block, but its OTP banks and the queue of waiting commands. -/
structure Dev where
  /-- BAR 0 registers as software reads them. -/
  regs : Regs := []
  /-- BAR 0 registers as they stood at the last tick boundary: what configuration is in force (R38). -/
  live : Regs := []
  bus : BusSt := {}
  /-- Counter registers as the last snapshot copied them, by the address of the live register (R504). -/
  snap : Regs := []
  trk : TrkSt := {}
  links : List (Nat × LinkDir) := []
  flt : FltBlk := {}
  board : BoardSt := {}
  irq : List (Nat × IrqSt) := []
  msix : List (Nat × MsixEntry) := []
  /-- Events dropped since the event ring was full, to be told by a LOST entry (R417). -/
  evtDropped : Nat := 0
  out : OutSt := {}
  jrn : JrnBlk := {}
  port : PortBlk := {}
  rail : RailBlk := {}
  path : PathBlk := {}
  tbl : TblBlk := {}
  nrg : NrgBlk := {}
  hbm : HbmBlk := {}
  rck : RckBlk := {}
  dom : DomBlk := {}
  tim : TimBlk := {}
  host : HostBlk := {}
  deferred : List Deferred := []
  /-- Base MAC address of the factory bank, sensed at start-up (R527). -/
  baseMac : Nat := 0
  /-- The identity certificate of the key bank, sensed at start-up (R349). -/
  cert : List Byte := []
  /-- Ports that carry a Ruley tree link: to the parent or to a child (R27, R446). -/
  treePorts : List Nat := []
  /-- MSI-X messages that the host interface's performance counter has seen (R500). -/
  msgSeen : Nat := 0
  /-- Count of free values drawn so far (MODEL: the index of the next one). -/
  fresh : Nat := 0
deriving DecidableEq, Repr

/-- The OTP banks (R526): bytes read 0 until burned, and no bit returns to 0. -/
structure OtpBanks where
  factory : Mem := []
  key : Mem := []
  customer : Mem := []
deriving DecidableEq, Repr

/-- The machine: the device, its OTP banks and the commands waiting, first in first out. -/
structure State where
  dev : Dev
  otp : OtpBanks
  pending : List Instr
deriving DecidableEq, Repr

/-- Why a step stops with a fault. -/
inductive Fault where
  /-- No command raises it: every stop the spec describes is an effect on the state. Safe. -/
  | none
deriving DecidableEq, Repr

/-- Why a step has no meaning. -/
inductive Refusal where
  /-- Raised by a dispatch arm whose command has no meaning yet. Safe: the machine stops. -/
  | notModelled (mnemonic : String)
deriving DecidableEq, Repr

/-- The factory bank of the modelled part at reset: the fields R527 fixes, its CRC, and zeros (log entry 3). -/
def factoryReset : Mem :=
  memWrite (memWrite [] 0 [0x51, 0x20, 0xA1, 0x01]) 764 [0x76, 0x1B, 0xE8, 0xD5]

/-- The key bank at reset: zeros and their CRC (log entry 3). -/
def keyReset : Mem := memWrite [] 252 [0x19, 0x59, 0x86, 0x60]

/-- The machine right after reset: every register at its reset value, nothing listed, PERST_L not yet released. -/
def State.reset : State :=
  { dev := {}, otp := { factory := factoryReset, key := keyReset }, pending := [] }

end Sys2Proof.Machine
end

