-- ==== Sys2Proof/Machine/Ops.lean ====
section
/-! DEFINITION. Machine/Ops.lean: the named operations over the state that every command shares: registers and
their fields, pairs and counters, events and interrupts, late paths, fault reports, journal records, free values. -/
namespace Sys2Proof.Machine

/-! ### Registers -/

/-- A register as software reads it (before any read effect). -/
def Dev.rd (d : Dev) (a : Nat) : Word := kvGet (resetOf a) d.regs a

/-- Store a register. -/
def Dev.wr (d : Dev) (a : Nat) (v : Word) : Dev := { d with regs := kvSet (resetOf a) a v d.regs }

/-- A register as a number. -/
def Dev.rn (d : Dev) (a : Nat) : Nat := (d.rd a).toNat

/-- Store a register from a number (its low 32 bits). -/
def Dev.wn (d : Dev) (a v : Nat) : Dev := d.wr a (BitVec.ofNat 32 v)

/-- A field of a register. -/
def Dev.f (d : Dev) (a : Nat) (fl : Fld) : Nat := bits (d.rn a) fl.hi fl.lo

/-- A one-bit field of a register. -/
def Dev.b (d : Dev) (a : Nat) (fl : Fld) : Bool := d.f a fl = 1

/-- Set a field of a register. -/
def Dev.sf (d : Dev) (a : Nat) (fl : Fld) (x : Nat) : Dev := d.wn a (putBits (d.rn a) fl.hi fl.lo x)

/-- Set a one-bit field. -/
def Dev.sb (d : Dev) (a : Nat) (fl : Fld) (x : Bool) : Dev := d.sf a fl x.toNat

/-- A register as it stood at the last tick boundary: the value in force (R38). -/
def Dev.lrn (d : Dev) (a : Nat) : Nat := (kvGet (resetOf a) d.live a).toNat

/-- A field of a register in force (R38). -/
def Dev.lf (d : Dev) (a : Nat) (fl : Fld) : Nat := bits (d.lrn a) fl.hi fl.lo

/-- A one-bit field of a register in force (R38). -/
def Dev.lb (d : Dev) (a : Nat) (fl : Fld) : Bool := d.lf a fl = 1

/-- A 64-bit value held in a register pair. -/
def Dev.rdPair (d : Dev) (lo hi : Nat) : Nat := d.rn hi * 2 ^ 32 + d.rn lo

/-- Store a 64-bit value in a register pair. -/
def Dev.wrPair (d : Dev) (lo hi v : Nat) : Dev := (d.wn lo v).wn hi (v / 2 ^ 32 % 2 ^ 32)

/-- Add to a 64-bit counter over a pair, saturating. -/
def Dev.addPair (d : Dev) (lo hi n : Nat) : Dev :=
  d.wrPair lo hi (satAdd (2 ^ 64 - 1) (d.rdPair lo hi) n)

/-- Count `n` more on the counter pair at `lo` (its high word stands 4 above). -/
def Dev.cnt (d : Dev) (lo : Nat) (n : Nat := 1) : Dev := d.addPair lo (lo + 4) n

/-- Count in a 32-bit counter, saturating. -/
def Dev.cnt32 (d : Dev) (a : Nat) (n : Nat := 1) : Dev := d.wn a (satAdd (2 ^ 32 - 1) (d.rn a) n)

/-- Count in a field, saturating at the field's largest value. -/
def Dev.cntF (d : Dev) (a : Nat) (fl : Fld) (n : Nat := 1) : Dev :=
  d.sf a fl (satAdd (2 ^ (fl.hi + 1 - fl.lo) - 1) (d.f a fl) n)

/-! ### Free values -/

/-- The next free value, below a bound (log entry 2). -/
def Dev.free (d : Dev) (bound : Nat) : Nat := Config.freeNat d.fresh % bound

/-- The free value `k` places on, below a bound. -/
def Dev.freeAt (d : Dev) (k bound : Nat) : Nat := Config.freeNat (d.fresh + k) % bound

/-- Free values used up. -/
def Dev.used (d : Dev) (n : Nat := 1) : Dev := { d with fresh := d.fresh + n }

/-! ### Time -/

/-- Rod number (R1: 1,000 ticks). -/
def Dev.rod (d : Dev) : Nat := d.trk.tick / 1000

/-- Deck number (R1: 100 rods). -/
def Dev.deck (d : Dev) : Nat := d.trk.tick / 100000

/-- The 96-bit time-stamp of a domain time in 2^-16 ns (R302). -/
def stampOf (t : Nat) : Nat :=
  let ns := t / 65536
  (ns / 1000000000) * 2 ^ 48 + (ns % 1000000000) * 2 ^ 16 + t % 65536

/-- Domain time in 2^-16 ns of a 96-bit time-stamp. -/
def stampTime (s : Nat) : Nat := (s / 2 ^ 48 * 1000000000 + s / 2 ^ 16 % 2 ^ 32) * 65536 + s % 65536

/-- Domain time of the current tick boundary in 2^-16 ns (R33: 10 ns a tick). -/
def Dev.nowT (d : Dev) : Nat := d.trk.tick * 655360

/-- The time-stamp of the current tick boundary. -/
def Dev.now (d : Dev) : Nat := stampOf d.nowT

/-- TIME_LOCKED (R327), as TIM_STATUS reports it. -/
def Dev.locked (d : Dev) : Bool := d.b rTIM_STATUS fTIM_STATUS_TIME_LOCKED

/-- U_DOM (R308). -/
def Dev.uDom (d : Dev) : Nat := d.f rTIM_UNC fTIM_UNC_U_DOM

/-- Uncertainty sum of R303: never rounded down, 0xFFFF unknown, a larger sum written as 0xFFFE. -/
def uncAdd (u v : Nat) : Nat := if u = 0xFFFF then 0xFFFF else min 0xFFFE (u + v)

/-- The device number (R440). -/
def Dev.devNo (d : Dev) : Nat := d.f rDOM_ID fDOM_ID_DEVICE

/-- The core die that owns a port (R5, R17). -/
def dieOf (p : Nat) : Nat := p / 256

/-- The column that owns a port before any retirement (R17). -/
def colOf (p : Nat) : Nat := p / 32

/-- Is the device past start-up (R512) and out of the safe state (R485)? -/
def Dev.running (d : Dev) : Bool :=
  d.b rOTP_BOOT_STATUS fOTP_BOOT_STATUS_COMMAND_READY && !d.b rFLT_STATUS fFLT_STATUS_SAFE

/-! ### Interrupts (R416) -/

/-- Send a source's message if it is enabled, its holdoff is over and its vector unmasked; else it waits or pends. -/
def Dev.irqTry (d : Dev) (s : Nat) : Dev :=
  let st := kvGet ({} : IrqSt) d.irq s
  if d.b (rDMA_IRQ_MAP s) fDMA_IRQ_MAP_EN then
    let beyond := match st.lastRod with
      | none => true
      | some r => d.f (rDMA_IRQ_MAP s) fDMA_IRQ_MAP_HOLDOFF_RODS ≤ d.rod - r
    if beyond then
      let v := d.f (rDMA_IRQ_MAP s) fDMA_IRQ_MAP_VECTOR
      let e := kvGet ({} : MsixEntry) d.msix v
      let d1 := { d with irq := kvSet {} s { waiting := false, lastRod := some d.rod } d.irq }
      if e.masked then { d1 with msix := kvSet {} v { e with pending := true } d1.msix }
      else { d1 with out := { d1.out with msgs := d1.out.msgs ++ [v] } }
    else { d with irq := kvSet {} s { st with waiting := true } d.irq }
  else d

/-! ### Event ring (R417) and events -/

/-- A 32-byte event ring entry (R417). -/
def evtEntry (tick code dieF inst seq data : Nat) : List Byte :=
  beBytes 8 tick ++ beBytes 1 code ++ beBytes 1 dieF ++ beBytes 2 inst ++ beBytes 4 seq ++ beBytes 8 data ++ zeros 8

/-- Store an entry at the ring's write position and advance it: data that no rule gives is a free value (log entry 79). -/
def Dev.evtStore (d : Dev) (code dieF inst : Nat) (data : Option Nat) : Dev :=
  let wr := d.rn rDMA_EVT_WR
  let size := 2 ^ d.f rDMA_EVT_CFG fDMA_EVT_CFG_SIZE_LOG2
  let base := d.rdPair rDMA_EVT_BASE_LO rDMA_EVT_BASE_HI
  let e := evtEntry d.trk.tick code dieF inst wr (match data with
    | some x => x
    | none => (Config.eventData code d.trk.tick wr).toNat)
  let d1 := { d with out := { d.out with hostMem := memWrite d.out.hostMem (base + 32 * (wr % size)) e } }
  (d1.wn rDMA_EVT_WR ((wr + 1) % 2 ^ 32)).cnt (rDMA_CNT_LO 5)

/-- Does the event ring have room (R417)? -/
def Dev.evtRoom (d : Dev) : Bool :=
  decide ((d.rn rDMA_EVT_WR + 2 ^ 32 - d.rn rDMA_EVT_RD) % 2 ^ 32 ≠ 2 ^ d.f rDMA_EVT_CFG fDMA_EVT_CFG_SIZE_LOG2)

/-- Place an entry in the event ring: LOST first after drops, dropped and counted when full (R417). -/
def Dev.evtPut (d : Dev) (code dieF inst : Nat) (data : Option Nat) : Dev :=
  if d.b rDMA_CTRL fDMA_CTRL_EVT_EN then
    if d.evtRoom then
      let d1 := if d.evtDropped = 0 then d
        else { (d.evtStore 0 0 0xFFFF (some d.evtDropped)) with evtDropped := 0 }
      if d1.evtRoom then (d1.evtStore code dieF inst data).irqTry 96
      else ({ d1 with evtDropped := d1.evtDropped + 1 }.cnt (rDMA_CNT_LO 6)).irqTry 96
    else { d with evtDropped := d.evtDropped + 1 }.cnt (rDMA_CNT_LO 6)
  else d

/-- The IRQ_EN register that stands beside an EVT_STATUS register (4 above it in every block). -/
def irqEnOf (evt : Nat) : Nat := evt + 4

/-- Assert a block's interrupt source when an enabled status bit is set (R416). -/
def Dev.irqBlock (d : Dev) (status irqEn : Nat) : Dev :=
  if Nat.land (d.rn status) (d.rn irqEn) = 0 then d else d.irqTry (97 + status / 0x100000)

/-- Raise an event: its status bit, its event ring entry and its block's interrupt (R416, R417).
`die` is the core die whose registers hold the bit; `dieF` the die byte of the entry (0x80 + 0x40 × die, or 0). -/
def Dev.raiseAt (d : Dev) (code die dieF inst : Nat) (data : Option Nat) : Dev :=
  match evtReg code die with
  | none => d.evtPut code dieF inst data
  | some (a, bit) =>
    let d1 := d.wn a (putBits (d.rn a) bit bit 1)
    let d2 := if bits (d1.rn (irqEnOf a)) bit bit = 1 then d1.irqTry (97 + a / 0x100000) else d1
    d2.evtPut code dieF inst data

/-- Raise an event of the device. -/
def Dev.raise (d : Dev) (code inst : Nat) (data : Option Nat := none) : Dev := d.raiseAt code 0 0 inst data

/-- Raise an event of a core die. -/
def Dev.raiseD (d : Dev) (code die inst : Nat) (data : Option Nat := none) : Dev :=
  d.raiseAt code die (0x80 + 0x40 * die) inst data

/-! ### Faults (R475 to R477) -/

/-- The collector of a core die. -/
def FltBlk.die (f : FltBlk) (die : Nat) : FltDie := if die = 0 then f.die0 else f.die1

/-- Replace the collector of a core die. -/
def FltBlk.setDie (f : FltBlk) (die : Nat) (x : FltDie) : FltBlk :=
  if die = 0 then { f with die0 := x } else { f with die1 := x }

/-- A class A fault: counted in FLT_D_CNT and nothing else (R476, R481). -/
def Dev.classA (d : Dev) (die : Nat := 0) : Dev := d.cnt (rFLT_D_CNT_LO die 0)

/-- Report a fault of class B or above to a die's collector, which classifies it (R475). -/
def Dev.report (d : Dev) (die cls block kind inst : Nat) (detail : List Byte := []) : Dev :=
  let x := d.flt.die die
  let r : FaultRep := { cls := cls, block := block, kind := kind, inst := inst, tick := d.trk.tick, detail := detail }
  { d with flt := d.flt.setDie die { x with inbox := x.inbox ++ [r] } }

/-! ### Journal records (R334 to R343) -/

/-- The journal of a core die. -/
def JrnBlk.die (j : JrnBlk) (die : Nat) : JrnDie := if die = 0 then j.die0 else j.die1

/-- Replace the journal of a core die. -/
def JrnBlk.setDie (j : JrnBlk) (die : Nat) (x : JrnDie) : JrnBlk :=
  if die = 0 then { j with die0 := x } else { j with die1 := x }

/-- Is the journal ACTIVE (R335, R348)? A CLOSING journal writes no new record,
and the safe state stops the journal (R485). -/
def Dev.jrnActive (d : Dev) : Bool :=
  decide (d.f rJRN_STATUS fJRN_STATUS_STATE = 2) && !d.b rFLT_STATUS fFLT_STATUS_SAFE

/-- Are records being marked UNLOCKED (R337, R350): TIME_LOCKED clear, or the deck of a step (R35)? -/
def Dev.jrnUnlocked (d : Dev) : Bool := !d.locked || decide (d.trk.stepDeck = some d.deck)

/-- JRN_STATUS.UNLOCKED tells whether records are being marked so (R350, R359). -/
def Dev.jrnMarking (d : Dev) : Dev := d.sb rJRN_STATUS fJRN_STATUS_UNLOCKED (d.jrnActive && d.jrnUnlocked)

/-- The fields of a journal record but its device and sequence numbers (R336, R337). -/
structure RecIn where
  ts : Nat
  ets : Nat := 0
  unc : Nat
  eunc : Nat := 0xFFFF
  iport : Nat
  eport : Nat
  type : Nat
  /-- MARKS but UNLOCKED: bit 2 FLOW_LATE, bit 1 RELEASE_LATE, bit 0 NO_TRAILER. -/
  marks : Nat := 0
  reason : Nat := 0
  loc : Nat := 0xFFFFFFFF
  digest : List Byte := []
deriving DecidableEq, Repr

/-- The 64 bytes of a record (R336). -/
def recBytes (r : RecIn) (dev seq : Nat) (unlocked : Bool) : List Byte :=
  beBytes 12 r.ts ++ beBytes 12 r.ets ++
  beBytes 2 (if unlocked then 0xFFFF else r.unc) ++ beBytes 2 (if unlocked then 0xFFFF else r.eunc) ++
  beBytes 2 dev ++ beBytes 2 r.iport ++ beBytes 2 r.eport ++
  beBytes 2 (r.type * 4096 + (unlocked.toNat * 8 + r.marks) * 256 + r.reason) ++
  beBytes 4 r.loc ++ beBytes 8 seq ++ (r.digest ++ zeros 16).take 16

/-- The sequence number a die gives its next record (R339). -/
def Dev.jrnSeq (d : Dev) (die : Nat) : Nat := 2 * (d.jrn.die die).n + die

/-- The JRN_CNT index of a record type (R359). -/
def recCntIdx (type : Nat) : Nat :=
  if type = 1 || type = 3 then 1 else if type = 2 || type = 4 then 2 else if type = 5 then 3
  else if type = 6 then 4 else if type = 7 then 5 else 6

/-- Give a record its number and stage it for the ring (R339, R340). -/
def Dev.jrnPut (d : Dev) (die : Nat) (r : RecIn) : Dev :=
  let x := d.jrn.die die
  let unl := d.jrnUnlocked
  let bs := recBytes r d.devNo (d.jrnSeq die) unl
  let x1 := { x with
    n := x.n + 1, staging := x.staging ++ [bs], openSet := x.openSet ++ [bs],
    firstSeq := if x.openSet.isEmpty then d.jrnSeq die else x.firstSeq }
  let fl := if unl then putBits d.jrn.flags 2 2 1 else d.jrn.flags
  ({ d with jrn := { d.jrn.setDie die x1 with flags := fl } }.cnt (rJRN_CNT_LO die (recCntIdx r.type)))

/-- A MARK record of a die (R337). -/
def Dev.markPut (d : Dev) (die code eport loc : Nat) (digest : List Byte := []) : Dev :=
  d.jrnPut die { ts := d.now, unc := uncAdd d.uDom 4, iport := 0xFFFF, eport := eport, type := 7,
                 reason := code, loc := loc, digest := digest }

/-- Write a MARK record on a die, if the journal is ACTIVE (R334, R335, R337). -/
def Dev.jrnMark (d : Dev) (die code eport loc : Nat) (digest : List Byte := []) : Dev :=
  if d.jrnActive then d.markPut die code eport loc digest else d

/-! ### Late paths (R50, R51) -/

/-- Take late path `i`: its counter, its status bit and interrupt source 97 (R50). Journal marks are made by the
commands of the paths that R51 gives one. -/
def Dev.late (d : Dev) (i : Nat) (n : Nat := 1) : Dev :=
  let d1 := d.cnt (rTCK_LATE_CNT_LO i) n
  let d2 := d1.wn rTCK_LATE_STATUS (putBits (d1.rn rTCK_LATE_STATUS) i i 1)
  if bits (d2.rn rTCK_LATE_IRQ_EN) i i = 1 then d2.irqTry 97 else d2

/-! ### Outcomes -/

/-- A command's effect on the device, as a step's outcome: the OTP banks and the queue are not touched. -/
def onDev (s : State) (f : Dev → Dev) : Host.Outcome State Fault Refusal :=
  .next { s with dev := f s.dev }

/-- The effect of work that the safe state stops (R485, R487): none while SAFE is set. -/
def onLive (s : State) (f : Dev → Dev) : Host.Outcome State Fault Refusal :=
  onDev s fun d => if d.b rFLT_STATUS fFLT_STATUS_SAFE then d else f d

/-- Conditional effect. -/
def Dev.when (d : Dev) (c : Bool) (f : Dev → Dev) : Dev := if c then f d else d

/-- An effect repeated over a list, in its order. -/
def Dev.each {α : Type} (d : Dev) (l : List α) (f : Dev → α → Dev) : Dev := l.foldl f d

end Sys2Proof.Machine
end

