-- ==== Sys2Proof/Machine/Perf.lean ====
section
/-! DEFINITION. Machine/Perf.lean: counter units, slot classes and the counts by port (R497 to R509). -/
namespace Sys2Proof.Machine

/-- Number of counter `i` of unit `u` in CNT_OVF: register and bit (R510). -/
def ovfAt (u i : Nat) : Nat × Nat := (rCNT_OVF (u / 4), 8 * (u % 4) + i)

/-- Freeze a unit's eight counters (R501). -/
def Dev.freezeUnit (d : Dev) (u : Nat) (on : Bool) : Dev :=
  d.each (List.range 8) fun e i => e.sb (rCNT_CFG u i) fCNT_CFG_FROZEN on

/-- A counter takes `n` events in one cycle (R501). -/
def Dev.cntAdd (d : Dev) (u i n : Nat) : Dev :=
  let lo := rCNT_VAL_LO u i
  let hi := rCNT_VAL_HI u i
  let v := d.rn hi % 65536 * 2 ^ 32 + d.rn lo
  if v + n < 2 ^ 48 then (d.wn lo ((v + n) % 2 ^ 32)).wn hi ((v + n) / 2 ^ 32)
  else
    let r := if d.b (rCNT_CFG u i) fCNT_CFG_RELOAD_EN then
        d.rn (rCNT_RLD_HI u i) % 65536 * 2 ^ 32 + d.rn (rCNT_RLD_LO u i) else 0
    let w := (r + (v + n - 2 ^ 48)) % 2 ^ 48
    let d1 := (d.wn lo (w % 2 ^ 32)).wn hi (w / 2 ^ 32)
    let o := ovfAt u i
    let was := decide (bits (d1.rn o.1) o.2 o.2 = 1)
    let d2 := d1.wn o.1 (putBits (d1.rn o.1) o.2 o.2 1)
    let d3 := if !was && d.b (rCNT_CFG u i) fCNT_CFG_IRQ then
        d2.raise eCNT_OVF_EVT u (some (d.trk.tick * 256 + i)) else d2
    if !was && d.b (rCNT_CFG u i) fCNT_CFG_FREEZE then d3.freezeUnit u true else d3

/-- Does a counter count (R499, R501)? -/
def Dev.cntOn (d : Dev) (u i : Nat) : Bool :=
  d.lb rCNT_CTRL fCNT_CTRL_RUN && d.lb (rCNT_CFG u i) fCNT_CFG_EN && !d.b (rCNT_CFG u i) fCNT_CFG_FROZEN

/-- `n` occurrences of an event of a unit: every counter that counts and selects it adds them; a freeze that one of them
makes comes after (R499 to R501). -/
def Dev.pev (d : Dev) (u code : Nat) (n : Nat := 1) : Dev :=
  let l := (List.range 8).filter fun i => d.cntOn u i && decide (d.lf (rCNT_CFG u i) fCNT_CFG_EVENT = code)
  d.each l fun e i => e.cntAdd u i n

/-- Occurrences in a tick of an event that R500 names and of which no rule gives a number (flits, TLPs, FEC codewords, refresh
commands): a free value, drawn only while a counter counts them (log entry 82). -/
def Dev.pevFree (d : Dev) (u code : Nat) : Dev :=
  if (List.range 8).any fun i => d.cntOn u i && decide (d.lf (rCNT_CFG u i) fCNT_CFG_EVENT = code) then
    d.used.pev u code (d.free (2 ^ 32))
  else d

/-- The events of R500 of which no rule gives a number, by unit and code. -/
def unnumbered : List (Nat × Nat) :=
  [(22, 0x15), (23, 0x15), (24, 0x15), (25, 0x15), (26, 0x12), (26, 0x13), (27, 0x12), (27, 0x13), (28, 0x10), (28, 0x11),
    (28, 0x12), (29, 0x10), (29, 0x11)]

/-- A port counter (R508). -/
def Dev.pcnt (d : Dev) (p i : Nat) (n : Nat := 1) : Dev := d.cnt (rCNT_PORT_LO p i) n

/-- A stage drop by its code (R509): direction 0 ingress, 1 egress. -/
def Dev.dropCnt (d : Dev) (die dir code : Nat) : Dev := d.cnt (rCNT_DROP_LO die dir (code % 256))

/-- A column's slot class (R505). -/
def Dev.slotCnt (d : Dev) (col k : Nat) (n : Nat := 1) : Dev := d.cnt (rCNT_SLOT_LO col k) n

/-- Move a slot counted RETIRED to WASTED with its sub-count (R506). -/
def Dev.slotMove (d : Dev) (col sub : Nat) : Dev :=
  let lo := rCNT_SLOT_LO col 0
  let d1 := d.wrPair lo (lo + 4) (d.rdPair lo (lo + 4) - 1)
  ((d1.slotCnt col 1).slotCnt col sub).pev col 0x11

/-! ### Columns (R17, R482 to R484) -/

/-- Is a column retired? -/
def Dev.colRetired (d : Dev) (c : Nat) : Bool := decide (bits (d.f rFLT_COL_RETIRED fFLT_COL_RETIRED_MAP) c c = 1)

/-- The column that serves a port: its own, or its sibling once retired. -/
def Dev.column (d : Dev) (p : Nat) : Nat :=
  let c := colOf p
  if d.colRetired c then (if c % 2 = 0 then c + 1 else c - 1) else c

/-- Has the port's column stopped, its ports not yet remapped (R482), or its die gone to the safe state by itself (R485)? -/
def Dev.colStopped (d : Dev) (p : Nat) : Bool := d.flt.stoppedCols.contains (d.column p) || d.flt.dieSafe.contains (dieOf p)

/-! ### Energy (R465 to R470) -/

/-- Take one unit of an activity's count of the rod; `false` when none is left (R465). -/
def Dev.nrgTake (d : Dev) (act : Nat) : Dev × Bool :=
  match kvGet none d.nrg.units act with
  | none => (d, true)
  | some 0 => (d, false)
  | some (n + 1) => ({ d with nrg := { d.nrg with units := kvSet none act (some n) d.nrg.units } }, true)

/-- A gated column wakes (R470). -/
def Dev.colWake (d : Dev) (c : Nat) : Dev := { d with nrg := { d.nrg with gated := d.nrg.gated.filter (· ≠ c) } }

/-- Is a class of an ingress port and priority marked best-effort (R466)? -/
def Dev.beClass (d : Dev) (p pri : Nat) : Bool := decide (bits (d.lf (rNRG_BE p) fNRG_BE_PRI) pri pri = 1)

/-- The test of R467 for a best-effort frame of `len` bytes at a die: the frame's length is taken from the die's share
once, and its copies proceed; or the share is exhausted and its copies are dropped. -/
def Dev.nrgTest (d : Dev) (die frame len : Nat) : Dev × Bool :=
  let key := 2 * frame + die
  match d.nrg.met.find? fun e => decide (e.1 = key) with
  | some e => (d, e.2)
  | none =>
    let share := if die = 0 then d.nrg.share0 else d.nrg.share1
    match share with
    | some 0 => ({ d with nrg := { d.nrg with met := d.nrg.met ++ [(key, false)] } }, false)
    | some (n + 1) =>
      let left := some (n + 1 - len)
      let x := { d.nrg with met := d.nrg.met ++ [(key, true)] }
      ({ d with nrg := if die = 0 then { x with share0 := left } else { x with share1 := left } }, true)
    | none => (d, true)

/-- Count best-effort bytes admitted in the rod (R464). -/
def Dev.beAdmit (d : Dev) (die len : Nat) : Dev :=
  { d with nrg := if die = 0 then { d.nrg with be0 := d.nrg.be0 + len } else { d.nrg with be1 := d.nrg.be1 + len } }

end Sys2Proof.Machine
end

