-- ==== Sys2Proof/Machine/Parser.lean ====
section
/-! DEFINITION. Machine/Parser.lean: the parser as a function of a frame's bytes: the parse graph, the payload window,
patterns, extraction rules and key profiles (R111 to R129). -/
namespace Sys2Proof.Machine

/-- The parser of a core die. -/
def Dev.par (d : Dev) (die : Nat) : ParDie := if die = 0 then d.path.par0 else d.path.par1

/-- Replace the parser of a core die. -/
def Dev.setPar (d : Dev) (die : Nat) (x : ParDie) : Dev :=
  if die = 0 then { d with path := { d.path with par0 := x } } else { d with path := { d.path with par1 := x } }

/-- A bank of a die's parse memory. -/
def ParDie.bank (x : ParDie) (b : Nat) : ParBank := if b = 0 then x.bank0 else x.bank1

/-- Replace a bank. -/
def ParDie.setBank (x : ParDie) (b : Nat) (y : ParBank) : ParDie :=
  if b = 0 then { x with bank0 := y } else { x with bank1 := y }

/-- A byte of an entry as a number. -/
def eb (e : List Byte) (i : Nat) : Nat := (e.getD i 0).toNat

/-- A bit of a byte of an entry. -/
def ebit (e : List Byte) (i k : Nat) : Bool := bits (eb e i) k k = 1

/-- Profile 0 as it stands after reset (R126): valid, every action remainder, no fields, FLOW_EN 0, no matching. -/
def profile0 : List Byte := [0x80, 0, 0, 0, 0xFF, 40] ++ zeros 122

/-- A state entry of a bank. -/
def ParBank.state (b : ParBank) (i : Nat) : List Byte := kvGet (zeros 32) b.states i

/-- A transition entry of a bank. -/
def ParBank.transition (b : ParBank) (i : Nat) : List Byte := kvGet (zeros 12) b.trans i

/-- A key profile of a bank; profile 0 is valid at all times (R126). -/
def ParBank.profile (b : ParBank) (i : Nat) : List Byte := kvGet (if i = 0 then profile0 else zeros 128) b.profs i

/-- The profile a state names: one that is not VALID is treated as profile 0 (R126). -/
def ParBank.useProfile (b : ParBank) (i : Nat) : Nat := if ebit (b.profile i) 0 7 then i else 0

/-! ### Entry checks (R113, R123, R126, R127) -/

/-- May a state entry be written (R113)? -/
def stateOk (e : List Byte) : Bool :=
  !ebit e 0 7 ||
  (decide (bits (eb e 0) 3 2 ≠ 3) && decide (eb e 1 ≤ 253) && decide (beAt e 4 2 ≤ 512) &&
   (decide (eb e 6 = 0xFF) || (decide (1 ≤ bits (eb e 7) 3 0) && decide (bits (eb e 7) 3 0 ≤ 8) && decide (eb e 8 ≠ 0))) &&
   decide (beAt e 12 2 ≤ 512) && decide (eb e 17 ≤ 4) && decide (beAt e 26 2 ≤ 2047) && decide (beAt e 28 2 ≤ 2048) &&
   decide (beAt e 26 2 + beAt e 28 2 ≤ 2048))

/-- May a pattern entry be written (R123)? -/
def patOk (e : List Byte) : Bool :=
  !ebit e 38 7 ||
  (decide (1 ≤ eb e 36) && decide (eb e 36 ≤ 32) && decide (eb e 37 ≤ 15) && decide (beAt e 40 2 ≤ 1023) &&
   (ebit e 38 6 || (decide (beAt e 40 2 ≤ beAt e 42 2) && decide (beAt e 42 2 ≤ 1023))))

/-- Width of key field `i` of a profile (R127). -/
def fieldWidth (e : List Byte) (i : Nat) : Nat := bits (eb e (8 + 4 * i + 3)) 7 4 + 1

/-- May a key profile be written (R125 to R127)? -/
def profOk (e : List Byte) : Bool :=
  !ebit e 0 7 ||
  (let a := eb e 1
   let n := eb e 6
   decide (bits a 7 6 ≠ 3) && decide (bits a 5 4 ≠ 3) && decide (bits a 3 2 ≠ 3) && decide (beAt e 2 2 ≤ 1024) &&
   decide (eb e 4 ≤ 15 ∨ eb e 4 = 0xFF) && decide (1 ≤ eb e 5) && decide (eb e 5 ≤ 40) && decide (n ≤ 16) &&
   decide (eb e 7 ≤ 8) &&
   decide (((List.range n).map (fieldWidth e)).sum ≤ eb e 5) &&
   ((List.range n).all fun i =>
     let k := bits (eb e (8 + 4 * i)) 7 6
     decide (k ≠ 3) && !(decide (k = 1) && decide (7 < eb e (8 + 4 * i + 1))) &&
     !(decide (k = 2) && decide (2 < eb e (8 + 4 * i + 1)))) &&
   ((List.range (eb e 7)).all fun i =>
     !ebit e (72 + 4 * i) 7 ||
     (decide (bits (eb e (72 + 4 * i)) 5 4 ≠ 3) && decide (1 ≤ eb e (73 + 4 * i)) && decide (eb e (73 + 4 * i) ≤ 8) &&
      decide (-32 ≤ sext 16 (beAt e (74 + 4 * i) 2)) && decide (sext 16 (beAt e (74 + 4 * i) 2) ≤ 1023))) &&
   (!ebit e 0 5 || (decide (2 ≤ n) && decide (fieldWidth e 0 = fieldWidth e 1) &&
     (decide (n < 4) || decide (fieldWidth e 2 = fieldWidth e 3)))))

/-! ### The walk (R114 to R120) -/

/-- Where a walk stands. -/
structure Walk where
  h : Nat := 0
  state : Nat := 0
  steps : Nat := 0
  depth : Nat := 0
  insts : List HInst := []
  /-- Covered ends in force, innermost first. -/
  cov : List Nat := []
  frag : Bool := false
  lenTyped : Bool := false
  last : Nat := 0
  profile : Nat := 0
deriving DecidableEq, Repr

/-- How a walk, or a whole parse, has come out on the bytes present. -/
inductive WalkEnd where
  /-- It needs more bytes, or the frame's end. -/
  | more
  | stop (w : Walk)
  | malformed (w : Walk) (reason : Nat)
  | limit (w : Walk) (reason : Nat)
deriving DecidableEq, Repr

/-- The least of the covered ends in force bounds later headers and the window (R118). -/
def covMin : List Nat → Option Nat
  | [] => none
  | a :: l => match covMin l with
    | none => some a
    | some b => some (min a b)

/-- Does a position lie beyond the innermost covered end in force? -/
def beyondCov (cov : List Nat) (x : Nat) : Bool :=
  match covMin cov with
  | none => false
  | some c => decide (c < x)

/-- The ones'-complement sum of 16-bit words, folded. -/
def onesSum : Nat → List Byte → Nat
  | acc, a :: b :: l => onesSum ((acc + a.toNat * 256 + b.toNat) % 65536 + (acc + a.toNat * 256 + b.toNat) / 65536) l
  | acc, [a] => (acc + a.toNat * 256) % 65536 + (acc + a.toNat * 256) / 65536
  | acc, [] => acc

/-- Length of the fixed part of a header (R118). -/
def fixedLen (e : List Byte) : Nat :=
  [if eb e 6 = 0xFF then 0 else eb e 6 + 1,
   if ebit e 0 0 then 1 else 0,
   if bits (eb e 14) 1 0 = 0 then 0 else eb e 15 + 2,
   if bits (eb e 0) 3 2 = 1 then 8 else 0,
   if eb e 17 = 0 then 0 else eb e 16 + eb e 17].foldl max (beAt e 4 2)

/-- Header length (R114). -/
def hdrLen (e : List Byte) (data : List Byte) (h : Nat) : Nat :=
  if eb e 6 = 0xFF then beAt e 4 2
  else beAt e 4 2 + (eb data (h + eb e 6) / 2 ^ bits (eb e 7) 7 4 % 2 ^ bits (eb e 7) 3 0) * eb e 8

/-- The first valid transition of a state whose masked select matches (R115). -/
def findTrans (b : ParBank) (sel : Nat) : Nat → Nat → Option (List Byte)
  | _, 0 => none
  | i, n + 1 =>
    let t := b.transition i
    if ebit t 9 7 && decide (Nat.land sel (beAt t 4 4) = beAt t 0 4) then some t else findTrans b sel (i + 1) n

/-- The next state of a step, none when the walk ends in this state (R114). -/
def nextState (b : ParBank) (e : List Byte) (data : List Byte) (h : Nat) : Option Nat :=
  if ebit e 0 5 then none
  else
    let t := if eb e 17 = 0 then none
      else findTrans b (Nat.land (beAt data (h + eb e 16) (eb e 17)) (beAt e 20 4)) (beAt e 26 2) (beAt e 28 2)
    match t with
    | some t => if ebit t 9 0 then none else some (eb t 8)
    | none => if ebit e 25 0 then none else some (eb e 24)

/-- The covered-length checks 5 to 9 of R118: the covered ends after this header, or the reason it fails. -/
def covCheck (e data : List Byte) (w : Walk) (hl avail : Nat) (ended : Bool) : Except Nat (List Nat) :=
  let k := bits (eb e 14) 1 0
  if beyondCov w.cov (w.h + hl) then .error 4
  else if k = 1 || k = 2 then
    let v := beAt data (w.h + eb e 15) 2
    let new := if k = 1 then w.h + v else w.h + beAt e 4 2 + v
    if v = 0 then .error 5
    else if v < (if k = 1 then hl else beAt e 4 2) then .error 6
    else if beyondCov w.cov new then .error 7
    else if ended && decide (avail < new) then .error 8
    else .ok (new :: w.cov)
  else .ok w.cov

/-- Does a state with FRAG 1 mark the packet FRAGMENT (R119): more-fragments flag or fragment offset not 0? -/
def fragMark (e data : List Byte) (h : Nat) : Bool :=
  decide (bits (eb e 0) 3 2 = 1) && decide (beAt data (h + 6) 2 % 2 ^ 14 ≠ 0)

/-- The length-typed end of a walk (R117): the LLC instance as one further step. -/
def llcStep (w : Walk) (hl v avail : Nat) (ended : Bool) : WalkEnd :=
  let w1 := { w with lenTyped := true }
  let at_ := w.h + hl
  if w.steps = 32 then .limit w1 0x20
  else
    let w2 := { w1 with cov := (at_ + v) :: w.cov }
    if ended && decide (avail < at_ + v) then .malformed w2 8
    else if 512 < at_ + 3 then .limit { w2 with steps := w.steps + 1 } 0x21
    else if avail < at_ + 3 then (if ended then .malformed { w2 with steps := w.steps + 1 } 1 else .more)
    else .stop { w2 with steps := w.steps + 1,
                         insts := w.insts ++ [{ htype := 254, depth := w.depth, off := at_, len := 3 }] }

/-- The walk from a state (R114, R118), by fuel of one per step. -/
def walkFrom (b : ParBank) (data : List Byte) (avail : Nat) (ended : Bool) : Nat → Walk → WalkEnd
  | 0, w => .limit w 0x20
  | n + 1, w0 =>
    let e := b.state w0.state
    if !ebit e 0 7 then .limit w0 0x22
    else if w0.steps = 32 then .limit w0 0x20
    else
      let w := { w0 with
        steps := w0.steps + 1, last := w0.state, profile := bits (eb e 2) 3 0,
        frag := w0.frag || decide (bits (eb e 0) 3 2 = 2) }
      let fe := w.h + fixedLen e
      if avail < fe then (if ended then .malformed w 1 else .more)
      else if ebit e 0 0 && decide (bits (eb data w.h) 7 4 ≠ bits (eb e 3) 3 0) then .malformed w 2
      else
        let hl := hdrLen e data w.h
        if hl < beAt e 10 2 ∨ beAt e 12 2 < hl then .malformed w 3
        else if 512 < w.h + hl then .limit w 0x21
        else if avail < w.h + hl then (if ended then .malformed w 1 else .more)
        else
          let w1 := if ebit e 0 6 then
              { w with insts := w.insts ++ [{ htype := eb e 1, depth := w.depth, off := w.h, len := hl }] }
            else w
          match covCheck e data w1 hl avail ended with
          | .error r => .malformed w1 r
          | .ok cov =>
            let w2 := { w1 with cov := cov, frag := w1.frag || fragMark e data w1.h }
            if ebit e 0 1 && decide (onesSum 0 (bytesAt data w2.h hl) ≠ 65535) then .malformed w2 9
            else
              let v := beAt data (w2.h + eb e 15) 2
              if bits (eb e 14) 1 0 = 3 ∧ 0x05DD ≤ v ∧ v ≤ 0x05FF then .malformed w2 10
              else if bits (eb e 14) 1 0 = 3 ∧ v ≤ 0x05DC then llcStep w2 hl v avail ended
              else match nextState b e data w2.h with
                | none => .stop w2
                | some s =>
                  walkFrom b data avail ended n { w2 with
                    h := w2.h + hl, state := s,
                    depth := if ebit e 0 4 then min 3 (w2.depth + 1) else w2.depth }

/-! ### Payload matches and extraction (R122 to R125) -/

/-- Does a pattern match at a start offset of the window (R124)? -/
def patAt (e win : List Byte) (s : Nat) : Bool :=
  decide (s + eb e 36 ≤ win.length) &&
  (List.range (eb e 36)).all fun i =>
    decide (bits (beAt e 32 4) i i = 0) || decide (win.getD (s + i) 0 = e.getD i 0)

/-- The start offsets of a pattern that are allowed (R124). -/
def patStarts (e : List Byte) : List Nat :=
  let lo := beAt e 40 2
  if ebit e 38 6 then [lo] else (List.range (beAt e 42 2 + 1 - lo)).map (lo + ·)

/-- Every match of a group, ordered by start offset and then by pattern number (R124). -/
def allMatches (b : ParBank) (group : Nat) (win : List Byte) : List (Nat × Nat) :=
  sortBy (fun m => m.2 * 4096 + m.1) <| b.pats.flatMap fun p =>
    if ebit p.2 38 7 && decide (eb p.2 37 = group) then
      ((patStarts p.2).filter (patAt p.2 win)).map fun s => (p.1, s)
    else []

/-- An extraction rule's answer: the value and its valid bit, and whether its bytes reach outside the window (R125). -/
def extractOne (b : ParBank) (prof win : List Byte) (kept : List (Nat × Nat)) (i : Nat) : Nat × Bool × Bool :=
  let r := 72 + 4 * i
  if decide (eb prof 7 ≤ i) || !ebit prof r 7 then (0, false, false)
  else
    let base := bits (eb prof r) 5 4
    let start : Option Nat := if base = 0 then some 0
      else match kept[bits (eb prof r) 3 2]? with
        | none => none
        | some m => if base = 1 then some m.2 else some (m.2 + eb (kvGet (zeros 48) b.pats m.1) 36)
    match start with
    | none => (0, false, false)
    | some st =>
      let o : Int := (st : Int) + sext 16 (beAt prof (r + 2) 2)
      let width := eb prof (r + 1)
      if o < 0 ∨ (win.length : Int) < o + (width : Int) then (0, false, true)
      else
        let bs := bytesAt win o.toNat width
        (ofBe (if ebit prof r 6 then bs.reverse else bs), true, false)

/-! ### The key (R126, R127) -/

/-- The instance of a type at an occurrence: 0 to 3 counted from the outermost, 4 to 7 from the innermost (R127). -/
def findInst (insts : List HInst) (htype occ : Nat) : Option HInst :=
  let l := insts.filter (·.htype = htype)
  if occ < 4 then l[occ]? else l.reverse[occ - 4]?

/-- One key field: its bytes and its valid bit (R127). -/
def keyField (prof data : List Byte) (insts : List HInst) (xtr : List (Nat × Bool × Bool)) (port payLen profile i : Nat) :
    List Byte × Bool :=
  let f := 8 + 4 * i
  let width := fieldWidth prof i
  let off := eb prof (f + 2)
  let kind := bits (eb prof f) 7 6
  let src := eb prof (f + 1)
  if kind = 0 then
    match findInst insts src (bits (eb prof f) 5 3) with
    | none => (zeros width, false)
    | some x => if x.len < off + width then (zeros width, false) else (bytesAt data (x.off + off) width, true)
  else if kind = 1 then
    let v := xtr.getD src (0, false, false)
    if v.2.1 && decide (off + width ≤ 8) then (bytesAt (beBytes 8 v.1) off width, true) else (zeros width, false)
  else
    let item := if src = 0 then beBytes 2 port else if src = 1 then beBytes 2 payLen else beBytes 1 profile
    if item.length < off + width then (zeros width, false) else (bytesAt item off width, true)

/-- Exchange two elements of a list. -/
def swapAt {α : Type} (d : α) (l : List α) (i j : Nat) : List α := setAt (setAt l i (l.getD j d)) j (l.getD i d)

/-- The symmetric exchange of R127. -/
def symmFields (l : List (List Byte × Bool)) : List (List Byte × Bool) :=
  let v (i : Nat) : Nat := ofBe (l.getD i ([], false)).1
  let four := decide (4 ≤ l.length)
  if v 0 > v 1 || (decide (v 0 = v 1) && four && decide (v 2 > v 3)) then
    let l1 := swapAt ([], false) l 0 1
    if four then swapAt ([], false) l1 2 3 else l1
  else l

/-- A mask with bit `i` set for each element that holds. -/
def maskOf (l : List Bool) : Nat := (l.zip (List.range l.length)).foldl (fun acc x => if x.1 then acc + 2 ^ x.2 else acc) 0

/-! ### The whole parse -/

/-- Complete a parse once the walk is done: window, matches, extraction, key, course flags (R122 to R129). `early` says
that the walk stopped under R118 or R120, so that no window is waited for. -/
def finishParse (b : ParBank) (bank : Nat) (data : List Byte) (avail port : Nat) (ended early : Bool) (w : Walk)
    (mal lim : Bool) (reason : Nat) : Option ParseRes :=
  let pn := b.useProfile w.profile
  let prof := b.profile pn
  let span := beAt prof 2 2
  let start := match w.insts.getLast? with
    | some x => x.off + x.len
    | none => 0
  let lim0 := match covMin w.cov with
    | none => start + span
    | some c => min (start + span) c
  if span ≠ 0 && decide (avail < lim0) && !ended && !early then none
  else
    let wend := min lim0 avail
    let win := if span = 0 then [] else bytesAt data start (wend - start)
    let ms := if eb prof 4 = 0xFF || span = 0 then [] else allMatches b (eb prof 4) win
    let kept := ms.take 4
    let xtr := (List.range 8).map (extractOne b prof win kept)
    let fields := (List.range (eb prof 6)).map (keyField prof data w.insts xtr port win.length pn)
    let fs := if ebit prof 0 5 then symmFields fields else fields
    let key := ((fs.flatMap (·.1)) ++ zeros 40).take 40
    let pshort := xtr.any (·.2.2)
    some {
      profile := pn, flowEn := ebit prof 0 6, frag := w.frag, malformed := mal, limit := lim, pshort := pshort,
      matchOvf := decide (4 < ms.length), lenTyped := w.lenTyped,
      reason := if mal || lim then reason else if pshort then 0x30 else 0,
      steps := w.steps, insts := w.insts, payStart := start, payLen := win.length, kept := kept, lastState := w.last,
      bank := bank, key := key, keyValid := maskOf (fs.map (·.2)), xtrValid := maskOf (xtr.map (·.2.1)),
      xtr := xtr.map (·.1), covOuter := w.cov.max?, ended := ended }

/-- Parse the bytes of a frame that have arrived; `ended` says that the last of them is the last byte of the FCS.
None: the parse needs more (R111). `start` is the state the walk begins in (R132). -/
def parseFrame (b : ParBank) (bank : Nat) (bytes : List Byte) (ended : Bool) (port start : Nat) : Option ParseRes :=
  let avail := if ended then bytes.length - 4 else bytes.length
  match walkFrom b bytes avail ended 33 { state := start } with
  | .more => none
  | .stop w => finishParse b bank bytes avail port ended false w false false 0
  | .malformed w r => finishParse b bank bytes avail port ended true w true false r
  | .limit w r => finishParse b bank bytes avail port ended true w false true r

/-! ### The parse result as the stages read it (R129) -/

/-- The flags byte of the parse result. -/
def ParseRes.flags (r : ParseRes) : Nat :=
  maskOf [r.partialKey, r.inject, r.lenTyped, r.matchOvf, r.pshort, r.limit, r.malformed, r.frag]

/-- A header instance as 4 bytes. -/
def HInst.bytes (x : HInst) : List Byte :=
  beBytes 4 (x.htype * 2 ^ 24 + x.depth * 2 ^ 22 + x.off % 512 * 2 ^ 13 + x.len % 1024 * 2 ^ 3)

/-- The 272 bytes of the parse result. -/
def ParseRes.bytes (r : ParseRes) : List Byte :=
  beBytes 1 r.profile ++ beBytes 1 r.flags ++ beBytes 2 r.reason ++ beBytes 1 r.steps ++ beBytes 1 r.insts.length ++
  beBytes 2 r.payStart ++ beBytes 2 r.payLen ++ beBytes 1 r.kept.length ++ beBytes 1 r.lastState ++
  beBytes 1 r.bank ++ zeros 3 ++ (r.key ++ zeros 40).take 40 ++ beBytes 2 r.keyValid ++ beBytes 1 r.xtrValid ++
  zeros 5 ++ ((r.xtr.flatMap (beBytes 8)) ++ zeros 64).take 64 ++
  ((r.kept.flatMap fun m => beBytes 2 m.1 ++ beBytes 2 m.2) ++ zeros 16).take 16 ++
  ((r.insts.flatMap HInst.bytes) ++ zeros 128).take 128

/-- Parse depth of R130: the end of the last header recorded, 0 when none. -/
def ParseRes.depth (r : ParseRes) : Nat :=
  match r.insts.getLast? with
  | some x => x.off + x.len
  | none => 0

end Sys2Proof.Machine
end

