-- ==== Sys2Proof/Machine/PortOps.lean ====
section
/-! DEFINITION. Machine/PortOps.lean: the operations ports, cages, protection groups and the rail share (R57 to R110). -/
namespace Sys2Proof.Machine

/-! ### Modes (R58) -/

/-- Lanes of a port mode. -/
def modeLanes : Nat → Nat
  | 4 => 4 | 5 => 4 | 6 => 2 | 8 => 4 | 9 => 2 | 10 => 8 | 11 => 4 | 12 => 8 | _ => 1

/-- Data rate of a port mode in Gb/s. -/
def modeGbps : Nat → Nat
  | 1 => 10 | 2 => 25 | 3 => 50 | 4 => 100 | 5 => 100 | 6 => 100 | 7 => 100 | 8 => 200 | 9 => 200
  | 10 => 400 | 11 => 400 | 12 => 800 | _ => 0

/-- May a mode run with a FEC setting (0 none, 1 RS(528,514), 2 RS(544,514), 3 auto)? -/
def fecAllowed (mode fec : Nat) : Bool :=
  if fec = 3 then true
  else if mode = 1 then fec = 0
  else if mode = 2 then decide (fec = 0 ∨ fec = 1)
  else if mode = 4 then fec = 1
  else fec = 2

/-- The only FEC a mode allows, none in modes 1 and 2 (R66). -/
def fecDefault (mode : Nat) : Nat := if mode = 1 ∨ mode = 2 then 0 else if mode = 4 then 1 else 2

/-- Binary logarithm of a lane count 1, 2, 4 or 8. -/
def log2Lanes (n : Nat) : Nat := if n = 8 then 3 else if n = 4 then 2 else if n = 2 then 1 else 0

/-- Lane numbers of a port. -/
def lanesOf (p mode : Nat) : List Nat := (List.range (modeLanes mode)).map (p + ·)

/-! ### Access -/

/-- What a port keeps beside its registers. -/
def Dev.portSt (d : Dev) (p : Nat) : PortSt := kvGet {} d.port.ports p

/-- Replace it. -/
def Dev.setPort (d : Dev) (p : Nat) (x : PortSt) : Dev :=
  { d with port := { d.port with ports := kvSet {} p x d.port.ports } }

/-- What a cage keeps beside its registers. -/
def Dev.cage (d : Dev) (c : Nat) : CageSt := kvGet {} d.port.cages c

/-- Replace it. -/
def Dev.setCage (d : Dev) (c : Nat) (x : CageSt) : Dev :=
  { d with port := { d.port with cages := kvSet {} c x d.port.cages } }

/-- PRT_CFG.MODE as software has written it. -/
def Dev.cfgMode (d : Dev) (p : Nat) : Nat := d.f (rPRT_CFG p) fPRT_CFG_MODE

/-- Port state (R62). -/
def Dev.pState (d : Dev) (p : Nat) : Nat := d.f (rPRT_STATUS p) fPRT_STATUS_STATE

/-- Is a port UP? -/
def Dev.isUp (d : Dev) (p : Nat) : Bool := d.pState p = 5

/-- Does a number name a port (R5): PRT_CFG.MODE not 0, in force since a tick boundary (R91)? -/
def Dev.portExists (d : Dev) (p : Nat) : Bool := decide (p < 512) && decide (d.lf (rPRT_CFG p) fPRT_CFG_MODE ≠ 0)

/-- Set the port state and LINK. -/
def Dev.setPState (d : Dev) (p st : Nat) : Dev :=
  (d.sf (rPRT_STATUS p) fPRT_STATUS_STATE st).sb (rPRT_STATUS p) fPRT_STATUS_LINK (st = 5)

/-- Indices of the registers of an array that hold something else than their reset value. -/
def Dev.listedIdx (d : Dev) (base stride count : Nat) : List Nat :=
  d.regs.filterMap fun e =>
    if base ≤ e.1 ∧ e.1 < base + stride * count ∧ (e.1 - base) % stride = 0 then some ((e.1 - base) / stride) else none

/-- Does a lane lie among the upper lanes of another configured port (R91)? -/
def Dev.insidePort (d : Dev) (n : Nat) : Bool :=
  (List.range 7).any fun i =>
    let k := n - (i + 1)
    decide (i < n) && decide (d.cfgMode k ≠ 0) && decide (n < k + modeLanes (d.cfgMode k))

/-- Lanes shared by two ranges. -/
def lanesMeet (a n b m : Nat) : Bool := decide (a < b + m) && decide (b < a + n)

/-- Does a lane belong to an enabled port? -/
def Dev.laneOfEnabled (d : Dev) (n : Nat) : Bool :=
  (d.listedIdx (rPRT_CFG 0) 0x40 512).any fun k =>
    d.b (rPRT_CFG k) fPRT_CFG_EN && lanesMeet n 1 k (modeLanes (d.cfgMode k))

/-! ### Rail lookups (R92) -/

/-- Enabled or configured rail groups. -/
def Dev.railGroups (d : Dev) : List Nat := d.listedIdx (rRAIL_GRP_CFG 0) 0x40 128

/-- Is a lane a valid rail destination? -/
def Dev.railDest (d : Dev) (n : Nat) : Bool := d.b (rRAIL_DST_CFG n) fRAIL_DST_CFG_VALID

/-- Valid destination lanes of a group. -/
def Dev.railDsts (d : Dev) (g : Nat) : List Nat :=
  (d.listedIdx (rRAIL_DST_CFG 0) 8 512).filter fun n =>
    d.railDest n && decide (d.f (rRAIL_DST_CFG n) fRAIL_DST_CFG_GROUP = g)

/-- Is a lane a source or an alternate source of any enabled group, but group `g`'s own check? -/
def Dev.railSource (d : Dev) (n : Nat) : Bool :=
  d.railGroups.any fun g =>
    decide (d.f (rRAIL_GRP_CFG g) fRAIL_GRP_CFG_SRC = n) ||
    (d.b (rRAIL_GRP_CFG g) fRAIL_GRP_CFG_ALT_EN && decide (d.f (rRAIL_GRP_CFG g) fRAIL_GRP_CFG_ALT_SRC = n))

/-- The selected source lane of a group (R97). -/
def Dev.railSel (d : Dev) (g : Nat) : Nat :=
  if d.b (rRAIL_GRP_STATUS g) fRAIL_GRP_STATUS_ON_ALT then d.f (rRAIL_GRP_CFG g) fRAIL_GRP_CFG_ALT_SRC
  else d.f (rRAIL_GRP_CFG g) fRAIL_GRP_CFG_SRC

/-- The source lane of a group that is not selected. -/
def Dev.railOther (d : Dev) (g : Nat) : Nat :=
  if d.b (rRAIL_GRP_STATUS g) fRAIL_GRP_STATUS_ON_ALT then d.f (rRAIL_GRP_CFG g) fRAIL_GRP_CFG_SRC
  else d.f (rRAIL_GRP_CFG g) fRAIL_GRP_CFG_ALT_SRC

/-- Rail group state (R97). -/
def Dev.railState (d : Dev) (g : Nat) : Nat := d.f (rRAIL_GRP_STATUS g) fRAIL_GRP_STATUS_STATE

/-- The enabled rail groups that use a port or lane as source or alternate. -/
def Dev.railOfPort (d : Dev) (p : Nat) : List Nat :=
  d.railGroups.filter fun g => d.b (rRAIL_GRP_CFG g) fRAIL_GRP_CFG_EN &&
    (decide (d.f (rRAIL_GRP_CFG g) fRAIL_GRP_CFG_SRC = p) ||
     (d.b (rRAIL_GRP_CFG g) fRAIL_GRP_CFG_ALT_EN && decide (d.f (rRAIL_GRP_CFG g) fRAIL_GRP_CFG_ALT_SRC = p)))

/-- What a group keeps beside its registers. -/
def Dev.railG (d : Dev) (g : Nat) : RailGrp := kvGet {} d.rail.groups g

/-- Replace it. -/
def Dev.setRailG (d : Dev) (g : Nat) (x : RailGrp) : Dev :=
  { d with rail := { d.rail with groups := kvSet {} g x d.rail.groups } }

/-- What a destination keeps beside its registers. -/
def Dev.railD (d : Dev) (n : Nat) : RailDst := kvGet {} d.rail.dsts n

/-- Replace it. -/
def Dev.setRailD (d : Dev) (n : Nat) (x : RailDst) : Dev :=
  { d with rail := { d.rail with dsts := kvSet {} n x d.rail.dsts } }

/-! ### Protection groups (R85 to R87) -/

/-- Valid members of a protection group, in index order: index and device port. -/
def Dev.pgMembers (d : Dev) (g : Nat) : List (Nat × Nat) :=
  let base := 256 * d.f (rPRT_PG_CTRL g) fPRT_PG_CTRL_DIE
  let a := rPRT_PG_MEMB01 g
  let c := rPRT_PG_MEMB23 g
  (if d.b a fPRT_PG_MEMB01_V0 then [(0, base + d.f a fPRT_PG_MEMB01_PORT0 % 256)] else []) ++
  (if d.b a fPRT_PG_MEMB01_V1 then [(1, base + d.f a fPRT_PG_MEMB01_PORT1 % 256)] else []) ++
  (if d.b c fPRT_PG_MEMB23_V0 then [(2, base + d.f c fPRT_PG_MEMB23_PORT0 % 256)] else []) ++
  (if d.b c fPRT_PG_MEMB23_V1 then [(3, base + d.f c fPRT_PG_MEMB23_PORT1 % 256)] else [])

/-- Enabled protection groups. -/
def Dev.pgEnabled (d : Dev) : List Nat :=
  (d.listedIdx (rPRT_PG_CTRL 0) 16 128).filter fun g => d.b (rPRT_PG_CTRL g) fPRT_PG_CTRL_EN

/-- The enabled protection group a port is a member of, with its index. -/
def Dev.pgOf (d : Dev) (p : Nat) : Option (Nat × Nat) :=
  d.pgEnabled.findSome? fun g => (d.pgMembers g).findSome? fun m => if m.2 = p then some (g, m.1) else none

/-- Member 0's port: the port whose queues hold the group's frames (R85). -/
def Dev.pgPort0 (d : Dev) (g : Nat) : Nat := ((d.pgMembers g).head?.map (·.2)).getD 0

/-- The active member's port (R86). -/
def Dev.pgActive (d : Dev) (g : Nat) : Nat :=
  let i := d.f (rPRT_PG_STATUS g) fPRT_PG_STATUS_ACTIVE_IDX
  (((d.pgMembers g).find? (·.1 = i)).map (·.2)).getD 0

/-- What a protection group keeps beside its registers. -/
def Dev.pgSt (d : Dev) (g : Nat) : PgSt := kvGet {} d.port.groups g

/-- Replace it. -/
def Dev.setPg (d : Dev) (g : Nat) (x : PgSt) : Dev :=
  { d with port := { d.port with groups := kvSet {} g x d.port.groups } }

/-- Refresh MEMBER_UP and NO_MEMBER of a group from its members' states; entering NO_MEMBER raises PG_NO_MEMBER (R87). -/
def Dev.pgRefresh (d : Dev) (g : Nat) : Dev :=
  let ms := d.pgMembers g
  let up := ms.foldl (fun acc m => if d.isUp m.2 then acc + 2 ^ m.1 else acc) 0
  let d1 := d.sf (rPRT_PG_STATUS g) fPRT_PG_STATUS_MEMBER_UP up
  let was := d.b (rPRT_PG_STATUS g) fPRT_PG_STATUS_NO_MEMBER
  let d2 := d1.sb (rPRT_PG_STATUS g) fPRT_PG_STATUS_NO_MEMBER (up = 0)
  if up = 0 && !was then d2.raise ePRT_PG_NO_MEMBER g else d2

/-- A member of a group enters UP (R86): where the group had no member in UP it is the active member from now on (DEDUCED, log
entry 76). -/
def Dev.pgMemberUp (d : Dev) (g i : Nat) : Dev :=
  if d.b (rPRT_PG_STATUS g) fPRT_PG_STATUS_NO_MEMBER then
    ((d.sf (rPRT_PG_STATUS g) fPRT_PG_STATUS_ACTIVE_IDX i).setPg g { d.pgSt g with switchAt := none }).pgRefresh g
  else d.pgRefresh g

/-! ### Cages (R68 to R71) -/

/-- First device lane of a cage. -/
def Dev.cageLane (d : Dev) (c : Nat) : Nat := 256 * (c / 128) + d.f (rPRT_CAGE c) fPRT_CAGE_FIRST_LANE % 256

/-- Lanes a cage serves. -/
def Dev.cageWidth (d : Dev) (c : Nat) : Nat := 2 ^ d.f (rPRT_CAGE c) fPRT_CAGE_WIDTH_LOG2

/-- The valid cage whose lanes hold a lane (R68). -/
def Dev.cageOf (d : Dev) (n : Nat) : Option Nat :=
  (d.listedIdx (rPRT_CAGE 0) 8 256).find? fun c =>
    d.b (rPRT_CAGE c) fPRT_CAGE_VALID && decide (d.cageLane c ≤ n) && decide (n < d.cageLane c + d.cageWidth c)

/-- Module state of a cage. -/
def Dev.mstate (d : Dev) (c : Nat) : Nat := d.f (rPRT_CAGE_STATE c) fPRT_CAGE_STATE_MSTATE

/-- Set it. -/
def Dev.setMstate (d : Dev) (c st : Nat) : Dev := d.sf (rPRT_CAGE_STATE c) fPRT_CAGE_STATE_MSTATE st

/-- The mode and lane count a cage's application must match: the port on its lowest lane (R70), else one lane at the
rail group's rate when that lane is a rail destination (R96). -/
def Dev.cageWants (d : Dev) (c : Nat) : Option (Nat × Nat) :=
  let n := d.cageLane c
  if d.cfgMode n ≠ 0 then some (d.cfgMode n, modeLanes (d.cfgMode n))
  else if d.railDest n then
    some (d.cfgMode (d.f (rRAIL_GRP_CFG (d.f (rRAIL_DST_CFG n) fRAIL_DST_CFG_GROUP)) fRAIL_GRP_CFG_SRC), 1)
  else none

/-- Steps 2 and 3 of R70 for a mode and lane count: select the first matching application and power the module up, or
APPSEL_MISMATCH with MOD_FAULT. -/
def Dev.cageSelect (d : Dev) (c mode lanes : Nat) (arriving : Bool) : Dev :=
  let x := d.cage c
  match x.apps.find? fun a => decide (a.2.1 = mode) && decide (a.2.2.1 = lanes) with
  | some a =>
    let d1 := d.setCage c { x with active := some a.2, arriving := arriving }
    (d1.setMstate c 3).sf (rPRT_CAGE_STATE c) fPRT_CAGE_STATE_APPSEL a.1
  | none => ((d.setCage c { x with active := none }).setMstate c 7).raise ePRT_MOD_FAULT c

/-- A module arrival accepted by the scan (R70, step 1, and R71). -/
def Dev.modArrive (d : Dev) (c : Nat) (i : ModInfo) : Dev :=
  let x := d.cage c
  let d1 := d.setCage c { x with apps := i.apps, copper := i.copper, active := none }
  let d2 := d1.sf (rPRT_CAGE_STATE c) fPRT_CAGE_STATE_CMIS_REV i.rev
  if i.supported then
    match d2.cageWants c with
    | some (m, n) => d2.cageSelect c m n true
    | none => d2.setMstate c 2
  else (d2.setMstate c 6).raise ePRT_MOD_FAULT c

/-! ### Port state changes (R62) -/

/-- Does Clause 73 apply to a port (R63)? A port on an UNSUPPORTED cage runs forced (R70). -/
def Dev.anApplies (d : Dev) (p : Nat) : Bool :=
  d.b (rPRT_CFG p) fPRT_CFG_AN_EN && decide (d.cfgMode p ≠ 5) && decide (d.cfgMode p ≠ 10) &&
  (match d.cageOf p with
   | none => true
   | some c => (d.cage c).copper && decide (d.mstate c ≠ 6))

/-- FEC of a forced port (R66). -/
def Dev.forcedFec (d : Dev) (p : Nat) : Nat :=
  let cfg := d.f (rPRT_CFG p) fPRT_CFG_FEC
  if cfg ≠ 3 then cfg
  else match (d.cageOf p).bind fun c => (d.cage c).active with
    | some a => a.2.2
    | none => fecDefault (d.cfgMode p)

/-- Leave WAIT_MODULE: NEGOTIATE when Clause 73 applies, else TRAINING in the configured mode (R62). -/
def Dev.leaveWait (d : Dev) (p : Nat) : Dev :=
  let x := d.portSt p
  if d.anApplies p then (d.setPort p { x with noCommon := false, an := false, eee := false }).setPState p 2
  else (d.setPort p { x with mode := d.cfgMode p, fec := d.forcedFec p, an := false, eee := false }).setPState p 3

/-- The link layer settles (R65): its fields are written and PARTNER_CHANGE is raised with data 1. -/
def Dev.linkSettle (d : Dev) (p : Nat) : Dev :=
  let x := d.portSt p
  let a := rPRT_PARTNER p
  let d1 := ((d.sf a fPRT_PARTNER_LINK_MODE x.mode).sf a fPRT_PARTNER_FEC x.fec).sb a fPRT_PARTNER_AN_DONE x.an
  (d1.setPort p { x with layers := 1 }).raise ePRT_PARTNER_CHANGE p (some 1)

/-- The management layer settles (R65) with PARTNER_CHANGE, data 2. -/
def Dev.mgmtSettle (d : Dev) (p : Nat) (jevar shed : Bool) (dev : Nat) : Dev :=
  let a := rPRT_PARTNER p
  let d1 := (((d.sb a fPRT_PARTNER_JEVAR jevar).sb a fPRT_PARTNER_RULEY jevar).sb a fPRT_PARTNER_SHED_CAP shed).sf a
    fPRT_PARTNER_PARTNER_DEV dev
  (d1.setPort p { d1.portSt p with layers := max 2 (d1.portSt p).layers }).raise ePRT_PARTNER_CHANGE p (some 2)

/-- Is the domain enabled on a port (R440, R443)? -/
def Dev.domOn (d : Dev) (p : Nat) : Bool :=
  d.b rDOM_CTRL fDOM_CTRL_EN && decide (bits (d.rn (rDOM_PORT_EN (p / 32))) (p % 32) (p % 32) = 1)

/-- A calibration run starts on lanes that have none running (R89). -/
def Dev.calStart (d : Dev) (lanes : List Nat) : Dev :=
  let new := lanes.filter fun n => !d.port.calRunning.contains n
  { d with port := { d.port with
      calRunning := d.port.calRunning ++ new
      calTick := new.foldl (fun m n => kvSet 0 n d.trk.tick m) d.port.calTick } }

/-- A port enters UP (R62, R65, R79, R83, R89): LINK_UP, the link layer settled if it is not, the management layer
settled at once where the domain is disabled on the port, all lanes active, calibration started, no pause state. -/
def Dev.enterUp (d : Dev) (p : Nat) : Dev :=
  let x := d.portSt p
  let d1 := d.setPState p 5
  let d2 := d1.setPort p { x with upTick := d.trk.tick, xoffSent := 0, stops := [], stopSince := [], gridSet := false,
                                  shedRod := none, shedAsked := none, wakeRod := none, idle := false }
  let a := rPRT_STATUS p
  let d3 := (((d2.sf a fPRT_STATUS_ACTIVE_LANES_LOG2 (log2Lanes (modeLanes x.mode))).sb a fPRT_STATUS_LOCAL_FAULT
    false).sb a fPRT_STATUS_REMOTE_FAULT false).sb a fPRT_STATUS_PAUSED_RX false
  let d4 := if x.layers = 0 then d3.linkSettle p else d3
  let d5 := d4.raise ePRT_LINK_UP p
  let d6 := if d5.domOn p then d5 else d5.mgmtSettle p false false 0xFFFF
  let d7 := (d6.calStart (lanesOf p x.mode)).sb a fPRT_STATUS_OFF_GRID (d.lb (rPRT_CFG p) fPRT_CFG_GRID_EN)
  match d7.pgOf p with
  | some (g, i) => d7.pgMemberUp g i
  | none => d7

/-- Clear what a port loses on leaving UP (R67, R79): the partner fields but PARTNER_DEV, and every pause state. -/
def Dev.partnerClear (d : Dev) (p : Nat) : Dev :=
  let a := rPRT_PARTNER p
  let d1 := d.wn a (d.rn a % 2 ^ 16)
  let x := d1.portSt p
  (d1.setPort p { x with layers := 0, xoffSent := 0, stops := [], stopSince := [], shedRod := none,
                         shedAsked := none, wakeRod := none, gridSet := false }).sb (rPRT_STATUS p)
    fPRT_STATUS_PAUSED_RX false

/-- Tap-blind judgement of a group (R109): its source is being copied and the tap port is not in UP or FAULT, or the
core-to-port link toward its core die is stopped. Becoming blind writes a TAP_BLIND mark once a deck when JRN is set. -/
def Dev.railBlind (d : Dev) (g : Nat) : Dev :=
  let tap := d.railSel g
  let link := kvGet ({} : LinkDir) d.links (2 * (1 + g / 64))
  let blind := decide (d.railState g = 2) &&
    (!(decide (d.pState tap = 5) || decide (d.pState tap = 6)) || link.stopped)
  let was := d.b (rRAIL_GRP_STATUS g) fRAIL_GRP_STATUS_TAP_BLIND
  let d1 := d.sb (rRAIL_GRP_STATUS g) fRAIL_GRP_STATUS_TAP_BLIND blind
  if blind && !was && d.b (rRAIL_GRP_CFG g) fRAIL_GRP_CFG_JRN && decide ((d.railG g).blindDeck ≠ some d.deck) then
    (d1.setRailG g { d1.railG g with blindDeck := some d.deck }).jrnMark (g / 64) 2 (0xC000 + g) 0xFFFFFFFF
  else d1

/-- The copy in transmission on a port is ended with an inverted FCS (R86). -/
def Dev.abortTx (d : Dev) (p : Nat) : Dev :=
  { d with path := { d.path with tx := d.path.tx.map fun e =>
      if e.1 = p then (e.1, e.2.map fun t => { t with abort := true }) else e } }

/-- A port moves out of UP (R62, R67, R86, R109): LOS_EVT, LINK_DOWN, partner and pause state cleared; a protection
group member whose loss triggers failover (`trig`) has its frame in transmission ended and counted as group-aborted, and
its queues are served elsewhere from the second tick boundary on. -/
def Dev.leaveUp (d : Dev) (p st : Nat) (trig : Bool := true) : Dev :=
  if d.isUp p then
    let x := d.portSt p
    let d1 := ((d.setPState p st).sb (rPRT_STATUS p) fPRT_STATUS_LOS_EVT true).raise ePRT_LINK_DOWN p
    let d2 := d1.partnerClear p
    let d3 := match d2.pgOf p with
      | none => d2
      | some (g, i) =>
        let d4 := d2.pgRefresh g
        let act := trig && decide (d4.f (rPRT_PG_STATUS g) fPRT_PG_STATUS_ACTIVE_IDX = i)
        let d5 := if act && x.sending.isSome then (d4.cnt (rCNT_PORT_LO p 19)).abortTx p else d4
        if act then d5.setPg g { d5.pgSt g with switchAt := some (d.trk.tick + 2) } else d5
    d3.each (d3.railOfPort p) Dev.railBlind
  else d.setPState p st

/-! ### Level membership and the grid (R53, R285) -/

/-- Is a port a member of a level group: named by an enabled level queue, itself or through its protection group? -/
def Dev.levelMember (d : Dev) (p : Nat) : Bool :=
  (d.listedIdx (rLVL_Q_CFG 0) 16 1024).any fun i =>
    d.b (rLVL_Q_CFG i) fLVL_Q_CFG_EN &&
    (let dest := d.f (rLVL_Q_CFG i) fLVL_Q_CFG_DEST
     if d.b (rLVL_Q_CFG i) fLVL_Q_CFG_PG then (d.pgMembers dest).any (·.2 = p) else decide (dest = p))

/-- Is a port's transmit block grid anchored (R53): mode 1 or 2 without FEC, a level member or GRID_EN? -/
def Dev.anchored (d : Dev) (p : Nat) : Bool :=
  decide ((d.portSt p).mode = 1 ∨ (d.portSt p).mode = 2) && decide ((d.portSt p).fec = 0) &&
  (d.lb (rPRT_CFG p) fPRT_CFG_GRID_EN || d.levelMember p)

/-! ### Flow control (R75 to R80) -/

/-- Bits a port sends per tick at its rate. -/
def bitsPerTick (mode : Nat) : Nat := modeGbps mode * 10

/-- Pause time of a number of 512-bit-time quanta at a mode's rate, in ticks, rounded up (R77). -/
def quantaTicks (mode quanta : Nat) : Nat := (quanta * 512 + bitsPerTick mode - 1) / bitsPerTick mode

/-- Ruley, PAUSE and PFC frames carry the factory base MAC address plus the port number as source (R77, R527). -/
def Dev.portMac (d : Dev) (p : Nat) : Nat := (d.baseMac + p) % 2 ^ 48

/-- A PAUSE or PFC frame (R75, R77): destination 01-80-C2-00-00-01, source base + p, then the MAC Control fields of
IEEE 802.3 (PRESUMED: EtherType 0x8808, opcodes 0x0001 and 0x0101, log entry 5). Bit n of `mask` names priority n. -/
def Dev.fcFrame (d : Dev) (p : Nat) (pfc : Bool) (mask quanta : Nat) : List Byte :=
  let body := if pfc then beBytes 2 0x0101 ++ beBytes 2 mask ++
      (List.range 8).flatMap fun i => beBytes 2 (if bits mask i i = 1 then quanta else 0)
    else beBytes 2 0x0001 ++ beBytes 2 quanta
  let h := beBytes 6 0x0180C2000001 ++ beBytes 6 (d.portMac p) ++ beBytes 2 0x8808 ++ body
  h ++ zeros (60 - h.length)

/-- Send a flow-control frame for priorities, ahead of every frame not started (R77); an XOFF is counted (R508). -/
def Dev.sendFcMask (d : Dev) (p mask quanta : Nat) : Dev :=
  let pfc := d.lf (rPRT_CFG p) fPRT_CFG_FC_MODE = 2
  let fr : SentFrame := { port := p, bytes := d.fcFrame p pfc mask quanta, stomped := false, stamp := d.now }
  let d1 := { d with out := { d.out with frames := d.out.frames ++ [fr] } }
  if quanta = 0 then d1 else d1.cnt (rCNT_PORT_LO p 26)

/-- Send a flow-control frame for one priority. -/
def Dev.sendFc (d : Dev) (p q quanta : Nat) : Dev := d.sendFcMask p (2 ^ q) quanta

/-- Is a priority of a port under flow control (R75)? In PAUSE mode only priority 0, with watermark 0, exists. -/
def Dev.fcOn (d : Dev) (p q : Nat) : Bool :=
  let m := d.lf (rPRT_CFG p) fPRT_CFG_FC_MODE
  (decide (m = 1) && decide (q = 0)) || (decide (m = 2) && decide (bits (d.lf (rPRT_FC p) fPRT_FC_PFC_EN) q q = 1))

/-- The priority that stops a queue of a port (R278), from SCH_QPRI. -/
def Dev.qPri (d : Dev) (p q : Nat) : Nat :=
  let die := dieOf p
  if q < 8 then bits (d.lrn (rSCH_QPRI_LO die (p % 256))) (3 * q + 2) (3 * q)
  else bits (d.lrn (rSCH_QPRI_HI die (p % 256))) (3 * (q - 8) + 2) (3 * (q - 8))

/-- Is a priority of a port stopped by received PAUSE or PFC in this tick (R79)? -/
def Dev.priStopped (d : Dev) (p q : Nat) : Bool :=
  (d.portSt p).stops.any fun s => decide (s.1 = q) && decide (s.2.1 ≤ d.trk.tick) && decide (d.trk.tick < s.2.2)

/-- Has the PFC watchdog tripped for a priority (R80)? -/
def Dev.wdTripped (d : Dev) (p q : Nat) : Bool := decide (bits (d.f (rPRT_STATUS p) fPRT_STATUS_PFC_WD_TRIP) q q = 1)

/-- Does a port carry a Ruley tree link (R27)? The links to the parent and to children are tree links. -/
def Dev.treePort (d : Dev) (p : Nat) : Bool := d.treePorts.contains p

/-! ### Register writes that a port's configuration takes (R59, R91) -/

/-- The EN check of R59 (with R75, R495, R521) on a configuration value for port `p`. -/
def Dev.enCheck (d : Dev) (p v : Nat) : Bool :=
  let mode := bits v 30 27
  let n := modeLanes mode
  decide (mode ≠ 0) && decide (mode ≤ 12) && decide (p % n = 0) && fecAllowed mode (bits v 26 25) &&
  decide (bits v 22 21 ≠ 3) &&
  (decide (bits v 22 21 = 0) || decide (d.f (rPRT_FC p) fPRT_FC_XOFF_QUANTA ≠ 0)) &&
  !((d.listedIdx (rPRT_CFG 0) 0x40 512).any fun k =>
      decide (k ≠ p) && d.b (rPRT_CFG k) fPRT_CFG_EN && lanesMeet p n k (modeLanes (d.cfgMode k))) &&
  !((List.range n).any fun i => d.railDest (p + i)) &&
  !((List.range n).any fun i => d.port.badLanes.contains (p + i))

/-- The value PRT_CFG takes from a write: MODE, FEC, AN_EN and LT_EN are kept while EN is 1 (R59), and a MAX_FRAME
below 64 is ignored. EN itself is as written. -/
def prtCfgMerge (old v : Nat) : Nat :=
  let v1 := putBits v 15 14 0
  let v2 := if bits v 13 0 < 64 then putBits v1 13 0 (bits old 13 0) else v1
  if bits old 31 31 = 1 then putBits v2 30 23 (bits old 30 23) else v2

/-- The application of a cage follows a port that passes its EN check (R71). -/
def Dev.appReselect (d : Dev) (p : Nat) : Dev :=
  match d.cageOf p with
  | none => d
  | some c =>
    let m := d.cfgMode p
    let n := modeLanes m
    if d.mstate c = 2 then d.cageSelect c m n true
    else if d.mstate c = 4 then
      let ok := match (d.cage c).active with
        | some a => decide (a.1 = m) && decide (a.2.1 = n)
        | none => false
      if d.cageLane c = p then (if ok then d else d.cageSelect c m n false)
      else if ok then d else d.raise ePRT_MOD_FAULT c
    else d

/-- A port whose cage is READY with a fitting application, or UNSUPPORTED, may leave WAIT_MODULE (R62, R70, R71). -/
def Dev.cageReadyFor (d : Dev) (p : Nat) : Bool :=
  match d.cageOf p with
  | none => false
  | some c =>
    decide (d.mstate c = 6) ||
    (decide (d.mstate c = 4) && (match (d.cage c).active with
      | some a => decide (a.1 = d.cfgMode p) && decide (a.2.1 = modeLanes (d.cfgMode p))
      | none => false))

/-- Queue a change for the next tick boundary (R38). -/
def Dev.defer (d : Dev) (x : Deferred) : Dev := { d with deferred := d.deferred ++ [x] }

/-- A write of PRT_CFG[p] (R59, R60, R91, R495): refused inside another configured port; EN set runs the check, which
leaves EN 0 and sets CFG_ERR when it fails; EN cleared takes the port down at the next tick boundary. -/
def Dev.prtCfgWrite (d : Dev) (p v : Nat) : Dev :=
  if d.insidePort p then d
  else
    let old := d.rn (rPRT_CFG p)
    let new := prtCfgMerge old v
    let wasEn := bits old 31 31 = 1
    let wantEn := bits new 31 31 = 1
    if wantEn && d.b rFLT_KMODE fFLT_KMODE_ACTIVE && !wasEn then d
    else if wantEn && !wasEn then
      if d.enCheck p new then ((d.wn (rPRT_CFG p) new).appReselect p).defer (.portEnable p)
      else (d.wn (rPRT_CFG p) (putBits new 31 31 0)).sb (rPRT_STATUS p) fPRT_STATUS_CFG_ERR true
    else if wasEn && !wantEn then (d.wn (rPRT_CFG p) new).defer (.portDisable p)
    else d.wn (rPRT_CFG p) new

/-- Factory delays of a port's lanes are loaded when it is enabled (R89). -/
def Dev.loadDelays (d : Dev) (p mode : Nat) : Dev :=
  d.each (lanesOf p mode) fun e n =>
    (e.wn (rPRT_LANE_CAL_RX n) (Config.laneDelay n mode false % 65536)).wn (rPRT_LANE_CAL_TX n)
      (Config.laneDelay n mode true % 65536)

/-- A port's change at the tick boundary after PRT_CFG.EN was set: WAIT_MODULE, factory delays loaded (R62, R89). -/
def Dev.portEnableNow (d : Dev) (p : Nat) : Dev :=
  let d1 := (d.setPState p 1).loadDelays p (d.cfgMode p)
  let d2 := d1.setPort p { d1.portSt p with layers := 0, noCommon := false, idle := false }
  if d2.cageReadyFor p then d2.defer (.portReady p) else d2

/-- A port's change at the tick boundary after PRT_CFG.EN was cleared (R57, R60). -/
def Dev.portDisableNow (d : Dev) (p : Nat) : Dev :=
  let d1 := d.leaveUp p 0
  let d2 := (d1.partnerClear p).setPort p { d1.portSt p with idle := true, sending := none }
  (d2.sf (rPRT_STATUS p) fPRT_STATUS_ACTIVE_LANES_LOG2 0).sb (rPRT_STATUS p) fPRT_STATUS_LPI_TX false

/-! ### Rail changes (R93 to R105) -/

/-- The tap test of R93 for one source lane: an enabled port in mode 1 or 2 with FEC none and no negotiation, no member
of a protection group. -/
def Dev.railTapOk (d : Dev) (n : Nat) : Bool :=
  d.b (rPRT_CFG n) fPRT_CFG_EN && decide (d.cfgMode n = 1 ∨ d.cfgMode n = 2) &&
  decide (d.f (rPRT_CFG n) fPRT_CFG_FEC = 0) && !d.b (rPRT_CFG n) fPRT_CFG_AN_EN && (d.pgOf n).isNone

/-- May lane `n` be a destination of group `g` (R92, R93)? -/
def Dev.railDstOk (d : Dev) (g n : Nat) : Bool :=
  decide (n / 256 = g / 64) && !d.laneOfEnabled n && !d.railSource n

/-- The EN check of R93 on a configuration value for group `g`. -/
def Dev.railCheck (d : Dev) (g v : Nat) : Bool :=
  let src := bits v 8 0
  let alt := bits v 24 16
  let altEn := bits v 29 29 = 1
  let dsts := d.railDsts g
  decide (src / 256 = g / 64) && d.railTapOk src &&
  (!altEn || (decide (alt / 256 = g / 64) && d.railTapOk alt && decide (d.cfgMode alt = d.cfgMode src))) &&
  decide (bits v 28 27 < 2) && !dsts.isEmpty &&
  dsts.all fun n => d.railDstOk g n && decide (n ≠ src) && !(altEn && decide (n = alt))

/-- The value RAIL_GRP_CFG takes from a write: SRC, ALT_SRC, ALT_EN and LOSS_ACT are kept while EN is 1 (R93). -/
def railCfgMerge (old v : Nat) : Nat :=
  let v1 := putBits (putBits v 26 25 0) 15 9 0
  if bits old 31 31 = 1 then
    putBits (putBits (putBits (putBits v1 29 29 (bits old 29 29)) 28 27 (bits old 28 27)) 24 16 (bits old 24 16)) 8 0
      (bits old 8 0)
  else v1

/-- A write of RAIL_GRP_CFG[g] (R93, R97). -/
def Dev.railCfgWrite (d : Dev) (g v : Nat) : Dev :=
  let old := d.rn (rRAIL_GRP_CFG g)
  let new := railCfgMerge old v
  let wasEn := bits old 31 31 = 1
  let wantEn := bits new 31 31 = 1
  if wantEn && !wasEn then
    if d.railCheck g new then (d.wn (rRAIL_GRP_CFG g) new).defer (.railEnable g)
    else (d.wn (rRAIL_GRP_CFG g) (putBits new 31 31 0)).sb (rRAIL_GRP_STATUS g) fRAIL_GRP_STATUS_CFG_ERR true
  else if wasEn && !wantEn then (d.wn (rRAIL_GRP_CFG g) new).defer (.railDisable g)
  else d.wn (rRAIL_GRP_CFG g) new

/-- Is a destination's cage valid and not READY (R96)? -/
def Dev.railHeld (d : Dev) (n : Nat) : Bool :=
  match d.cageOf n with
  | none => false
  | some c => decide (d.mstate c ≠ 4) || (match (d.cage c).active with
      | some a => decide (a.2.1 ≠ 1 ∨ (a.1 ≠ 1 ∧ a.1 ≠ 2)) && decide (d.cageLane c = n)
      | none => true)

/-- DST_COUNT of a group: its destinations copying (R110). -/
def Dev.railCount (d : Dev) (g : Nat) : Dev :=
  d.sf (rRAIL_GRP_STATUS g) fRAIL_GRP_STATUS_DST_COUNT
    ((d.railDsts g).filter fun n => decide (d.f (rRAIL_DST_STATUS n) fRAIL_DST_STATUS_DSTATE = 1)).length

/-- A destination starts copying its group's source, or is held idle for its cage (R94, R96, R98); its FIFO setting is the part's
own, a free value (log entry 54). -/
def Dev.railCopy (d : Dev) (g n : Nat) : Dev :=
  if (d.railD n).retired then d
  else
    let st := if d.railHeld n then 2 else 1
    let d1 := ((d.sf (rRAIL_DST_STATUS n) fRAIL_DST_STATUS_DSTATE st).sf (rRAIL_DST_STATUS n) fRAIL_DST_STATUS_FIFO_POS
      (d.free 4096)).used
    (d1.setRailD n { d1.railD n with starting := false }).railCount g

/-- The group delay D for the selected source (R98): the part's own, a free value of at most 4.5 ns (R99; log entry 54). -/
def Dev.railSetDelay (d : Dev) (g : Nat) : Dev :=
  (d.sf (rRAIL_GRP_DELAY g) fRAIL_GRP_DELAY_DELAY (d.free 4609)).used

/-- A destination lane goes electrically idle (R94, R97, R105). -/
def Dev.railIdleNow (d : Dev) (n dstate : Nat) : Dev :=
  d.sf (rRAIL_DST_STATUS n) fRAIL_DST_STATUS_DSTATE dstate

/-- The group enters ACTIVE: every destination of it copies, and RAIL_ACTIVE is raised (R97, R110). -/
def Dev.railActivate (d : Dev) (g : Nat) : Dev :=
  let d1 := d.sf (rRAIL_GRP_STATUS g) fRAIL_GRP_STATUS_STATE 2
  let d2 := d1.each (d1.railDsts g) fun e n => e.railCopy g n
  (d2.raise eRAIL_ACTIVE g).railBlind g

/-- The change a destination has still to make, in 1/1,024 ns (R101): 1 ns less each 65,536 ns. -/
def Dev.railLeft (d : Dev) (n : Nat) : Nat :=
  match (d.railD n).target with
  | some t => t.2 - (d.trk.tick - (d.railD n).since) * 10 / 64
  | none => 0

/-- ADJUSTING of a group: at least one destination is stepping (R101). -/
def Dev.railAdjusting (d : Dev) (g : Nat) : Dev :=
  d.sb (rRAIL_GRP_DELAY g) fRAIL_GRP_DELAY_ADJUSTING ((d.railDsts g).any fun n => (d.railD n).target.isSome)

/-- A write of RAIL_DST_CFG[n] (R92 to R94, R105): refused with CFG_ERR where it would break R92 or R93. -/
def Dev.railDstWrite (d : Dev) (n v : Nat) : Dev :=
  let valid := bits v 31 31 = 1
  let g := bits v 6 0
  let new := putBits v 30 7 0
  let oldG := d.f (rRAIL_DST_CFG n) fRAIL_DST_CFG_GROUP
  let was := d.railDest n
  if valid && !d.railDstOk g n then d.sb (rRAIL_DST_STATUS n) fRAIL_DST_STATUS_CFG_ERR true
  else
    let d1 := d.wn (rRAIL_DST_CFG n) new
    let d2 := if was && (!valid || decide (oldG ≠ g)) then
        (d1.setRailD n { d1.railD n with starting := false, target := none, retired := false }).defer (.railRemove n)
      else d1
    if valid && (!was || decide (oldG ≠ g)) then
      (d2.setRailD n { d2.railD n with starting := true, retired := false }).when (d.railState g = 1) fun e => e.calStart [n]
    else d2

/-- Switch a group to the other source (R103): ON_ALT, D and the FIFOs for it, ACTIVE, RAIL_ALT_SWITCH. -/
def Dev.railSwitch (d : Dev) (g : Nat) : Dev :=
  let d1 := d.sb (rRAIL_GRP_STATUS g) fRAIL_GRP_STATUS_ON_ALT (!d.b (rRAIL_GRP_STATUS g) fRAIL_GRP_STATUS_ON_ALT)
  let d2 := d1.railSetDelay g
  let d3 := { d2 with rail := { d2.rail with newDelay := d2.rail.newDelay.filter (·.1 ≠ g) } }
  ((d3.railActivate g).cntF (rRAIL_GRP_LOSS g) fRAIL_GRP_LOSS_SWITCHES).raise eRAIL_ALT_SWITCH g

/-- The other parse bank becomes active; contexts opened on the old one walk it to the end (R133). -/
def Dev.bankSwitch (d : Dev) (die : Nat) : Dev :=
  let old := d.f (rPAR_STATUS die) fPAR_STATUS_ACTIVE_BANK
  let ctxs := (if die = 0 then d.path.par0 else d.path.par1).ctxs
  ((d.sf (rPAR_STATUS die) fPAR_STATUS_ACTIVE_BANK (1 - old)).sb (rPAR_STATUS die) fPAR_STATUS_SWAP_PENDING false).sb
    (rPAR_STATUS die) fPAR_STATUS_OLD_BANK_BUSY (ctxs.any fun c => decide (c.bank = old))

end Sys2Proof.Machine
end

