-- ==== Sys2Proof/Machine/Tables.lean ====
section
/-! DEFINITION. Machine/Tables.lean: match-table lookups, action profiles, edits and the stages (R135 to R172). -/
namespace Sys2Proof.Machine

/-! ### Descriptors (R146) -/

/-- Descriptor fields of a table. -/
def Table.type (t : Table) : Nat := eb t.desc 0
/-- PLACE: 1 CD0, 2 CD1, 3 both. -/
def Table.placeMask (t : Table) : Nat := bits (eb t.desc 1) 7 6
/-- VERSIONED. -/
def Table.versioned (t : Table) : Bool := ebit t.desc 1 5
/-- POISON_ACT. -/
def Table.poisonAct (t : Table) : Nat := bits (eb t.desc 1) 4 3
/-- KEY_BYTES. -/
def Table.keyBytes (t : Table) : Nat := eb t.desc 2
/-- EM: SIZE_LOG2; TCAM: WIDTH_LOG2. -/
def Table.sizeLog2 (t : Table) : Nat := eb t.desc 3
/-- Companion table of an LPM6 table, if any (R156). -/
def Table.companion (t : Table) : Option Nat := if t.type = 3 && eb t.desc 4 ≠ 0xFF then some (eb t.desc 4) else none
/-- Default result word. -/
def Table.default (t : Table) : List Byte := bytesAt t.desc 24 8
/-- Rows of a TCAM table: DEPTH sets of 2,048 (R157). -/
def Table.rows (t : Table) : Nat := 2048 * eb t.desc 4
/-- Key length of the table's binding (R141). -/
def Table.bindLen (t : Table) : Nat :=
  if t.type = 2 then 4 else if t.type = 3 then (if t.companion.isSome then 16 else 8) else t.keyBytes

/-- A table of a die, as a memory holds it. -/
def TblMem.table (m : TblMem) (die t : Nat) : Option Table := kvGet none m.tables (128 * die + t)

/-- Replace it. -/
def TblMem.setTable (m : TblMem) (die t : Nat) (x : Option Table) : TblMem :=
  { m with tables := kvSet none (128 * die + t) x m.tables }

/-- Index of a stage slot's action profiles (R143). -/
def profKey (die dir stage slot p : Nat) : Nat := (((die * 2 + dir) * 12 + stage) * 2 + slot) * 64 + p

/-- The profile's 48 bytes; profile 0 does nothing. -/
def TblMem.profile (m : TblMem) (die dir stage slot p : Nat) : List Byte :=
  kvGet (zeros 48) m.profiles (profKey die dir stage slot p)

/-- Is a profile of a slot poisoned (R165)? -/
def TblMem.slotPoisoned (m : TblMem) (die dir stage slot : Nat) : Bool :=
  m.badProfiles.any fun k => decide (k / 64 = profKey die dir stage slot 0 / 64)

/-- The table bound to a stage slot of a die, with its number (R136). -/
def TblMem.boundAt (m : TblMem) (die dir stage slot : Nat) : Option (Nat × Table) :=
  m.tables.findSome? fun e =>
    if e.1 / 128 = die then
      match e.2 with
      | some t => if t.bound = some (dir, stage, slot) then some (e.1 % 128, t) else none
      | none => none
    else none

/-- Does an LPM6 table bound to a stage of the die name a table as its companion (R147)? -/
def TblMem.companionAt (m : TblMem) (die dir stage no : Nat) : Bool :=
  [0, 1].any fun s => match m.boundAt die dir stage s with
    | some (_, x) => decide (x.companion = some no)
    | none => false

/-- Is a table the companion of some LPM6 table on the die (R147, R156)? -/
def TblMem.isCompanion (m : TblMem) (die t : Nat) : Bool :=
  m.tables.any fun e => decide (e.1 / 128 = die) && (match e.2 with
    | some x => decide (x.companion = some t)
    | none => false)

/-! ### Visibility (R169) -/

/-- Does a lookup stamped `v` see an entry? -/
def TblEntry.seen (e : TblEntry) (v cur prev : Nat) : Bool :=
  if e.flag = 0 then true
  else if e.flag = 1 then decide (v = cur)
  else decide (v = prev) && decide (prev ≠ cur)

/-! ### Lookups (R149 to R159) -/

/-- What a lookup answers: hit with a result word and flags, miss, or a poisoned entry (R142, R165). -/
inductive LookEnd where
  | hit (result : List Byte) (multi tie : Bool)
  | miss
  | poison
deriving DecidableEq, Repr

/-- Bucket of a key in a way of an exact-match table (R149). -/
def emBucket (t : Table) (no w : Nat) (key : List Byte) : Nat :=
  crc32c (beBytes 4 (t.seeds.getD w 0) ++ beBytes 1 no ++ key) % 2 ^ t.sizeLog2

/-- Place of unit `u` of bucket `b` of way `w`. -/
def emPlace (t : Table) (w b u : Nat) : Nat := (w * 2 ^ t.sizeLog2 + b) * 4 + u

/-- The four candidate buckets of a key, as place divided by 4. -/
def emCands (t : Table) (no : Nat) (key : List Byte) : List Nat :=
  (List.range 4).map fun w => w * 2 ^ t.sizeLog2 + emBucket t no w key

/-- The entry with the lowest place. -/
def lowest : List TblEntry → Option TblEntry
  | [] => none
  | e :: l => match lowest l with
    | none => some e
    | some x => if x.place < e.place then some x else some e

/-- Exact-match lookup (R150, R165). -/
def emLookup (t : Table) (no : Nat) (es : List TblEntry) (key : List Byte) : LookEnd :=
  match lowest (es.filter fun e => decide (e.key = key) && !e.poisoned) with
  | some e => .hit e.result false false
  | none => if es.any fun e => e.poisoned && (emCands t no key).contains (e.place / 4) then .poison else .miss

/-- Do the leading `n` bits of two byte lists agree? -/
def prefixEq (a b : List Byte) (n : Nat) : Bool :=
  decide (ofBe (bytesAt a 0 16) / 2 ^ (128 - n) = ofBe (bytesAt b 0 16) / 2 ^ (128 - n))

/-- Does a prefix entry cover an address of a VRF (R154)? -/
def lpmCovers (e : TblEntry) (vrf : Nat) (addr : List Byte) : Bool :=
  decide (beAt e.key 0 2 % 4096 = vrf % 4096) && prefixEq (e.key.drop 2) addr e.len

/-- The longest prefix of a list. -/
def longest : List TblEntry → Option TblEntry
  | [] => none
  | e :: l => match longest l with
    | none => some e
    | some x => if e.len < x.len then some x else some e

/-- LPM lookup in the trie (R154, R165). -/
def lpmLookup (es : List TblEntry) (vrf : Nat) (addr : List Byte) : LookEnd :=
  let c := es.filter fun e => lpmCovers e vrf addr
  if c.any (·.poisoned) then .poison
  else match longest c with
    | some e => .hit e.result false false
    | none => .miss

/-- Does a TCAM row match a key (R157)? -/
def rowMatches (e : TblEntry) (key : List Byte) : Bool :=
  (List.range e.mask.length).all fun i =>
    decide (Nat.land (eb e.mask i) (Nat.xor (eb e.key i) (eb key i)) = 0)

/-- The matching rows of a TCAM table in address order, one per handle (R158, R159). -/
def tcamMatches (es : List TblEntry) (key : List Byte) : List TblEntry :=
  (sortBy (·.place) (es.filter fun e => rowMatches e key)).foldl
    (fun acc e => if acc.any (fun x => decide (x.handle = e.handle)) then acc else acc ++ [e]) []

/-- TCAM lookup (R158, R159, R165). -/
def tcamLookup (es : List TblEntry) (key : List Byte) : LookEnd :=
  match tcamMatches es key with
  | [] => .miss
  | e :: l => if e.poisoned then .poison
    else .hit e.result (!l.isEmpty) ((l.head?.map fun x => decide (x.prio = e.prio)).getD false)

/-- The TCAM key of a companion: the 12-bit VRF in 2 bytes, then the 16-byte address (R156). -/
def companionKey (vrf : Nat) (addr : List Byte) : List Byte := beBytes 2 (vrf % 4096) ++ bytesAt addr 0 16

/-- A lookup of a table on a die at a version (R150 to R159). -/
def TblMem.look (m : TblMem) (die no : Nat) (t : Table) (key : List Byte) (vrf v cur prev : Nat) : LookEnd :=
  let es := t.entries.filter fun e => e.seen v cur prev
  if t.type = 1 then emLookup t no es key
  else if t.type = 4 then tcamLookup es key
  else
    let trie := lpmLookup es vrf key
    match t.companion.bind (m.table die) with
    | none => trie
    | some c =>
      match tcamLookup (c.entries.filter fun e => e.seen v cur prev) (companionKey vrf key) with
      | .miss => trie
      | .poison => .poison
      | .hit r _ _ => if trie = .poison then .poison else .hit r false false

/-! ### Keys (R137, R141) -/

/-- One key segment. -/
def segBytes (km pr md : List Byte) (i : Nat) : List Byte :=
  let o := 4 * i
  if ebit km o 7 then
    let width := bits (eb km (o + 1)) 7 4 + 1
    let off := beAt km (o + 2) 2
    let src := bits (eb km o) 6 5
    if src = 0 then bytesAt pr off width else if src = 1 then bytesAt md off width else zeros width
  else []

/-- The key a bound slot forms. -/
def Table.keyOf (t : Table) (pr md : List Byte) : List Byte :=
  (((List.range 8).flatMap (segBytes t.keymap pr md)) ++ zeros t.bindLen).take t.bindLen

/-! ### Metadata (R138) -/

/-- Metadata as a packet is issued: all 0 but PORT. -/
def mdReset (port : Nat) : List Byte := putAt (zeros 64) 14 (beBytes 2 port)

def mdKind (m : List Byte) : Nat := eb m 0
def mdDrop (m : List Byte) : Bool := ebit m 1 7
def mdRmd (m : List Byte) : Bool := ebit m 1 6
def mdCopyHost (m : List Byte) : Bool := ebit m 1 5
def mdJournal (m : List Byte) : Bool := ebit m 1 4
def mdLevel (m : List Byte) : Bool := ebit m 1 3
def mdDest (m : List Byte) : Nat := beAt m 2 2
def mdQueue (m : List Byte) : Nat := eb m 4
def mdPri (m : List Byte) : Nat := eb m 5
def mdColour (m : List Byte) : Nat := eb m 6
def mdMirror (m : List Byte) : Nat := eb m 7
def mdGroup (m : List Byte) : Nat := beAt m 8 2
def mdVrf (m : List Byte) : Nat := beAt m 10 2
def mdCode (m : List Byte) : Nat := eb m 12

/-- Set a bit of the FLAGS byte. -/
def mdSetFlag (m : List Byte) (k : Nat) : List Byte := setAt m 1 (BitVec.ofNat 8 (putBits (eb m 1) k k 1))

/-- Set DROP, with a code only when DROP was clear (R194). -/
def mdSetDrop (m : List Byte) (code : Nat) : List Byte :=
  if mdDrop m then m else setAt (mdSetFlag m 7) 12 (BitVec.ofNat 8 code)

/-! ### Actions (R143, R144) -/

/-- The value an operation writes. -/
def opValue (op old src width : Nat) : Nat :=
  let m := 2 ^ (8 * width)
  if op = 1 then src
  else if op = 2 then (old + src) % m
  else if op = 3 then Nat.lor old src
  else if op = 4 then Nat.land old (m - 1 - src)
  else if op = 5 then max old src
  else if op = 6 then min old src
  else old

/-- Write a value into metadata, bytes 14 to 23 excepted (R138). -/
def mdPut (m : List Byte) (off : Nat) (bs : List Byte) : List Byte :=
  let m1 := putAt m off bs
  putAt m1 14 (bytesAt m 14 10)

/-- One operation of a profile (R143). -/
def applyOp (op res pr : List Byte) (md rw : List Byte) : List Byte × List Byte :=
  let code := bits (eb op 0) 7 4
  if code = 0 ∨ 6 < code then (md, rw)
  else
    let width := bits (eb op 1) 5 3 + 1
    let sk := bits (eb op 1) 7 6
    let src := if sk = 1 then beAt op 6 2 % 2 ^ (8 * width)
      else beAt (if sk = 0 then res else if sk = 2 then pr else md) (beAt op 4 2) width
    let dst := eb op 2
    if ebit op 0 3 then (md, putAt rw dst (beBytes width (opValue code (beAt rw dst width) src width)))
    else (mdPut md dst (beBytes width (opValue code (beAt md dst width) src width)), rw)

/-- The edit of a profile (R144). -/
def Dev.applyEdit (d : Dev) (die : Nat) (e : List Byte) (k : Pkt) : Dev × Pkt :=
  if ebit e 0 7 then
    match findInst k.pr.insts (eb e 1) (bits (eb e 2) 7 5) with
    | none => (d.cnt (rTBL_CNT_LO die 4), k)
    | some x =>
      if 8 ≤ k.edits.length then (d.cnt (rTBL_CNT_LO die 3), { k with md := mdSetFlag k.md 7 })
      else
        let kind := bits (eb e 0) 6 4
        let len := if kind = 3 then 1 else eb e 4
        let ed : Edit := {
          kind := kind, off := x.off + eb e 3, len := len,
          data := if kind < 2 then bytesAt k.rw (eb e 5) len else [],
          csum := if ebit e 0 3 then some (x.off, x.len) else none }
        (d, { k with edits := k.edits ++ [ed] })
  else (d, k)

/-- Run an action profile (R143). -/
def Dev.applyProfile (d : Dev) (die : Nat) (prof res pr : List Byte) (k : Pkt) : Dev × Pkt :=
  let r := (List.range 4).foldl (fun acc i => applyOp (bytesAt prof (8 * i) 8) res pr acc.1 acc.2) (k.md, k.rw)
  d.applyEdit die (bytesAt prof 32 8) { k with md := r.1, rw := r.2 }

/-! ### Stages (R136, R137) -/

/-- What a slot's lookup has found: nothing bound, a poison course, or the 9-byte lookup result (R142). -/
inductive SlotEnd where
  | empty
  | drop
  | remainder
  | result (r : List Byte)
deriving DecidableEq, Repr

/-- Count a table's lookup on a die (R172). -/
def Dev.countLook (d : Dev) (die no : Nat) (r : LookEnd) : Dev :=
  match r with
  | .hit _ _ tie =>
    let d1 := d.cnt (rTBL_T_HIT_LO die no)
    if tie then d1.cnt32 (rTBL_T_TIE die no) else d1
  | _ => d.cnt (rTBL_T_MISS_LO die no)

/-- Current and previous table version of a die (R169). -/
def Dev.verCur (d : Dev) (die : Nat) : Nat := d.f (rTBL_VERSION die) fTBL_VERSION_CURRENT
/-- Previous table version. -/
def Dev.verPrev (d : Dev) (die : Nat) : Nat := d.f (rTBL_VERSION die) fTBL_VERSION_PREVIOUS

/-- The table a lookup stamped `v` meets in a slot: for the previous version, the binding that the last commit changed
still holds (R169). -/
def Dev.boundFor (d : Dev) (die dir stage slot v : Nat) : Option (Nat × Table) :=
  let old := d.tbl.prevBind.filter fun e => decide (e.1 / 128 = die)
  if v = d.verPrev die ∧ d.verPrev die ≠ d.verCur die then
    match old.find? fun e => decide (e.2.1 = some (dir, stage, slot)) with
    | some e => (d.tbl.live.table die (e.1 % 128)).map fun t => (e.1 % 128, { t with bound := e.2.1, keymap := e.2.2 })
    | none => (d.tbl.live.boundAt die dir stage slot).bind fun x =>
        if old.any fun e => decide (e.1 % 128 = x.1) then none else some x
  else d.tbl.live.boundAt die dir stage slot

/-- The lookup of one slot of a stage (R136, R137, R141, R165): `prev` is the metadata as the stage before began. -/
def Dev.slotLook (d : Dev) (die dir stage slot : Nat) (pr md prev : List Byte) (v : Nat) : Dev × SlotEnd :=
  match d.boundFor die dir stage slot v with
  | none => (d, .empty)
  | some (no, t) =>
    if t.type = 4 && d.tbl.live.companionAt die dir stage no then (d, .empty)
    else
      let src := if t.type = 2 || t.type = 3 then prev else md
      let key := t.keyOf pr src
      let r := d.tbl.live.look die no t key (mdVrf src) v (d.verCur die) (d.verPrev die)
      let d1 := d.countLook die no r
      let bad := t.mapPoison || d.tbl.live.slotPoisoned die dir stage slot
      match (if bad then .poison else r) with
      | .hit res multi tie => (d1, .result (res ++ beBytes 1 (0x80 + multi.toNat * 0x40 + tie.toNat * 0x20)))
      | .miss => (d1, .result (t.default ++ [0]))
      | .poison =>
        if t.poisonAct = 1 then (d1, .drop) else if t.poisonAct = 2 then (d1, .remainder)
        else (d1, .result (t.default ++ [0x10]))

/-- The action of a slot's result (R136, R142). -/
def Dev.slotAct (d : Dev) (die dir stage slot : Nat) (r : SlotEnd) (pr : List Byte) (k : Pkt) : Dev × Pkt :=
  match r with
  | .empty => (d, k)
  | .drop => (d, { k with md := setAt (mdSetFlag k.md 7) 12 0xFE })
  | .remainder => (d, { k with md := mdSetFlag k.md 6 })
  | .result res =>
    let p := bits (eb res 0) 7 2
    if p = 0 then (d, k) else d.applyProfile die (d.tbl.live.profile die dir stage slot p) res pr k

/-- One stage with both slots: both lookups, then the action of A and of B. Answers the metadata as it stood when the
stage began as well, for the next stage's LPM keys (R137). -/
def Dev.stage (d : Dev) (die dir stage : Nat) (pr prev : List Byte) (k : Pkt) : Dev × Pkt × List Byte :=
  let md := k.md
  let a := d.slotLook die dir stage 0 pr md prev k.ver
  let b := a.1.slotLook die dir stage 1 pr md prev k.ver
  let x := b.1.slotAct die dir stage 0 a.2 pr k
  let y := x.1.slotAct die dir stage 1 b.2 pr x.2
  (y.1, y.2, md)

/-- Slot B of a stage alone (stage 6, after the flow action): its key from the metadata as the stage began (R136). -/
def Dev.stageB (d : Dev) (die stage : Nat) (pr md prev : List Byte) (k : Pkt) : Dev × Pkt :=
  let b := d.slotLook die 0 stage 1 pr md prev k.ver
  b.1.slotAct die 0 stage 1 b.2 pr k

/-- Stages `from` onward, `n` of them. -/
def Dev.stages (d : Dev) (die dir : Nat) (pr : List Byte) : Nat → Nat → List Byte → Pkt → Dev × Pkt × List Byte
  | _, 0, prev, k => (d, k, prev)
  | s, n + 1, prev, k =>
    let r := d.stage die dir s pr prev k
    r.1.stages die dir pr (s + 1) n r.2.2 r.2.1

/-! ### Deparse (R145) -/

/-- First and one past the last original byte of an edit; the range of an INSERT is the byte it stands before. -/
def Edit.range (e : Edit) : Nat × Nat := if e.kind = 1 then (e.off, e.off + 1) else (e.off, e.off + e.len)

/-- Do two edits touch overlapping original bytes, an INSERT at the first byte of the other's range excepted? -/
def editsClash (a b : Edit) : Bool :=
  let ra := a.range
  let rb := b.range
  decide (ra.1 < rb.2) && decide (rb.1 < ra.2) &&
  !(decide (a.kind = 1) && decide (a.off = rb.1)) && !(decide (b.kind = 1) && decide (b.off = ra.1))

/-- Some two edits of a list clash. -/
def anyClash : List Edit → Bool
  | [] => false
  | e :: l => l.any (editsClash e) || anyClash l

/-- INSERT bytes minus REMOVE bytes. -/
def editGrowth (l : List Edit) : Int :=
  l.foldl (fun acc e => if e.kind = 1 then acc + e.len else if e.kind = 2 then acc - e.len else acc) 0

/-- Is an edit list in conflict (R145)? `len` is the frame data length when the frame has ended. -/
def editConflict (l : List Edit) (len : Option Nat) : Bool :=
  anyClash l || l.any (fun e => decide (512 < e.range.2)) ||
  (match len with
   | none => false
   | some n => l.any fun e => decide (n < e.range.2)) ||
  decide (editGrowth l < -128) || decide (64 < editGrowth l)

/-- The bytes that stand for original byte `i` after the edit list: the inserts before it in the order appended, then
the byte as the other edits leave it. -/
def editByte (l : List Edit) (i : Nat) (b : Byte) : List Byte :=
  let ins := (l.filter fun e => decide (e.kind = 1) && decide (e.off = i)).flatMap (·.data)
  let body := match l.find? fun e => decide (e.kind ≠ 1) && decide (e.off ≤ i) && decide (i < e.off + e.len) with
    | none => [b]
    | some e =>
      if e.kind = 0 then [e.data.getD (i - e.off) 0] else if e.kind = 2 then []
      else [if b = 0 then 0 else b - 1]
  ins ++ body

/-- Frame bytes after the edits, checksums not yet recomputed. -/
def editBytes (l : List Edit) : Nat → List Byte → List Byte
  | _, [] => []
  | i, b :: bs => editByte l i b ++ editBytes l (i + 1) bs

/-- Where an original byte stands after the edits. -/
def editPos (l : List Edit) (x : Nat) : Nat :=
  let ins := ((l.filter fun e => decide (e.kind = 1) && decide (e.off ≤ x)).map (·.len)).sum
  let rem := ((l.filter fun e => decide (e.kind = 2) && decide (e.off < x)).map fun e => min e.len (x - e.off)).sum
  x + ins - rem

/-- Recompute the IPv4 header checksum of an instance in edited bytes (R145, R251). -/
def fixCsum (l : List Edit) (bs : List Byte) (off len : Nat) : List Byte :=
  let p := editPos l off
  let b0 := putAt bs (p + 10) [0, 0]
  putAt b0 (p + 10) (beBytes 2 (65535 - onesSum 0 (bytesAt b0 p len)))

/-- The deparse step on whole frame data. -/
def deparse (l : List Edit) (data : List Byte) : List Byte :=
  l.foldl (fun bs e => match e.csum with
    | none => bs
    | some (o, n) => fixCsum l bs o n) (editBytes l 0 data)

end Sys2Proof.Machine
end

