-- ==== Sys2Proof/Machine/FlowOps.lean ====
section
/-! DEFINITION. Machine/FlowOps.lean: the flow store's placement, cache, carries and the flow stage (R173 to R209). -/
namespace Sys2Proof.Machine

/-- The flow engine of a core die. -/
def Dev.flw (d : Dev) (die : Nat) : FlwDie := if die = 0 then d.path.flw0 else d.path.flw1

/-- Replace the flow engine of a core die. -/
def Dev.setFlw (d : Dev) (die : Nat) (x : FlwDie) : Dev :=
  if die = 0 then { d with path := { d.path with flw0 := x } } else { d with path := { d.path with flw1 := x } }

/-- A frame in the device. -/
def Dev.frame (d : Dev) (f : Nat) : Option Frame := kvGet none d.path.frames f

/-- Replace it. -/
def Dev.setFrame (d : Dev) (f : Nat) (x : Option Frame) : Dev :=
  { d with path := { d.path with frames := kvSet none f x d.path.frames } }

/-! ### Placement (R173 to R176) -/

/-- Buckets in a die's half (R177). -/
def Dev.buckets (d : Dev) (die : Nat) : Nat := d.f (rFLW_REGION die) fFLW_REGION_UNITS * 1048576

/-- Hash of a flow key under a seed (R174). -/
def flowHash (seed profile : Nat) (key : List Byte) : Nat := crc32c (beBytes 4 seed ++ beBytes 1 profile ++ key)

/-- A flow key with its hashes under the seeds in use. -/
def Dev.fkey (d : Dev) (die profile : Nat) (key : List Byte) : FKey :=
  let k := (key ++ zeros 40).take 40
  { profile := profile, key := k, h1 := flowHash (d.rn (rFLW_SEED_H1 die)) profile k,
    h2 := flowHash (d.rn (rFLW_SEED_H2 die)) profile k }

/-- The same key under the seeds a rehash replaces (R236). -/
def Dev.fkeyOld (d : Dev) (die : Nat) (k : FKey) : FKey :=
  { k with h1 := flowHash (d.rn (rFLW_OLD_SEED_H1 die)) k.profile k.key,
           h2 := flowHash (d.rn (rFLW_OLD_SEED_H2 die)) k.profile k.key }

/-- Home bucket (R175). -/
def homeBucket (n : Nat) (k : FKey) : Nat := k.h1 * n / 2 ^ 32

/-- Second-choice bucket: bit 7 forced opposite to the home bucket's (R175). -/
def secondBucket (n : Nat) (k : FKey) : Nat :=
  putBits (k.h2 * n / 2 ^ 32) 7 7 (1 - bits (homeBucket n k) 7 7)

/-- Fingerprint (R174). -/
def fingerprint (k : FKey) : Nat := Nat.xor k.h1 k.h2 % 2 ^ 24

/-- Locator of a slot (R181). -/
def locator (die bucket slot : Nat) : Nat := die * 2 ^ 31 + bucket * 8 + slot

/-- Bucket and slot of a locator. -/
def locBucket (loc : Nat) : Nat := loc % 2 ^ 31 / 8
/-- Slot of a locator. -/
def locSlot (loc : Nat) : Nat := loc % 8

/-- Pseudo-channel of the die that holds a bucket (R176). -/
def bucketPc (b : Nat) : Nat := bits b 7 1

/-- Count in FLW_CNT, and the flow engine's performance event that the count stands for (R212, R500). -/
def Dev.flwCnt (d : Dev) (die i : Nat) (n : Nat := 1) : Dev :=
  let d1 := d.cnt (rFLW_CNT_LO die i) n
  match [(0, 0x10), (1, 0x11), (2, 0x12), (19, 0x13), (8, 0x14), (21, 0x15)].find? fun (x : Nat × Nat) => decide (x.1 = i) with
  | some x => d1.pev (16 + die) x.2 n
  | none => d1

/-! ### Records (R180) -/

def recKey (r : List Byte) : List Byte := bytesAt r 0 40
def recProfile (r : List Byte) : Nat := bits (eb r 40) 3 0
def recKind (r : List Byte) : Nat := bits (eb r 40) 7 4
def recState (r : List Byte) : Nat := eb r 41
def recFlags (r : List Byte) : Nat := eb r 42
def recKill (r : List Byte) : Bool := ebit r 42 7
def recLevel (r : List Byte) : Bool := ebit r 42 6
def recNat (r : List Byte) : Bool := ebit r 42 5
def recPinned (r : List Byte) : Bool := ebit r 42 4
def recStay (r : List Byte) : Bool := ebit r 42 3
def recJournal (r : List Byte) : Bool := ebit r 42 2
def recAction (r : List Byte) : Nat := beAt r 44 4
def recBytes_ (r : List Byte) : Nat := beAt r 48 6
def recKdata (r : List Byte) : Nat := beAt r 54 2
def recPackets (r : List Byte) : Nat := beAt r 56 4

/-- A record with its bytes and packets increased (R200), modulo their widths. -/
def recAdd (r : List Byte) (bytes packets : Nat) : List Byte :=
  putAt (putAt r 48 (beBytes 6 ((recBytes_ r + bytes) % 2 ^ 48))) 56 (beBytes 4 ((recPackets r + packets) % 2 ^ 32))

/-- Low 24 bits of the current deck (R179). -/
def Dev.deck24 (d : Dev) : Nat := d.deck % 2 ^ 24

/-! ### Buckets -/

/-- A bucket of a die. -/
def FlwDie.bucket (x : FlwDie) (b : Nat) : Bucket := kvGet {} x.buckets b

/-- Replace it. -/
def FlwDie.setBucket (x : FlwDie) (b : Nat) (y : Bucket) : FlwDie := { x with buckets := kvSet {} b y x.buckets }

/-- A slot of a bucket. -/
def Bucket.slot (b : Bucket) (s : Nat) : Option FSlot := kvGet none b.slots s

/-- Replace it. -/
def Bucket.setSlot (b : Bucket) (s : Nat) (y : Option FSlot) : Bucket := { b with slots := kvSet none s y b.slots }

/-- Does a slot's record hold a flow key? -/
def slotIs (k : FKey) (s : FSlot) : Bool :=
  s.valid && decide (recKey s.body = k.key) && decide (recProfile s.body = k.profile)

/-- The slot of a bucket that holds a key, fingerprints first (R182). -/
def Bucket.find (b : Bucket) (k : FKey) (fps : List Nat) (second : Bool) : Option (Nat × FSlot) :=
  (List.range 7).findSome? fun i =>
    match b.slot i with
    | some s => if slotIs k s && fps.contains s.fp && (!second || s.second) then some (i, s) else none
    | none => none

/-- Is the die DUAL or flushing (R236, R238)? -/
def Dev.flwDual (d : Dev) (die : Nat) : Bool := d.f (rFLW_REHASH die) fFLW_REHASH_STATE = 1

/-- The stored record of a key: bucket, slot (R182, R236). Answers as well whether a second-choice bucket was read. -/
def Dev.hbmFind (d : Dev) (die : Nat) (k : FKey) : Option (Nat × Nat × FSlot) × Bool :=
  let x := d.flw die
  let n := d.buckets die
  let old := d.fkeyOld die k
  let dual := d.flwDual die
  let fps := if dual then [fingerprint k, fingerprint old] else [fingerprint k]
  let pair (q : FKey) : Option (Nat × Nat × FSlot) × Bool :=
    let b1 := homeBucket n q
    match (x.bucket b1).find k fps false with
    | some (i, s) => (some (b1, i, s), false)
    | none =>
      if (x.bucket b1).spills = 0 then (none, false)
      else
        let b2 := secondBucket n q
        (((x.bucket b2).find k fps true).map fun y => (b2, y.1, y.2), true)
  let a := pair k
  if a.1.isSome || !dual then a else
    let b := pair old
    (b.1, a.2 || b.2)

/-! ### Cache (R183, R184, R238) -/

/-- The cache set of a key. While the flush of R238 runs, the old pair's set until it has been flushed. -/
def Dev.cacheSet (d : Dev) (die : Nat) (k : FKey) : Nat :=
  let old := (d.fkeyOld die k).h1 % 16384
  match (d.flw die).flushSet with
  | some n => if n ≤ old then old else k.h1 % 16384
  | none => if d.flwDual die then old else k.h1 % 16384

/-- Does a line hold a key? -/
def lineIs (k : FKey) (l : FLine) : Bool := decide (recKey l.body = k.key) && decide (recProfile l.body = k.profile)

/-- Lines of a set, most recently used first. -/
def FlwDie.set (x : FlwDie) (s : Nat) : List FLine := kvGet [] x.cache s

/-- Replace the lines of a set. -/
def FlwDie.putSet (x : FlwDie) (s : Nat) (l : List FLine) : FlwDie := { x with cache := kvSet [] s l x.cache }

/-- The cached line of a key. -/
def Dev.cacheFind (d : Dev) (die : Nat) (k : FKey) : Option FLine := ((d.flw die).set (d.cacheSet die k)).find? (lineIs k)

/-- Put a key's line at the front of its set, in place of any line of the key. -/
def Dev.cachePut (d : Dev) (die : Nat) (k : FKey) (l : FLine) : Dev :=
  let x := d.flw die
  let s := d.cacheSet die k
  d.setFlw die (x.putSet s (l :: (x.set s).filter fun y => !lineIs k y))

/-- Remove a key's line. -/
def Dev.cacheDrop (d : Dev) (die : Nat) (k : FKey) : Dev :=
  let x := d.flw die
  let s := d.cacheSet die k
  d.setFlw die (x.putSet s ((x.set s).filter fun y => !lineIs k y))

/-! ### Carries (R190) -/

/-- The carry of a locator. -/
def FlwDie.carry (x : FlwDie) (loc : Nat) : Option Carry := x.carries.find? (·.loc = loc)

/-- Store the carries and refresh FLW_CARRY_STATUS. -/
def Dev.setCarries (d : Dev) (die : Nat) (l : List Carry) : Dev :=
  (d.setFlw die { d.flw die with carries := l }).sf (rFLW_CARRY_STATUS die) fFLW_CARRY_STATUS_ENTRIES l.length

/-- Add a frame to the carry of a locator, creating it if none exists (R190, R200). -/
def Dev.carryAdd (d : Dev) (die loc len : Nat) : Dev :=
  let l := (d.flw die).carries
  match (d.flw die).carry loc with
  | some c => d.setCarries die (l.map fun y =>
      if y.loc = loc then { c with bytes := c.bytes + len, packets := c.packets + 1, lastHit := d.deck24 } else y)
  | none => d.setCarries die (l ++ [{ loc := loc, bytes := len, packets := 1, lastHit := d.deck24 }])

/-- A record with its carry applied, and its newest LAST_HIT (R190, R228). -/
def withCarry (c : Option Carry) (r : List Byte) (lastHit : Nat) : List Byte × Nat :=
  match c with
  | some c => (recAdd r c.bytes c.packets, c.lastHit)
  | none => (r, lastHit)

/-- A line with its carry folded: it becomes DIRTY (R190). -/
def foldLine (c : Option Carry) (l : FLine) : FLine :=
  match c with
  | some c => { l with body := recAdd l.body c.bytes c.packets, lastHit := c.lastHit, dirty := true }
  | none => l

/-- Fold the oldest carry whose line is cached while the buffer is above HIGH_PCT; CARRY_HIGH on crossing (R190). -/
def Dev.carryRelief (d : Dev) (die : Nat) : Dev :=
  let x := d.flw die
  let above := decide (d.lf (rFLW_CARRY_CFG die) fFLW_CARRY_CFG_HIGH_PCT * 131072 < x.carries.length * 100)
  if above then
    let d1 := if x.carryHigh then d else (d.setFlw die { x with carryHigh := true }).raiseD eFLW_CARRY_HIGH die 0xFFFF
    let x1 := d1.flw die
    match x1.carries.find? fun c => x1.cache.any fun e => e.2.any (·.loc = c.loc) with
    | none => d1
    | some c =>
      let x2 := { x1 with cache := x1.cache.map fun e => (e.1, e.2.map fun l => if l.loc = c.loc then foldLine (some c) l else l) }
      ((d1.setFlw die x2).setCarries die (x2.carries.filter (·.loc ≠ c.loc))).flwCnt die 21
  else d.setFlw die { x with carryHigh := false }

/-! ### Write-back and fill (R183, R184, R191) -/

/-- Refresh FLW_TAGS, and raise TAG_LOW when fewer than 1,229 tags of either kind are free. -/
def Dev.flwTags (d : Dev) (die : Nat) : Dev :=
  let x := d.flw die
  let lk := (x.lookups.filter (·.tag)).length
  let low := decide (12288 < lk + 1229) || decide (12288 < x.wbs.length + 1229)
  let d1 := (d.sf (rFLW_TAGS die) fFLW_TAGS_LOOKUP_INUSE lk).sf (rFLW_TAGS die) fFLW_TAGS_WB_INUSE x.wbs.length
  let d2 := d1.setFlw die { x with tagLow := low }
  if low && !x.tagLow then d2.raiseD eFLW_TAG_LOW die 0xFFFF else d2

/-- Store a line in the HBM: bytes 32 to 63 of the record and its slot entry (R191). -/
def Dev.hbmStore (d : Dev) (die : Nat) (l : FLine) : Dev :=
  let x := d.flw die
  let b := locBucket l.loc
  let s := locSlot l.loc
  match (x.bucket b).slot s with
  | none => d
  | some y => d.setFlw die (x.setBucket b ((x.bucket b).setSlot s (some { y with
      lastHit := l.lastHit, kind := recKind l.body, pinned := recPinned l.body,
      body := bytesAt y.body 0 32 ++ bytesAt l.body 32 32 })))

/-- Write a dirty line back: its carry is folded, a tag is taken (R190, R191). -/
def Dev.writeBack (d : Dev) (die : Nat) (l : FLine) : Dev :=
  let x := d.flw die
  let l1 := foldLine (x.carry l.loc) l
  let d1 := d.setCarries die (x.carries.filter (·.loc ≠ l.loc))
  if l1.dirty then
    let d2 := d1.hbmStore die l1
    let x2 := d2.flw die
    ((d2.setFlw die { x2 with wbs := x2.wbs ++ [bucketPc (locBucket l.loc)] }).flwCnt die 8).flwTags die
  else d1

/-- Does a line need a write-back when it is chosen as victim? -/
def Dev.needsWb (d : Dev) (die : Nat) (l : FLine) : Bool := l.dirty || ((d.flw die).carry l.loc).isSome

/-- The victim of a full set: least recently used, neither STAY nor moving; without a free write-back tag a clean one
(R183, R191). -/
def Dev.victim (d : Dev) (die set : Nat) : Option FLine :=
  let ok := ((d.flw die).set set).reverse.filter fun l => !l.stay && !l.moving
  if (d.flw die).wbs.length < 12288 then ok.head? else ok.find? fun l => !d.needsWb die l

/-- Fill the cache with a line; none when the fill must wait. -/
def Dev.cacheFill (d : Dev) (die : Nat) (k : FKey) (l : FLine) : Option Dev :=
  let s := d.cacheSet die k
  let lines := (d.flw die).set s
  let nStay := (lines.filter (·.stay)).length
  let stay := l.stay && decide (nStay < d.lf (rFLW_CACHE_CFG die) fFLW_CACHE_CFG_STAY_MAX)
  let refuse := l.stay && !stay
  let l1 := { l with stay := stay }
  let put (e : Dev) : Dev := (if refuse then e.flwCnt die 18 else e).cachePut die k l1
  if lines.length < 16 then some (put d)
  else match d.victim die s with
    | none => none
    | some v =>
      let d1 := d.writeBack die v
      let x1 := d1.flw die
      some (put (d1.setFlw die (x1.putSet s ((x1.set s).filter (·.loc ≠ v.loc)))))

/-- The line a stored slot gives. -/
def slotLine (die b s : Nat) (y : FSlot) : FLine :=
  { body := y.body, lastHit := y.lastHit, second := y.second, loc := locator die b s, dirty := false,
    stay := recStay y.body, moving := y.moving }

/-! ### Kill list (R195) -/

/-- Does a kill-list entry name a key? -/
def killIs (k : FKey) (e : KillEnt) : Bool :=
  decide (e.profile = k.profile) && decide (e.h1 = k.h1) && decide (e.h2 = k.h2)

/-- Does a packet operation on a record take KILL: by a live entry, else by the record's flag as it stood before an entry
not yet in force? -/
def Dev.killed (d : Dev) (die : Nat) (k : FKey) (body : List Byte) : Bool × Bool :=
  let x := d.flw die
  match x.killsLive.find? (killIs k) with
  | some e => (e.set && decide (recKey body = k.key), e.set && decide (recKey body = k.key))
  | none => match x.kills.find? (killIs k) with
    | some e => (e.was, false)
    | none => (recKill body, false)

/-! ### Kinds (R201 to R209) -/

/-- A kind-memory entry in force: kind 0 group, 1 pool, 2 policer, 3 session policy (R557). -/
def Dev.kindEnt (d : Dev) (die kind i : Nat) : List Byte := kvGet [] d.tbl.live.kind ((die * 4 + kind) * 1024 + i)

/-- Is a kind-memory entry poisoned (R202)? -/
def Dev.kindBad (d : Dev) (die kind i : Nat) : Bool := d.tbl.live.badKind.contains ((die * 4 + kind) * 1024 + i)

/-- The outcome of a kind's action. -/
structure FAct where
  body : List Byte
  deny : Bool := false
  thr : Bool := false
  gap : Bool := false
  dup : Bool := false
  aux : Nat := 0
  value : Nat := 0
  colour : Nat := 0
  repin : Bool := false
  red : Bool := false
deriving DecidableEq, Repr

/-- TCP flags byte of the packet's TCP instance (R206), if it has one. -/
def Dev.tcpFlags (d : Dev) (die pn : Nat) (k : Pkt) (bytes : List Byte) : Option Nat :=
  let a := rFLW_PROF_B die pn
  (findInst k.pr.insts (d.lf a fFLW_PROF_B_TCP_HTYPE) (d.lf a fFLW_PROF_B_TCP_OCC)).map fun x => eb bytes (x.off + 13)

/-- The TCP state machine of R206: next state and DENY. The flag bits are those of TCP (FIN 0, SYN 1, RST 2, ACK 4). -/
def tcpNext (st fl : Nat) (strict : Bool) : Nat × Bool :=
  let fin := bits fl 0 0 = 1
  let syn := bits fl 1 1 = 1
  let rst := bits fl 2 2 = 1
  let ack := bits fl 4 4 = 1
  if rst then (6, false)
  else if st = 0 then (if syn ∧ ¬ack then (1, false) else if strict then (0, true) else (3, false))
  else if st = 1 then
    (if syn ∧ ack then (2, false) else if ack ∧ ¬syn then (if strict then (1, true) else (3, false)) else (1, false))
  else if st = 2 then (if ack ∧ ¬syn then (3, false) else (2, false))
  else if st = 3 then (if fin then (4, false) else (3, false))
  else if st = 4 then (if fin then (5, false) else (4, false))
  else if st = 5 then (if ack ∧ ¬fin then (6, false) else (5, false))
  else if st = 6 then (if syn ∧ ¬ack then (1, false) else (6, strict))
  else (st, false)

/-- A record after the TCP state step, and DENY. -/
def Dev.tcpStep (d : Dev) (die pn : Nat) (k : Pkt) (bytes body : List Byte) : List Byte × Bool :=
  match d.tcpFlags die pn k bytes with
  | none => (body, false)
  | some fl =>
    let r := tcpNext (recState body) fl (d.lb (rFLW_PROF_B die pn) fFLW_PROF_B_STRICT)
    (setAt body 41 (BitVec.ofNat 8 r.1), r.2)

/-- Set ACTION, KDATA or STATE of a record. -/
def setAction (r : List Byte) (v : Nat) : List Byte := putAt r 44 (beBytes 4 v)
/-- Set KDATA. -/
def setKdata (r : List Byte) (v : Nat) : List Byte := putAt r 54 (beBytes 2 v)

/-- Microsecond clock of R207. -/
def Dev.uNow (d : Dev) : Nat := d.trk.tick / 100 % 65536

/-- The kind's action on a record (R203 to R209). `body` is the record with its carry applied, before the frame is
counted; `delta` the deck difference of R207. -/
def Dev.kindAct (d : Dev) (die : Nat) (k : Pkt) (h2 len delta : Nat) (bytes body : List Byte) : FAct :=
  let pn := recProfile body
  let act := recAction body
  let kd := recKdata body
  let kind := recKind body
  if kind = 1 then
    let g := act / 2 ^ 22
    let m := act / 2 ^ 14 % 256
    let e := d.kindEnt die 0 g
    let up (i : Nat) : Bool := ebit e (5 * i) 7
    if d.kindBad die 0 g then { body := body, deny := true }
    else if up m then { body := body, aux := g, value := beAt e (5 * m + 1) 4 }
    else
      let m2 := eb e (1280 + h2 % 256)
      if up m2 then
        { body := setKdata (setAction body (g * 2 ^ 22 + m2 * 2 ^ 14)) (min (kd + 1) 0xFFFF), aux := g,
          value := beAt e (5 * m2 + 1) 4, repin := true }
      else { body := body, deny := true }
  else if kind = 2 then
    let t := d.tcpStep die pn k bytes body
    let pool := act / 2 ^ 24
    { body := t.1, deny := t.2 || d.kindBad die 1 pool, aux := act % 65536,
      value := beAt (d.kindEnt die 1 pool) (16 + 4 * (act / 65536 % 256)) 4 }
  else if kind = 3 then
    let u := d.uNow
    let n := (recPackets body + 1) % 2 ^ 32
    if recPackets body = 0 then { body := setKdata body u, value := n }
    else
      let iat := if delta ≤ 64 then (u + 65536 - kd) % 65536 else 0xFFFF
      { body := setKdata (setAction body (min (act / 65536) iat * 65536 + max (act % 65536) iat)) u, aux := iat, value := n }
  else if kind = 4 then
    let t := d.tcpStep die pn k bytes body
    let pol := act / 2 ^ 24
    let e := d.kindEnt die 2 pol
    let rate := beAt e 0 4 % 2 ^ 24
    let burst := beAt e 4 4 % 2 ^ 24
    let r := d.rod % 65536
    let tok := if 655 ≤ delta then burst else min burst (act % 2 ^ 24 + (r + 65536 - kd) % 65536 * rate)
    let green := decide (len ≤ tok) && decide (0 < burst)
    let tok2 := if green then tok - len else tok
    let b := setKdata (setAction t.1 (pol * 2 ^ 24 + tok2)) r
    { body := b, deny := t.2 || d.kindBad die 2 pol, thr := !green, aux := recState b * 256, value := tok2,
      colour := if green then 1 else 2, red := !green }
  else if kind = 5 then
    let pol := act / 2 ^ 24
    let e := d.kindEnt die 3 pol
    let tok := min (beAt e 4 4 % 2 ^ 24) (act % 2 ^ 24 + delta * (beAt e 0 4 % 2 ^ 24))
    let thr := decide (tok < 256)
    let tok2 := if thr then tok else tok - 256
    let a := rFLW_PROF_A die pn
    let slot := d.lf a fFLW_PROF_A_SEQ_SLOT
    let check := (!thr || decide (d.lf a fFLW_PROF_A_THR_ACT = 0)) && decide (slot ≤ 7) &&
      decide (bits k.pr.xtrValid slot slot = 1)
    let b0 := setAction body (pol * 2 ^ 24 + tok2)
    let s := k.pr.xtr.getD slot 0 % 65536
    let df := (s + 65536 - kd) % 65536
    let gap := check && decide (df ≠ 0) && decide (df < 0x8000)
    let dup := check && decide (0x8000 ≤ df)
    let b1 := if check && !dup then setKdata b0 ((s + 1) % 65536) else b0
    let st := Nat.lor (recState b1) (gap.toNat + dup.toNat * 2)
    let b2 := setAt b1 41 (BitVec.ofNat 8 st)
    { body := b2, deny := d.kindBad die 3 pol, thr := thr, gap := gap, dup := dup, aux := recKdata b2,
      value := tok2 * 256 + pol }
  else { body := body, aux := kd, value := act }

/-! ### The flow result and its effects (R193, R194) -/

/-- The flags of FSTAT and byte 1 of the flow result. -/
structure FStat where
  hit : Bool := false
  new : Bool := false
  late : Bool := false
  kill : Bool := false
  gap : Bool := false
  dup : Bool := false
  thr : Bool := false
  deny : Bool := false
  kind : Nat := 0
  colour : Nat := 0
  level : Bool := false
  missed : Bool := false
  aux : Nat := 0
  value : Nat := 0
  journal : Bool := false
  /-- LEVEL_GROUP of the record's session policy, for SESSION. -/
  group : Option Nat := none
deriving DecidableEq, Repr

/-- The 8 bytes of the result (R193). -/
def FStat.bytes (x : FStat) : List Byte :=
  beBytes 1 (maskOf [x.deny, x.thr, x.dup, x.gap, x.kill, x.late, x.new, x.hit]) ++
  beBytes 1 (x.kind * 16 + x.colour * 4 + x.level.toNat * 2 + x.missed.toNat) ++ beBytes 2 x.aux ++ beBytes 4 x.value

/-- A step of R194 that drops with a code or sends to the remainder path: `act` 1 or 2. -/
def mdAct (m : List Byte) (act code : Nat) : List Byte :=
  if act = 1 then mdSetDrop m code else if act = 2 then mdSetFlag m 6 else m

/-- The metadata after the flow stage's result and steps 1 to 9 of R194. -/
def Dev.flowEffects (d : Dev) (die pn : Nat) (x : FStat) (m : List Byte) : List Byte :=
  let a := rFLW_PROF_A die pn
  let m0 := putAt m 16 x.bytes
  let m1 := if x.kill then mdSetDrop m0 0xF0 else m0
  let m2 := if x.late then mdAct m1 (d.lf a fFLW_PROF_A_LATE_ACT) 0xF5 else m1
  let m3 := if !x.hit && !x.late then mdAct m2 (d.lf a fFLW_PROF_A_MISS_ACT) 0xF6 else m2
  let m4 := if x.deny then mdAct m3 (d.lf a fFLW_PROF_A_DENY_ACT) 0xF1 else m3
  let thr := d.lf a fFLW_PROF_A_THR_ACT
  let m5 := if x.thr then (if thr = 0 then setAt m4 6 2 else mdAct m4 thr 0xF2) else m4
  let m6 := if x.gap then mdAct m5 (d.lf a fFLW_PROF_A_GAP_ACT) 0xF3 else m5
  let m7 := if x.dup then mdAct m6 (d.lf a fFLW_PROF_A_DUP_ACT) 0xF4 else m6
  let m8 := if x.level then putAt (mdSetFlag m7 3) 8 (beBytes 2 (x.group.getD (d.lf a fFLW_PROF_A_LEVEL_GROUP))) else m7
  if x.journal then mdSetFlag m8 4 else m8

/-- The counters of FLW_CNT that a result moves. -/
def Dev.flowCount (d : Dev) (die : Nat) (x : FStat) : Dev :=
  let c (e : Dev) (b : Bool) (i : Nat) : Dev := if b then e.cnt (rFLW_CNT_LO die i) else e
  c (c (c (c (c d x.kill 9) x.gap 10) x.dup 11) x.thr 12) x.deny 13

/-- The result of a packet that is given no flow service: all zeros (R193). -/
def flowNone (m : List Byte) : List Byte := putAt m 16 (zeros 8)

/-- A packet operation that finds a record (R200): the carry, LAST_HIT, the kind's action, the result. `orphan` says that
the record has been deleted: its carry is discarded (R229). -/
def Dev.flowHit (d : Dev) (die : Nat) (fk : FKey) (l : FLine) (missed orphan : Bool) (k : Pkt) : Dev × Pkt :=
  let fr := (d.frame k.frame).getD { port := k.port, bytes := [], total := 0, ts := 0, unc := 0 }
  let cur := withCarry (if orphan then none else (d.flw die).carry l.loc) l.body l.lastHit
  let delta := (d.deck24 + 2 ^ 24 - cur.2) % 2 ^ 24
  let a := d.kindAct die k fk.h2 fr.total delta fr.bytes cur.1
  let kl := d.killed die fk l.body
  let st : FStat := {
    hit := true, kill := kl.1, gap := a.gap, dup := a.dup, thr := a.thr, deny := a.deny, kind := recKind l.body,
    colour := a.colour, level := recLevel l.body, missed := missed, aux := a.aux, value := a.value,
    journal := recJournal l.body,
    group := if recKind l.body = 5 then
        some (beAt (d.kindEnt die 3 (recAction l.body / 2 ^ 24)) 8 2 % 1024) else none }
  let changed := decide (bytesAt a.body 41 1 ≠ bytesAt l.body 41 1 ∨ bytesAt a.body 44 4 ≠ bytesAt l.body 44 4 ∨
    bytesAt a.body 54 2 ≠ bytesAt l.body 54 2)
  let l1 := if changed then
      { l with dirty := true,
               body := putAt (putAt (putAt l.body 41 (bytesAt a.body 41 1)) 44 (bytesAt a.body 44 4)) 54 (bytesAt a.body 54 2) }
    else l
  let d1 := if orphan then d.flwCnt die 15
    else ((d.cachePut die fk l1).carryAdd die l.loc fr.total).carryRelief die
  let d2 := if a.repin then d1.flwCnt die 14 else d1
  let d3 := if a.red then d2.flwCnt die 17 else d2
  let d4 := if kl.2 then d3.flwCnt die 20 else d3
  (d4.flowCount die st, { k with md := d.flowEffects die fk.profile st k.md, loc := l.loc })

/-- A learn request (R215): FSTAT.NEW, or the counter of its refusal. -/
def Dev.learnReq (d : Dev) (die : Nat) (fk : FKey) (k : Pkt) : Dev × Bool :=
  let x := d.flw die
  if decide (d.lf (rFLW_PROF_A die fk.profile) fFLW_PROF_A_LEARN = 1) && d.lb (rFLW_CTRL die) fFLW_CTRL_LEARN_EN &&
      !(x.learns.any fun e => decide (e.fk.key = fk.key) && decide (e.fk.profile = fk.profile)) then
    if 16384 ≤ x.learns.length then (d.cnt (rFLW_RACE_CNT_LO die 3), false)
    else
      let e := d.nrgTake 1
      if decide (d.lf (rFLW_LEARN_CFG die) fFLW_LEARN_CFG_RATE ≤ x.rodLearn) || !e.2 then (d.cnt (rFLW_RACE_CNT_LO die 2), false)
      else
      let len := ((d.frame k.frame).map (·.total)).getD 0
      let tcp := d.tcpFlags die fk.profile k (((d.frame k.frame).map (·.bytes)).getD [])
      let l := x.learns ++ [{ fk := fk, pkt := k, len := len, tick := d.trk.tick, tcp := tcp }]
      ((((e.1.setFlw die { x with learns := l, rodLearn := x.rodLearn + 1 }).sf (rFLW_LEARN_STATUS die)
        fFLW_LEARN_STATUS_ENTRIES l.length).flwCnt die 7), true)
  else (d, false)

/-- A packet operation that finds no record (R193, R194, R215). `learn` says that a request may be queued. -/
def Dev.flowMiss (d : Dev) (die : Nat) (fk : FKey) (missed learn : Bool) (k : Pkt) : Dev × Pkt :=
  let q := if learn then d.learnReq die fk k else (d, false)
  let st : FStat := { new := q.2, kind := d.lf (rFLW_PROF_A die fk.profile) fFLW_PROF_A_KIND, missed := missed }
  (q.1.flwCnt die 5, { k with md := d.flowEffects die fk.profile st k.md })

/-- The late action (R231): no record, carry or learn table changes. -/
def Dev.flowLate (d : Dev) (die : Nat) (fk : FKey) (k : Pkt) : Dev × Pkt :=
  let st : FStat := { late := true, kind := d.lf (rFLW_PROF_A die fk.profile) fFLW_PROF_A_KIND, missed := true }
  ((d.late 0).flwCnt die 6, { k with md := d.flowEffects die fk.profile st k.md, late := true })

/-- The key meets a learn-table entry (R216). -/
def Dev.learning (d : Dev) (die : Nat) (fk : FKey) : Bool :=
  (d.flw die).learns.any fun e => decide (e.fk.key = fk.key) && decide (e.fk.profile = fk.profile)

/-- Park a packet: join an outstanding lookup for the key, or issue one (R187, R199). -/
def Dev.flowPark (d : Dev) (die : Nat) (fk : FKey) (prev : List Byte) (k : Pkt) : Dev :=
  let x := d.flw die
  let p : Parked := { pkt := k, fk := fk, tick := d.trk.tick, prev := prev }
  let joined := x.lookups.any fun l => decide (l.fk.key = fk.key) && decide (l.fk.profile = fk.profile)
  let d1 := d.setFlw die { x with parked := x.parked ++ [p] }
  if joined then d1.flwCnt die 3
  else
    let free := decide ((x.lookups.filter (·.tag)).length < 12288)
    let x1 := d1.flw die
    let d2 := d1.setFlw die { x1 with lookups := x1.lookups ++ [{ fk := fk, tag := free, tick := d.trk.tick }] }
    (d2.flwCnt die (if free then 2 else 19)).flwTags die

/-- The flow stage in the main position: done with the packet, or it has been parked (R186, R187, R193). -/
def Dev.flowStage (d : Dev) (die : Nat) (prev : List Byte) (k : Pkt) : Dev × Option Pkt :=
  if k.pr.flowEn && d.lb (rFLW_CTRL die) fFLW_CTRL_EN then
    let fk := d.fkey die k.pr.profile k.pr.key
    let d1 := d.flwCnt die 0
    let ready := d.b (rFLW_STATUS die) fFLW_STATUS_READY
    if !ready || decide (d.buckets die = 0) then
      let r := d1.flowMiss die fk false ready k
      (r.1, some r.2)
    else match d1.cacheFind die fk with
      | some l =>
        let r := (d1.flwCnt die 1).flowHit die fk l false false k
        (r.1, some r.2)
      | none =>
        if d1.learning die fk then
          let r := (d1.cnt (rFLW_RACE_CNT_LO die 4)).flowMiss die fk false false k
          (r.1, some r.2)
        else (d1.flowPark die fk prev k, none)
  else (d, some { k with md := flowNone k.md })

end Sys2Proof.Machine
end

