-- ==== Sys2Proof/Machine/Pool.lean ====
section
/-! DEFINITION. Machine/Pool.lean: the buffer pool manager (R434 to R437) and the pool scratch. -/
namespace Sys2Proof.Machine

/-- The pools of a core die. -/
def Dev.pool (d : Dev) (die : Nat) : PoolDie := if die = 0 then d.host.pool0 else d.host.pool1

/-- Replace them. -/
def Dev.setPool (d : Dev) (die : Nat) (x : PoolDie) : Dev :=
  if die = 0 then { d with host := { d.host with pool0 := x } } else { d with host := { d.host with pool1 := x } }

/-- Buffer size of pool `p` (R434): 256 bytes, 1, 4 or 16 KiB. -/
def poolSize (p : Nat) : Nat := 256 * 4 ^ p

/-- The share of a pool in a POOL_SPLIT value, in units of 256 KiB. -/
def splitShare (v p : Nat) : Nat := bits v (8 * p + 7) (8 * p)

/-- Buffers of a pool under a POOL_SPLIT value. -/
def splitCount (v p : Nat) : Nat := splitShare v p * 262144 / poolSize p

/-- Byte offset of a pool under a POOL_SPLIT value: ascending buffer size from 0. -/
def splitBase (v p : Nat) : Nat := ((List.range p).map fun j => splitShare v j * 262144).sum

/-- Buffers of a pool of a die. -/
def Dev.poolCount (d : Dev) (die p : Nat) : Nat := splitCount (d.lrn (rPOOL_SPLIT die)) p

/-- Minimum of an owner in a pool, from POOL_MIN (R435). -/
def Dev.poolMin (d : Dev) (die o p : Nat) : Nat :=
  let w := d.rn (if p < 2 then rPOOL_MIN_A die o else rPOOL_MIN_B die o)
  if p % 2 = 0 then w / 65536 else w % 65536

/-- Buffers of a pool that an owner holds. -/
def PoolDie.heldBy (x : PoolDie) (o p : Nat) : Nat := (x.held.filter fun e => decide (e.1 / 16384 = p ∧ e.2 = o + 1)).length

/-- Buffers of a pool in use. -/
def PoolDie.inUse (x : PoolDie) (p : Nat) : Nat := (x.held.filter fun e => decide (e.1 / 16384 = p)).length

/-- The lowest index not among some rising ones. -/
def lowestFree : List Nat → Nat → Nat
  | [], n => n
  | i :: l, n => if i = n then lowestFree l (n + 1) else n

/-- Report free and held buffers, and POOL_LOW for a pool fallen below its mark (R436). -/
def Dev.poolReport (d : Dev) (die o : Nat) : Dev :=
  let x := d.pool die
  let fr (p : Nat) : Nat := d.poolCount die p - x.inUse p
  let d1 := (d.wn (rPOOL_FREE_A die) (fr 0 * 65536 + fr 1)).wn (rPOOL_FREE_B die) (fr 2 * 65536 + fr 3)
  let d2 := (d1.wn (rPOOL_HELD_A die o) (x.heldBy o 0 * 65536 + x.heldBy o 1)).wn (rPOOL_HELD_B die o)
    (x.heldBy o 2 * 65536 + x.heldBy o 3)
  d2.each [0, 1, 2, 3] fun e p =>
    let y := e.pool die
    let low := decide (fr p * 100 < e.f (rPOOL_LOW die) fPOOL_LOW_PCT * e.poolCount die p)
    if low && !y.low.contains p then (e.setPool die { y with low := p :: y.low }).raiseD ePOOL_LOW die 0xFFFF
    else if !low then e.setPool die { y with low := y.low.filter (· ≠ p) }
    else e

/-- Address of a buffer in the pool form of R418: die in bit 31. -/
def Dev.poolAddr (d : Dev) (die p i : Nat) : Nat := die * 2 ^ 31 + splitBase (d.lrn (rPOOL_SPLIT die)) p + i * poolSize p

/-- The pool, from `p` upward, that serves a request of owner `o` (R436). -/
def Dev.poolPick (d : Dev) (die o : Nat) : List Nat → Option Nat
  | [] => none
  | p :: l =>
    let x := d.pool die
    let free := d.poolCount die p - x.inUse p
    let unmet := (((List.range 16).filter (· ≠ o)).map fun y => d.poolMin die y p - x.heldBy y p).sum
    if decide (0 < free) && (decide (x.heldBy o p < d.poolMin die o p) || decide (unmet < free)) then some p
    else d.poolPick die o l

/-- A request of owner `o` for `n` bytes on a die (R436): a buffer's address, or none. -/
def Dev.poolTake (d : Dev) (die o n : Nat) : Dev × Option Nat :=
  let sizes := [0, 1, 2, 3].filter fun p => decide (n ≤ poolSize p)
  match d.poolPick die o sizes with
  | none => (d.cnt (rPOOL_CNT_LO die 2), none)
  | some p =>
    let x := d.pool die
    let i := lowestFree ((x.held.filter fun e => decide (e.1 / 16384 = p)).map fun e => e.1 % 16384) 0
    let d1 := d.setPool die { x with held := kvSet 0 (16384 * p + i) (o + 1) x.held }
    let d2 := d1.cnt (rPOOL_CNT_LO die 0)
    let d3 := if sizes.head? = some p then d2 else d2.cnt (rPOOL_CNT_LO die 1)
    (d3.poolReport die o, some (d.poolAddr die p i))

/-- The buffer at an address: die, pool and index, if a buffer begins there. -/
def Dev.poolAt (d : Dev) (addr : Nat) : Option (Nat × Nat × Nat) :=
  let die := bits addr 31 31
  let off := bits addr 22 0
  let v := d.lrn (rPOOL_SPLIT die)
  ([0, 1, 2, 3].find? fun p =>
    decide (splitBase v p ≤ off) && decide (off < splitBase v p + splitShare v p * 262144) &&
    decide ((off - splitBase v p) % poolSize p = 0)).map fun p => (die, p, (off - splitBase v p) / poolSize p)

/-- Owner that holds the buffer a pool byte lies in, if any. -/
def Dev.poolOwner (d : Dev) (addr : Nat) : Option Nat :=
  let die := bits addr 31 31
  let off := bits addr 22 0
  let v := d.lrn (rPOOL_SPLIT die)
  match [0, 1, 2, 3].find? fun p =>
      decide (splitBase v p ≤ off) && decide (off < splitBase v p + splitShare v p * 262144) with
  | none => none
  | some p =>
    let w := kvGet 0 (d.pool die).held (16384 * p + (off - splitBase v p) / poolSize p)
    if w = 0 then none else some (w - 1)

/-- A refused return (R437): the buffer stays, BAD_RETURN, a class A fault. -/
def Dev.poolBadReturn (d : Dev) (die : Nat) : Dev :=
  (((d.sb (rPOOL_STATUS die) fPOOL_STATUS_BAD_RETURN true).raiseD ePOOL_BAD_RETURN die 0xFFFF).cnt (rPOOL_CNT_LO die 3)).classA die

/-- A return of a buffer by an owner (R437): refused unless that owner holds it. -/
def Dev.poolReturn (d : Dev) (o addr : Nat) : Dev :=
  match d.poolAt addr with
  | none => d.poolBadReturn (bits addr 31 31)
  | some (die, p, i) =>
    let x := d.pool die
    if kvGet 0 x.held (16384 * p + i) = o + 1 then
      (d.setPool die { x with held := kvSet 0 (16384 * p + i) 0 x.held }).poolReport die o
    else d.poolBadReturn die

/-- The pipeline or the fetcher returns a buffer in its owner's name (R437). -/
def Dev.poolGive (d : Dev) (addr : Nat) : Dev :=
  match d.poolOwner addr with
  | none => d
  | some o => d.poolReturn o addr

/-- Store bytes in pool scratch at an address of the pool form (R418). -/
def Dev.poolWrite (d : Dev) (addr : Nat) (l : List Byte) : Dev :=
  let die := bits addr 31 31
  let x := d.pool die
  d.setPool die { x with mem := memWrite x.mem (bits addr 22 0) l }

/-- Bytes of pool scratch. -/
def Dev.poolRead (d : Dev) (addr n : Nat) : List Byte := memRead (d.pool (bits addr 31 31)).mem (bits addr 22 0) n

end Sys2Proof.Machine
end

