-- ==== Sys2Proof/Machine/Buffer.lean ====
section
/-! DEFINITION. Machine/Buffer.lean: cells, reserves, admission, mirror entries and journal records of copies
(R240 to R265, R334 to R343). -/
namespace Sys2Proof.Machine

/-- The buffer of a core die. -/
def Dev.buf (d : Dev) (die : Nat) : BufDie := if die = 0 then d.path.buf0 else d.path.buf1

/-- Replace the buffer of a core die. -/
def Dev.setBuf (d : Dev) (die : Nat) (x : BufDie) : Dev :=
  if die = 0 then { d with path := { d.path with buf0 := x } } else { d with path := { d.path with buf1 := x } }

/-- A queue of a die by its die-local index (R265). -/
def Dev.queue (d : Dev) (die q : Nat) : QueueSt := kvGet {} (d.buf die).queues q

/-- Replace it. -/
def Dev.setQueue (d : Dev) (die q : Nat) (x : QueueSt) : Dev :=
  let b := d.buf die
  d.setBuf die { b with queues := kvSet {} q x b.queues }

/-- Die-local index of a port's queue (R265, R266). -/
def qIdx (port queue : Nat) : Nat := 16 * (port % 256) + queue

/-- Cells of a frame of `n` bytes (R240). -/
def cellsOf (n : Nat) : Nat := (n + 255) / 256

/-! ### Chains (R240, R241) -/

/-- A frame's chain on a die. -/
def BufDie.chain (b : BufDie) (f : Nat) : Option Chain := (b.chains.find? (·.1 = f)).map (·.2)

/-- Replace or remove a frame's chain. -/
def BufDie.setChain (b : BufDie) (f : Nat) (c : Option Chain) : BufDie :=
  let rest := b.chains.filter fun e => decide (e.1 ≠ f)
  { b with chains := match c with
      | none => rest
      | some x => rest ++ [(f, x)] }

/-- Cells of a chain. -/
def Chain.cells (c : Chain) : Nat := (c.parts.map (·.2)).sum

/-- Cells a list of charges holds under a kind of account. -/
def partsIn (p : Charge → Bool) (l : List (Charge × Nat)) : Nat := ((l.filter fun e => p e.1).map (·.2)).sum

/-- Cells of a die charged to a kind of account. -/
def BufDie.charged (b : BufDie) (p : Charge → Bool) : Nat := (b.chains.map fun c => partsIn p c.2.parts).sum

/-- Cells of a die waiting in spill tails. -/
def BufDie.tail (b : BufDie) : Nat := (b.queues.map (·.2.tailCells)).sum

/-- Cells read back to heads and not yet part of a whole copy. -/
def BufDie.back (b : BufDie) : Nat := (b.queues.map (·.2.backCells)).sum

/-- Cells in use on a die. -/
def BufDie.used (b : BufDie) : Nat := b.charged (fun _ => true) + b.tail + b.back

/-- Free cells of a die. -/
def BufDie.free (b : BufDie) : Nat := 393216 - b.used

/-- Unreserved cells in use (R244): shared pool, remainder path, on-die part of deep queues. -/
def BufDie.unreserved (b : BufDie) : Nat := b.charged (fun c => decide (c = .shared) || decide (c = .remainder)) + b.back

/-! ### Reserves (R243, R244) -/

/-- A register's value in a register file. -/
def regIn (m : Regs) (a : Nat) : Nat := (kvGet (resetOf a) m a).toNat

/-- Indices of an array that a register file lists. -/
def listedIn (m : Regs) (base stride count : Nat) : List Nat :=
  m.filterMap fun e =>
    if base ≤ e.1 ∧ e.1 < base + stride * count ∧ (e.1 - base) % stride = 0 then some ((e.1 - base) / stride) else none

/-- Minimum of a queue under a register file: 16 at least for queue 15 of a tree port (R243). -/
def qMin (m : Regs) (tree : List Nat) (die q : Nat) : Nat :=
  let v := bits (regIn m (rBUF_Q_CFG die q)) 16 0
  if q % 16 = 15 && tree.contains (256 * die + q / 16) then max 16 v else v

/-- Reserved cells of a die under a register file (R243). -/
def resvIn (m : Regs) (tree : List Nat) (die : Nat) : Nat :=
  let ls := listedIn m (rBUF_Q_CFG die 0) 8 4096
  let ts := (tree.filter fun p => decide (p / 256 = die)).map fun p => 16 * (p % 256) + 15
  let qs := ls ++ ts.filter fun q => !ls.contains q
  8 * (4096 - qs.length) + (qs.map (qMin m tree die)).sum +
  ((listedIn m (rPRT_HEADROOM 0) 0x40 512).map fun p => bits (regIn m (rPRT_HEADROOM p)) 16 0).sum +
  bits (regIn m (rBUF_LEVEL_POOL die)) 18 0 + bits (regIn m (rBUF_SPILL_TAIL die)) 16 0

/-- Reserved cells of a die in force. -/
def Dev.resv (d : Dev) (die : Nat) : Nat := resvIn d.live d.treePorts die

/-- Reserve of a queue in force. -/
def Dev.qReserve (d : Dev) (die q : Nat) : Nat := qMin d.live d.treePorts die q

/-- Free shared cells F (R244). -/
def Dev.freeShared (d : Dev) (die : Nat) : Nat := 393216 - d.resv die - (d.buf die).unreserved

/-- Report the buffer's figures in its registers, and NO_FREE when the die has run out (R265). -/
def Dev.bufReport (d : Dev) (die : Nat) : Dev :=
  let b := d.buf die
  (((d.wn (rBUF_FREE die) b.free).wn (rBUF_RESV die) (d.resv die)).wn (rBUF_SHARED die) b.unreserved).when
    (b.free = 0) fun e => e.sb (rBUF_STATUS die) fBUF_STATUS_NO_FREE true

/-- On-die cells charged to a queue (R265). -/
def QueueSt.onDie (x : QueueSt) : Nat := x.resUsed + x.shUsed + x.backCells

/-- Depth of a queue in cells, spilled ones included (R250). -/
def QueueSt.depth (x : QueueSt) : Nat := (x.copies.map (·.cells)).sum

/-- Report a queue's figures in BUF_Q_STAT. -/
def Dev.queueReport (d : Dev) (die q : Nat) : Dev :=
  let x := d.queue die q
  (d.sf (rBUF_Q_STAT die q) fBUF_Q_STAT_DEPTH x.onDie).sb (rBUF_Q_STAT die q) fBUF_Q_STAT_SPILLED x.spilled

/-! ### Ingress fill (R76) -/

/-- Cells charged to an ingress port and priority on both dies; in PAUSE mode the whole port is one priority. -/
def Dev.fill (d : Dev) (p pri : Nat) : Nat :=
  let all := decide (d.lf (rPRT_CFG p) fPRT_CFG_FC_MODE = 1)
  (([0, 1].flatMap fun die => (d.buf die).chains).filter fun c =>
    (all || decide (c.2.pri = pri)) && decide ((d.frame c.1).map (·.port) = some p)).map (·.2.cells) |>.sum

/-! ### Frames kept -/

/-- Does anything in the device still refer to a frame? -/
def Dev.frameUsed (d : Dev) (f : Nat) : Bool :=
  let pk (k : Pkt) : Bool := decide (k.frame = f)
  ((d.buf 0).chain f).isSome || ((d.buf 1).chain f).isSome ||
  [0, 1].any (fun die =>
    (d.par die).ctxs.any (fun c => decide (c.frame = f)) || (d.par die).rmd.any (fun r => decide (r.frame = f)) ||
    (d.flw die).parked.any (fun p => pk p.pkt) || (d.flw die).learns.any (fun l => pk l.pkt) ||
    (d.buf die).repl.any (fun r => pk r.pkt)) ||
  d.path.recirc.any pk || d.path.tx.any (fun t => match t.2 with
    | some x => pk x.copy.pkt
    | none => false)

/-- The pipeline gives back the pool buffer of a frame it has sent or dropped (R395, R437). -/
def Dev.bufGive (d : Dev) (buf : Option Nat) : Dev :=
  match buf with
  | none => d
  | some a => d.poolGive a

/-- Forget a frame that has ended once nothing refers to it; its pool buffer goes back. -/
def Dev.frameGc (d : Dev) (f : Nat) : Dev :=
  match d.frame f with
  | some fr => if fr.ended && !d.frameUsed f then (d.setFrame f none).bufGive fr.buf else d
  | none => d

/-- A frame, or an empty one where there is none. -/
def Dev.fr (d : Dev) (f : Nat) : Frame := (d.frame f).getD { port := 0, bytes := [], total := 0, ts := 0, unc := 0 }

/-- Bytes of a frame without its FCS, as far as they have arrived. -/
def Frame.data (x : Frame) : List Byte := if x.last then x.bytes.take (x.bytes.length - 4) else x.bytes

/-! ### Journal of copies (R334 to R343) -/

/-- Number of bytes a digest covers (R338). -/
def Dev.digestK (d : Dev) (fr : Frame) : Nat := min (d.lf rJRN_CTRL fJRN_CTRL_DIGEST_LEN) (fr.total - 4)

/-- Packet digest of a frame on the bytes that have arrived (R338). -/
def Dev.digest (d : Dev) (fr : Frame) : List Byte :=
  let k := d.digestK fr
  (sha256 (beBytes 2 k ++ bytesAt fr.bytes 0 k)).take 16

/-- Entries of a die's journal held by reservations (R340). -/
def Dev.reservations (d : Dev) (die : Nat) : Nat :=
  let b := d.buf die
  (b.queues.map fun q => (q.2.copies.filter (·.jrn)).length).sum + (b.levels.map fun q => (q.2.filter (·.jrn)).length).sum

/-- The HBM partition is committed, and no stack has failed its training (R362, R377): else every region is absent. -/
def Dev.committed (d : Dev) : Bool :=
  d.b rMEM_STATUS fMEM_STATUS_COMMITTED && decide (d.f rMEM_STATUS fMEM_STATUS_FAILED = 0)

/-- Is a die's journal full (R342)? -/
def Dev.jrnFullNow (d : Dev) (die : Nat) : Bool :=
  !d.committed ||
  decide (d.rdPair (rJRN_RD_LO die) (rJRN_RD_HI die) + d.rn (rJRN_SIZE die) ≤
    (d.jrn.die die).n + d.reservations die + 4096) ||
  decide (d.rn rJRN_SUM_SIZE ≤ (d.rn rJRN_SUM_WR + 2 ^ 32 - d.rn rJRN_SUM_RD) % 2 ^ 32 ∧ d.jrnActive) ||
  decide (d.rn rJRN_CHILD_SIZE ≠ 0 ∧ d.rn rJRN_CHILD_SIZE ≤ (d.rn rJRN_CHILD_WR + 2 ^ 32 - d.rn rJRN_CHILD_RD) % 2 ^ 32) ||
  decide (65536 ≤ (d.jrn.die die).staging.length)

/-- Does a die's journal count as full: full, or treated so under UNLOCK_ACT while TIME_LOCKED is clear (R343, R350)? -/
def Dev.jrnFull (d : Dev) (die : Nat) : Bool := d.jrnFullNow die || (d.jrn.unlockAct && !d.locked)

/-- The same for a copy: a level copy is always recorded while the journal is unlocked (R350). -/
def Dev.jrnFullFor (d : Dev) (die : Nat) (level : Bool) : Bool := if level then d.jrnFullNow die else d.jrnFull die

/-- The FULL bit of a die in JRN_STATUS. -/
def fJrnFull (die : Nat) : Fld := if die = 0 then fJRN_STATUS_FULL0 else fJRN_STATUS_FULL1

/-- Judge whether a die's journal has become full or has stopped being full (R342, R343). -/
def Dev.jrnJudge (d : Dev) (die : Nat) : Dev :=
  let x := d.jrn.die die
  let full := d.jrnActive && d.jrnFull die
  let d0 := d.wn (rJRN_RESV die) (d.reservations die)
  if full && !x.wasFull then
    ((({ d0 with jrn := d0.jrn.setDie die { x with wasFull := true } }).sb rJRN_STATUS (fJrnFull die) true).raise
      eJRN_FULL 0xFFFF)
  else if !full && x.wasFull then
    let d1 := ({ d0 with jrn := d0.jrn.setDie die { x with wasFull := false, gap := 0, gapStamp := 0 } }).sb
      rJRN_STATUS (fJrnFull die) false
    let d2 := if d1.jrnActive then
        let e := d1.jrnMark die 5 0xFFFF (min x.gap 0xFFFFFFFF) (beBytes 12 x.gapStamp)
        { e with jrn := { e.jrn with flags := putBits e.jrn.flags 6 6 1 } }
      else d1
    d2.raise eJRN_RESUMED 0xFFFF
  else d0

/-- An event that a full journal does not record (R343): `i` is its JRN_CNT index. -/
def Dev.jrnLost (d : Dev) (die i : Nat) : Dev :=
  let x := d.jrn.die die
  ({ d with jrn := d.jrn.setDie die { x with gap := x.gap + 1, gapStamp := d.now } }.cnt (rJRN_CNT_LO die i)).pev
    (30 + die) 0x12

/-- The record of a copy's fate (R336, R337). `lvl` is the level group of a level copy. -/
def copyRec (k : Pkt) (fr : Frame) (digest : List Byte) (type eport reason marks ets eunc : Nat) (lvl : Option Nat) : RecIn :=
  let ip := k.port + (match lvl with
    | some g => g / 32 * 2048
    | none => 0)
  let ep := eport + (match lvl with
    | some g => g % 32 * 2048
    | none => 0)
  { ts := fr.ts, ets := ets, unc := fr.unc, eunc := eunc, iport := ip, eport := ep, type := type,
    marks := k.late.toNat * 4 + marks, reason := reason, loc := k.loc, digest := digest }

/-- Write a record about a frame; its digest is completed when the frame ends, if bytes of it have yet to arrive. -/
def Dev.jrnFrame (d : Dev) (die f : Nat) (mk : Frame → List Byte → RecIn) : Dev :=
  let fr := d.fr f
  let seq := d.jrnSeq die
  let d1 := ((d.jrnPut die (mk fr (d.digest fr))).pev (30 + die) 0x10)
  let d2 := if fr.bytes.length < d.digestK fr then d1.setFrame f (some { fr with recs := fr.recs ++ [(die, seq)] }) else d1
  d2.jrnJudge die

/-- Change the bytes of a record already numbered, wherever it lies: by its sequence number. -/
def amendIn (seq : Nat) (g : List Byte → List Byte) (r : List Byte) : List Byte := if beAt r 40 8 = seq then g r else r

/-- Change a record already numbered (R337: a reason that the copy's end settles; R338: a digest). -/
def Dev.jrnAmend (d : Dev) (die seq : Nat) (g : List Byte → List Byte) : Dev :=
  let x := d.jrn.die die
  let x1 := { x with
    staging := x.staging.map (amendIn seq g), ring := x.ring.map (fun e => (e.1, amendIn seq g e.2)),
    openSet := x.openSet.map (amendIn seq g) }
  let j := d.jrn.setDie die x1
  { d with jrn := { j with closed := j.closed.map fun c =>
      if die = 0 then { c with recs0 := c.recs0.map (amendIn seq g) } else { c with recs1 := c.recs1.map (amendIn seq g) } } }

/-- Give a record its REASON (R337). -/
def setReason (reason : Nat) (r : List Byte) : List Byte := putAt r 35 (beBytes 1 reason)

/-! ### Mirror entries (R256 to R258) -/

/-- The 256 bytes of a mirror entry; bytes 160 to 255 are not written and read 0 here. -/
def mirrorEntry (k : Pkt) (fr : Frame) (sess point code eport ticks seq : Nat) (sampled : Bool) : List Byte :=
  let n := min 128 fr.bytes.length
  beBytes 12 fr.ts ++ beBytes 2 fr.unc ++ beBytes 2 k.port ++ beBytes 2 eport ++ beBytes 1 sess ++
  beBytes 1 (point * 64 + sampled.toNat * 32 + (!fr.last).toNat * 16) ++
  beBytes 2 (if fr.last then fr.bytes.length else 0) ++ beBytes 1 n ++ beBytes 1 code ++ beBytes 4 ticks ++ beBytes 4 seq ++
  (fr.bytes.take n ++ zeros 128).take 128 ++ zeros 96

/-- Write a mirror entry for a candidate of a session, under its sampling, rod limit, energy count and ring (R256, R258):
point 0 ingress, 1 egress, 2 drop. -/
def Dev.mirror (d : Dev) (die sess point code eport ticks : Nat) (k : Pkt) : Dev :=
  let a := rBUF_MIR_SESS_A die sess
  if decide (1 ≤ sess) && decide (sess ≤ 63) && d.lb a fBUF_MIR_SESS_A_EN && (decide (point ≠ 2) || d.lb a fBUF_MIR_SESS_A_DROPS) then
    let b := d.buf die
    let n := max 1 (d.lf a fBUF_MIR_SESS_A_SAMPLE_N)
    let c := kvGet 0 b.mirCand sess
    let d1 := d.setBuf die { b with mirCand := kvSet 0 sess (c + 1) b.mirCand }
    if c % n ≠ 0 then d1
    else
      let lim := d.lf (rBUF_MIR_SESS_B die sess) fBUF_MIR_SESS_B_MAX_PER_ROD
      let r := kvGet 0 b.mirRod sess
      let wr := d.rn (rBUF_MIR_WR die)
      let size := d.rn (rBUF_MIR_SIZE die)
      if lim ≠ 0 ∧ lim ≤ r then d1.cnt (rBUF_CNT_LO die 20)
      else if !d.committed || decide (size ≤ (wr + 2 ^ 32 - d.rn (rBUF_MIR_RD die)) % 2 ^ 32) then
        (d1.cnt (rBUF_CNT_LO die 19)).raiseD eBUF_MIRROR_FULL die 0xFFFF
      else
        let t := d1.nrgTake 2
        if !t.2 then t.1.cnt (rBUF_CNT_LO die 20)
        else
          let b1 := t.1.buf die
          let e := mirrorEntry k (d.fr k.frame) sess point code eport ticks wr (decide (1 < n))
          (((t.1.setBuf die { b1 with
            mirRod := kvSet 0 sess (r + 1) b1.mirRod, mirRing := kvSet [] (wr % size) e b1.mirRing }).wn
              (rBUF_MIR_WR die) ((wr + 1) % 2 ^ 32)).cnt (rBUF_CNT_LO die 18))
  else d

/-! ### WRED and ECN (R249 to R251) -/

/-- The ECN-bearing instance of a packet and whether it is IPv6 (R251). -/
def Dev.ecnInst (d : Dev) (die : Nat) (k : Pkt) : Option (HInst × Bool) :=
  let a := rBUF_ECN_CFG die
  let occ := d.lf a fBUF_ECN_CFG_OCC
  let i4 := findInst k.pr.insts (d.lf a fBUF_ECN_CFG_HTYPE4) occ
  let i6 := findInst k.pr.insts (d.lf a fBUF_ECN_CFG_HTYPE6) occ
  match i4, i6 with
  | some x, none => some (x, false)
  | none, some y => some (y, true)
  | some x, some y =>
    if occ < 4 then (if x.off ≤ y.off then some (x, false) else some (y, true))
    else (if y.off ≤ x.off then some (x, false) else some (y, true))
  | none, none => none

/-- The ECN field of an instance in frame bytes. -/
def ecnField (bs : List Byte) (i : HInst × Bool) : Nat :=
  if i.2 then bits (eb bs (i.1.off + 1)) 5 4 else bits (eb bs (i.1.off + 1)) 1 0

/-- Is a packet ECN-capable: ECT(0) or ECT(1) (R251)? -/
def Dev.ecnCapable (d : Dev) (die : Nat) (k : Pkt) : Bool :=
  match d.ecnInst die k with
  | none => false
  | some i => let f := ecnField (d.fr k.frame).bytes i; decide (f = 1 ∨ f = 2)

/-- WRED results: 0 pass, 1 early, 2 over. -/
def Dev.wredColour (d : Dev) (die w avg v c : Nat) : Nat :=
  let a := rBUF_WRED die w c
  let mn := d.lf a fBUF_WRED_MIN * 4096
  let mx := d.lf a fBUF_WRED_MAX * 4096
  if mx ≤ mn then (if avg < mn then 0 else 2)
  else if avg < mn then 0
  else if mx ≤ avg then 2
  else if v < d.lf a fBUF_WRED_MAX_P * 256 * (avg - mn) / (mx - mn) then 1 else 0

/-- Results for the three colours for one random draw `v`. -/
def Dev.wredTest (d : Dev) (die q v : Nat) : List Nat :=
  let w := d.lf (rBUF_Q_CFG die q) fBUF_Q_CFG_WRED
  if w = 0 then [0, 0, 0] else (List.range 3).map fun c => d.wredColour die w (d.queue die q).avg v c

/-! ### Lossless priorities (R245) -/

/-- Is a priority of an ingress port lossless? -/
def Dev.lossless (d : Dev) (p pri : Nat) : Bool :=
  let m := d.lf (rPRT_CFG p) fPRT_CFG_FC_MODE
  decide (m = 1) || (decide (m = 2) && decide (bits (d.lf (rPRT_FC p) fPRT_FC_PFC_EN) pri pri = 1))

/-- Has the ingress port XOFF in force for a priority: a watermark XOFF or an energy XOFF (R76, R468)? -/
def Dev.pausedIn (d : Dev) (p pri : Nat) : Bool :=
  let q := if d.lf (rPRT_CFG p) fPRT_CFG_FC_MODE = 1 then 0 else pri
  decide (bits (d.portSt p).xoffSent q q = 1) ||
  d.nrg.xoff.any fun e => decide (e.1 = p) && decide (e.2.1 = q) && decide (d.trk.tick < e.2.2)

/-! ### Admission (R242, R245, R247) -/

/-- Admission estimate (R242). -/
def Dev.estimate (d : Dev) (k : Pkt) : Nat :=
  let fr := d.fr k.frame
  if fr.last then fr.bytes.length
  else match k.pr.covOuter with
    | some c => c + 4
    | none => d.lf (rPRT_CFG k.port) fPRT_CFG_MAX_FRAME

/-- What a copy is to be tested as. -/
structure CopyReq where
  pkt : Pkt
  die : Nat
  /-- Egress port whose queues take it; member 0's for a group. -/
  port : Nat
  pg : Option Nat
  queue : Nat
  est : Nat
  /-- Its multicast group, and whether that group's JRN is set. -/
  mc : Option Nat := none
  mcJrn : Bool := false
  own : Option (List Byte) := none
deriving DecidableEq, Repr

/-- Level group of a level copy (R286). -/
def CopyReq.level (r : CopyReq) : Option Nat :=
  if mdLevel r.pkt.md && decide (mdGroup r.pkt.md ≤ 1023) then some (mdGroup r.pkt.md) else none

/-- Does a refusal of the copy write an omitted record (R247, R300)? -/
def CopyReq.journalled (r : CopyReq) : Bool := mdJournal r.pkt.md || r.mcJrn || r.level.isSome

/-- Is the copy itself to be recorded when sent (R334)? -/
def CopyReq.recorded (r : CopyReq) : Bool := mdJournal r.pkt.md || r.level.isSome

/-- Where admission puts a copy's cells, or the refusal code of R247. -/
inductive Verdict where
  | refuse (code : Nat)
  | level
  | spill
  | take (res shared headroom : Nat)
deriving DecidableEq, Repr

/-- The enabled level queue that binds a group to a destination of a die (R285). -/
def Dev.levelQueue (d : Dev) (die g port : Nat) (pg : Option Nat) : Option Nat :=
  (d.listedIdx (rLVL_Q_CFG 0) 16 1024).find? fun i =>
    let a := rLVL_Q_CFG i
    decide (i / 512 = die) && d.lb a fLVL_Q_CFG_EN && decide (d.lf a fLVL_Q_CFG_GROUP = g) &&
    (match pg with
     | some x => d.lb a fLVL_Q_CFG_PG && decide (d.lf a fLVL_Q_CFG_DEST = x)
     | none => !d.lb a fLVL_Q_CFG_PG && decide (d.lf a fLVL_Q_CFG_DEST = port))

/-- Copies of a level queue. -/
def Dev.lvlCopies (d : Dev) (i : Nat) : List Copy := kvGet [] (d.buf (i / 512)).levels i

/-- State of a level group (R288). -/
def Dev.lvlState (d : Dev) (g : Nat) : Nat := d.f (rLVL_GRP_STATUS g) fLVL_GRP_STATUS_STATE

/-- Level copies held by a die. -/
def BufDie.lvlCount (b : BufDie) : Nat := (b.levels.map (·.2.length)).sum

/-- The tests of R287 for a level copy of `c` cells: the LVL_CNT index of its refusal, if any. -/
def Dev.levelRefusal (d : Dev) (die g port : Nat) (pg : Option Nat) (c new : Nat) : Option Nat :=
  let b := d.buf die
  if !d.lb rLVL_CTRL fLVL_CTRL_EN || decide (d.lvlState g ≠ 2) then some 5
  else match d.levelQueue die g port pg with
    | none => some 4
    | some i =>
      if 65536 ≤ b.lvlCount then some 3
      else if d.lf (rLVL_Q_LIMIT i) fLVL_Q_LIMIT_MAX_CELLS < ((d.lvlCopies i).map (·.cells)).sum + c then some 2
      else if d.lf (rBUF_LEVEL_POOL die) fBUF_LEVEL_POOL_CELLS < b.charged (fun x => decide (x = .level)) + new then some 1
      else none

/-- Is a copy's destination down (R60, R86, R245)? -/
def Dev.destDown (d : Dev) (port : Nat) (pg : Option Nat) : Bool :=
  match pg with
  | some g => !((d.pgMembers g).any fun m => d.isUp m.2)
  | none => !d.isUp port

/-- Spill rows of a die (R264, R363). -/
def Dev.spillRows (d : Dev) : Nat := if d.committed then d.f rMEM_PART_A fMEM_PART_A_SPILL * 131072 else 0

/-- Rows a queue may still spill, and free cells of the spill staging (R263). -/
def Dev.spillVerdict (d : Dev) (die : Nat) (x : QueueSt) (c : Nat) : Verdict :=
  let b := d.buf die
  let lim := d.lf (rBUF_SPILL_CFG die) fBUF_SPILL_CFG_Q_MAX_UNITS * 4096
  let rows := x.rows + (x.tailCells + c + 3) / 4
  let dieRows := (b.queues.map (·.2.rows)).sum
  if decide (lim < rows) || decide (d.spillRows ≤ dieRows) then .refuse 7
  else if d.lf (rBUF_SPILL_TAIL die) fBUF_SPILL_TAIL_CELLS < b.tail + c then .refuse 8
  else .spill

/-- The admission test of R245 in its order; `v` is the random draw of R250. -/
def Dev.admitTest (d : Dev) (r : CopyReq) (v : Nat) : Verdict :=
  let die := r.die
  let b := d.buf die
  let c := cellsOf r.est
  let first := match b.chain r.pkt.frame with
    | some ch => ch.parts.isEmpty
    | none => true
  let entries := (b.queues.map (·.2.copies.length)).sum + b.lvlCount
  if d.destDown r.port r.pg then .refuse 1
  else if ((b.chain r.pkt.frame).isNone && decide (262144 ≤ b.chains.length)) || decide (524288 ≤ entries) then .refuse 2
  else match r.level with
    | some g =>
      match d.levelRefusal die g r.port r.pg c (if first then c else 0) with
      | some _ => .refuse 9
      | none => .level
    | none =>
      let q := qIdx r.port r.queue
      let x := d.queue die q
      let p := r.pkt.port
      let pri := mdPri r.pkt.md
      let res := (d.wredTest die q v).getD (mdColour r.pkt.md) 0
      let exempt := (decide (r.queue = 15) && d.treePort r.port) || (r.own.isNone && d.lossless p pri)
      let ecn := d.lb (rBUF_Q_CFG die q) fBUF_Q_CFG_ECN_EN && d.ecnCapable die r.pkt
      if !exempt && decide (res = 2) then .refuse 4
      else if !exempt && decide (res = 1) && !ecn then .refuse 3
      else
        let rs := min c (d.qReserve die q - x.resUsed)
        let s := c - rs
        let alpha := sext 4 (d.lf (rBUF_Q_CFG die q) fBUF_Q_CFG_ALPHA_LOG2)
        let f := d.freeShared die
        let limit := if alpha = -8 then 0 else if 0 ≤ alpha then f * 2 ^ alpha.toNat else f / 2 ^ (-alpha).toNat
        if s = 0 then .take rs 0 0
        else if d.lb (rBUF_Q_CFG die q) fBUF_Q_CFG_DEEP &&
            (x.spilled || decide (d.lf (rBUF_SPILL_CFG die) fBUF_SPILL_CFG_HEAD_CELLS < x.onDie + c)) then
          d.spillVerdict die x c
        else if x.shUsed + s ≤ limit then .take rs s 0
        else if r.own.isNone && d.lossless p pri && d.pausedIn p pri then
          if b.charged (fun y => decide (y = .headroom p)) + s ≤ d.lf (rPRT_HEADROOM p) fPRT_HEADROOM_CELLS then .take rs 0 s
          else .refuse 6
        else .refuse 5

/-- Count a copy made or refused on a multicast group of a die (R252). -/
def Dev.mcCount (d : Dev) (die : Nat) (mc : Option Nat) (refused : Bool) : Dev :=
  match mc with
  | none => d
  | some g =>
    let b := d.buf die
    if refused then d.setBuf die { b with mcRefused := kvSet 0 g (kvGet 0 b.mcRefused g + 1) b.mcRefused }
    else (d.setBuf die { b with mcMade := kvSet 0 g (kvGet 0 b.mcMade g + 1) b.mcMade }).cnt (rBUF_CNT_LO die 14)

/-- A refused copy (R247): counts by reason, die and port (REPL_FULL is counted by frame, R265), omitted record, drop-point
mirror entry. -/
def Dev.refuseCopy (d : Dev) (r : CopyReq) (code : Nat) : Dev :=
  let d0 := if code = 10 then d else d.cnt (rBUF_CNT_LO r.die code)
  let d1 := (d0.pcnt r.port (7 + code)).pev (18 + r.die) 0x11
  let d2 := d1.mcCount r.die r.mc true
  let d3 := if r.journalled && d2.jrnActive then
      if d2.jrnFullFor r.die r.level.isSome then d2.jrnLost r.die 11
      else (d2.jrnFrame r.die r.pkt.frame fun fr dg =>
          copyRec r.pkt fr dg (if r.level.isSome then 4 else 2) r.port code 0 0 0xFFFF r.level).cnt (rBUF_CNT_LO r.die 15)
    else d2
  let d4 := if r.own.isNone then d3.mirror r.die (mdMirror r.pkt.md) 2 code r.port 0 r.pkt else d3
  match r.level with
  | some g =>
    match d.levelRefusal r.die g r.port r.pg (cellsOf r.est) 0 with
    | some i => if code = 9 then d4.cnt (rLVL_CNT_LO r.die i) else d4
    | none => if code = 9 then d4.cnt (rLVL_CNT_LO r.die 1) else d4
  | none =>
    let q := qIdx r.port r.queue
    let x := d4.queue r.die q
    (d4.setQueue r.die q { x with refused := x.refused + 1 }).sb (rBUF_Q_STAT r.die q) fBUF_Q_STAT_OVER
      (decide (code = 5) || decide (code = 6))

/-- Take the cells of a copy's chain on a die, or one more reference to it (R245). -/
def Dev.holdChain (d : Dev) (r : CopyReq) (parts : List (Charge × Nat)) : Dev :=
  let b := d.buf r.die
  let f := r.pkt.frame
  let pri := mdPri r.pkt.md
  match b.chain f with
  | none =>
    (d.setBuf r.die (b.setChain f (some { refs := 1, parts := parts.filter (·.2 ≠ 0), pri := pri }))).pev (18 + r.die) 0x12
      ((parts.map (·.2)).sum)
  | some c =>
    if c.parts.isEmpty then
      (d.setBuf r.die (b.setChain f (some { c with refs := c.refs + 1, parts := parts.filter (·.2 ≠ 0), pri := pri }))).pev
        (18 + r.die) 0x12 ((parts.map (·.2)).sum)
    else d.setBuf r.die (b.setChain f (some { c with refs := c.refs + 1 }))

/-- Key of a level copy for the merge (R290): release time, ingress stamp, rank, arrival sequence. -/
def Dev.lvlKey (d : Dev) (c : Copy) : Nat × Nat × Nat × Nat :=
  let r := (c.lvl.map (·.r)).getD 0
  (r, (d.fr c.pkt.frame).ts, (if c.pkt.port < 512 then d.lf (rLVL_RANK c.pkt.port) fLVL_RANK_RANK else 0),
    c.pkt.arrTick * 2 ^ 32 + c.pkt.arrSeq)

/-- Does one key come before another? -/
def keyLt (a b : Nat × Nat × Nat × Nat) : Bool :=
  decide (a.1 < b.1) || (decide (a.1 = b.1) &&
    (decide (a.2.1 < b.2.1) || (decide (a.2.1 = b.2.1) &&
      (decide (a.2.2.1 < b.2.2.1) || (decide (a.2.2.1 = b.2.2.1) && decide (a.2.2.2 < b.2.2.2))))))

/-- Insert a level copy in key order. -/
def Dev.lvlInsert (d : Dev) (c : Copy) : List Copy → List Copy
  | [] => [c]
  | x :: l => if keyLt (d.lvlKey c) (d.lvlKey x) then c :: x :: l else x :: d.lvlInsert c l

/-- Copies tied with a new one on release time and stamp: those settled by rank, those settled by arrival (R290). -/
def Dev.lvlTies (d : Dev) (c : Copy) (l : List Copy) : Nat × Nat :=
  let k := d.lvlKey c
  let t := l.filter fun x => decide ((d.lvlKey x).1 = k.1) && decide ((d.lvlKey x).2.1 = k.2.1)
  ((t.filter fun x => decide ((d.lvlKey x).2.2.1 ≠ k.2.2.1)).length,
   (t.filter fun x => decide ((d.lvlKey x).2.2.1 = k.2.2.1)).length)

/-- Domain time of the boundary at which a group's L last took effect: LVL_GRP_CHG holds the low 32 bits of its tick
number; the tick is the latest not after the present one with those bits. -/
def Dev.lvlTc (d : Dev) (g : Nat) : Nat :=
  let lo := d.rn (rLVL_GRP_CHG g)
  let t := d.trk.tick
  (t - (t + 2 ^ 32 - lo) % 2 ^ 32) * 655360

/-- Release time of a level copy at its admission (R289), in 2^-16 ns. -/
def Dev.releaseTime (d : Dev) (g ts : Nat) : Nat :=
  let l := d.lf (rLVL_GRP_CFG g) fLVL_GRP_CFG_L
  let lp := d.f (rLVL_GRP_STATUS g) fLVL_GRP_STATUS_L_PREV
  let t := stampTime ts
  if l = lp then t + l * 655360
  else
    let tc := d.lvlTc g
    if t < tc then t + lp * 655360 else max (t + l * 655360) (tc + lp * 655360)

/-- Report a level queue's figures. -/
def Dev.lvlReport (d : Dev) (i : Nat) : Dev :=
  let l := d.lvlCopies i
  ((d.sf (rLVL_Q_STATUS i) fLVL_Q_STATUS_CELLS ((l.map (·.cells)).sum)).wn (rLVL_Q_DEPTH i) l.length).wn
    (rLVL_DIE_STATUS (i / 512)) (d.buf (i / 512)).lvlCount

/-- The refill of R272 and R275 made in tick `t`: the credit earned under the old settings, capped by both bursts; a
closed shaper's credit is 0 (R276). One kb/s is 5368.70912 units of 2^-32 byte a tick, rounded to the nearest unit. -/
def Shaper.refill (s : Shaper) (t rate burst : Nat) : Shaper :=
  let r : Int := ((s.rate * 536870912 + 50000) / 100000 : Nat)
  let earned := if s.rate = 0 then 0 else s.credit + r * ((t - s.t0 : Nat) : Int)
  let c := min ((s.burst * 4294967296 : Nat) : Int) earned
  { s with credit := if rate = 0 then 0 else min ((burst * 4294967296 : Nat) : Int) c, t0 := t, rate := rate, burst := burst }

/-- A queue's shaper refilled in the present tick, under the settings in force (R272, R275). -/
def Dev.qShaperRefill (d : Dev) (die q : Nat) (s : Shaper) : Shaper :=
  s.refill d.trk.tick (d.lf (rSCH_Q_RATE die q) fSCH_Q_RATE_RATE) (d.lf (rSCH_Q_BURST die q) fSCH_Q_BURST_BURST)

/-- Put an admitted copy into its queue (R245, R272). -/
def Dev.enqueue (d : Dev) (die q : Nat) (c : Copy) (res sh tail : Nat) : Dev :=
  let x := d.queue die q
  let sp := if x.copies.isEmpty && x.shaper.wheel.isNone && d.lb (rSCH_Q_CFG die q) fSCH_Q_CFG_SHAPE_EN then
      d.qShaperRefill die q x.shaper else x.shaper
  (d.setQueue die q { x with
    copies := x.copies ++ [c], resUsed := x.resUsed + res, shUsed := x.shUsed + sh, tailCells := x.tailCells + tail,
    spilled := x.spilled || decide (tail ≠ 0), shaper := sp }).queueReport die q

/-- Admit a copy: charge its cells and queue it. -/
def Dev.admitCopy (d : Dev) (r : CopyReq) (v : Nat) (jrn : Bool) (verdict : Verdict) : Dev :=
  let die := r.die
  let cells := cellsOf r.est
  let q := qIdx r.port r.queue
  let ecn := d.lb (rBUF_Q_CFG die q) fBUF_Q_CFG_ECN_EN && d.ecnCapable die r.pkt
  let marks := if ecn && r.own.isNone then maskOf ((d.wredTest die q v).map fun x => decide (x ≠ 0)) else 0
  let c : Copy := {
    pkt := r.pkt, port := r.port, pg := r.pg, queue := r.queue, cells := cells, est := r.est, grant := d.trk.tick,
    marks := marks, jrn := jrn, own := r.own }
  let d0 := ((d.cnt (rBUF_CNT_LO die 0)).pev (18 + die) 0x10).mcCount die r.mc false
  let firstOnDie := ((d.buf die).chain r.pkt.frame).isNone
  let d1 := if firstOnDie && r.own.isNone && r.level.isNone && d.beClass r.pkt.port (mdPri r.pkt.md) && !r.recorded then
      d0.beAdmit die r.est else d0
  let d2 := d1.colWake (d1.column r.port)
  let d3 := if decide ((d2.portSt r.port).idle = false) && d2.b (rPRT_STATUS r.port) fPRT_STATUS_LPI_TX then
      d2.sb (rPRT_STATUS r.port) fPRT_STATUS_LPI_TX false else d2
  match verdict with
  | .refuse _ => d3
  | .level =>
    match r.level with
    | none => d3
    | some g =>
      match d3.levelQueue die g r.port r.pg with
      | none => d3
      | some i =>
        let e := d3.holdChain r [(.level, cells)]
        let rt := e.releaseTime g (e.fr r.pkt.frame).ts
        let c1 := { c with lvl := some { group := g, queue := i, r := if r.pkt.stale then min rt e.nowT else rt } }
        let l := e.lvlCopies i
        let ties := e.lvlTies c1 l
        let b := e.buf die
        let e1 := e.setBuf die { b with levels := kvSet [] i (e.lvlInsert c1 l) b.levels }
        let was := (d3.buf die).charged fun x => decide (x = .level)
        let now := (e1.buf die).charged fun x => decide (x = .level)
        let pool := d.lf (rBUF_LEVEL_POOL die) fBUF_LEVEL_POOL_CELLS
        let e2 := if decide (8 * was ≤ 7 * pool) && decide (7 * pool < 8 * now) then e1.raise eLVL_POOL_HIGH 0xFFFF else e1
        let e3 := if ties.1 = 0 then e2 else e2.cnt (rLVL_CNT_LO die 10) ties.1
        let e4 := if ties.2 = 0 then e3 else e3.cnt (rLVL_CNT_LO die 11) ties.2
        ((e4.cnt (rLVL_CNT_LO die 0)).lvlReport i).bufReport die
  | .spill =>
    let e := d3.holdChain r []
    ((e.enqueue die q { c with spilled := true } 0 0 cells).sb (rBUF_Q_STAT die q) fBUF_Q_STAT_OVER false).bufReport die
  | .take res sh hd =>
    let e := d3.holdChain r [(.reserve q, res), (.shared, sh), (.headroom r.pkt.port, hd)]
    ((e.enqueue die q { c with resUsed := res, shUsed := sh, hdUsed := hd } res sh 0).sb (rBUF_Q_STAT die q)
      fBUF_Q_STAT_OVER false).bufReport die

/-- A copy reaches admission on its egress die (R23 step 7, R245, R343, R467): throttled, dropped under a full journal,
refused or admitted. -/
def Dev.offerCopy (d : Dev) (r : CopyReq) : Dev :=
  let die := r.die
  let be := r.own.isNone && r.level.isNone && d.beClass r.pkt.port (mdPri r.pkt.md) && !r.recorded
  let t := if be then d.nrgTest die r.pkt.frame r.est else (d, true)
  if !t.2 then
    let e := (t.1.cnt (rNRG_CNT_LO 4)).pcnt r.port 23
    { e with nrg := { e.nrg with drops := e.nrg.drops + 1 } }
  else
    let want := r.recorded && t.1.jrnActive
    let full := want && t.1.jrnFullFor die r.level.isSome
    if full && decide (t.1.jrn.policy = 0) then (t.1.jrnLost die 9).jrnJudge die
    else
      let v := t.1.free 65536
      let d1 := t.1.used
      let ver := d1.admitTest r v
      match ver with
      | .refuse code => d1.refuseCopy r code
      | _ =>
        let e := d1.admitCopy r v (want && !full) ver
        if full then (e.jrnLost die 10).jrnJudge die else if want then e.jrnJudge die else e

/-! ### Releasing (R240, R248) -/

/-- Drop one reference to a frame's chain on a die; at none left its cells are free. -/
def Dev.dropRef (d : Dev) (die f : Nat) : Dev :=
  let b := d.buf die
  match b.chain f with
  | none => d
  | some c =>
    let d1 := if c.refs ≤ 1 then (d.setBuf die (b.setChain f none)).pev (18 + die) 0x13 c.cells
      else d.setBuf die (b.setChain f (some { c with refs := c.refs - 1 }))
    (d1.bufReport die).frameGc f

/-- A queue's accounts give back what a departing copy was charged. -/
def Dev.unchargeQueue (d : Dev) (die : Nat) (c : Copy) : Dev :=
  match c.lvl with
  | some _ => d
  | none =>
    let q := qIdx c.port c.queue
    let x := d.queue die q
    (d.setQueue die q { x with resUsed := x.resUsed - c.resUsed, shUsed := x.shUsed - c.shUsed }).queueReport die q

/-- The die whose buffer holds a copy. -/
def Copy.die (c : Copy) : Nat := dieOf c.port

/-- A copy's cells are released: its queue's accounts and its reference (R248). -/
def Dev.releaseCopy (d : Dev) (c : Copy) : Dev := (d.unchargeQueue c.die c).dropRef c.die c.pkt.frame

end Sys2Proof.Machine
end

