-- ==== Sys2Proof/Machine/Own.lean ====
section
/-! DEFINITION. Machine/Own.lean: frames the device makes itself: queued at admission, and Ruley frames (R395, R441). -/
namespace Sys2Proof.Machine

/-- The protection group through which frames for a port are queued, with the port whose queues hold them (R85). -/
def Dev.groupOf (d : Dev) (p : Nat) : Nat × Option Nat :=
  match d.pgOf p with
  | some (g, _) => (d.pgPort0 g, some g)
  | none => (p, none)

/-- A frame that has wholly arrived or been made: its number and the device that holds it. -/
def Dev.newFrame (d : Dev) (port : Nat) (bytes : List Byte) (ts unc : Nat) (buf : Option Nat) : Dev × Nat :=
  let f := d.path.nextFrame
  let fr : Frame := {
    port := port, bytes := bytes ++ fcsBytes bytes, total := bytes.length + 4, last := true, ended := true,
    ts := ts, unc := unc, issued := true, buf := buf }
  (({ d with path := { d.path with nextFrame := f + 1 } }).setFrame f (some fr), f)

/-- Queue a frame of the device's own making for a port (R395, entry 1): bytes without FCS, metadata, pool buffer. In the
safe state no frame is queued (R485). -/
def Dev.sendOwn (d : Dev) (port queue : Nat) (bytes : List Byte) (md : List Byte) (buf : Option Nat) : Dev :=
  if d.b rFLT_STATUS fFLT_STATUS_SAFE then match buf with
    | some a => d.poolGive a
    | none => d
  else
  let g := d.groupOf port
  let n := d.newFrame 0xFFFF bytes d.now (uncAdd d.uDom 4) buf
  let k : Pkt := {
    frame := n.2, die := dieOf port, port := 0xFFFF, col := colOf port, pr := {}, md := md, rw := zeros 32,
    ver := n.1.verCur (dieOf port) }
  (n.1.offerCopy {
    pkt := k, die := dieOf g.1, port := g.1, pg := g.2, queue := queue, est := bytes.length + 4, own := some bytes }).frameGc n.2

/-! ### Ruley frames (R441) -/

/-- Is Ruley enabled on a port: its DOM_PORT_EN bit? -/
def Dev.domPortEn (d : Dev) (p : Nat) : Bool := decide (bits (d.lrn (rDOM_PORT_EN (p / 32))) (p % 32) (p % 32) = 1)

/-- A Ruley frame without FCS (R441): the header fields in order, then the body, padded to the least frame. -/
def Dev.ruleyBytes (d : Dev) (port type flags hops src dst seq part parts : Nat) (body : List Byte) : List Byte :=
  let l := beBytes 6 0x0180C200000E ++ beBytes 6 (d.portMac port) ++ beBytes 2 (d.f rDOM_ETYPE fDOM_ETYPE_ETYPE) ++
    beBytes 1 1 ++ beBytes 1 type ++ beBytes 1 flags ++ beBytes 1 hops ++ beBytes 2 (d.f rDOM_ID fDOM_ID_DOMAIN) ++
    beBytes 2 src ++ beBytes 2 dst ++ beBytes 4 seq ++ beBytes 8 d.trk.tick ++ beBytes 2 body.length ++ beBytes 1 part ++
    beBytes 1 parts ++ body
  l ++ zeros (60 - l.length)

/-- Send one Ruley frame on a port: built in a buffer of pool owner 13, queued in queue 15 (R441). Without a buffer it
is not sent. -/
def Dev.ruleyFrame (d : Dev) (port : Nat) (bytes : List Byte) : Dev :=
  let t := d.poolTake (dieOf port) 13 bytes.length
  match t.2 with
  | none => t.1
  | some a => ((t.1.poolWrite a bytes).cnt (rDOM_CNT_LO 1)).sendOwn port 15 bytes (mdReset port) (some a)

/-- A body cut into parts of 1,024 bytes, at most `n` of them. -/
def bodyParts : Nat → List Byte → List (List Byte)
  | 0, _ => []
  | n + 1, l => if l.length ≤ 1024 then [l] else l.take 1024 :: bodyParts n (l.drop 1024)

/-- Send the parts of a message on a port under one sequence number (R441). -/
def Dev.ruleyParts (d : Dev) (port type flags hops src dst seq : Nat) (body : List Byte) : Dev :=
  let ps := bodyParts 16 body
  d.each (ps.zip (List.range ps.length)) fun e x =>
    e.ruleyFrame port (e.ruleyBytes port type flags hops src dst seq x.2 ps.length x.1)

/-- Send a message of the device on a port under its next sequence number, in up to 16 parts (R441). -/
def Dev.ruleyMsg (d : Dev) (port type flags hops dst : Nat) (body : List Byte) : Dev :=
  ({ d with dom := { d.dom with seq := (d.dom.seq + (bodyParts 16 body).length) % 2 ^ 32 } }).ruleyParts port type flags
    hops d.devNo dst d.dom.seq body

/-- A message to the link partner of a port. -/
def Dev.ruleyLink (d : Dev) (port type : Nat) (body : List Byte) : Dev := d.ruleyMsg port type 0 0 0xFFFF body

/-- Ports with a TWO_WAY adjacency (R444). -/
def Dev.twoWay (d : Dev) : List Nat := (d.dom.adj.filter fun e => decide (e.2.st = 2)).map (·.1)

/-- The port by which a message toward a device leaves (R452): the route table, else the parent; none when the tree
offers no path. -/
def Dev.routeTo (d : Dev) (dst : Nat) : Option Nat :=
  match d.dom.routes.find? fun e => decide (e.1 = dst) with
  | some e => some e.2
  | none => d.dom.parent.map (·.2)

/-- A message goes out on ports as a flood (R453): each frame sent on counts, and DOM_FALLBACK_USED is raised once a
deck. -/
def Dev.floodPorts (d : Dev) (ps : List Nat) (type flags hops src dst seq : Nat) (body : List Byte) : Dev :=
  let n := (bodyParts 16 body).length
  let d1 := d.each ps fun e p => (e.ruleyParts p type flags hops src dst seq body).cnt (rDOM_CNT_LO 6) n
  if decide (0 < ps.length) && decide (d1.dom.fallbackDeck ≠ some d1.deck) then
    ({ d1 with dom := { d1.dom with fallbackDeck := some d1.deck } }).raise eDOM_FALLBACK_USED 0xFFFF
  else d1

/-- Flood a message of the device in-band (R453): on every TWO_WAY adjacency, under one sequence number. -/
def Dev.flood (d : Dev) (type dst : Nat) (body : List Byte) : Dev :=
  let n := d.twoWay.length * (bodyParts 16 body).length
  ({ d with dom := { d.dom with seq := (d.dom.seq + n) % 2 ^ 32 } }).floodPorts d.twoWay type 0x80
    (d.f rDOM_TIMER fDOM_TIMER_FLOOD_HOPS) d.devNo dst d.dom.seq body

/-- Send a message of the device toward another device over the tree (R452), flooding it where the tree offers no path
and FALLBACK_EN is 1 (R453), else dropping it. -/
def Dev.ruleyTo (d : Dev) (type dst : Nat) (body : List Byte) : Dev :=
  match d.routeTo dst with
  | some p => d.ruleyMsg p type 0 0 dst body
  | none =>
    if d.b rDOM_CTRL fDOM_CTRL_FALLBACK_EN then d.flood type dst body
    else d.cnt (rDOM_CNT_LO 7)

end Sys2Proof.Machine
end

