-- ==== Sys2Proof/Machine/Tasks.lean ====
section
/-! DEFINITION. Machine/Tasks.lean: task tables, the dispatcher's operations, and replies to commands (R386 to R411,
R424 to R427). -/
namespace Sys2Proof.Machine

/-! ### Task tables -/

/-- Dispatcher and task table of a core die. -/
def Dev.rckD (d : Dev) (die : Nat) : RckDie := if die = 0 then d.rck.die0 else d.rck.die1

/-- Replace them. -/
def Dev.setRckD (d : Dev) (die : Nat) (x : RckDie) : Dev :=
  if die = 0 then { d with rck := { d.rck with die0 := x } } else { d with rck := { d.rck with die1 := x } }

/-- A task of a table, if the entry is not FREE. -/
def RckDie.task (x : RckDie) (i : Nat) : Option Task := kvGet none x.tasks i

/-- Tasks of a table, by entry. -/
def RckDie.all (x : RckDie) : List (Nat × Task) := x.tasks.filterMap fun e => e.2.map fun t => (e.1, t)

/-- Is a task READY? -/
def Task.isReady (t : Task) : Bool := decide (t.st = .ready)

/-- Does a type number name a user type (R382)? -/
def userType (ty : Nat) : Bool := decide (0x0F00 ≤ ty) && decide (ty ≤ 0x0FFF)

/-- Entry of the entry table (R382). -/
def Dev.entry (d : Dev) (ty : Nat) : Nat := (kvGet 0 d.rck.entries (ty % 4096)).toNat

/-- Is a type's entry VALID? -/
def Dev.entryValid (d : Dev) (ty : Nat) : Bool := decide (bits (d.entry ty) 31 31 = 1)

/-- Reckoners of a die in a KSTATE (R411). -/
def Dev.recksIn (d : Dev) (die st : Nat) : List Nat :=
  ((List.range 64).map fun i => 64 * die + i).filter fun k => decide (d.f (rRCK_K_STATUS k) fRCK_K_STATUS_KSTATE = st)

/-- Refresh RCK_D_TASKS, RCK_D_RECK, OPEN_BUSY, and raise TABLE_LOW when fewer than 2,048 entries are free (R406). -/
def Dev.rckReport (d : Dev) (die : Nat) : Dev :=
  let x := d.rckD die
  let l := x.all
  let held := ((List.range 64).filter fun i => d.b (rRCK_K_TASK (64 * die + i)) fRCK_K_TASK_VALID).length
  let d1 := (d.sf (rRCK_D_TASKS die) fRCK_D_TASKS_READY ((l.filter fun e => e.2.isReady).length)).sf (rRCK_D_TASKS die)
    fRCK_D_TASKS_IN_USE l.length
  let d2 := ((d1.sf (rRCK_D_RECK die) fRCK_D_RECK_WAITING (d.recksIn die 0).length).sf (rRCK_D_RECK die)
    fRCK_D_RECK_RUNNING held).sf (rRCK_D_RECK die) fRCK_D_RECK_RETIRED (d.recksIn die 3).length
  let user := [0, 1].any fun c => (d.rckD c).all.any fun e => userType e.2.type
  let d3 := d2.sb rRCK_STATUS fRCK_STATUS_OPEN_BUSY user
  let low := decide (16384 - l.length < 2048)
  if low && !x.low then (d3.setRckD die { x with low := true }).raiseD eRCK_TABLE_LOW die 0xFFFF
  else if !low && x.low then d3.setRckD die { x with low := false }
  else d3

/-- A dispatch trace record, when TRACE_MODE asks for one (R409, R410). The cycle within the tick is a free value. -/
def Dev.trace (d : Dev) (die ev k i : Nat) (t : Task) (status : Nat) : Dev :=
  let m := d.f rRCK_CTRL fRCK_CTRL_TRACE_MODE
  if m = 2 || (m = 1 && t.trace) then
    let wr := d.rn (rRCK_D_TRACE_WR die)
    let size := 2 ^ d.f rRCK_TRACE_CFG fRCK_TRACE_CFG_RING_LOG2
    let x := d.rckD die
    if size ≤ (wr + 2 ^ 32 - d.rn (rRCK_D_TRACE_RD die)) % 2 ^ 32 then
      (((d.setRckD die { x with full := true }).cnt (rRCK_D_CNT_LO die 11)).when (!x.full) fun e =>
        e.raiseD eRCK_TRACE_FULL die 0xFFFF)
    else
      let e := beBytes 8 d.trk.tick ++ beBytes 1 (d.free 16 * 16 + ev) ++ beBytes 1 (die * 128 + k % 64) ++ beBytes 2 i ++
        beBytes 2 t.type ++ beBytes 1 t.gen ++ beBytes 1 (t.reissued.toNat * 128 + t.committed.toNat * 64) ++
        beBytes 8 t.deadline ++ beBytes 2 (min 65535 (d.f (rRCK_D_TASKS die) fRCK_D_TASKS_READY)) ++
        beBytes 1 (d.f (rRCK_D_RECK die) fRCK_D_RECK_WAITING) ++ zeros 1 ++ beBytes 2 status ++ zeros 2
      ((d.setRckD die { x with trace := kvSet [] (wr % size) e x.trace, full := false }).wn (rRCK_D_TRACE_WR die)
        ((wr + 1) % 2 ^ 32)).used
  else d

/-- Default deadline of a type in ticks, and default budget (R408). A user type has none: a free value. -/
def Dev.typeDefaults (d : Dev) (ty : Nat) : Nat × Nat :=
  if ty < 0x40 then (d.f (rRCK_TYPE_CFG ty) fRCK_TYPE_CFG_DEADLINE, d.f (rRCK_TYPE_CFG ty) fRCK_TYPE_CFG_BUDGET)
  else if ty < 0x0D00 then (d.f rRCK_CMD_CFG fRCK_CMD_CFG_DEADLINE, d.f rRCK_CMD_CFG fRCK_CMD_CFG_BUDGET)
  else (1 + d.freeAt 1 65535, 1 + d.freeAt 2 65535)

/-- Is a type committed, by R408? -/
def Dev.typeCommitted (d : Dev) (ty : Nat) : Bool := decide (ty < 0x40) && d.b (rRCK_TYPE_CFG ty) fRCK_TYPE_CFG_COMMITTED

/-- The task word of R387 and R393. -/
def taskWord (die i : Nat) (t : Task) : Nat :=
  t.type * 2 ^ 48 + t.reissued.toNat * 2 ^ 47 + t.gen * 2 ^ 32 + die * 2 ^ 31 + i

/-- The first entry not in use at or after `n`, round the table: which free entry a new task takes is a free value. -/
def freeEntry (used : List Nat) : Nat → Nat → Nat
  | 0, n => n % 16384
  | fuel + 1, n => if used.contains (n % 16384) then freeEntry used fuel (n + 1) else n % 16384

/-- What a task is created with. -/
structure NewTask where
  type : Nat
  ops : List Nat := [0, 0, 0, 0]
  present : Nat := 15
  required : Nat := 0
  /-- Deadline tick and budget in ticks; 0: the type's default. -/
  deadline : Nat := 0
  budget : Nat := 0
  requester : Nat := 0xFFFF
  committed : Bool := false
  trace : Bool := false
  cmd : Option CmdCtx := none
deriving DecidableEq, Repr

/-- May a task be created (R406)? -/
def Dev.taskRoom (d : Dev) (die : Nat) (committed : Bool) : Bool :=
  let free := 16384 - (d.rckD die).all.length
  if committed then decide (0 < free) else decide (d.f (rRCK_D_RESV die) fRCK_D_RESV_ENTRIES < free)

/-- Create a task (R393, R403, R406): its entry, or none when the reserve refuses it. -/
def Dev.taskCreate (d : Dev) (die : Nat) (n : NewTask) : Dev × Option Nat :=
  let df := d.typeDefaults n.type
  let x := d.rckD die
  let i := freeEntry (x.all.map (·.1)) 16384 (d.free 16384)
  let t : Task := {
    type := n.type, gen := kvGet 0 x.gens i, required := n.required, present := n.present, ops := n.ops,
    deadline := if n.deadline = 0 then d.trk.tick + df.1 else n.deadline,
    budget := if n.budget = 0 then df.2 else n.budget, requester := n.requester, committed := n.committed,
    trace := n.trace, st := if Nat.land n.required n.present = n.required then .ready else .waiting, cmd := n.cmd }
  if d.taskRoom die n.committed then
    (((((d.used 3).setRckD die { x with tasks := kvSet none i (some t) x.tasks }).rckReport die).pev (20 + die) 0x14), some i)
  else
    (((d.used 3).cnt (rRCK_D_CNT_LO die 7)).trace die 8 0 0xFFFF t 0, none)

/-- A producer in hardware raises a task; it holds its request while the reserve refuses (R406). -/
def Dev.taskRaise (d : Dev) (die ty : Nat) (ops : List Nat) (requester : Nat := 0xFFFF) : Dev :=
  let r := d.taskCreate die {
    type := ty, ops := (ops ++ [0, 0, 0, 0]).take 4, requester := requester, committed := d.typeCommitted ty,
    deadline := if ty = 1 then d.trk.tick + 100 * d.f (rFLW_LEARN_CFG die) fFLW_LEARN_CFG_DEADLINE else 0 }
  match r.2 with
  | some _ => r.1
  | none =>
    let x := r.1.rckD die
    r.1.setRckD die { x with held := x.held ++ [{ type := ty, ops := ops, requester := requester }] }

/-- Producers try their held requests again, oldest first (R406). -/
def Dev.taskRetry (d : Dev) (die : Nat) : Dev :=
  let x := d.rckD die
  match x.held with
  | [] => d
  | h :: l =>
    if d.taskRoom die (d.typeCommitted h.type) then
      let d1 := d.setRckD die { x with held := l }
      if h.cmd.isSome then
        (d1.taskCreate die { type := h.type, ops := (h.ops ++ [0, 0, 0, 0]).take 4, cmd := h.cmd, deadline := h.deadline }).1
      else d1.taskRaise die h.type h.ops h.requester
    else d

/-- Free an entry: its generation advances (R394). -/
def Dev.taskFree (d : Dev) (die i : Nat) : Dev :=
  let x := d.rckD die
  ((d.setRckD die { x with
    tasks := kvSet none i none x.tasks, gens := kvSet 0 i ((kvGet 0 x.gens i + 1) % 256) x.gens }).rckReport die).taskRetry die

/-- Replace a task. -/
def Dev.setTask (d : Dev) (die i : Nat) (t : Task) : Dev :=
  let x := d.rckD die
  (d.setRckD die { x with tasks := kvSet none i (some t) x.tasks }).rckReport die

/-- A vendor task of a type has done its whole work: the first such entry ends and is free, and its reckoner waits in
GET again (R390). -/
def Dev.taskDone (d : Dev) (die ty : Nat) : Dev :=
  match (d.rckD die).all.find? fun e => decide (e.2.type = ty) && e.2.cmd.isNone with
  | none => d
  | some (i, t) =>
    let d1 := match t.st with
      | .running k => ((d.sb (rRCK_K_TASK k) fRCK_K_TASK_VALID false).sf (rRCK_K_STATUS k) fRCK_K_STATUS_KSTATE 0)
      | _ => d
    ((d1.cnt (rRCK_D_CNT_LO die 1)).taskFree die i).trace die 3 0 i t 0

/-! ### Reckoners -/

/-- What a reckoner keeps beside its registers. -/
def Dev.reck (d : Dev) (k : Nat) : Reck := kvGet {} d.rck.recks k

/-- Replace it. -/
def Dev.setReck (d : Dev) (k : Nat) (x : Reck) : Dev := { d with rck := { d.rck with recks := kvSet {} k x d.rck.recks } }

/-- KSTATE of a reckoner. -/
def Dev.kState (d : Dev) (k : Nat) : Nat := d.f (rRCK_K_STATUS k) fRCK_K_STATUS_KSTATE

/-- Set it. -/
def Dev.setKState (d : Dev) (k st : Nat) : Dev := d.sf (rRCK_K_STATUS k) fRCK_K_STATUS_KSTATE st

/-- The task a reckoner holds: its entry. -/
def Dev.kTask (d : Dev) (k : Nat) : Option (Nat × Task) :=
  if d.b (rRCK_K_TASK k) fRCK_K_TASK_VALID then
    let i := d.f (rRCK_K_TASK k) fRCK_K_TASK_INDEX
    ((d.rckD (k / 64)).task i).map fun t => (i, t)
  else none

/-- A reckoner is started again (R381): RCK_IDLE_PC, registers cleared, no tags; its scratch stays. -/
def Dev.kRestart (d : Dev) (k : Nat) : Dev :=
  let x := d.reck k
  (((d.setReck k { ({} : Reck) with scratch := x.scratch }).sf (rRCK_K_STATUS k) fRCK_K_STATUS_PC
    (d.rn rRCK_IDLE_PC)).setKState k 4).wn (rRCK_K_TASK k) 0

/-! ### Replies (R424 to R427, R430) -/

/-- Opcodes accepted in the safe state (R487). -/
def safeOpcodes : List Nat := [0x0100, 0x0101, 0x0102, 0x0108, 0x0700, 0x0701, 0x0702, 0x0901, 0x0B00, 0x0601]

/-- Status codes of R427. -/
def stOk : Nat := 0
/-- BAD_OPCODE. -/
def stBadOpcode : Nat := 1
/-- BAD_PARAM. -/
def stBadParam : Nat := 2
/-- BAD_LENGTH. -/
def stBadLength : Nat := 3
/-- NO_ROOM. -/
def stNoRoom : Nat := 4
/-- BUSY. -/
def stBusy : Nat := 5
/-- DENIED. -/
def stDenied : Nat := 6
/-- TIMEOUT. -/
def stTimeout : Nat := 7
/-- PARTIAL. -/
def stPartial : Nat := 8
/-- NOT_READY. -/
def stNotReady : Nat := 9
/-- LATE. -/
def stLate : Nat := 10

/-- A reply record (R426). -/
def replyRec (tag status len flags ring tick : Nat) (result : List Byte) : List Byte :=
  beBytes 2 tag ++ beBytes 2 status ++ beBytes 2 len ++ beBytes 1 flags ++ beBytes 1 ring ++ beBytes 8 tick ++ result

/-- Write a reply into the next slot of a ring's reply ring (R424, R426); `flags` has STAGED in bit 6, REPLACED in bit 5.
A disabled ring's reply is discarded (R415). -/
def Dev.replyRing (d : Dev) (r tag : Nat) (noReply : Bool) (status flags tick : Nat) (result : List Byte) : Dev :=
  let cfg := rDMA_CR_CFG r
  if !d.b cfg fDMA_CR_CFG_EN then d
  else if noReply && decide (status = 0) &&
      decide (result.length ≤ 2 ^ d.f cfg fDMA_CR_CFG_SLOT_LOG2 - 16) then d.cnt (rDMA_CNT_LO 2)
  else
    let size := 2 ^ d.f cfg fDMA_CR_CFG_SIZE_LOG2
    let slot := 2 ^ d.f cfg fDMA_CR_CFG_SLOT_LOG2
    let wr := d.rn (rDMA_RR_WR r)
    let room := slot - 16
    let cut := decide (room < result.length)
    let phase := if wr / size % 2 = 0 then 128 else 0
    let bs := replyRec tag (if cut then stPartial else status) result.length (phase + flags) r tick (result.take room)
    let base := d.rdPair (rDMA_RR_BASE_LO r) (rDMA_RR_BASE_HI r)
    let d1 := { d with out := { d.out with hostMem := memWrite d.out.hostMem (base + slot * (wr % size)) bs } }
    ((d1.wn (rDMA_RR_WR r) ((wr + 1) % 2 ^ 32)).cnt (rDMA_CNT_LO 1)).irqTry (64 + r)

/-- Complete a tag of a reckoner. -/
def Dev.tagDone (d : Dev) (k tag : Nat) : Dev :=
  let x := d.reck k
  d.setReck k { x with tags := x.tags.filter fun t => decide (t.1 ≠ tag) }

/-- Send a command's reply to where it belongs. A reply to a reckoner is placed in its packet, at an offset the spec does
not give: a free value below 16,384. -/
def Dev.replyTo (d : Dev) (src : CmdSrc) (tag : Nat) (noReply : Bool) (status flags tick : Nat) (result : List Byte) : Dev :=
  match src with
  | .ring r => d.replyRing r tag noReply status flags tick result
  | .relay dev token =>
    if noReply && decide (status = 0) then d
    else d.ruleyTo 0x09 dev (beBytes 6 token ++ zeros 2 ++ replyRec tag status result.length flags (token / 2 ^ 40) tick result)
  | .reckoner k t addr =>
    ((d.used.poolWrite (addr + d.free 16384) (replyRec tag status result.length flags 0 tick result))).tagDone k t

/-- A command of a ring is complete: it is no longer outstanding (R424). -/
def Dev.cmdOut (d : Dev) (src : CmdSrc) (pos : Nat) : Dev :=
  match src with
  | .ring r =>
    let x := kvGet ({} : RingSt) d.host.rings r
    let out := x.out.filter fun e => decide (e.1 ≠ pos)
    let d1 := { d with host := { d.host with rings := kvSet {} r { x with out := out } d.host.rings } }
    (d1.sf (rDMA_CR_STATUS r) fDMA_CR_STATUS_OUT out.length).sf rDMA_STATUS fDMA_STATUS_OUTSTANDING
      (d.f rDMA_STATUS fDMA_STATUS_OUTSTANDING - (x.out.length - out.length))
  | _ => d

/-- Send the reply of a command context, unless its ring has been reset since (R415). -/
def Dev.ctxReply (d : Dev) (c : CmdCtx) (status flags tick : Nat) (result : List Byte) : Dev :=
  if c.dead then d else d.replyTo c.src c.tag (decide (bits c.flags 4 4 = 1)) status flags tick result

/-- The command task of a command: die, entry and task. -/
def Dev.cmdTask (d : Dev) (src : CmdSrc) (tag opcode : Nat) : Option (Nat × Nat × Task) :=
  let on (die : Nat) : Option (Nat × Nat × Task) :=
    ((d.rckD die).all.find? fun e => match e.2.cmd with
      | none => false
      | some c => decide (c.src = src) && decide (c.tag = tag) && decide (c.opcode = opcode)).map fun e => (die, e.1, e.2)
  match on 0 with
  | some x => some x
  | none => on 1

/-- A command's buffer of owner 8 goes back once its reply is written (R437). -/
def Dev.cmdBuf (d : Dev) (c : CmdCtx) : Dev :=
  match c.buf with
  | some a => d.poolReturn 8 a
  | none => d

/-- A command task ends (R390, R424): reply unless its first run has replied, outstanding count, buffer, entry. -/
def Dev.cmdEnd (d : Dev) (die i : Nat) (t : Task) (c : CmdCtx) (status flags : Nat) (result : List Byte) : Dev :=
  let d1 := if t.replied then d.cnt (rRCK_D_CNT_LO die 10) else d.ctxReply c status flags d.trk.tick result
  let d2 := match t.st with
    | .running k => ((d1.sb (rRCK_K_TASK k) fRCK_K_TASK_VALID false).setKState k 0)
    | _ => d1
  ((((d2.cmdBuf c).cmdOut c.src c.pos).cnt (rRCK_D_CNT_LO die 1)).taskFree die i).trace die 3 0 i t status

/-- A command opcode completes: its task ends with the reply, or, where no task of it is in a table, its reply alone is
sent. -/
def Dev.reply (d : Dev) (h : CmdHdr) (opcode status flags : Nat) (result : List Byte) : Dev :=
  match d.cmdTask h.src h.tag opcode with
  | some (die, i, t) =>
    match t.cmd with
    | some c => d.cmdEnd die i t c status flags result
    | none => d
  | none => d.replyTo h.src h.tag h.noReply status flags d.trk.tick result

/-- A reply of a status alone. -/
def Dev.replySt (d : Dev) (h : CmdHdr) (opcode status : Nat) : Dev := d.reply h opcode status 0 []

/-- A host command's effect: in the safe state a command outside R487's list completes with NOT_READY. -/
def onCmd (s : State) (h : CmdHdr) (opcode : Nat) (f : Dev → Dev) : Host.Outcome State Fault Refusal :=
  onDev s fun d =>
    if d.b rFLT_STATUS fFLT_STATUS_SAFE && !safeOpcodes.contains opcode then d.replySt h opcode stNotReady else f d

/-- A later reply of an operation that answers when it ends (an engine operation, a chain of moves): to a command named
by its source, tag and opcode. -/
def Dev.replyLater (d : Dev) (src : CmdSrc) (tag opcode status flags : Nat) (result : List Byte) : Dev :=
  d.reply { src := src, tag := tag } opcode status flags result

/-! ### Ends of tasks (R390, R405) -/

/-- Discard a task (R405): counted, told, its requester receives TIMEOUT. -/
def Dev.taskDiscard (d : Dev) (die i k : Nat) (t : Task) : Dev :=
  let d1 := ((d.cnt (rRCK_D_CNT_LO die 5)).raiseD eRCK_DISCARD die 0xFFFF)
  let d2 := match t.cmd with
    | some c =>
      let e := if t.replied then d1 else d1.ctxReply c stTimeout 0 d1.trk.tick []
      (e.cmdBuf c).cmdOut c.src c.pos
    | none => d1
  (d2.taskFree die i).trace die 5 k i t stTimeout

/-- An operand arrives for a task (R394): discarded as stale or duplicate, or stored; a waiting task may become ready,
and a parked one that waits for it does. -/
def Dev.operand (d : Dev) (tag v : Nat) : Dev :=
  let die := bits tag 31 31
  let gen := bits tag 30 23
  let i := bits tag 22 9
  let s := bits tag 1 0
  match (d.rckD die).task i with
  | none => d.cnt (rRCK_D_CNT_LO die 8)
  | some t =>
    if t.gen ≠ gen then d.cnt (rRCK_D_CNT_LO die 8)
    else if bits t.present s s = 1 then d.cnt (rRCK_D_CNT_LO die 9)
    else
      let t1 := { t with ops := setAt t.ops s (v % 2 ^ 64), present := putBits t.present s s 1 }
      let st := match t1.st with
        | .waiting => if Nat.land t1.required t1.present = t1.required then TaskSt.ready else .waiting
        | .parked c => if c = .operand s then .ready else .parked c
        | st => st
      (d.setTask die i { t1 with st := st }).pev (20 + die) 0x15

end Sys2Proof.Machine
end

