-- ==== Sys2Proof/Machine/Energy.lean ====
section
/-! DEFINITION. Machine/Energy.lean: the energy ledger and its planner (R459 to R472). -/
namespace Sys2Proof.Machine

/-! ### Closing a rod (R459, R460, R469, R471) -/

/-- The budget of a rod (R461): that of its plan; before the first plan, ten times the limit. -/
def Dev.rodBudget (d : Dev) (pl : Plan) : Nat :=
  if pl.made then pl.budget else 10 * d.lf rNRG_LIMIT fNRG_LIMIT_WATTS

/-- The byte of a throttle level (R471): a level of 256 does not fit it, and then the spec gives it no value: a free value
(log entry 81). -/
def Dev.levelByte (d : Dev) (level : Nat) : Nat := if level < 256 then level else d.free 256

/-- The 128 bytes of a ledger entry (R471): the closed rod's measures `e`, the plan applied to it. -/
def Dev.nrgEntry (d : Dev) (rod : Nat) (e : RodEnergy) (pl : Plan) (beyond : Bool) (be drops : Nat) : List Byte :=
  let acc := (List.range 16).map (e.accounts.getD · 0)
  let flags := pl.pressure.toNat + 2 * pl.late.toNat + 4 * d.f rNRG_STATUS fNRG_STATUS_XCHK_BAD + 8 * beyond.toNat +
    16 * pl.limitChg.toNat + 32 * (!d.nrg.gated.isEmpty).toNat
  beBytes 8 rod ++ beBytes 4 (d.rodBudget pl) ++ beBytes 4 acc.sum ++ beBytes 4 ((List.range 7).map (e.sensors.getD · 0)).sum ++
  beBytes 4 pl.total ++ (List.range 4).flatMap (fun i => beBytes 4 (e.classes.getD i 0)) ++ beBytes 2 flags ++
  beBytes 1 (d.levelByte pl.level) ++ beBytes 1 (d.lf rNRG_CTRL fNRG_CTRL_THR_MODE) ++ beBytes 4 be ++ acc.flatMap (beBytes 4) ++
  beBytes 4 ((pl.grants.take 5).map (·.2)).sum ++ beBytes 4 ((pl.grants.drop 5).map (·.2)).sum ++
  beBytes 4 (min (2 ^ 32 - 1) drops) ++ zeros 4

/-- An entry goes to the ledger ring, unless that is full (R472). -/
def Dev.nrgRing (d : Dev) (bs : List Byte) : Dev :=
  let wr := d.rn rNRG_RING_WR
  let size := 2 ^ d.lf rNRG_RING fNRG_RING_RING_LOG2
  if size ≤ (wr + 2 ^ 32 - d.rn rNRG_RING_RD) % 2 ^ 32 then d
  else ({ d with nrg := { d.nrg with ring := kvSet [] (wr % size) bs d.nrg.ring } }).wn rNRG_RING_WR ((wr + 1) % 2 ^ 32)

/-- The comparison of the sensors with the accounts over the closed rod (R460). -/
def Dev.nrgCheck (d : Dev) (sensor estim : Nat) : Dev :=
  let tol := d.lf rNRG_XCHK fNRG_XCHK_TOL_PCT
  let rods := d.lf rNRG_XCHK fNRG_XCHK_RODS
  let bad := decide (max sensor estim * tol < (max sensor estim - min sensor estim) * 100)
  let was := d.b rNRG_STATUS fNRG_STATUS_XCHK_BAD
  let d1 := { d with nrg := { d.nrg with
    sensor := sensor, estim := estim, xchkBad := if bad then d.nrg.xchkBad + 1 else 0
    xchkGood := if bad then 0 else d.nrg.xchkGood + 1 } }
  let d2 := if !was && decide (rods ≤ d1.nrg.xchkBad) then
      ((d1.sb rNRG_STATUS fNRG_STATUS_XCHK_BAD true).raise eNRG_XCHK 0xFFFF).classA 0
    else if was && decide (rods ≤ d1.nrg.xchkGood) then d1.sb rNRG_STATUS fNRG_STATUS_XCHK_BAD false
    else d1
  d2.when (d2.b rNRG_STATUS fNRG_STATUS_XCHK_BAD) fun x => x.cnt (rNRG_CNT_LO 6)

/-- The ledger's registers of the rod just ended (R471). -/
def Dev.nrgRegs (d : Dev) (e : RodEnergy) (rod : Nat) : Dev :=
  ((((d.wrPair rNRG_ROD_LO rNRG_ROD_HI rod).each (List.range 16) fun x i => x.wn (rNRG_ACCT i) (e.accounts.getD i 0)).each
    (List.range 4) fun x i => x.wn (rNRG_CLASS i) (e.classes.getD i 0)).each (List.range 7) fun x i =>
    x.wn (rNRG_SENSOR i) (e.sensors.getD i 0))

/-- What the ledger keeps of the rod just ended: its entry, its measures, and the counts that begin again (R463, R469). -/
def Dev.nrgKeep (d : Dev) (bs : List Byte) (m : RodMeas) (run : Nat) : Dev :=
  { d.used with nrg := { d.nrg with
    entries := (bs :: d.nrg.entries).take 1000, hist := (m :: d.nrg.hist).take 64
    overRun := run, be0 := 0, be1 := 0, lastBe0 := d.nrg.be0, lastBe1 := d.nrg.be1, met := [], drops := 0
    idle := (List.range 16).foldl (fun l c =>
      kvSet 0 c (if d.nrg.issued.contains c then 0 else kvGet 0 l c + 1) l) d.nrg.idle
    issued := [] } }

/-- The ledger closes the rod just ended (R463, R469, R471, R472). -/
def Dev.nrgClose (d : Dev) (e : RodEnergy) : Dev :=
  let rod := d.rod - 1
  let pl := d.nrg.plan
  let total := ((List.range 16).map (e.accounts.getD · 0)).sum
  let be := d.nrg.be0 + d.nrg.be1
  let beyond := decide (d.rodBudget pl < total)
  let d1 := d.nrgCheck ((List.range 7).map (e.sensors.getD · 0)).sum total
  let d3 := (d1.sb rNRG_STATUS fNRG_STATUS_OVER beyond).nrgRegs e rod
  let bs := d3.nrgEntry rod e pl beyond be d.nrg.drops
  let run := if beyond then d.nrg.overRun + 1 else 0
  let d4 := d3.nrgKeep bs (RodMeas.mk (e.classes.getD 0 0) e.best (e.classes.getD 3 0) be) run
  let d5 := (d4.nrgRing bs).when beyond fun x => x.cnt (rNRG_CNT_LO 2)
  d5.when (decide (run = d.lf rNRG_EVT_CFG fNRG_EVT_CFG_OVER_RODS)) fun x => x.raise eNRG_OVER 0xFFFF

/-! ### The plan (R463, R464, R466, R469) -/

/-- Forecast of a quantity (R463): the larger of the last closed rod's measure and the mean over the forecast window. -/
def Dev.forecast (d : Dev) (f : RodMeas → Nat) : Nat :=
  let l := (d.nrg.hist.take (d.lf rNRG_PLAN fNRG_PLAN_FORECAST_RODS)).map f
  let x := max (l.headD 0) (l.sum / max 1 l.length)
  if d.b rNRG_STATUS fNRG_STATUS_XCHK_BAD && decide (d.nrg.estim < d.nrg.sensor) && decide (0 < d.nrg.estim) then
    x * d.nrg.sensor / d.nrg.estim
  else x

/-- Grants in order: each minimum, then the spare up to the demand; what is left. -/
def grantAll : Nat → List (Nat × Nat) → List (Nat × Nat)
  | _, [] => []
  | spare, (dem, mn) :: l =>
    let x := min spare (dem - mn)
    (dem, mn + x) :: grantAll (spare - x) l

/-- The throttle level of R466: ⌈256 × (1 − allowance ÷ be_bytes)⌉; without best-effort bytes the spec gives none: a free
value. -/
def Dev.nrgLevel (d : Dev) (allowance be : Nat) : Nat :=
  if be = 0 then d.free 257 else min 256 ((256 * (be - allowance) + be - 1) / be)

/-- The planner's decision for the next rod (R464, R469). Division by a best-effort energy of 0 is a free value. -/
def Dev.nrgPlan (d : Dev) (demand : List Nat) : Dev :=
  let dem := (List.range 12).map (demand.getD · 0)
  let watts := d.lf rNRG_LIMIT fNRG_LIMIT_WATTS
  let b := watts * 10
  let m := 100 + d.lf rNRG_CTRL fNRG_CTRL_MARGIN_PCT
  let c := d.forecast (·.committed) * m / 100
  let cbe := d.forecast (·.be) * m / 100
  let s := d.forecast (·.shed)
  let mins := (List.range 12).map fun i =>
    dem.getD i 0 * (if i < 5 then d.lf rNRG_PLAN fNRG_PLAN_EMIN_PCT else d.lf rNRG_PLAN fNRG_PLAN_DMIN_PCT) / 100
  let floor := c + s + mins.sum
  let last := d.nrg.hist.headD { committed := 0, be := 0, shed := 0, beBytes := 0 }
  let room := b - (c - cbe) - s - mins.sum
  let allowance := if last.beBytes = 0 then 0 else if last.be = 0 then d.freeAt 1 (2 ^ 32) else room * last.beBytes / last.be
  let on := d.lb rNRG_CTRL fNRG_CTRL_EN
  let hot := decide (b < floor)
  let fits := if hot then 0 else d.nrg.fits + 1
  let pressure := on && (hot || (d.nrg.plan.pressure && decide (fits < d.lf rNRG_PLAN fNRG_PLAN_RELEASE_RODS)))
  let grants := if !on then dem.map fun x => (x, x) else if hot then dem.zip mins else grantAll (b - floor) (dem.zip mins)
  let pl : Plan := {
    budget := b, pressure := pressure, allowance := allowance,
    level := if pressure then d.nrgLevel allowance last.beBytes else 0, grants := grants,
    total := if on && hot && decide (d.lf rNRG_CTRL fNRG_CTRL_THR_MODE ≠ 0) then c - cbe + room + s + mins.sum else c + s + (grants.map (·.2)).sum, watts := watts,
    limitChg := d.nrg.plan.made && decide (d.nrg.plan.watts ≠ watts), made := true }
  { d.used 2 with nrg := { d.nrg with next := some pl, fits := fits } }

/-- ENERGY_PLAN_TASK (R463, R464). -/
def execEnergyPlanTask (demand : List Nat) (s : State) : Host.Outcome State Fault Refusal :=
  onLive s fun d => (d.nrgPlan demand).taskDone 0 0x30

/-- The plan of the ending rod is applied again (R49, R51, R463). -/
def Dev.nrgReuse (d : Dev) : Dev :=
  if d.nrg.next.isSome || !d.nrg.due then d
  else (({ d with nrg := { d.nrg with next := some { d.nrg.plan with late := true, limitChg := false } } }).late 6).cnt
    (rNRG_CNT_LO 3)

/-- PLAN_LATE (R49, R51): at a rod boundary the next plan is not complete. -/
def execPlanLate (s : State) : Host.Outcome State Fault Refusal :=
  onLive s fun d => if d.trk.rodDue then d.nrgReuse else d

/-- Units of an activity in a rod (R465): its grant divided by the unit energy; none: no limit. -/
def Plan.unitsOf (p : Plan) (i : Nat) : Option Nat :=
  if p.made then some ((p.grants.getD i (0, 0)).2 / Config.unitEnergy i) else none

/-- Energy XOFF of the rod (R468): one for the best-effort priorities of each port, while pressure is 1. -/
def Dev.nrgXoff (d : Dev) : Dev :=
  let t := d.nrg.plan.level
  d.each (List.range 512) fun e p =>
    let m := e.lf (rPRT_CFG p) fPRT_CFG_FC_MODE
    let be := e.lf (rNRG_BE p) fNRG_BE_PRI
    let mask := if m = 2 then be else if m = 1 then be % 2 else 0
    let rate := modeGbps (e.portSt p).mode
    let quanta := (t * 10000 * rate + 256 * 512 - 1) / (256 * 512)
    if mask = 0 ∨ !e.isUp p ∨ rate = 0 then e
    else
      let until_ := e.trk.tick + quantaTicks (e.portSt p).mode quanta
      let qs := (List.range 8).filter fun q => decide (bits mask q q = 1)
      let e1 := { e with nrg := { e.nrg with
        xoff := e.nrg.xoff.filter (fun (x : Nat × Nat × Nat) => decide (x.1 ≠ p)) ++ qs.map fun q => (p, q, until_) } }
      (e1.sendFcMask p mask quanta).cnt (rNRG_CNT_LO 5)

/-- The plan of the rod that begins is applied (R463 to R469), and its planning task raised. -/
def Dev.nrgApply (d : Dev) : Dev :=
  let d0 := d.nrgReuse
  let pl := d0.nrg.next.getD d0.nrg.plan
  let was := d0.nrg.plan.pressure
  let on := d0.lb rNRG_CTRL fNRG_CTRL_EN
  let mode := d0.lf rNRG_CTRL fNRG_CTRL_THR_MODE
  let l0 := d0.nrg.lastBe0
  let l1 := d0.nrg.lastBe1
  let drop := pl.pressure && decide (mode = 2)
  let d1 := { d0 with nrg := { d0.nrg with
    plan := pl, next := none, due := true
    share0 := if drop then some (pl.allowance * l0 / max 1 (l0 + l1)) else none
    share1 := if drop then some (pl.allowance * l1 / max 1 (l0 + l1)) else none
    units := if on then (List.range 12).foldl (fun m i => kvSet none i (pl.unitsOf i) m) [] else []
    xoff := d0.nrg.xoff.filter fun (x : Nat × Nat × Nat) => decide (d0.trk.tick < x.2.2) } }
  let d2 := (d1.sb rNRG_STATUS fNRG_STATUS_THROTTLING pl.pressure).sf rNRG_STATUS fNRG_STATUS_LEVEL pl.level
  let d3 := if pl.pressure && !was then d2.raise eNRG_THROTTLE_ON 0xFFFF
    else if was && !pl.pressure then d2.raise eNRG_THROTTLE_OFF 0xFFFF else d2
  let d4 := d3.when pl.limitChg fun x => x.raise eNRG_LIMIT_CHANGE 0xFFFF
  let d5 := (d4.when (pl.made && !pl.late) fun x => x.cnt (rNRG_CNT_LO 0)).when pl.pressure fun x => x.cnt (rNRG_CNT_LO 1)
  (d5.when (pl.pressure && decide (mode = 1)) Dev.nrgXoff).taskRaise 0 0x30 []

/-! ### Gating, the limit and the ledger's reading (R461, R470, R472) -/

/-- COLUMN_GATE (R470). -/
def execColumnGate (col : Fin 16) (s : State) : Host.Outcome State Fault Refusal :=
  onLive s fun d =>
    let limit := if d.nrg.plan.pressure then 1 else d.lf rNRG_GATE fNRG_GATE_IDLE_RODS
    if d.lb rNRG_CTRL fNRG_CTRL_GATE_EN && !d.nrg.gated.contains col.val && decide (limit ≤ kvGet 0 d.nrg.idle col) then
      ({ d with nrg := { d.nrg with gated := col.val :: d.nrg.gated } }).cnt (rNRG_CNT_LO 7)
    else d

/-- Is a power limit in range (R461)? -/
def wattsOk (w : Nat) : Bool := decide (300 ≤ w) && decide (w ≤ 950)

/-- A write of NRG_LIMIT (R461): a value out of range is ignored and counts as a class A fault. -/
def Dev.limitWrite (d : Dev) (v : Nat) : Dev :=
  let w := bits v 9 0
  if wattsOk w then d.sf rNRG_LIMIT fNRG_LIMIT_WATTS w else d.classA 0

/-- NRG_LIMIT_REG_WRITE. -/
def execNrgLimitRegWrite (value : BitVec 32) (s : State) : Host.Outcome State Fault Refusal :=
  onDev s fun d => d.limitWrite value.toNat

/-- NRG_LIMIT (0x0A00). -/
def execNrgLimit (h : CmdHdr) (watts : BitVec 16) (s : State) : Host.Outcome State Fault Refusal :=
  onCmd s h 0x0A00 fun d =>
    if wattsOk watts.toNat then (d.sf rNRG_LIMIT fNRG_LIMIT_WATTS watts.toNat).replySt h 0x0A00 stOk
    else d.replySt h 0x0A00 stBadParam

/-- NRG_READ (0x0A01): the latest entries, newest first, or for 0 the plan in force with its measures 0. -/
def execNrgRead (h : CmdHdr) (rods : BitVec 16) (s : State) : Host.Outcome State Fault Refusal :=
  onCmd s h 0x0A01 fun d =>
    let n := rods.toNat
    if 1000 < n then d.replySt h 0x0A01 stBadParam
    else if n = 0 then d.used.reply h 0x0A01 stOk 0 (d.nrgEntry d.rod {} d.nrg.plan false 0 0)
    else d.reply h 0x0A01 stOk 0 (d.nrg.entries.take n).flatten

end Sys2Proof.Machine
end

