-- ==== Sys2Proof/Machine/JrnOps.lean ====
section
/-! DEFINITION. Machine/JrnOps.lean: the journal's rings, runs, deck sums and domain sums (R339 to R359). -/
namespace Sys2Proof.Machine

/-- Records of a die that lie in its ring: JRN_WR. -/
def Dev.jrnWr (d : Dev) (die : Nat) : Nat := d.rdPair (rJRN_WR_LO die) (rJRN_WR_HI die)

/-- Records drained: JRN_RD. -/
def Dev.jrnRd (d : Dev) (die : Nat) : Nat := d.rdPair (rJRN_RD_LO die) (rJRN_RD_HI die)

/-- Entries of a die's ring: none until the partition is committed (R341, R362). -/
def Dev.jrnSize (d : Dev) (die : Nat) : Nat := if d.committed then d.rn (rJRN_SIZE die) else 0

/-- Store staged records, `n` of them at most, in the ring in sequence order (R340, R341). -/
def Dev.jrnStore (d : Dev) (die n : Nat) : Dev :=
  let x := d.jrn.die die
  let out := x.staging.take n
  let wr := d.jrnWr die
  let size := d.jrnSize die
  let ring := if size = 0 then x.ring
    else (out.zip (List.range out.length)).foldl (fun m e => kvSet [] ((wr + e.2) % size) e.1 m) x.ring
  let d1 := { d with jrn := d.jrn.setDie die { x with staging := x.staging.drop n, ring := ring } }
  ((d1.wrPair (rJRN_WR_LO die) (rJRN_WR_HI die) (wr + out.length)).cnt (rJRN_CNT_LO die 0) out.length)

/-- JRN_STATUS.SUM_FULL follows the sum ring and the child ring (R354, R358, R359). -/
def Dev.sumFull (d : Dev) : Bool :=
  decide (d.rn rJRN_SUM_SIZE ≤ (d.rn rJRN_SUM_WR + 2 ^ 32 - d.rn rJRN_SUM_RD) % 2 ^ 32) ||
  decide (d.rn rJRN_CHILD_SIZE ≤ (d.rn rJRN_CHILD_WR + 2 ^ 32 - d.rn rJRN_CHILD_RD) % 2 ^ 32)

/-- Refresh it; becoming full raises JRN_SUM_FULL. -/
def Dev.sumJudge (d : Dev) : Dev :=
  let f := d.committed && d.sumFull
  if f && !d.b rJRN_STATUS fJRN_STATUS_SUM_FULL then (d.sb rJRN_STATUS fJRN_STATUS_SUM_FULL true).raise eJRN_SUM_FULL 0xFFFF
  else if !f then d.sb rJRN_STATUS fJRN_STATUS_SUM_FULL false else d

/-- Store a child entry (R358). -/
def Dev.childPut (d : Dev) (deck dev status : Nat) (c : List Byte) : Dev :=
  let size := d.rn rJRN_CHILD_SIZE
  if size = 0 then d
  else
    let wr := d.rn rJRN_CHILD_WR
    let e := beBytes 8 deck ++ beBytes 2 dev ++ beBytes 1 status ++ zeros 5 ++ (c ++ zeros 32).take 32 ++ zeros 16
    ({ d with jrn := { d.jrn with childs := kvSet [] (wr % size) e d.jrn.childs } }.wn rJRN_CHILD_WR ((wr + 1) % 2 ^ 32)).sumJudge

/-- One pass of R351's pairing over a level of hashes. -/
def merkleLevel : List (List Byte) → List (List Byte)
  | a :: b :: l => sha256 ([1] ++ a ++ b) :: merkleLevel l
  | l => l

/-- The root over a level of hashes: 32 zero bytes over none (R351). -/
def merkleUp : Nat → List (List Byte) → List Byte
  | _, [] => zeros 32
  | _, [a] => a
  | 0, a :: _ => a
  | fuel + 1, l => merkleUp fuel (merkleLevel l)

/-- The root over a die's records of a deck (R351). -/
def merkleRoot (recs : List (List Byte)) : List Byte := merkleUp recs.length (recs.map fun r => sha256 ([0] ++ r))

/-- Genesis value of a run (R349). -/
def Dev.genesis (d : Dev) (deck : Nat) : List Byte :=
  sha256 ([5] ++ beBytes 2 d.devNo ++ beBytes 6 deck ++ sha256 d.cert)

/-- S(D) (R352). -/
def deckSum (prev : List Byte) (c : ClosedSet) : List Byte :=
  sha256 ([2] ++ prev ++ beBytes 6 c.deck ++ beBytes 4 c.recs0.length ++ c.root0.getD (zeros 32) ++
    beBytes 4 c.recs1.length ++ c.root1.getD (zeros 32))

/-- C(D) (R357): an absent child counts with its status and 32 zero bytes. -/
def domainSum (dev : Nat) (c : ClosedSet) : List Byte :=
  let kids := sortBy (·.1) c.children
  sha256 ([3] ++ beBytes 2 dev ++ beBytes 6 c.deck ++ c.sum.getD (zeros 32) ++ beBytes 1 kids.length ++
    kids.flatMap fun k => beBytes 2 k.1 ++ beBytes 1 k.2.1 ++ (if k.2.1 = 0 then k.2.2 else zeros 32))

/-- Last deck at whose end a set's child sums are due, at a depth (R357). -/
def Dev.sumDeadline (d : Dev) (deck depth : Nat) : Nat :=
  deck + 1 + d.lf rJRN_DOM_CFG fJRN_DOM_CFG_WAIT_DECKS * (6 - depth)

/-- Ruley depth for deadlines: the depth while last joined. -/
def Dev.sumDepth (d : Dev) : Nat :=
  if d.f rDOM_STATUS fDOM_STATUS_DEPTH = 0xFF then d.dom.oldDepth else d.f rDOM_STATUS fDOM_STATUS_DEPTH

/-- Send or hold a domain sum for the Ruley parent (R356, R454). -/
def Dev.sumUp (d : Dev) (deck flags : Nat) (c : List Byte) : Dev :=
  let st := d.f rDOM_STATUS fDOM_STATUS_STATE
  let body := beBytes 6 deck ++ beBytes 2 flags ++ c
  if !d.lb rJRN_DOM_CFG fJRN_DOM_CFG_EN then d
  else match d.dom.parent with
    | some (dev, p) => if st = 3 then d.ruleyMsg p 0x0A 0 0 dev body else d
    | none => if st = 1 ∨ st = 2 then { d with dom := { d.dom with heldSums := d.dom.heldSums ++ [(deck, body)] } } else d

/-- Store the sum entry of a set whose children are all settled (R353, R354, R357). -/
def Dev.sumStore (d : Dev) (c : ClosedSet) : Dev :=
  let absent := c.children.any fun k => decide (1 ≤ k.2.1) && decide (k.2.1 ≤ 3)
  let every := d.f rJRN_CTRL fJRN_CTRL_SIGN_DECKS
  let due := (decide (every ≠ 0) && decide ((c.deck + 1) % every = 0)) || decide (bits c.flags 8 8 = 1) ||
    decide (bits c.flags 1 1 = 1)
  let sign := due && !d.jrn.signBroken
  let flags := Nat.lor (Nat.lor (c.flags + (if sign then 1 else 0)) (if absent then 0x10 else 0))
    (if d.jrn.signBroken then 8 else 0)
  let sum := c.sum.getD (zeros 32)
  let dom := domainSum d.devNo c
  let sg := if sign then
      beBytes 64 (Config.sign ([4] ++ beBytes 2 d.devNo ++ beBytes 6 c.deck ++ sum ++ dom ++ beBytes 2 flags) d.fresh).toNat
    else zeros 64
  let e := beBytes 8 c.deck ++ beBytes 2 flags ++ beBytes 1 c.children.length ++ zeros 5 ++ beBytes 8 c.first0 ++
    beBytes 8 c.first1 ++ beBytes 4 c.recs0.length ++ beBytes 4 c.recs1.length ++ zeros 8 ++ c.root0.getD (zeros 32) ++
    c.root1.getD (zeros 32) ++ sum ++ dom ++ sg ++ zeros 16
  let size := d.rn rJRN_SUM_SIZE
  let wr := d.rn rJRN_SUM_WR
  let d1 := if size = 0 then d
    else ({ d with jrn := { d.jrn with sums := kvSet [] (wr % size) e d.jrn.sums } }.wn rJRN_SUM_WR ((wr + 1) % 2 ^ 32)).sumJudge
  let d2 := d1.each (sortBy (·.1) c.children) fun x k => x.childPut c.deck k.1 k.2.1 (if k.2.1 = 0 then k.2.2 else [])
  let d3 := if absent then d2.raise eJRN_CHILD_ABSENT 0xFFFF else d2
  let d4 := if sign then
      (({ d3 with jrn := { d3.jrn with signed := e } }.used).wrPair rJRN_SIGNED_LO rJRN_SIGNED_HI c.deck).raise eJRN_SEALED
        0xFFFF
    else d3
  let d5 := d4.sumUp c.deck flags dom
  if bits c.flags 8 8 = 1 then
    { d5 with jrn := { d5.jrn with last := false } }.sf rJRN_STATUS fJRN_STATUS_STATE 0
  else d5

/-- Is there room for a set's entries in the sum and child rings (R354, R358)? -/
def Dev.sumRoom (d : Dev) (c : ClosedSet) : Bool :=
  let used := (d.rn rJRN_SUM_WR + 2 ^ 32 - d.rn rJRN_SUM_RD) % 2 ^ 32
  let cu := (d.rn rJRN_CHILD_WR + 2 ^ 32 - d.rn rJRN_CHILD_RD) % 2 ^ 32
  (decide (d.rn rJRN_SUM_SIZE = 0) || decide (used < d.rn rJRN_SUM_SIZE)) &&
  (decide (d.rn rJRN_CHILD_SIZE = 0) || decide (cu + c.children.length ≤ d.rn rJRN_CHILD_SIZE))

/-- Store the oldest sets that are complete, in deck order (R354, R357): `n` at most. -/
def Dev.jrnFinish (d : Dev) : Nat → Dev
  | 0 => d
  | n + 1 =>
    match d.jrn.closed with
    | [] => d
    | c :: l =>
      if c.sum.isSome && c.waiting.isEmpty && d.sumRoom c then
        ({ d with jrn := { d.jrn with closed := l } }.sumStore c).jrnFinish n
      else d

/-- A change to the closed sets of a deck. -/
def Dev.setClosed (d : Dev) (deck : Nat) (g : ClosedSet → ClosedSet) : Dev :=
  { d with jrn := { d.jrn with closed := d.jrn.closed.map fun c => if c.deck = deck then g c else c } }

/-- What is known of a child of a set: it is no longer waited for. -/
def ClosedSet_settle (c : ClosedSet) (dev status : Nat) (sum : List Byte) : ClosedSet :=
  if c.waiting.contains dev then
    { c with waiting := c.waiting.filter (· ≠ dev), children := c.children ++ [(dev, status, sum)] }
  else c

/-- A child's adjacency is lost before its sums arrived (R357: NO_LINK). -/
def Dev.jrnNoLink (d : Dev) (dev : Nat) : Dev :=
  let d1 := { d with jrn := { d.jrn with closed := d.jrn.closed.map fun c => ClosedSet_settle c dev 1 [] } }
  d1.jrnFinish d1.jrn.closed.length

/-- A child's sum arrives (R357). -/
def Dev.jrnChildSum (d : Dev) (dev deck : Nat) (sum : List Byte) : Dev :=
  let isChild := d.dom.children.any fun c => decide (c.1 = dev)
  match d.jrn.closed.find? fun c => decide (c.deck = deck) with
  | some c =>
    if c.waiting.contains dev then
      let d1 := d.setClosed deck fun x => ClosedSet_settle x dev 0 sum
      d1.jrnFinish d1.jrn.closed.length
    else if c.children.any fun k => decide (k.1 = dev) && (decide (k.2.1 = 1) || decide (k.2.1 = 2)) then
      d.childPut deck dev 4 sum
    else if c.children.any fun k => decide (k.1 = dev) then d
    else d.childPut deck dev 5 sum
  | none =>
    let known := d.jrn.childs.find? fun e => decide (beAt e.2 0 8 = deck) && decide (beAt e.2 8 2 = dev)
    match known with
    | some e => if eb e.2 10 = 1 ∨ eb e.2 10 = 2 then d.childPut deck dev 4 sum else d
    | none =>
      if isChild && decide (d.jrn.openDeck ≤ deck) && d.jrnActive then
        { d with jrn := { d.jrn with early := d.jrn.early ++ [(deck, dev, sum)] } }
      else d.childPut deck dev 5 sum

/-- Close the open set (R350, R351): its child set is the children of now, and its roots are asked for. -/
def Dev.jrnClose (d : Dev) (flags : Nat) : Dev :=
  let j := d.jrn
  let first (die : Nat) : Nat := if (j.die die).openSet.isEmpty then d.jrnSeq die else (j.die die).firstSeq
  let kids := (d.dom.children.map (·.1)).eraseDups
  let here := j.early.filter fun e => decide (e.1 = j.openDeck)
  let c0 : ClosedSet := {
    deck := j.openDeck, flags := Nat.lor j.flags flags, first0 := first 0, first1 := first 1,
    recs0 := j.die0.openSet, recs1 := j.die1.openSet, waiting := kids }
  let c1 := here.foldl (fun c e => ClosedSet_settle c e.2.1 0 e.2.2) c0
  let d1 := { d with jrn := { j with
      die0 := { j.die0 with openSet := [] }, die1 := { j.die1 with openSet := [] }, closed := j.closed ++ [c1], flags := 0,
      early := j.early.filter fun e => decide (j.openDeck < e.1) } }
  (d1.taskRaise 0 0x18 [j.openDeck]).taskRaise 1 0x18 [j.openDeck]

/-- A run ends on a die that has lost events: the GAP mark that counts them (R343). -/
def Dev.gapMark (d : Dev) (die : Nat) : Dev :=
  let x := d.jrn.die die
  if x.gap = 0 then d
  else
    let e := { d with jrn := d.jrn.setDie die { x with gap := 0, gapStamp := 0 } }.jrnMark die 5 0xFFFF (min x.gap 0xFFFFFFFF)
      (beBytes 12 x.gapStamp)
    { e with jrn := { e.jrn with flags := putBits e.jrn.flags 6 6 1 } }

/-- A run starts (R349): counts and rings begin again, RUN_START is each die's record 0. -/
def Dev.jrnStart (d : Dev) : Dev :=
  let deck := d.deck
  let j := d.jrn
  let fresh : JrnDie := {}
  let d1 := { d with jrn := { j with
      die0 := { fresh with ring := j.die0.ring }, die1 := { fresh with ring := j.die1.ring }, openDeck := deck, flags := 0x20,
      closed := [], prev := d.genesis deck, last := false, draining := [], early := [] } }
  let d2 := d1.each [0, 1] fun e die =>
    (e.wrPair (rJRN_WR_LO die) (rJRN_WR_HI die) 0).wrPair (rJRN_RD_LO die) (rJRN_RD_HI die) 0
  let d3 := (d2.wrPair rJRN_RUN_DECK_LO rJRN_RUN_DECK_HI deck).sf rJRN_STATUS fJRN_STATUS_STATE 2
  d3.each [0, 1] fun e die => e.jrnMark die 7 0xFFFF 0xFFFFFFFF ((sha256 d.cert).take 16)

/-- Journal actions of a deck boundary (R348 to R351, R359). -/
def Dev.jrnDeck (d : Dev) : Dev :=
  let d0 := { d with jrn := { d.jrn with
      policy := d.f rJRN_CTRL fJRN_CTRL_POLICY, unlockAct := d.b rJRN_CTRL fJRN_CTRL_UNLOCK_ACT } }
  let d1 := match d0.jrn.portNext with
    | none => d0
    | some (p, recs, a) =>
      ({ d0 with jrn := { d0.jrn with portAddr := a, portNext := none } }.sf rJRN_PORT_CFG fJRN_PORT_CFG_PORT p).sf
        rJRN_PORT_CFG fJRN_PORT_CFG_RECS recs
  let d2 := { d1 with dom := { d1.dom with
      heldSums := d1.dom.heldSums.filter fun h => decide (d1.deck ≤ d1.sumDeadline h.1 d1.dom.oldDepth) } }
  let st := d2.f rJRN_STATUS fJRN_STATUS_STATE
  let en := d2.b rJRN_CTRL fJRN_CTRL_EN
  let d3 := if st = 2 && decide (d2.jrn.openDeck < d2.deck) then
      let e := (d2.when (!en) fun x => (x.gapMark 0).gapMark 1).jrnClose (if en then 0 else 0x100)
      let e1 := { e with jrn := { e.jrn with openDeck := d2.deck, last := !en } }
      if en then e1 else e1.sf rJRN_STATUS fJRN_STATUS_STATE 3
    else if st = 0 && en then d2.sf rJRN_STATUS fJRN_STATUS_STATE 1
    else if st = 1 && !d2.b rJRN_STATUS fJRN_STATUS_KEY_MISMATCH &&
        (d2.locked || d2.b rJRN_CTRL fJRN_CTRL_UNLOCKED_OK) then d2.jrnStart
    else d2
  let d4 := d3.jrnFinish d3.jrn.closed.length
  ((d4.jrnJudge 0).jrnJudge 1).jrnMarking

/-- A write of JRN_CTRL (R348, R359). -/
def Dev.jrnCtrlWrite (d : Dev) (v : Nat) : Dev :=
  let st := d.f rJRN_STATUS fJRN_STATUS_STATE
  let a := rJRN_CTRL
  let d1 := (((d.sf a fJRN_CTRL_EN (bits v 31 31)).sf a fJRN_CTRL_UNLOCKED_OK (bits v 30 30)).sf a fJRN_CTRL_UNLOCK_ACT
    (bits v 27 27)).sf a fJRN_CTRL_SIGN_DECKS (bits v 15 0)
  let d2 := if bits v 29 28 < 2 then d1.sf a fJRN_CTRL_POLICY (bits v 29 28) else d1
  let d3 := if st = 0 ∧ bits v 26 25 < 3 then d2.sf a fJRN_CTRL_DRAIN (bits v 26 25) else d2
  let dl := bits v 24 16
  let d4 := if st = 0 ∧ 64 ≤ dl ∧ dl ≤ 256 then d3.sf a fJRN_CTRL_DIGEST_LEN dl else d3
  if st = 0 && decide (bits v 31 31 = 1) then d4.sf rJRN_STATUS fJRN_STATUS_STATE 1
  else if st = 1 && decide (bits v 31 31 = 0) then d4.sf rJRN_STATUS fJRN_STATUS_STATE 0
  else d4

/-- A host write of JRN_RD (R344): under DRAIN 0 only; beyond JRN_WR or behind its value a class A fault. -/
def Dev.jrnRdWrite (d : Dev) (die v : Nat) : Dev :=
  if d.f rJRN_CTRL fJRN_CTRL_DRAIN ≠ 0 then d
  else if d.jrnWr die < v ∨ v < d.jrnRd die then d.classA die
  else (d.wrPair (rJRN_RD_LO die) (rJRN_RD_HI die) v).jrnJudge die

/-- Records of a die's ring from a count. -/
def Dev.jrnRecs (d : Dev) (die from_ n : Nat) : List (List Byte) :=
  (List.range n).map fun i => kvGet [] (d.jrn.die die).ring ((from_ + i) % max 1 (d.jrnSize die))

/-- A journal frame's last byte has been transmitted (R344): the drained count advances. -/
def Dev.jrnFrameSent (d : Dev) (f : Nat) : Dev :=
  match d.jrn.draining.find? fun e => decide (e.1 = f) with
  | none => d
  | some (_, die, first, n) =>
    let d1 := { d with jrn := { d.jrn with draining := d.jrn.draining.filter fun e => decide (e.1 ≠ f) } }
    if d1.jrnRd die = first then (d1.wrPair (rJRN_RD_LO die) (rJRN_RD_HI die) (first + n)).jrnJudge die else d1

/-- The partial deck is closed, summed, signed and stored as a fault seal (R355). -/
def Dev.jrnSeal (d : Dev) (cls code : Nat) : Dev :=
  let d1 := if d.f rJRN_STATUS fJRN_STATUS_STATE = 2 then
      (d.each [0, 1] fun e die => e.markPut die 8 cls code).jrnClose 0x102
    else { d with jrn := { d.jrn with closed := match d.jrn.closed.reverse with
        | [] => []
        | c :: l => ({ c with flags := Nat.lor c.flags 0x102 } :: l).reverse } }
  let d2 := d1.each [0, 1] fun e die => e.jrnStore die (e.jrn.die die).staging.length
  let form (p : List Byte × List ClosedSet) (c : ClosedSet) : List Byte × List ClosedSet :=
    let c1 := { c with root0 := some (c.root0.getD (merkleRoot c.recs0)), root1 := some (c.root1.getD (merkleRoot c.recs1)) }
    match c1.sum with
    | some _ => (p.1, p.2 ++ [c1])
    | none => let s := deckSum p.1 c1; (s, p.2 ++ [{ c1 with sum := some s }])
  let r := d2.jrn.closed.foldl form (d2.jrn.prev, [])
  let late (c : ClosedSet) : ClosedSet := c.waiting.foldl (fun x k => ClosedSet_settle x k 2 []) c
  let d3 := { d2 with jrn := { d2.jrn with prev := r.1, closed := r.2.map late } }
  d3.jrnFinish d3.jrn.closed.length

end Sys2Proof.Machine
end

