-- ==== Sys2Proof/Machine/Recog.lean ====
section
/-! DEFINITION. Machine/Recog.lean: frames the port dies recognise by fixed rules: PTP (R316, R320) and Ruley (R441).
The PTP, IP and VLAN field places are those of the published formats (PRESUMED, log entry 5). -/
namespace Sys2Proof.Machine

/-- Offset of the EtherType after at most `n` VLAN tags. -/
def etypeAt (bs : List Byte) : Nat → Nat → Nat
  | 0, o => o
  | n + 1, o => if beAt bs o 2 = 0x8100 ∨ beAt bs o 2 = 0x88A8 then etypeAt bs n (o + 4) else o

/-- The PTP header of a recognised frame (R316): its offset, and the layer below it: 0 Ethernet, 4 or 6 the IP version. -/
def ptpAt (bs : List Byte) : Option (Nat × Nat) :=
  let o := etypeAt bs 2 12
  let et := beAt bs o 2
  let port (u : Nat) : Bool := decide (beAt bs (u + 2) 2 = 319) || decide (beAt bs (u + 2) 2 = 320)
  if et = 0x88F7 then some (o + 2, 0)
  else if et = 0x0800 ∧ eb bs (o + 2) = 0x45 ∧ eb bs (o + 11) = 17 ∧ port (o + 22) then some (o + 30, 4)
  else if et = 0x86DD ∧ eb bs (o + 8) = 17 ∧ port (o + 42) then some (o + 50, 6)
  else none

/-- Is a received frame one for the time queue (R316)? -/
def Dev.isPtp (d : Dev) (p : Nat) (bs : List Byte) : Bool :=
  match ptpAt bs with
  | none => false
  | some (o, _) =>
    decide (d.f (rTIM_PORT_STATE p) fTIM_PORT_STATE_PSTATE ≠ 0) &&
    decide (eb bs (o + 4) = d.lf rTIM_CTRL fTIM_CTRL_PTP_DOMAIN)

/-- Is a received frame a Ruley frame (R441)? -/
def Dev.isRuley (d : Dev) (p : Nat) (bs : List Byte) : Bool :=
  d.domPortEn p && decide (beAt bs 0 6 = 0x0180C200000E) && decide (beAt bs 12 2 = d.f rDOM_ETYPE fDOM_ETYPE_ETYPE)

/-- May the first bytes of a frame still turn out to name a PTP or Ruley frame? It is parsed only once they cannot. -/
def Dev.consumed (d : Dev) (p : Nat) (bs : List Byte) : Bool := d.isPtp p bs || d.isRuley p bs

/-- A PTP frame enters the time queue of its die, and a TIME task is raised for it (R316). -/
def Dev.timQueue (d : Dev) (p : Nat) (bs : List Byte) (ts unc : Nat) : Dev :=
  let die := dieOf p
  let q := if die = 0 then d.tim.q0 else d.tim.q1
  if 1024 ≤ q.length then d.cnt (rTIM_CNT_LO 10)
  else
    let l := q ++ [{ port := p, bytes := bs, ts := ts, unc := unc }]
    ({ d with tim := if die = 0 then { d.tim with q0 := l } else { d.tim with q1 := l } }).taskRaise die 0x10 [p]

/-- The domain queue of a die, oldest first. -/
def Dev.domQ (d : Dev) (die : Nat) : List DomFrame := if die = 0 then d.dom.q0 else d.dom.q1

/-- Replace it. -/
def Dev.setDomQ (d : Dev) (die : Nat) (l : List DomFrame) : Dev :=
  { d with dom := if die = 0 then { d.dom with q0 := l } else { d.dom with q1 := l } }

/-- Frames of a queue that carry parts of the message of a frame: same source device and sequence (R441). -/
def partsOf (q : List DomFrame) (bs : List Byte) : List DomFrame :=
  q.filter fun f => decide (beAt f.bytes 20 2 = beAt bs 20 2) && decide (beAt f.bytes 24 4 = beAt bs 24 4)

/-- Have all parts of a frame's message arrived? -/
def msgWhole (q : List DomFrame) (bs : List Byte) : Bool :=
  (List.range (max 1 (eb bs 39))).all fun i => (partsOf q bs).any fun f => decide (eb f.bytes 38 = i)

/-- A Ruley message (R441). -/
structure DomMsg where
  port : Nat
  type : Nat
  flags : Nat
  src : Nat
  dst : Nat
  seq : Nat
  /-- Tick at which it was built. -/
  tick : Nat
  body : List Byte
deriving DecidableEq, Repr

/-- The oldest whole message of a type in a die's domain queue, and the device without its frames: the DOMAIN task that
handles it ends (R441). -/
def Dev.domTake (d : Dev) (die type : Nat) : Option (DomMsg × Dev) :=
  let q := d.domQ die
  match q.find? fun f => decide (eb f.bytes 15 = type) && msgWhole q f.bytes with
  | none => none
  | some f =>
    let ps := partsOf q f.bytes
    let n := max 1 (eb f.bytes 39)
    let body := (List.range n).flatMap fun i => match ps.find? fun g => decide (eb g.bytes 38 = i) with
      | some g => bytesAt g.bytes 40 (beAt g.bytes 36 2)
      | none => []
    let m : DomMsg := {
      port := f.port, type := type, flags := eb f.bytes 16, src := beAt f.bytes 20 2, dst := beAt f.bytes 22 2,
      seq := beAt f.bytes 24 4, tick := beAt f.bytes 28 8, body := body }
    some (m, (d.setDomQ die (q.filter fun g => !(ps.contains g))).taskDone die 0x28)

/-- Take the oldest message of a type that a port received out of its die's queue. -/
def Dev.domDrop (d : Dev) (p type : Nat) : Dev :=
  let q := d.domQ (dieOf p)
  match q.find? fun f => decide (f.port = p) && decide (eb f.bytes 15 = type) with
  | none => d
  | some f => (d.setDomQ (dieOf p) (q.erase f)).taskDone (dieOf p) 0x28

/-- A flooded frame for another device (R453): a frame seen is dropped; else it is remembered and sent on with one hop
fewer, unless none is left. -/
def Dev.floodOn (d : Dev) (p : Nat) (bs : List Byte) : Dev :=
  let key := (beAt bs 20 2, beAt bs 24 4, eb bs 38)
  let held := d.dom.floods.filter fun x => decide (d.deck < x.2.2.2 + 10)
  if held.any fun x => decide (x.1 = key.1) && decide (x.2.1 = key.2.1) && decide (x.2.2.1 = key.2.2) then d
  else
    let d1 := { d with dom := { d.dom with
      floods := (held ++ [(key.1, key.2.1, key.2.2, d.deck)]).drop (held.length + 1 - 1024) } }
    let hops := eb bs 17 - 1
    if hops = 0 then d1
    else
      let ps := d1.twoWay.filter (· ≠ p)
      let d2 := d1.each ps fun e q =>
        (e.ruleyFrame q (putAt (putAt bs 17 (beBytes 1 hops)) 6 (beBytes 6 (e.portMac q)))).cnt (rDOM_CNT_LO 6)
      if decide (0 < ps.length) && decide (d2.dom.fallbackDeck ≠ some d2.deck) then
        ({ d2 with dom := { d2.dom with fallbackDeck := some d2.deck } }).raise eDOM_FALLBACK_USED 0xFFFF
      else d2

/-- A received Ruley frame (R441, R442, R453): checked; a flooded frame for another device is sent on; any other enters
the domain queue of its die, and its message raises a DOMAIN task once whole. -/
def Dev.domQueue (d : Dev) (p : Nat) (bs : List Byte) : Dev :=
  let die := dieOf p
  let q := d.domQ die
  let d1 := d.cnt (rDOM_CNT_LO 0)
  let x := kvGet ({} : AdjSt) d.dom.adj p
  if 1024 ≤ q.length then d1.cnt (rDOM_CNT_LO 9)
  else if decide (eb bs 14 ≠ 1) || decide (beAt bs 18 2 ≠ d.f rDOM_ID fDOM_ID_DOMAIN) || decide (eb bs 15 = 0) ||
      decide (0x0F < eb bs 15) then d1.cnt (rDOM_CNT_LO 10)
  else
    let d2 := { d1 with dom := { d1.dom with adj := kvSet {} p { x with lastRod := d.rod } d1.dom.adj } }
    if ebit bs 16 7 && decide (beAt bs 22 2 ≠ d.devNo) then d2.floodOn p bs
    else
      let l := q ++ [{ port := p, bytes := bs, tick := d.trk.tick }]
      let d3 := d2.setDomQ die l
      if msgWhole l bs then d3.taskRaise die 0x28 [p] else d3

/-- Add to the correctionField of a PTP header, modulo 2^64. -/
def ptpAdd (bs : List Byte) (o : Nat) (x : Int) : List Byte :=
  putAt bs (o + 8) (beBytes 8 (wrapBits 64 ((beAt bs (o + 8) 8 : Int) + x)))

/-- The UDP checksum of a changed PTP message (R319): 0 over IPv4; over IPv6 the two trailing bytes make it hold. -/
def ptpCsum (bs : List Byte) (o ver : Nat) : List Byte :=
  if ver = 4 then putAt bs (o - 2) (beBytes 2 0)
  else if ver = 6 then
    let len := beAt bs (o - 4) 2
    let t := o - 8 + len - 2
    let b0 := putAt bs t (zeros 2)
    let sum := onesSum 0 (bytesAt b0 (o - 40) 32 ++ beBytes 4 len ++ beBytes 4 17 ++ bytesAt b0 (o - 8) len)
    putAt bs t (beBytes 2 (0xFFFF - sum % 65536))
  else bs

/-- The residence correction of a forwarded one-step event message on a transparent-clock port (R320): the frame bytes,
and whether a two-step event message has passed unchanged. -/
def ptpResidence (bs : List Byte) (residence : Int) : List Byte × Bool :=
  match ptpAt bs with
  | none => (bs, false)
  | some (o, ver) =>
    let event := decide (eb bs o % 16 < 4) && (decide (ver = 0) || decide (beAt bs (o - 6) 2 = 319))
    if event then
      if ebit bs (o + 6) 1 then (bs, true) else (ptpCsum (ptpAdd bs o residence) o ver, false)
    else (bs, false)

end Sys2Proof.Machine
end

