-- ==== Sys2Proof/Machine/Sched.lean ====
section
/-! DEFINITION. Machine/Sched.lean: the scheduler: shapers and wheels, deficit round robin, egress stages of a copy,
level departures (R266 to R301). -/
namespace Sys2Proof.Machine

/-! ### Shapers and wheels (R272 to R276) -/

/-- Rate of a shaper in 2^-32 bytes a tick. -/
def rateOf (kbps : Nat) : Nat := (kbps * 536870912 + 50000) / 100000

/-- Eligible time of a shaper whose credit is 0 or below after a charge in tick `t` (R273). -/
def Shaper.eligible (s : Shaper) (t : Nat) : Nat := t + (-s.credit).toNat / rateOf s.rate + 1

/-- Place a shaper on the wheel of its eligible time, unless it is closed (R273, R276). -/
def Shaper.place (s : Shaper) (t : Nat) : Shaper :=
  if 0 < s.credit || decide (s.rate = 0) then { s with wheel := none }
  else
    let e := s.eligible t
    { s with wheel := some (e, decide (4096 ≤ e - t)) }

/-- A charge of `n` bytes, the refill made (R272, R273). -/
def Shaper.charge (s : Shaper) (t n : Nat) : Shaper := { s with credit := s.credit - n * 4294967296 }.place t

/-- The port shaper of a port. -/
def Dev.portShaper (d : Dev) (p : Nat) : Shaper := kvGet {} (d.buf (dieOf p)).portShapers (p % 256)

/-- Replace it. -/
def Dev.setPortShaper (d : Dev) (p : Nat) (s : Shaper) : Dev :=
  let b := d.buf (dieOf p)
  d.setBuf (dieOf p) { b with portShapers := kvSet {} (p % 256) s b.portShapers }

/-- A port shaper refilled under the settings in force. -/
def Dev.pShaperRefill (d : Dev) (p : Nat) (s : Shaper) : Shaper :=
  s.refill d.trk.tick (d.lf (rSCH_PORT_RATE (dieOf p) (p % 256)) fSCH_PORT_RATE_RATE)
    (d.lf (rSCH_PORT_BURST (dieOf p) (p % 256)) fSCH_PORT_BURST_BURST)

/-- Count a new wheel entry by its wheel. -/
def Dev.wheelCnt (d : Dev) (die : Nat) (s : Shaper) : Dev :=
  match s.wheel with
  | none => d
  | some (_, coarse) => d.cnt (rSCH_CNT_LO die (if coarse then 4 else 3))

/-- Report a queue's scheduler state in SCH_Q_STATE. -/
def Dev.schReport (d : Dev) (die q : Nat) : Dev :=
  let x := d.queue die q
  let a := rSCH_Q_STATE die q
  (((d.sb a fSCH_Q_STATE_ON_WHEEL x.shaper.wheel.isSome).sb a fSCH_Q_STATE_COARSE (x.shaper.wheel.any (·.2))).sb a
    fSCH_Q_STATE_CREDIT_POS (0 < x.shaper.credit)).sf a fSCH_Q_STATE_DEFICIT (min x.deficit.toNat (2 ^ 25 - 1))

/-- Is a queue's shaper in use, and a port's (R276)? -/
def Dev.shaped (d : Dev) (die q : Nat) : Bool := d.lb (rSCH_Q_CFG die q) fSCH_Q_CFG_SHAPE_EN

/-- Is a port's shaper in use? -/
def Dev.portShaped (d : Dev) (p : Nat) : Bool := d.lb (rSCH_PORT_RATE (dieOf p) (p % 256)) fSCH_PORT_RATE_SHAPE_EN

/-- Does a queue's shaper allow a start (R268, R276)? -/
def Dev.queueCredit (d : Dev) (die q : Nat) : Bool :=
  !d.shaped die q ||
  (decide (d.lf (rSCH_Q_RATE die q) fSCH_Q_RATE_RATE ≠ 0) && (d.queue die q).shaper.wheel.isNone &&
    decide (0 < (d.queue die q).shaper.credit))

/-- Does a port's shaper allow a start of class 3 or 4? -/
def Dev.portCredit (d : Dev) (p : Nat) : Bool :=
  !d.portShaped p ||
  (decide (d.lf (rSCH_PORT_RATE (dieOf p) (p % 256)) fSCH_PORT_RATE_RATE ≠ 0) && (d.portShaper p).wheel.isNone &&
    decide (0 < (d.portShaper p).credit))

/-- A wheel refill of a queue's shaper (R273): eligible again, or placed anew. -/
def Dev.wheelRefillQ (d : Dev) (die q : Nat) : Dev :=
  let x := d.queue die q
  let s := (d.qShaperRefill die q x.shaper).place d.trk.tick
  (((d.setQueue die q { x with shaper := s }).wheelCnt die s).schReport die q).pev (18 + die) 0x16

/-- A wheel refill of a port's shaper. -/
def Dev.wheelRefillP (d : Dev) (p : Nat) : Dev :=
  let s := (d.pShaperRefill p (d.portShaper p)).place d.trk.tick
  ((d.setPortShaper p s).wheelCnt (dieOf p) s).pev (18 + dieOf p) 0x16

/-- Shapers of a die due on the fine wheel by tick `t`: queues by index, ports by 4,096 + port mod 256, oldest first. -/
def BufDie.dueShapers (b : BufDie) (t : Nat) : List Nat :=
  let due (s : Shaper) : Option Nat := match s.wheel with
    | some (e, _) => if e ≤ t then some e else none
    | none => none
  let qs := b.queues.filterMap fun e => (due e.2.shaper).map fun x => (x, e.1)
  let ps := b.portShapers.filterMap fun e => (due e.2).map fun x => (x, 4096 + e.1)
  (sortBy (·.1) (qs ++ ps)).map (·.2)

/-- The wheel refill of one entry of a die. -/
def Dev.wheelRefill (d : Dev) (die i : Nat) : Dev :=
  if i < 4096 then d.wheelRefillQ die i else d.wheelRefillP (256 * die + (i - 4096))

/-- The refill engine's pass in a tick: up to 512 entries; those beyond wait for the next tick and count late (R48). -/
def Dev.refillPass (d : Dev) (die : Nat) : Dev :=
  let due := (d.buf die).dueShapers d.trk.tick
  let left := (due.drop 512).filter fun i => !(d.buf die).refillLate.contains i
  let d1 := d.each (due.take 512) fun e i => e.wheelRefill die i
  let b := d1.buf die
  let d2 := d1.setBuf die { b with refillLate := due.drop 512 }
  if left.isEmpty then d2 else d2.late 3 left.length

/-- The coarse wheel steps at a rod boundary: entries whose eligible time lies in the next rod go to the fine wheel (R273). -/
def coarseMove (rod : Nat) (s : Shaper) : Shaper :=
  match s.wheel with
  | some (e, true) => if e / 1000 ≤ rod + 1 then { s with wheel := some (e, false) } else s
  | _ => s

/-- COARSE_WHEEL_STEP on a die. -/
def Dev.coarseStep (d : Dev) (die : Nat) : Dev :=
  let b := d.buf die
  let moved := b.queues.filterMap fun e => if coarseMove d.rod e.2.shaper = e.2.shaper then none else some e.1
  let d1 := d.setBuf die { b with
    queues := b.queues.map (fun e => (e.1, { e.2 with shaper := coarseMove d.rod e.2.shaper })),
    portShapers := b.portShapers.map fun e => (e.1, coarseMove d.rod e.2) }
  d1.each moved fun e q => e.schReport die q

/-! ### Eligibility (R268, R269) -/

/-- May a copy start on port `p`: whole on-die, and its frame ended, or the cut-through conditions hold (R262, R269)? -/
def Dev.mayStart (d : Dev) (p : Nat) (c : Copy) : Bool :=
  !c.spilled && (c.own.isSome ||
    (let fr := d.fr c.pkt.frame
     fr.last || (decide (modeGbps (d.portSt p).mode ≤ modeGbps (d.portSt c.pkt.port).mode) && decide (64 ≤ fr.bytes.length))))

/-- Is a queue of a port stopped by received PAUSE or PFC (R277, R278)? -/
def Dev.queueStopped (d : Dev) (p tx q : Nat) : Bool :=
  let m := d.lf (rPRT_CFG tx) fPRT_CFG_FC_MODE
  if q = 15 && d.treePort p then false
  else if m = 1 then d.priStopped tx 0 else if m = 2 then d.priStopped tx (d.qPri p q) else false

/-- Has the watchdog tripped for a queue's priority: its copies are dropped at dequeue (R80)? -/
def Dev.queueTripped (d : Dev) (p tx q : Nat) : Bool :=
  !(decide (q = 15) && d.treePort p) && decide (d.lf (rPRT_CFG tx) fPRT_CFG_FC_MODE = 2) && d.wdTripped tx (d.qPri p q)

/-- The head copy of a queue. -/
def Dev.headOf (d : Dev) (p q : Nat) : Option Copy := (d.queue (dieOf p) (qIdx p q)).copies.head?

/-- Is queue `q` of port `p` eligible for a start on port `tx` (R268)? -/
def Dev.qEligible (d : Dev) (p tx q : Nat) : Bool :=
  match d.headOf p q with
  | none => false
  | some c =>
    d.mayStart tx c && !d.queueStopped p tx q &&
    (if q = 15 && d.treePort p then true else d.queueCredit (dieOf p) (qIdx p q) && d.portCredit p)

/-- Length of a copy on the wire as estimated at its choice: estimate, edits and trailer (R271). -/
def wireLen (est : Nat) (edits : List Edit) (trailer : Bool) : Nat := ((est : Int) + editGrowth edits).toNat + (if trailer then 32 else 0)

/-- OVERHEAD of a queue (R271). -/
def Dev.overhead (d : Dev) (p q : Nat) : Int := sext 7 (d.lf (rSCH_Q_BURST (dieOf p) (qIdx p q)) fSCH_Q_BURST_OVERHEAD)

/-- A length charged with an OVERHEAD, at least 1 (R271). -/
def chargeWith (ovh : Int) (wire : Nat) : Nat := max 1 ((wire : Int) + ovh).toNat

/-- Charged length: with the queue's OVERHEAD, at least 1 (R271). -/
def Dev.chargeLen (d : Dev) (p q wire : Nat) : Nat := chargeWith (d.overhead p q) wire

/-- Does a copy sent now on port `tx` carry a trailer (R335, R347)? -/
def Dev.wantsTrailer (d : Dev) (tx : Nat) (c : Copy) : Bool :=
  c.jrn && d.jrnActive && decide (bits (d.lrn (rJRN_TRL_EN (tx / 32))) (tx % 32) (tx % 32) = 1) &&
  decide (c.est + 32 ≤ d.lf rJRN_TRL_CFG fJRN_TRL_CFG_MAX_LEN)

/-! ### Level departures (R289 to R296) -/

/-- A time of 2^-16 ns in units of 2^-16 ns ÷ 25. -/
def fine (t : Nat) : Nat := t * 25

/-- The first multiple of `g` at or after `t`. -/
def ceilTo (g t : Nat) : Nat := (t + g - 1) / g * g

/-- Grid of a level copy's departure boundaries in those units, none where the port's blocks have no place in domain
time (R292). -/
def Dev.lvlGrid (d : Dev) (tx g : Nat) : Option Nat :=
  if d.anchored tx && !d.b (rPRT_STATUS tx) fPRT_STATUS_OFF_GRID then
    some (if d.lb (rLVL_GRP_CFG g) fLVL_GRP_CFG_GRID then 20971520
      else if (d.portSt tx).mode = 1 then 10485760 else 4194304)
  else none

/-- Wire time of a frame of `n` bytes with preamble and gap at a port's data rate, in those units (R294, R295). -/
def Dev.wireTime (d : Dev) (tx n : Nat) : Nat := (n + 20) * 8 * (1638400 / max 1 (modeGbps (d.portSt tx).mode))

/-- A level copy's departure and the first boundary at or after its release time (R292, R295, R296). `busy` is how long
the port is still taken by a frame of another class, `alignR` and `alignT` how far the port's next block boundary lies
past the release time and past the earliest start, for a port without a grid. -/
def Dev.departure (d : Dev) (tx : Nat) (c : Copy) (busy alignR alignT : Nat) : Nat × Nat :=
  match c.lvl with
  | none => (0, 0)
  | some l =>
    let free := kvGet 0 (d.buf (dieOf c.port)).lvlFree tx
    let t := max (max (fine l.r) free) (max (fine (c.grant * 655360 + 1966080)) (fine (d.nowT + 1966080 + busy)))
    match d.lvlGrid tx l.group with
    | some g => (ceilTo g t, ceilTo g (fine l.r))
    | none => (t + fine alignT, fine l.r + fine alignR)

/-- Level queues whose destination is a port or protection group served through `p` (member 0), with their copies. -/
def Dev.lvlOfPort (d : Dev) (p : Nat) (pg : Option Nat) : List Copy :=
  ((d.buf (dieOf p)).levels.flatMap (·.2)).filter fun c => decide (c.port = p) && decide (c.pg = pg)

/-- The earliest-keyed of some copies. -/
def Dev.earliest (d : Dev) : List Copy → Option Copy
  | [] => none
  | c :: l => match d.earliest l with
    | none => some c
    | some x => if keyLt (d.lvlKey x) (d.lvlKey c) then some x else some c

/-- The guard of R294: would a class 3 or 4 frame of `n` bytes clear before the earliest queued level copy's on-time
boundary? -/
def Dev.guardOk (d : Dev) (p tx : Nat) (pg : Option Nat) (n dt : Nat) : Bool :=
  match d.earliest (d.lvlOfPort p pg) with
  | none => true
  | some c => match c.lvl with
    | none => true
    | some l =>
      let b := match d.lvlGrid tx l.group with
        | some g => ceilTo g (fine l.r)
        | none => fine l.r
      decide (fine (d.nowT + dt) + d.wireTime tx n ≤ b)

/-! ### Egress stages of a copy (R140, R145, R171, R251) -/

/-- How a dequeued copy comes out of its egress stages. -/
inductive Egress where
  | drop
  | send (c : Copy) (ce : Bool)
deriving DecidableEq, Repr

/-- What the egress stages read of the parse result: the instance list alone (R140). -/
def egressPr (r : ParseRes) : List Byte := zeros 144 ++ ((r.insts.flatMap HInst.bytes) ++ zeros 128).take 128

/-- Run the egress stages of a copy on the port that transmits it. -/
def Dev.egress (d : Dev) (tx : Nat) (c : Copy) : Dev × Egress :=
  let die := dieOf tx
  let k0 := c.pkt
  let old := decide (k0.ver ≠ d.verCur die) && decide (k0.ver ≠ d.verPrev die)
  let d1 := if old then d.cnt (rTBL_CNT_LO die 5) else d
  let md := putAt k0.md 14 (beBytes 2 tx)
  let k1 := { k0 with md := md, ver := if old then d.verCur die else k0.ver, lifted := k0.lifted || old }
  let r := d1.stages die 1 (egressPr k0.pr) 0 8 md k1
  let d2 := r.1
  let k2 := r.2.1
  let code := mdCode k2.md
  if mdDrop k2.md then (((d2.dropCnt die 1 code).pcnt tx 24), .drop)
  else
    let d3 := if mdMirror k2.md = 0 then d2 else d2.mirror die (mdMirror k2.md) 1 0 tx (d2.trk.tick - c.grant) k2
    let fr := d3.fr k2.frame
    if editConflict k2.edits (if fr.last then some fr.data.length else none) then (d3.cnt (rTBL_CNT_LO die 2), .drop)
    else
      let marked := decide (bits c.marks (mdColour k2.md) (mdColour k2.md) = 1) && decide (mdColour k2.md < 3)
      match (if marked then d3.ecnInst die k2 else none) with
      | none => (d3, .send { c with pkt := k2 } false)
      | some i =>
        let gone := k2.edits.any fun e => decide (e.kind = 2) && decide (e.off ≤ i.1.off + 1) && decide (i.1.off + 1 < e.off + e.len)
        if gone then (d3, .send { c with pkt := k2 } false)
        else if ecnField fr.bytes i = 3 then (d3.cnt (rBUF_CNT_LO die 17), .send { c with pkt := k2 } false)
        else (d3.cnt (rBUF_CNT_LO die 16), .send { c with pkt := k2 } true)

/-! ### Records of dequeued copies (R334 to R340, R347) -/

/-- Egress uncertainty of a stamp taken at a port's lowest lane (R309). -/
def Dev.laneUnc (d : Dev) (p : Nat) : Nat :=
  uncAdd d.uDom (if d.b (rPRT_LANE_CAL_RX p) fPRT_LANE_CAL_RX_REFINED then 4 else 7)

/-- A copy that is dropped at or after dequeue, with its record if one is reserved (R337): `reason` 0x0B or 0x0C. -/
def Dev.dequeueDrop (d : Dev) (c : Copy) (reason : Nat) (eport : Nat) (late : Bool) : Dev :=
  let die := dieOf c.port
  let lvl := c.lvl.map (·.group)
  let d1 := if c.jrn && d.jrnActive then
      d.jrnFrame die c.pkt.frame fun fr dg =>
        copyRec c.pkt fr dg (if lvl.isSome then 4 else 2) eport reason (late.toNat * 2) 0 0xFFFF lvl
    else d
  d1.releaseCopy c

/-- Is a copy one whose sending the journal would record (R334, R335)? -/
def Copy.wanted (c : Copy) : Bool := c.own.isNone && (mdJournal c.pkt.md || c.lvl.isSome)

/-- Give a copy about to be sent its record and trailer (R334, R335, R347); answers its sequence number and whether it
carries a trailer. -/
def Dev.sendRecord (d : Dev) (c : Copy) (tx stamp : Nat) (late : Bool) : Dev × Option Nat × Bool :=
  let die := dieOf c.port
  let lvl := c.lvl.map (·.group)
  if c.jrn && d.jrnActive then
    let tr := d.wantsTrailer tx c
    let seq := d.jrnSeq die
    let d1 := d.jrnFrame die c.pkt.frame fun fr dg =>
      copyRec c.pkt fr dg (if lvl.isSome then 3 else 1) tx 0 (late.toNat * 2 + (!tr).toNat) stamp (d.laneUnc tx) lvl
    let d2 := if tr then (d1.cnt (rJRN_CNT_LO die 7)).pev (30 + die) 0x13 else d1.cnt (rJRN_CNT_LO die 8)
    (d2, some seq, tr)
  else if c.wanted && !d.jrnActive then (d.cnt (rJRN_CNT_LO die 10), none, false)
  else (d, none, false)

/-! ### Dequeue of classes 2 to 4 (R267 to R271) -/

/-- What a port's scheduler has chosen. -/
inductive Choice where
  | none
  /-- A class 3 or 4 start held back by the guard of R294. -/
  | held
  | take (cls q : Nat)
deriving DecidableEq, Repr

/-- Walk the DRR ring (R270) until a queue sends: ring position, whether it has had its quantum, the queues' deficits. -/
def drrWalk (elig : Nat → Bool) (charge quantum : Nat → Nat) : Nat → Nat → Bool → (Nat → Int) → Option (Nat × (Nat → Int))
  | 0, _, _, _ => .none
  | n + 1, q, had, df =>
    if elig q then
      let df1 := if had then df else fun x => if x = q then df x + quantum q else df x
      if (charge q : Int) ≤ df1 q then some (q, df1)
      else drrWalk elig charge quantum n ((q + 1) % 16) false df1
    else drrWalk elig charge quantum n ((q + 1) % 16) false df

/-- Strict queues of a port, highest first. -/
def Dev.strictQueues (d : Dev) (p : Nat) : List Nat :=
  (List.range 16).reverse.filter fun q => d.lb (rSCH_Q_CFG (dieOf p) (qIdx p q)) fSCH_Q_CFG_STRICT && !(decide (q = 15) && d.treePort p)

/-- The guard holds back the start of a queue's head copy: counted once for the copy (R294). -/
def Dev.guardHold (d : Dev) (p q : Nat) : Dev :=
  let die := dieOf p
  let x := d.queue die (qIdx p q)
  match x.copies with
  | [] => d
  | c :: l => if c.held then d
      else (d.setQueue die (qIdx p q) { x with copies := { c with held := true } :: l }).cnt (rLVL_CNT_LO die 14)

/-- Choose among a port's queues (R267), and store the deficits the ring's walk has left. -/
def Dev.choose (d : Dev) (p tx : Nat) (pg : Option Nat) (dt : Nat) : Dev × Choice :=
  let die := dieOf p
  let ok (q : Nat) : Bool := d.qEligible p tx q
  let len (q : Nat) : Nat := match d.headOf p q with
    | some c => wireLen c.est c.pkt.edits (d.wantsTrailer tx c)
    | none => 0
  if d.treePort p && ok 15 then (d, .take 2 15)
  else if !d.lb (rSCH_CTRL die) fSCH_CTRL_EN then (d, .none)
  else
    let strict := d.strictQueues p
    match strict.find? ok with
    | some q => if d.guardOk p tx pg (len q) dt then (d, .take 3 q) else (d.guardHold p q, .held)
    | none =>
      let elig (q : Nat) : Bool := ok q && !strict.contains q && !(decide (q = 15) && d.treePort p)
      if (List.range 16).any elig then
        let b := d.buf die
        let pos := kvGet (0, false) b.ring (p % 256)
        match drrWalk elig (fun q => d.chargeLen p q (len q))
            (fun q => d.lf (rSCH_Q_CFG die (qIdx p q)) fSCH_Q_CFG_QUANTUM) 300000 pos.1 pos.2
            (fun q => (d.queue die (qIdx p q)).deficit) with
        | .none => (d, .none)
        | some (q, df) =>
          if d.guardOk p tx pg (len q) dt then
            let d1 := d.each (List.range 16) fun e i =>
              e.setQueue die (qIdx p i) { e.queue die (qIdx p i) with deficit := df i }
            let b1 := d1.buf die
            (d1.setBuf die { b1 with ring := kvSet (0, false) (p % 256) (q, true) b1.ring }, .take 4 q)
          else (d.guardHold p q, .held)
      else (d, .none)

/-- Take the head copy off a queue; an emptied queue loses its deficit (R270, R280). -/
def Dev.popHead (d : Dev) (p q : Nat) : Dev :=
  let die := dieOf p
  let i := qIdx p q
  let x := d.queue die i
  match x.copies with
  | [] => d
  | c :: l =>
    let d1 := d.setQueue die i { x with
      copies := l, maxSojourn := max x.maxSojourn (min (d.trk.tick - c.grant) 0xFFFFFFFF),
      deficit := if l.isEmpty then 0 else x.deficit, epoch := if l.isEmpty then x.epoch + 1 else x.epoch }
    if l.isEmpty then
      let b := d1.buf die
      let pos := kvGet (0, false) b.ring (p % 256)
      if pos.1 = q then d1.setBuf die { b with ring := kvSet (0, false) (p % 256) ((q + 1) % 16, false) b.ring } else d1
    else d1

/-- Charge a copy at dequeue (R271, R272): its deficit in class 4, and both shapers in classes 3 and 4. -/
def Dev.chargeCopy (d : Dev) (p q cls n : Nat) : Dev :=
  let die := dieOf p
  let i := qIdx p q
  let t := d.trk.tick
  let d1 := if cls = 4 then
      let x := d.queue die i
      if x.copies.isEmpty then d else d.setQueue die i { x with deficit := x.deficit - n }
    else d
  if cls = 2 then d1
  else
    let d2 := if d1.shaped die i then
        let x := d1.queue die i
        let s := (d1.qShaperRefill die i x.shaper).charge t n
        (d1.setQueue die i { x with shaper := s }).wheelCnt die s
      else d1
    let d3 := if d2.portShaped p then
        let s := (d2.pShaperRefill p (d2.portShaper p)).charge t n
        (d2.setPortShaper p s).wheelCnt die s
      else d2
    d3.schReport die i

/-- Correct the charges of a copy once its true charged length is known (R271): credits, and the deficit of a queue that
has not emptied since: it had emptied `epoch` times when the copy was charged. -/
def Dev.correctCharge (d : Dev) (p q cls charged true_ epoch : Nat) : Dev :=
  if cls < 3 || decide (charged = true_) then d
  else
    let die := dieOf p
    let i := qIdx p q
    let df : Int := (true_ : Int) - charged
    let x := d.queue die i
    let adj (s : Shaper) : Shaper := let y := { s with credit := s.credit - df * 4294967296 }
      if y.wheel.isSome then y else y.place d.trk.tick
    let x1 := { x with
      shaper := if d.shaped die i then adj x.shaper else x.shaper,
      deficit := if cls = 4 && decide (x.epoch = epoch) then x.deficit - df else x.deficit }
    let d1 := d.setQueue die i x1
    let d2 := if d1.portShaped p then d1.setPortShaper p (adj (d1.portShaper p)) else d1
    (d2.cnt (rSCH_CNT_LO die 5)).schReport die i

/-- True charged length of a copy whose frame has ended, under the OVERHEAD it was charged with (R275). -/
def Dev.trueCharge (d : Dev) (c : Copy) (trailer : Bool) (ovh : Int) : Nat :=
  let n := match c.own with
    | some bs => bs.length + 4
    | none => (d.fr c.pkt.frame).bytes.length
  chargeWith ovh (wireLen n c.pkt.edits trailer)

/-- Ports whose queues a port serves: its own, or member 0's when it is the active member of its group (R85, R86). -/
def Dev.servedBy (d : Dev) (tx : Nat) : Option (Nat × Option Nat) :=
  match d.pgOf tx with
  | none => some (tx, none)
  | some (g, _) => if d.pgActive g = tx then some (d.pgPort0 g, some g) else none

/-- The copy in transmission on a port. -/
def Dev.txOf (d : Dev) (p : Nat) : Option TxSt := kvGet none d.path.tx p

/-- Replace it. -/
def Dev.setTx (d : Dev) (p : Nat) (x : Option TxSt) : Dev := { d with path := { d.path with tx := kvSet none p x d.path.tx } }

/-- Dequeue the head copy of queue `q` for a start on port `tx` at `dt` past the tick boundary. -/
def Dev.dequeueCopy (d : Dev) (p tx cls q dt : Nat) (c : Copy) : Dev :=
  let die := dieOf p
  let d0 := (d.popHead p q).pev (18 + die) 0x14
  if !d.isUp tx then (d0.pcnt tx 25).dequeueDrop c 0x0C tx false
  else if d.queueTripped p tx q then (d0.pcnt tx 18).dequeueDrop c 0x0C tx false
  else
    let r := d0.egress tx c
    match r.2 with
    | .drop => r.1.dequeueDrop c 0x0C tx false
    | .send c1 ce =>
      let stamp := stampOf (d.nowT + dt)
      let s := r.1.sendRecord c1 tx stamp false
      let n := d.chargeLen p q (wireLen c1.est c.pkt.edits s.2.2)
      let e := (s.1.chargeCopy p q cls n).cnt (rSCH_CNT_LO die (if cls = 3 then 0 else if cls = 4 then 1 else 2))
      let ended := match c1.own with
        | some _ => true
        | none => (e.fr c1.pkt.frame).last
      let ovh := d.overhead p q
      let ep := (d0.queue die (qIdx p q)).epoch
      let tn := e.trueCharge c1 s.2.2 ovh
      let e1 := if ended then e.correctCharge p q cls n tn ep else e
      let x := e1.queue die (qIdx p q)
      let e2 := e1.setQueue die (qIdx p q) { x with bytesDeq := (x.bytesDeq + wireLen c1.est c1.pkt.edits s.2.2) % 2 ^ 32 }
      let e3 := if cls = 2 then
          let b := e2.buf die
          e2.setBuf die { b with lvlFree := kvSet 0 tx (fine (d.nowT + dt) + d.wireTime tx (wireLen c1.est c1.pkt.edits s.2.2)) b.lvlFree }
        else e2
      let m := d.lf (rPRT_CFG tx) fPRT_CFG_FC_MODE
      let paused := if m = 1 then e3.priStopped tx 0 else decide (m = 2) && e3.priStopped tx (d.qPri p q)
      let e4 := if cls = 2 && paused then e3.pcnt tx 20 else e3
      (e4.setTx tx (some {
        copy := { c1 with jrn := false }, port := tx, stamp := stamp, seq := s.2.1, trailer := s.2.2, cls := cls,
        charged := if ended then tn else n, overhead := ovh, epoch := ep, ce := ce })).setPort tx { e4.portSt tx with sending := some c1.pkt.frame }

/-! ### Level dequeue (R291 to R299) -/

/-- Take a level copy out of its queue. -/
def Dev.lvlTake (d : Dev) (c : Copy) : Dev :=
  match c.lvl with
  | none => d
  | some l =>
    let b := d.buf (l.queue / 512)
    let i := l.queue
    (d.setBuf (i / 512) { b with levels := kvSet [] i ((kvGet [] b.levels i).erase c) b.levels }).lvlReport i

/-- The copies of a level group still held on either die: queued, or waiting at a release gate. -/
def Dev.lvlHeld (d : Dev) (g : Nat) : Bool :=
  let mine (c : Copy) : Bool := c.lvl.any fun l => decide (l.group = g)
  [0, 1].any (fun die => (d.buf die).levels.any fun q => q.2.any mine) || d.path.gate.any fun e => e.2.any fun t => mine t.copy

/-- Set a level group's state, and ANY_SUSPENDED (R288). -/
def Dev.setLvlState (d : Dev) (g st : Nat) : Dev :=
  let d1 := d.sf (rLVL_GRP_STATUS g) fLVL_GRP_STATUS_STATE st
  d1.sb rLVL_STATUS fLVL_STATUS_ANY_SUSPENDED ((d1.listedIdx (rLVL_GRP_STATUS 0) 16 1024).any fun x => decide (d1.lvlState x = 3))

/-- A DRAINING group with no copy left becomes DISABLED (R288). -/
def Dev.lvlDrained (d : Dev) (g : Nat) : Dev :=
  if decide (d.lvlState g = 4) && !d.lvlHeld g then d.setLvlState g 0 else d

/-- A draining level queue that is empty reads off (R299). -/
def Dev.lvlQState (d : Dev) (i : Nat) : Dev :=
  let on := d.lb (rLVL_Q_CFG i) fLVL_Q_CFG_EN
  d.sf (rLVL_Q_STATUS i) fLVL_Q_STATUS_QSTATE (if on then 1 else if (d.lvlCopies i).isEmpty then 0 else 2)

/-- Dequeue the earliest-keyed level copy for port `tx`, if its time has come (R291, R295, R296, R299). -/
def Dev.levelDequeue (d : Dev) (tx busy alignR alignT : Nat) : Dev :=
  match d.servedBy tx with
  | none => d
  | some (p, pg) =>
    match d.earliest (d.lvlOfPort p pg) with
    | none => d
    | some c =>
      let dep := d.departure tx c busy alignR alignT
      let g := (c.lvl.map (·.group)).getD 0
      let i := (c.lvl.map (·.queue)).getD 0
      let die := dieOf p
      if !d.mayStart tx c || decide (fine (d.nowT + 2621440) ≤ dep.1) then d
      else
        let d0 := (d.lvlTake c).lvlQState i
        if !d.isUp tx then
          (((d0.cnt (rLVL_CNT_LO die 12)).pcnt tx 25).dequeueDrop c 0x0C tx false).lvlDrained g
        else
          let late := decide (dep.2 < dep.1)
          let max_ := d.lf (rLVL_GRP_LATE g) fLVL_GRP_LATE_LATE_MAX
          let r := (c.lvl.map (·.r)).getD 0
          if late && decide (d.lf (rLVL_GRP_CFG g) fLVL_GRP_CFG_LATE_ACT = 1) &&
              (decide (max_ = 0) || decide (fine (r + max_ * 655360) < dep.1)) then
            (((d0.cnt (rLVL_CNT_LO die 8)).raise eLVL_LATE_DROP g).dequeueDrop c 0x0B tx true).lvlDrained g
          else
            let e := d0.egress tx c
            match e.2 with
            | .drop => (e.1.dequeueDrop c 0x0C tx late).lvlDrained g
            | .send c1 ce =>
              let stamp := stampOf (dep.1 / 25)
              let s := e.1.sendRecord c1 tx stamp late
              let n := wireLen c1.est c1.pkt.edits s.2.2
              let b := s.1.buf die
              let key := d.lvlKey c
              let e1 := s.1.setBuf die { b with
                lvlFree := kvSet 0 tx (dep.1 + d.wireTime tx n) b.lvlFree, lvlLast := kvSet (0, 0, 0, 0) tx key b.lvlLast }
              let e2 := if keyLt key (kvGet (0, 0, 0, 0) b.lvlLast tx) then e1.cnt (rLVL_CNT_LO die 13) else e1
              let e3 := if d.priStopped tx 0 || (List.range 8).any (d.priStopped tx) then e2.pcnt tx 20 else e2
              let t : TxSt := {
                copy := { c1 with jrn := false }, port := tx, stamp := stamp, seq := s.2.1, trailer := s.2.2, cls := 1,
                charged := n, ce := ce, late := late }
              { e3 with path := { e3.path with gate := kvSet [] tx (kvGet [] e3.path.gate tx ++ [t]) e3.path.gate } }

/-- SHAPER_WHEEL_REFILL (R273): a wheel entry of a die is processed once its eligible time has come: a queue by its
index, a port shaper by 4,096 + port mod 256. -/
def execShaperWheelRefill (die : Fin 2) (i : Fin 4352) (s : State) : Host.Outcome State Fault Refusal :=
  onLive s fun d => if ((d.buf die).dueShapers d.trk.tick).contains i.val then d.wheelRefill die i else d

/-- LEVEL_COPY_DEQUEUE (R291, R295, R296, R299). -/
def execLevelCopyDequeue (p : Fin 512) (busy alignR alignT : Nat) (s : State) : Host.Outcome State Fault Refusal :=
  onLive s fun d => d.levelDequeue p busy alignR alignT

/-- LEVEL_RELEASE_GATE (R291, R296, R299): the copy at the gate starts at its departure boundary, on time or late; a port
that has left UP drops it. -/
def execLevelReleaseGate (p : Fin 512) (s : State) : Host.Outcome State Fault Refusal :=
  onLive s fun d =>
    match kvGet [] d.path.gate p with
    | [] => d
    | t :: rest =>
      if (d.txOf p).isSome || decide (d.nowT + 655360 ≤ stampTime t.stamp) then d
      else
        let die := dieOf t.copy.port
        let g := (t.copy.lvl.map (·.group)).getD 0
        let d1 := { d with path := { d.path with gate := kvSet [] p rest d.path.gate } }
        if !d.isUp p then
          let d2 := (d1.cnt (rLVL_CNT_LO die 12)).pcnt p 25
          let d3 := match t.seq with
            | none => d2
            | some q => d2.jrnAmend die q fun r =>
                putAt (putAt r 12 (zeros 12)) 26 ([0xFF, 0xFF] ++ bytesAt r 28 6 ++ beBytes 1 (0x40 + eb r 34 % 16) ++ [0x0C])
          (d3.releaseCopy t.copy).lvlDrained g
        else
          let d2 := if t.late then (d1.late 4).cnt (rLVL_CNT_LO die 7) else d1.cnt (rLVL_CNT_LO die 6)
          let d3 := (d2.pev (18 + die) 0x14).pev (18 + die) 0x15
          ((d3.setTx p (some t)).setPort p { d3.portSt p with sending := some t.copy.pkt.frame }).lvlDrained g

end Sys2Proof.Machine
end

