-- ==== Sys2Proof/Machine/DataPath.lean ====
section
/-! DEFINITION. Machine/DataPath.lean: frames from their first chunk to their last copy sent (R23, R42, R43, R111 to R140,
R187 to R194, R231, R242, R252 to R255). -/
namespace Sys2Proof.Machine

/-! ### The remainder path (R130 to R132) -/

/-- Report the remainder queue. -/
def Dev.rmdReport (d : Dev) (die : Nat) : Dev :=
  let l := (d.par die).rmd
  ((d.sf (rPAR_RMD_STATUS die) fPAR_RMD_STATUS_CELLS ((l.map (·.cells)).sum)).sf (rPAR_RMD_STATUS die)
    fPAR_RMD_STATUS_DEPTH l.length).sb (rPAR_RMD_STATUS die) fPAR_RMD_STATUS_FULL (decide (8192 ≤ l.length))

/-- The reckoner that injected a frame is told of its drop (R43, R132, R395): an INJECT_NOTE task. -/
def Dev.injectNote (d : Dev) (f : Nat) : Dev :=
  let fr := d.fr f
  match fr.told, fr.buf with
  | some die, some a => d.taskRaise die 0x03 [a]
  | _, _ => d

/-- A packet bound for the remainder path is queued or refused (R131); an injected one is dropped (R132). -/
def Dev.rmdEnqueue (d : Dev) (k : Pkt) (reason : Nat) (staged : Bool) : Dev :=
  let die := k.die
  if k.pr.inject then (d.cnt (rPAR_CNT_LO die 11)).injectNote k.frame
  else
    let x := d.par die
    let est := d.estimate k
    let c := cellsOf est
    if 8192 ≤ x.rmd.length then d.cnt (rPAR_CNT_LO die 8)
    else if d.lf (rPAR_RMD_CFG die) fPAR_RMD_CFG_MAX_CELLS < (x.rmd.map (·.cells)).sum + c then d.cnt (rPAR_CNT_LO die 9)
    else if d.lf (rPAR_RMD_CFG die) fPAR_RMD_CFG_RATE ≤ x.rodRmd then d.cnt (rPAR_CNT_LO die 10)
    else
      let e : RmdDesc := {
        frame := k.frame, port := k.port, profile := k.pr.profile,
        flags := if staged then putBits k.pr.flags 1 1 1 else k.pr.flags, reason := reason, depth := k.pr.depth,
        steps := k.pr.steps, lastState := k.pr.lastState, handle := d.free (2 ^ 32), cells := c }
      let d1 := d.used.setPar die { x with rmd := x.rmd ++ [e], rodRmd := x.rodRmd + 1 }
      let r : CopyReq := { pkt := k, die := die, port := k.port, pg := none, queue := 0, est := est }
      let d2 := ((d1.holdChain r [(.remainder, c)]).cnt (rPAR_CNT_LO die 7)).pev k.col 0x1B
      ((d2.rmdReport die).bufReport die).taskRaise die 0x02 [e.handle]

/-! ### Replication (R252 to R255) -/

/-- Is a link direction between the core dies stopped, from `die` (R14)? -/
def Dev.crossStopped (d : Dev) (die : Nat) : Bool := (kvGet ({} : LinkDir) d.links die).stopped

/-- Member ports of a group on a die in ascending order, less the ingress port under PRUNE_SRC. -/
def McGroup.portsOn (g : McGroup) (die : Nat) (prune : Option Nat) : List Nat :=
  ((List.range 256).map (256 * die + ·)).filter fun p => decide (bits g.ports p p = 1) && !(g.prune && decide (prune = some p))

/-- Member protection groups of a group on a die, in ascending order: those whose ports the die owns. -/
def Dev.pgsOn (d : Dev) (g : McGroup) (die : Nat) : List Nat :=
  (List.range 128).filter fun x => decide (bits g.pgs x x = 1) && decide (dieOf (d.pgPort0 x) = die)

/-- QUEUE of a data frame on a port: 14 in place of 15 on a Ruley tree port (R139). -/
def Dev.dataQueue (d : Dev) (p q : Nat) : Nat := if q = 15 && d.treePort p then 14 else q

/-- The copy of a multicast frame for one member (R254). -/
def Dev.mcReq (d : Dev) (die : Nat) (x : Repl) (g : McGroup) (no : Nat) (member : Nat ⊕ Nat) : CopyReq :=
  let t := match member with
    | .inl p => (d.groupOf p, p)
    | .inr h => ((d.pgPort0 h, some h), 0x8000 + h)
  let md := if g.copyId then putAt x.pkt.md 62 (beBytes 2 t.2) else x.pkt.md
  { pkt := { x.pkt with md := md }, die := die, port := t.1.1, pg := t.1.2, queue := d.dataQueue t.1.1 (mdQueue x.pkt.md),
    est := x.est, mc := some no, mcJrn := g.jrn }

/-- Members of a group on a die in the order of R254. -/
def Dev.mcMembers (d : Dev) (g : McGroup) (die src : Nat) : List (Nat ⊕ Nat) :=
  (g.portsOn die (some src)).map .inl ++ (d.pgsOn g die).map .inr

/-- A multicast frame reaches a die's replication engine (R254): queued, or every copy refused with REPL_FULL. -/
def Dev.replEnqueue (d : Dev) (die : Nat) (x : Repl) : Dev :=
  let b := d.buf die
  if 16384 ≤ b.repl.length then
    let no := mdDest x.pkt.md
    let g := kvGet {} d.tbl.live.groups no
    (d.cnt (rBUF_CNT_LO die 10)).each (d.mcMembers g die x.pkt.port) fun e m => e.refuseCopy (e.mcReq die x g no m) 10
  else d.setBuf die { b with repl := b.repl ++ [x] }

/-- A packet with DEST_KIND 2 is resolved on its ingress die (R253). -/
def Dev.multicast (d : Dev) (k : Pkt) : Dev :=
  let no := mdDest k.md
  let g := kvGet {} d.tbl.live.groups no
  let x : Repl := { pkt := k, est := d.estimate k }
  let other := 1 - k.die
  let here := d.mcMembers g k.die k.port
  let there := d.mcMembers g other k.port
  if g.ports = 0 ∧ g.pgs = 0 then (d.cnt (rBUF_CNT_LO k.die 12)).mcCount k.die (some no) true
  else if here.isEmpty && there.isEmpty then d.cnt (rBUF_CNT_LO k.die 13)
  else
    let d1 := if here.isEmpty then d else d.replEnqueue k.die x
    if there.isEmpty then d1
    else if d1.crossStopped k.die then d1.pcnt k.port 21
    else d1.replEnqueue other x

/-! ### After ingress stage 11 (R139) -/

/-- Does the packet's metadata name no destination of its kind, or hold a value out of range (R139)? -/
def Dev.badMeta (d : Dev) (m : List Byte) : Bool :=
  let dest := mdDest m
  (match mdKind m with
   | 1 => decide (511 < dest) || !d.portExists dest
   | 2 => false
   | 3 => decide (127 < dest) || !d.pgEnabled.contains dest
   | _ => true) ||
  (mdLevel m && decide (1023 < mdGroup m)) || decide (15 < mdQueue m) || decide (7 < mdPri m) || decide (2 < mdColour m) ||
  decide (63 < mdMirror m)

/-- A unicast or protection-group packet goes to its egress die's admission (R18, R23, R139). -/
def Dev.forward (d : Dev) (k : Pkt) : Dev :=
  let t := if mdKind k.md = 3 then (d.pgPort0 (mdDest k.md), some (mdDest k.md)) else d.groupOf (mdDest k.md)
  let die := dieOf t.1
  if decide (die ≠ k.die) && d.crossStopped k.die then d.pcnt k.port 21
  else d.offerCopy {
    pkt := k, die := die, port := t.1, pg := t.2, queue := d.dataQueue t.1 (mdQueue k.md), est := d.estimate k }

/-- The FLOW_LATE record of a late packet whose frame is not journalled (R231). The spec gives its egress port field no
value: a free value. -/
def Dev.lateRecord (d : Dev) (k : Pkt) (forwarded : Bool) : Dev :=
  if k.late && !(forwarded && (mdJournal k.md || mdLevel k.md)) && d.jrnActive then
    if d.jrnFull k.die then d.jrnLost k.die 11
    else d.used.jrnFrame k.die k.frame fun fr dg =>
      copyRec { k with loc := 0xFFFFFFFF } fr dg 6 (d.free 65536) 0 0 0 0xFFFF none
  else d

/-- The device settles a packet after ingress stage 11 (R139). -/
def Dev.settle (d : Dev) (k : Pkt) : Dev :=
  let m := k.md
  if mdRmd m then
    (((d.cnt32 (rPAR_REASON_CNT k.die 48)).rmdEnqueue k 0x0040 true).lateRecord k false).frameGc k.frame
  else if mdDrop m then
    (((d.dropCnt k.die 0 (mdCode m)).pev k.col 0x1C).lateRecord k false).frameGc k.frame
  else if mdKind m = 0 then ((d.cnt (rTBL_CNT_LO k.die 0)).lateRecord k false).frameGc k.frame
  else if d.badMeta m then (((d.cnt (rTBL_CNT_LO k.die 1)).slotMove k.col 6).lateRecord k false).frameGc k.frame
  else
    let d1 := if mdMirror m = 0 then d else
      d.mirror k.die (mdMirror m) 0 0 (if mdKind m = 1 then mdDest m else 0xFFFF) 0 k
    let d2 := if mdKind m = 2 then d1.multicast k else d1.forward k
    let d3 := if mdCopyHost m then
        let e := d2.rmdEnqueue k 0x0041 false
        if (d2.par k.die).rmd.length < (e.par k.die).rmd.length then e.cnt (rTBL_CNT_LO k.die 7) else e
      else d2
    (d3.lateRecord k true).frameGc k.frame

/-! ### The ingress stages -/

/-- A learn request queued in the flow stage raises its LEARN task (R215). -/
def Dev.learnTask (d : Dev) (die before : Nat) : Dev :=
  if before < (d.flw die).learns.length then d.taskRaise die 0x01 [] else d

/-- The rest of stage 6 and stages 7 to 11 after the flow action (R136, R188): `start` is the metadata as stage 6 began. -/
def Dev.afterFlow (d : Dev) (prev start : List Byte) (k : Pkt) : Dev × Pkt :=
  let pr := k.pr.bytes
  let b := d.stageB k.die 6 pr start prev k
  let r := b.1.stages k.die 0 pr 7 5 start b.2
  (r.1, r.2.1)

/-- A packet recirculates at stage 11: it re-enters its column (R42, R506). What asks for it the spec does not say; the
command says whether this pass does (log entry 10). -/
def Dev.recirculate (d : Dev) (k : Pkt) : Dev :=
  let d1 := d.slotMove k.col 4
  { d1 with path := { d1.path with recirc := d1.path.recirc ++ [k] } }

/-- Run the ingress stages on a packet issued to stage 0 (R136, R186, R187). -/
def Dev.ingress (d : Dev) (k : Pkt) (again : Bool) : Dev :=
  let r := d.stages k.die 0 k.pr.bytes 0 6 k.md k
  let n := r.1.path.arrivals
  let k1 := { r.2.1 with arrTick := d.trk.tick, arrSeq := n }
  let d1 := { r.1 with path := { r.1.path with arrivals := n + 1 } }
  let learns := (d1.flw k.die).learns.length
  let f := d1.flowStage k.die r.2.2 k1
  match f.2 with
  | none => f.1.pev k.col 0x17
  | some k2 =>
    let a := (f.1.learnTask k.die learns).afterFlow r.2.2 k1.md k2
    if again then a.1.recirculate a.2 else a.1.settle a.2

/-! ### Frames arriving (R111, R305) -/

/-- Is the link direction from a port's port die to its core die stopped (R14)? -/
def Dev.upStopped (d : Dev) (p : Nat) : Bool := (kvGet ({} : LinkDir) d.links (2 * (1 + dieOf p) + 1)).stopped

/-- The frame arriving on a port. -/
def Dev.rxOf (d : Dev) (p : Nat) : Option Nat := kvGet none d.path.rx p

/-- The active bank of a die's parser. -/
def Dev.activeBank (d : Dev) (die : Nat) : Nat := d.f (rPAR_STATUS die) fPAR_STATUS_ACTIVE_BANK

/-- Open a frame on a port: stamped, its parse context on the active bank (R111, R305). `frac` is its place in the tick
in 2^-16 ns. -/
def Dev.openFrame (d : Dev) (p len frac : Nat) : Dev :=
  let die := dieOf p
  let f := d.path.nextFrame
  let rail := d.railGroups.filter fun g => decide (d.railState g = 2) && decide (d.railSel g = p)
  let fr : Frame := {
    port := p, bytes := [], total := len, ts := stampOf (d.nowT + frac), unc := d.laneUnc p, rail := rail }
  let d1 := { d with path := { d.path with nextFrame := f + 1, rx := kvSet none p (some f) d.path.rx } }
  let d2 := (d1.setFrame f (some fr)).colWake (d.column p)
  let x := d2.par die
  let d3 := d2.setPar die { x with ctxs := x.ctxs ++ [{ port := p, frame := f, bank := d.activeBank die }] }
  let d4 := d3.pev (26 + die) 0x15
  if d.railGroups.any fun g => decide (d.railSel g = p) then d4.pev (26 + die) 0x14 else d4

/-- The parse contexts of a frame walk on (R111). -/
def Dev.parseOn (d : Dev) (p f : Nat) : Dev :=
  let die := dieOf p
  let x := d.par die
  let fr := d.fr f
  d.setPar die { x with ctxs := x.ctxs.map fun c =>
    if c.frame = f && c.res.isNone then { c with res := parseFrame (x.bank c.bank) c.bank fr.bytes fr.last p 0 } else c }

/-- FRAME_CHUNK_ARRIVE (R23, R111, R305): bytes of a frame reach the column; the first chunk opens the frame, `len` bytes
long with its FCS, at `frac` past the tick boundary. -/
def execFrameChunkArrive (p : Fin 512) (first last : Bool) (len : Nat) (bytes : List Byte) (frac : Nat) (s : State) :
    Host.Outcome State Fault Refusal :=
  onLive s fun d =>
    if !d.isUp p then d
    else if first && d.colStopped p then d.pcnt p 22
    else if first && d.upStopped p then d.pcnt p 21
    else
      let d1 := if first then d.openFrame p len frac else d
      match d1.rxOf p with
      | none => d1
      | some f =>
        let fr := d1.fr f
        if fr.last then d1
        else (d1.setFrame f (some { fr with bytes := fr.bytes ++ bytes, last := last })).parseOn p f

/-! ### Issue (R42, R111, R128, R506, R507) -/

/-- Slots a column has taken in this tick. -/
def Dev.slotsOf (d : Dev) (c : Nat) : Nat := kvGet 0 d.path.slots c

/-- A column takes a slot. -/
def Dev.takeSlot (d : Dev) (c : Nat) : Dev :=
  { d with path := { d.path with slots := kvSet 0 c (d.slotsOf c + 1) d.path.slots } }

/-- A packet issues: its slot is RETIRED (R506), and its column has worked in the rod (R470). -/
def Dev.issueSlot (d : Dev) (c : Nat) : Dev :=
  let d1 := (((d.takeSlot c).slotCnt c 0).pev c 0x10).colWake c
  { d1 with nrg := { d1.nrg with issued := if d1.nrg.issued.contains c then d1.nrg.issued else c :: d1.nrg.issued } }

/-- Slot of PAR_REASON_CNT for a reason code (R134), if it has one. -/
def reasonSlot (r : Nat) : Option Nat :=
  if r < 0x10 then some r else if 0x20 ≤ r ∧ r < 0x30 then some (r - 0x10) else if r = 0x30 then some 32
  else if r = 0x40 then some 48 else none

/-- A packet's course by its flags and its profile's actions (R128). -/
inductive Course where
  | remainder | drop | stages (partialKey : Bool)
deriving DecidableEq, Repr

/-- The course of R128. -/
def courseOf (prof : List Byte) (r : ParseRes) : Course :=
  let act (a : Nat) : Course := if a = 1 then .stages true else if a = 2 then .drop else .remainder
  if r.frag then .remainder
  else if r.malformed then
    let a := bits (eb prof 1) 7 6
    if a = 1 then .drop else if a = 2 then .stages true else .remainder
  else if r.limit then act (bits (eb prof 1) 5 4)
  else if r.pshort then act (bits (eb prof 1) 3 2)
  else .stages false

/-- Count a parse by its flags and reason (R134). -/
def Dev.countParse (d : Dev) (die col : Nat) (r : ParseRes) : Dev :=
  let d1 := d.each [(1, r.frag), (2, r.malformed), (3, r.limit), (4, r.pshort), (5, r.matchOvf), (6, r.lenTyped)] fun e x =>
    if x.2 then e.cnt (rPAR_CNT_LO die x.1) else e
  let d2 := if r.malformed || r.limit then d1.pev col 0x1A else d1
  if r.frag || r.malformed || r.limit || r.pshort then
    match reasonSlot r.reason with
    | some k => d2.cnt32 (rPAR_REASON_CNT die k)
    | none => d2
  else d2

/-- Are fewer than 16 carries of a die free (R507)? -/
def Dev.flowHold (d : Dev) (die : Nat) : Bool := decide (131072 - 16 < (d.flw die).carries.length)

/-- OLD_BANK_BUSY clears once no context opened on the old bank is left (R133). -/
def Dev.oldBank (d : Dev) (die : Nat) : Dev :=
  let old := 1 - d.activeBank die
  if (d.par die).ctxs.any fun c => decide (c.bank = old) then d
  else d.sb (rPAR_STATUS die) fPAR_STATUS_OLD_BANK_BUSY false

/-- A parsed packet takes its course (R128): remainder or drop without a slot, or issue to stage 0. `ev` is the column's
event of the issue. -/
def Dev.takeCourse (d : Dev) (k : Pkt) (prof : List Byte) (again : Bool) (ev : Nat) : Dev :=
  let d1 := d.countParse k.die k.col k.pr
  match courseOf prof k.pr with
  | .remainder => (d1.rmdEnqueue k k.pr.reason false).frameGc k.frame
  | .drop => (d1.cnt (rPAR_CNT_LO k.die 12)).frameGc k.frame
  | .stages part =>
    let k1 := { k with pr := { k.pr with partialKey := part } }
    let d2 := ((d1.issueSlot k.col).cnt (rPAR_CNT_LO k.die 0)).pev k.col ev
    (if part then d2.cnt (rPAR_CNT_LO k.die 13) else d2).ingress k1 again

/-- An error the ECC of the flow stage's memories meets (R192): 1 corrected, 2 uncorrectable in a clean line, 3 in a DIRTY
line or a carry. -/
def Dev.flowEcc (d : Dev) (die : Nat) (fk : FKey) (ecc : Nat) : Dev :=
  match ecc, d.cacheFind die fk with
  | 1, _ => d.report die 0xB 5 0x01 0
  | 2, some l => if l.dirty then d else (d.cacheDrop die fk).report die 0xB 5 0x02 0 (beBytes 4 l.loc)
  | 3, some l =>
    let x := d.flw die
    (((if l.dirty then d.cacheDrop die fk else d).setCarries die (x.carries.filter fun c => decide (c.loc ≠ l.loc))).report die
      0xC 5 0x02 0 (beBytes 4 l.loc))
  | _, _ => d

/-- Is the frame one the port die takes for itself, or may it still turn out to be one (R316, R441)? -/
def Dev.taken (d : Dev) (p : Nat) (fr : Frame) : Bool :=
  let bs := fr.data
  d.consumed p bs || (match ptpAt bs with
    | some (o, _) => !fr.last && decide (bs.length < o + 5)
    | none => false)

/-- PACKET_ISSUE (R42, R111, R128, R136, R506, R507): the column of port `p` issues: first a recirculating packet of the
column, else the oldest parsed frame of the port. `again` says that the packet recirculates at stage 11; `ecc` is the
error the flow stage's memories meet (R192). -/
def execPacketIssue (p : Fin 512) (again : Bool) (ecc : Fin 4) (s : State) : Host.Outcome State Fault Refusal :=
  onLive s fun d =>
    let die := dieOf p
    let col := d.column p
    let bubble := decide (16 ≤ d.slotsOf col) || d.colStopped p || !d.running
    if bubble then d
    else match d.path.recirc.find? fun k => decide (k.col = col) with
      | some k =>
        let d1 := { d with path := { d.path with recirc := d.path.recirc.erase k } }
        ((d1.issueSlot col).pev col 0x16).ingress k again
      | none =>
        match (d.par die).ctxs.find? fun c => decide (c.port = p.val) with
        | none => d
        | some c =>
          let fr := d.fr c.frame
          match c.res with
          | none => d
          | some res =>
            if (fr.last && !fr.ended) || d.taken p fr then d
            else
              let hold := res.flowEn && d.lb (rFLW_CTRL die) fFLW_CTRL_EN && d.flowHold die
              if hold then (((d.takeSlot col).slotCnt col 3).slotCnt col 8).pev col 0x13
              else
                let x := d.par die
                let d1 := (d.setPar die { x with ctxs := x.ctxs.erase c }).oldBank die
                let d2 := d1.setFrame c.frame (some {
                  fr with issued := true, covEnd := if res.ended then none else res.covOuter })
                let k : Pkt := {
                  frame := c.frame, die := die, port := p, col := col, pr := res, md := mdReset p, rw := zeros 32,
                  ver := d.verCur die }
                let d3 := if res.flowEn then d2.flowEcc die (d2.fkey die res.profile res.key) ecc else d2
                d3.takeCourse k ((x.bank c.bank).profile res.profile) again 0x14

/-- Has a column a packet or a parsed frame that takes a slot before an inject (R42)? -/
def Dev.slotWanted (d : Dev) (col : Nat) : Bool :=
  d.path.recirc.any (fun k => decide (k.col = col)) || (d.par (col / 8)).ctxs.any fun c =>
    decide (d.column c.port = col) && c.res.isSome &&
      !((d.fr c.frame).last && !(d.fr c.frame).ended) && !d.taken c.port (d.fr c.frame)

/-- INJECT_ISSUE (R42, R43, R132, R395): the oldest inject of a column takes a bubble: it is parsed from its start state and
issued. The spec gives an injected frame no ingress stamp or uncertainty: free values. -/
def execInjectIssue (col : Fin 16) (again : Bool) (s : State) : Host.Outcome State Fault Refusal :=
  onLive s fun d =>
    let die := col.val / 8
    if decide (16 ≤ d.slotsOf col) || d.slotWanted col || d.colRetired col || d.flt.stoppedCols.contains col.val || !d.running then d
    else match d.path.injects.find? fun i => decide (i.col = col.val) with
      | none => d
      | some i =>
        let bank := d.activeBank die
        let b := (d.par die).bank bank
        let n := (d.used 2).newFrame i.port i.bytes (d.free (2 ^ 96)) (d.freeAt 1 65536) i.buf
        let fr := n.1.fr n.2
        let d1 := n.1.setFrame n.2 (some { fr with told := i.task.map fun t => t / 16384 % 2 })
        let d2 := { d1 with path := { d1.path with injects := d1.path.injects.erase i } }
        match parseFrame b bank fr.bytes true i.port (i.state.getD 0) with
        | none => d2
        | some res =>
          let k : Pkt := {
            frame := n.2, die := die, port := i.port, col := col, pr := { res with inject := true }, md := mdReset i.port,
            rw := zeros 32, ver := d.verCur die }
          d2.takeCourse k (b.profile res.profile) again 0x15

/-! ### Parked packets (R188, R189, R229, R231) -/

/-- A packet leaves the park buffer by the resume position: the flow action `act`, then the rest of stage 6 onward. -/
def Dev.resume (d : Dev) (die : Nat) (x : Parked) (again : Bool) (act : Dev → Pkt → Dev × Pkt) : Dev :=
  let y := d.flw die
  let d1 := (d.setFlw die { y with parked := y.parked.erase x }).pev x.pkt.col 0x18
  let r := act d1 x.pkt
  let a := (r.1.learnTask die y.learns.length).afterFlow x.prev x.pkt.md r.2
  if again then a.1.recirculate a.2 else a.1.settle a.2

/-- PARKED_RESUME (R188, R189, R229): the ready packet of a column that parked earliest runs stage 6 onward. `ecc` says that
its park-buffer entry was uncorrectable: it is dropped (R192). -/
def execParkedResume (col : Fin 16) (again ecc : Bool) (s : State) : Host.Outcome State Fault Refusal :=
  onLive s fun d =>
    let die := col.val / 8
    match (d.flw die).parked.find? fun x => decide (x.pkt.col = col.val) && decide (x.ready ≠ .waiting) with
    | none => d
    | some x =>
      if ecc then
        let y := d.flw die
        (((d.setFlw die { y with parked := y.parked.erase x }).slotMove col 6).report die 0xC 5 0x02 0).frameGc x.pkt.frame
      else match x.ready with
        | .waiting => d
        | .noRecord => d.resume die x again fun e k => e.flowMiss die x.fk true true k
        | .found l =>
          match d.cacheFind die x.fk, (d.hbmFind die x.fk).1 with
          | some l1, _ => d.resume die x again fun e k => e.flowHit die x.fk l1 true false k
          | none, none => d.resume die x again fun e k => e.flowHit die x.fk l true true k
          | none, some (b, i, z) =>
            -- the line has been a victim since: it is filled again, as soon as a line can be chosen
            match d.cacheFill die x.fk (slotLine die b i z) with
            | some d1 => d1.resume die x again fun e k => e.flowHit die x.fk (slotLine die b i z) true false k
            | none => d

/-- The pseudo-channel a late lookup is charged to (R232): the victim's for a fill wait, else the home bucket's or, when the
lookup reads the second bucket too, either one: which read it was waiting on is a free value. -/
def Dev.latePc (d : Dev) (die : Nat) (l : FLookup) : Nat :=
  let n := d.buckets die
  let home := bucketPc (homeBucket n l.fk)
  if l.fill.isSome then
    match (((d.flw die).set (d.cacheSet die l.fk)).reverse.find? fun v => !v.stay && !v.moving) with
    | some v => bucketPc (locBucket v.loc)
    | none => home
  else if l.tag && (d.hbmFind die l.fk).2 && decide (d.free 2 = 1) then bucketPc (secondBucket n l.fk)
  else home

/-- FLOW_LATE (R188, R231, R232): a packet parked for 768 cycles (48 ticks) without a settled lookup takes the late action. -/
def execFlowLate (col : Fin 16) (s : State) : Host.Outcome State Fault Refusal :=
  onLive s fun d =>
    let die := col.val / 8
    match (d.flw die).parked.find? fun x =>
      decide (x.pkt.col = col.val) && decide (x.ready = .waiting) && decide (x.tick + 48 ≤ d.trk.tick) with
    | none => d
    | some x =>
      let y := d.flw die
      let d1 := match y.lookups.find? fun l => decide (l.fk = x.fk) && !l.lateCounted with
        | none => d
        | some l =>
          let pc := d.latePc die l
          ((d.setFlw die { y with
            lookups := y.lookups.map (fun (l : FLookup) => if l.fk = x.fk then { l with lateCounted := true } else l),
            deckLate := y.deckLate ++ [pc] }).cnt32 (rFLW_PC_LATE die pc)).used
      (d1.pev col 0x19).resume die x false fun e k => e.flowLate die x.fk k

/-- FLOW_DATA_RETURN (R182, R183, R187 to R189, R199): the data of a die's oldest-issued lookup of a key return: the cache is
filled, and the packets that wait for the key are ready. `i` is the lookup's place among those outstanding. -/
def execFlowDataReturn (die : Fin 2) (i : Nat) (s : State) : Host.Outcome State Fault Refusal :=
  onLive s fun d =>
    let x := d.flw die
    match x.lookups[i]? with
    | none => d
    | some l =>
      if !l.tag then d
      else
        let wake (e : Dev) (r : Ready) : Dev :=
          let y := e.flw die
          let rest := y.lookups.filter fun m => decide (m.fk ≠ l.fk)
          -- a waiting lookup takes the tag that has come free (R199)
          let rest1 := match rest.find? fun m => !m.tag with
            | some w => rest.map fun m => if m = w then { m with tag := true } else m
            | none => rest
          let e1 := e.setFlw die { y with
            lookups := rest1, parked := y.parked.map fun p => if p.fk = l.fk && p.ready = .waiting then { p with ready := r } else p }
          let e2 := if rest.any fun m => !m.tag then e1.flwCnt die 2 else e1
          e2.flwTags die
        match d.cacheFind die l.fk, l.fill with
        | some line, _ => wake d (.found line)
        | none, some line =>
          match (d.hbmFind die l.fk).1 with
          | none => wake d (.found line)
          | some (b, sl, y) =>
            match d.cacheFill die l.fk (slotLine die b sl y) with
            | some e => wake e (.found (slotLine die b sl y))
            | none => d
        | none, none =>
          let h := d.hbmFind die l.fk
          let d := if h.2 then d.flwCnt die 4 else d
          match h.1 with
          | none => wake d .noRecord
          | some (b, sl, y) =>
            let line := slotLine die b sl y
            match d.cacheFill die l.fk line with
            | some e => wake e (.found line)
            | none =>
              let z := d.flw die
              (d.setFlw die { z with lookups := z.lookups.map fun m => if m = l then { m with fill := some line } else m }).cnt (rFLW_CNT_LO die 19)

/-- REPLICATION_TAKE_UP (R254, R255): a die's replication engine takes up its oldest frame and makes its copies. -/
def execReplicationTakeUp (die : Fin 2) (s : State) : Host.Outcome State Fault Refusal :=
  onLive s fun d =>
    let b := d.buf die
    match b.repl with
    | [] => d
    | x :: l =>
      let d1 := d.setBuf die { b with repl := l }
      let no := mdDest x.pkt.md
      let g := kvGet {} d1.tbl.live.groups no
      (d1.each (d1.mcMembers g die x.pkt.port) fun e m => e.offerCopy (e.mcReq die x g no m)).frameGc x.pkt.frame

/-! ### The end of a frame (R61, R107, R121, R242, R271) -/

/-- Charges of a chain brought to `n` cells: extra cells go to the first account, surplus ones leave the last (R242). -/
def fitParts (n : Nat) : List (Charge × Nat) → List (Charge × Nat)
  | [] => []
  | [(c, _)] => [(c, n)]
  | (c, m) :: l =>
    let tail := (l.map (·.2)).sum
    if m + tail ≤ n then (c, n - tail) :: l else if n ≤ m then [(c, n)] else (c, m) :: fitParts (n - m) l

/-- A queued copy's charge corrected to `n` cells. -/
def Copy.correct (c : Copy) (n est : Nat) : Copy :=
  if c.cells ≤ n then { c with cells := n, shUsed := if c.spilled then c.shUsed else c.shUsed + (n - c.cells), est := est }
  else
    let k := c.cells - n
    { c with cells := n, est := est, shUsed := c.shUsed - k, resUsed := c.resUsed - (k - c.shUsed) }

/-- The charges of an ended frame are corrected on a die (R242): its chain, its queued copies and their queues. Extra cells
beyond the free ones make it a frame with NO_CELL. -/
def Dev.correctFrame (d : Dev) (die f len : Nat) : Dev :=
  let b := d.buf die
  let n := cellsOf len
  match b.chain f with
  | none => d
  | some ch =>
    let was := ch.cells
    let short := decide (was < n) && decide (was ≠ 0) && decide (b.free < n - was)
    let b1 := if was = 0 || short then b else b.setChain f (some { ch with parts := fitParts n ch.parts })
    let fix (c : Copy) : Copy := if c.pkt.frame = f && c.own.isNone then c.correct n len else c
    let b2 := { b1 with
      queues := b1.queues.map fun q =>
        let cs := q.2.copies.map fix
        let sum (g : Copy → Nat) (l : List Copy) : Nat := (l.map g).sum
        (q.1, { q.2 with
          copies := cs,
          shUsed := q.2.shUsed + sum (·.shUsed) cs - sum (·.shUsed) q.2.copies,
          resUsed := q.2.resUsed + sum (·.resUsed) cs - sum (·.resUsed) q.2.copies }),
      levels := b1.levels.map fun q => (q.1, q.2.map fix) }
    let d1 := (d.setBuf die b2).bufReport die
    if short then (d1.setFrame f (some { d1.fr f with bad := 3, noCell := true })).cnt (rBUF_CNT_LO die 11) else d1

/-- A frame the tap port has received while its groups were ACTIVE is counted, and a group with JRN writes its rail record
(R107, R110): `reason` 0 none, 0x12 BAD_FCS, 0x13 RUNT, 0x14 OVERSIZE. -/
def Dev.railRecords (d : Dev) (f reason : Nat) : Dev :=
  d.each (d.fr f).rail fun e0 g =>
    let e := e0.cnt (rRAIL_GRP_FRAMES_LO g)
    let fr := e.fr f
    let die := dieOf fr.port
    let left := ((e.railDsts g).map e.railLeft).foldl max 0
    let eunc := uncAdd (uncAdd fr.unc 5) ((left * 16 + 1023) / 1024)
    if !e.lb (rRAIL_GRP_CFG g) fRAIL_GRP_CFG_JRN || !e.jrnActive then e
    else if e.jrnFull die then e.jrnLost die 11
    else e.jrnFrame die f fun fr dg =>
      { ts := fr.ts, ets := stampOf (stampTime fr.ts + e.f (rRAIL_GRP_DELAY g) fRAIL_GRP_DELAY_DELAY * 64), unc := fr.unc,
        eunc := eunc, iport := fr.port, eport := 0xC000 + g, type := 5, reason := reason, digest := dg }

/-- Digests that waited for the frame's bytes are completed (R338). -/
def Dev.fillDigests (d : Dev) (f : Nat) : Dev :=
  let dg := d.digest (d.fr f)
  (d.each (d.fr f).recs fun e x => e.jrnAmend x.1 x.2 fun r => putAt r 48 dg)

/-- The copies of an ended frame in transmission have their shaper charge corrected (R271). -/
def Dev.correctTx (d : Dev) (f : Nat) : Dev :=
  d.each d.path.tx fun e x => match x.2 with
    | some t =>
      if t.copy.pkt.frame = f && t.copy.own.isNone then
        let n := e.trueCharge t.copy t.trailer t.overhead
        (e.correctCharge t.copy.port t.copy.queue t.cls t.charged n t.epoch).setTx x.1 (some { t with charged := n })
      else e
    | none => e

/-- FRAME_END (R61, R107, R121, R242, R271, R338): the checks that need a frame's end, on the frame whose last byte has
arrived on the port. -/
def execFrameEnd (p : Fin 512) (s : State) : Host.Outcome State Fault Refusal :=
  onLive s fun d =>
    let die := dieOf p
    match d.rxOf p with
    | none => d
    | some f =>
      let fr := d.fr f
      if !fr.last then d
      else
        let n := fr.bytes.length
        let d0 := { d with path := { d.path with rx := kvSet none p.val none d.path.rx } }
        let beyond := decide (d.lf (rPRT_CFG p) fPRT_CFG_MAX_FRAME < n)
        let runt := decide (n < 64)
        let badFcs := decide (fcsBytes fr.data ≠ fr.bytes.drop (n - 4))
        let mac := beyond || runt || badFcs
        let d1 := if beyond then d0.pcnt p 4 else if runt then d0.pcnt p 5 else if badFcs then d0.pcnt p 6
          else (((d0.pcnt p 0).pcnt p 1 n).pev (26 + die) 0x10)
        let short := !mac && (match fr.covEnd with
          | some c => decide (n - 4 < c)
          | none => false)
        let d2 := if short then d1.cnt (rPAR_CNT_LO die 14) else d1
        let d3 := d2.setFrame f (some { fr with ended := true, bad := if mac then 1 else if short then 2 else 0, covEnd := none })
        let d4 := (d3.railRecords f (if beyond then 0x14 else if runt then 0x13 else if badFcs then 0x12 else 0)).fillDigests f
        let x := d4.par die
        let drop := d4.setPar die { x with ctxs := x.ctxs.filter fun c => decide (c.frame ≠ f) }
        if !fr.issued && mac then (drop.oldBank die).frameGc f
        else if !fr.issued && d4.isPtp p fr.data then
          ((drop.oldBank die).timQueue p fr.data fr.ts fr.unc).frameGc f
        else if !fr.issued && d4.isRuley p fr.data then ((drop.oldBank die).domQueue p fr.data).frameGc f
        else (((d4.correctFrame 0 f n).correctFrame 1 f n).correctTx f).frameGc f

/-! ### Leaving the device (R140, R267, R319, R320, R346) -/

/-- COPY_DEQUEUE (R267 to R273, R291): the scheduler of port `p` chooses the next copy to start, `dt` past the tick boundary in
2^-16 ns. A level copy whose time has come goes first. -/
def execCopyDequeue (p : Fin 512) (dt : Nat) (s : State) : Host.Outcome State Fault Refusal :=
  onLive s fun d =>
    if (d.txOf p).isSome || d.colStopped p || !d.running then d
    else match d.servedBy p with
      | none => d
      | some (q, pg) =>
        let l := d.levelDequeue p 0 dt dt
        if (kvGet [] d.path.gate p).length < (kvGet [] l.path.gate p).length then l
        else
          let r := d.choose q p pg dt
          match r.2 with
          | .none => r.1
          | .held => r.1
          | .take cls n =>
            match r.1.headOf q n with
            | none => r.1
            | some c => r.1.dequeueCopy q p cls n dt c

/-- The ECN field of a copy set to CE in edited bytes (R251). -/
def Dev.setCe (d : Dev) (die : Nat) (k : Pkt) (bs : List Byte) : List Byte :=
  match d.ecnInst die k with
  | none => bs
  | some (i, v6) =>
    let o := editPos k.edits i.off
    let b := (bs.getD (o + 1) 0).toNat
    if v6 then putAt bs (o + 1) (beBytes 1 (putBits b 5 4 3))
    else fixCsum k.edits (putAt bs (o + 1) (beBytes 1 (putBits b 1 0 3))) i.off i.len

/-- The tally trailer (R346). -/
def Dev.trailer (d : Dev) (ts ets seq : Nat) : List Byte :=
  beBytes 2 0xE7A1 ++ beBytes 2 d.devNo ++ beBytes 12 ts ++ beBytes 12 ets ++ beBytes 4 (seq % 2 ^ 32)

/-- The bytes a copy is sent with, its FCS left out, and whether a two-step event message has passed unchanged. -/
def Dev.sentBytes (d : Dev) (t : TxSt) : List Byte × Bool :=
  let k := t.copy.pkt
  let fr := d.fr k.frame
  let b0 := deparse k.edits fr.data
  let b1 := if t.ce then d.setCe (dieOf t.port) k b0 else b0
  let b2 := if d.lb (rTIM_PORT_CFG t.port) fTIM_PORT_CFG_TC_EN && t.copy.own.isNone then
      ptpResidence b1 ((stampTime t.stamp : Int) - stampTime fr.ts) else (b1, false)
  match t.trailer, t.seq with
  | true, some n => (b2.1 ++ d.trailer fr.ts t.stamp n, b2.2)
  | _, _ => b2

/-- COPY_TRANSMIT_END (R61, R86, R121, R240, R242, R337): the last byte of the copy in transmission on a port leaves: the copy
is whole, stomped or aborted, and its cells are released. -/
def execCopyTransmitEnd (p : Fin 512) (s : State) : Host.Outcome State Fault Refusal :=
  onLive s fun d =>
    match d.txOf p with
    | none => d
    | some t =>
      let f := t.copy.pkt.frame
      let fr := d.fr f
      if !fr.ended then d
      else
        let bad := decide (fr.bad ≠ 0)
        let bs := d.sentBytes t
        let die := dieOf p
        let d1 := if d.isUp p then
            let e := { d with out := { d.out with frames := d.out.frames ++ [({
              port := p, bytes := bs.1, stomped := bad || t.abort, stamp := t.stamp } : SentFrame)] } }
            ((((e.pcnt p 2).pcnt p 3 (bs.1.length + 4)).pev (26 + die) 0x11).pev (26 + die) 0x15)
          else d
        let d2 := if bs.2 then d1.cnt (rTIM_CNT_LO 11) else d1
        let d3 := if bad then d2.pcnt p 7 else d2
        let d4 := match t.seq with
          | some n => if t.abort then d3.jrnAmend t.copy.die n (setReason 0x11)
            else if bad then d3.jrnAmend t.copy.die n (setReason 0x10) else d3
          | none => d3
        let d5 := (((d4.setTx p none).setPort p { d4.portSt p with sending := none }).releaseCopy t.copy).when
          (d.isUp p && t.copy.own.isSome && !t.abort) fun e => e.jrnFrameSent f
        match t.copy.lvl with
        | some l => d5.lvlDrained l.group
        | none => d5

end Sys2Proof.Machine
end

