-- ==== Sys2Proof/Machine/Rail.lean ====
section
/-! DEFINITION. Machine/Rail.lean: the commands of the rail (R92 to R110). -/
namespace Sys2Proof.Machine

/-- RAIL_GROUP_ENABLE: a RAIL_GRP_CFG write with EN 1 (R93, R97): checked; ACQUIRING from the next tick boundary. -/
def execRailGroupEnable (g : Fin 128) (value : BitVec 32) (s : State) : Host.Outcome State Fault Refusal :=
  onDev s fun d => d.railCfgWrite g (putBits value.toNat 31 31 1)

/-- RAIL_GROUP_DISABLE: a RAIL_GRP_CFG write with EN 0 (R97): DISABLED, destinations idle, from the next tick boundary. -/
def execRailGroupDisable (g : Fin 128) (value : BitVec 32) (s : State) : Host.Outcome State Fault Refusal :=
  onDev s fun d => d.railCfgWrite g (putBits value.toNat 31 31 0)

/-- RAIL_DST_CONFIG_WRITE (R92 to R94, R105). -/
def execRailDstConfigWrite (n : Fin 512) (value : BitVec 32) (s : State) : Host.Outcome State Fault Refusal :=
  onDev s fun d => d.railDstWrite n value.toNat

/-- RAIL_DST_START (R94, R96): an added lane's FIFO has reached the group delay; in an ACTIVE group it copies, or is
held idle for its cage. -/
def execRailDstStart (n : Fin 512) (s : State) : Host.Outcome State Fault Refusal :=
  onDev s fun d =>
    let g := d.f (rRAIL_DST_CFG n) fRAIL_DST_CFG_GROUP
    if d.railDest n && (d.railD n).starting && decide (d.railState g = 2) then d.railCopy g n else d

/-- May a group leave ACQUIRING (R97): its selected source has CDR lock and every lane of it that is not retired has completed
a calibration run since entry? -/
def Dev.railReady (d : Dev) (g : Nat) : Bool :=
  decide (d.railState g = 1) && d.port.cdr.contains (d.railSel g) && (d.railG g).calDone.contains (d.railSel g) &&
  (d.railDsts g).all fun n => (d.railD n).retired || (d.railG g).calDone.contains n

/-- RAIL_ACTIVE (R97): the source has CDR lock and every lane of the group has completed a calibration run; the group
enters ACTIVE and RAIL_ACTIVE is raised. -/
def execRailActive (g : Fin 128) (s : State) : Host.Outcome State Fault Refusal :=
  onDev s fun d => if d.railReady g then d.railActivate g else d

/-- RAIL_SRC_LOSS (R102, R105): the selected source is lost: LOSS with the LOSS_ACT stream, SRC_LOSS_EVT, the event, a
class A fault, one more loss. Destinations that copied copy no more (DEDUCED, log entry 77). -/
def execRailSrcLoss (g : Fin 128) (s : State) : Host.Outcome State Fault Refusal :=
  onDev s fun d =>
    if d.railState g = 2 then
      let lane := d.railSel g
      let d1 := { d with port := { d.port with cdr := d.port.cdr.filter (· ≠ lane) } }
      let d2 := ((d1.sf (rRAIL_GRP_STATUS g) fRAIL_GRP_STATUS_STATE 3).sb (rRAIL_GRP_STATUS g)
        fRAIL_GRP_STATUS_SRC_LOSS_EVT true).cntF (rRAIL_GRP_LOSS g) fRAIL_GRP_LOSS_LOSSES
      let d3 := d2.each (d2.railDsts g) fun e n =>
        if e.f (rRAIL_DST_STATUS n) fRAIL_DST_STATUS_DSTATE = 1 then e.railIdleNow n 0 else e
      (((d3.railCount g).raise eRAIL_SRC_LOSS g).classA (g / 64)).railBlind g
    else d

/-- RAIL_ALT_SWITCH (R103, R104): a group in LOSS with ALT_EN whose other source has CDR lock becomes ACTIVE on it
once every FIFO is re-centred. -/
def execRailAltSwitch (g : Fin 128) (s : State) : Host.Outcome State Fault Refusal :=
  onDev s fun d =>
    if d.railState g = 3 && d.b (rRAIL_GRP_CFG g) fRAIL_GRP_CFG_ALT_EN && d.port.cdr.contains (d.railOther g) then
      d.railSwitch g
    else d

/-- RAIL_SRC_RETURN (R104): CDR lock returns on the selected source of a group in LOSS without a working alternate: D
and the FIFOs are set again and the group is ACTIVE. -/
def execRailSrcReturn (g : Fin 128) (s : State) : Host.Outcome State Fault Refusal :=
  onDev s fun d =>
    if d.railState g = 3 &&
        !(d.b (rRAIL_GRP_CFG g) fRAIL_GRP_CFG_ALT_EN && d.port.cdr.contains (d.railOther g)) then
      let lane := d.railSel g
      let d1 := { d with port := { d.port with cdr := lane :: d.port.cdr.filter (· ≠ lane) } }
      (d1.railSetDelay g).railActivate g
    else d

/-- A group on its alternate returns to its source lane from the next tick boundary; ignored while that lane is not
locked (R104). -/
def Dev.selPrimary (d : Dev) (g : Nat) : Dev :=
  if d.b (rRAIL_GRP_STATUS g) fRAIL_GRP_STATUS_ON_ALT && d.port.cdr.contains (d.railOther g) then d.defer (.railPrimary g)
  else d

/-- SEL_PRIMARY (R104): a write of RAIL_GRP_CTRL with SEL_PRIMARY 1. -/
def execSelPrimary (g : Fin 128) (s : State) : Host.Outcome State Fault Refusal :=
  onDev s fun d => d.selPrimary g

/-- A destination is retired from its group (R105). -/
def Dev.railRetire (d : Dev) (n : Nat) : Dev :=
  let d1 := (d.setRailD n { d.railD n with retired := true, starting := false, target := none }).sf
    (rRAIL_DST_STATUS n) fRAIL_DST_STATUS_DSTATE 3
  ((d1.defer (.railIdle n)).raise eRAIL_DST_RETIRED n).report (n / 256) 0xC 2 0x08 n

/-- RAIL_DST_RETIRED (R105): a destination failing its self-check or calibration is retired; a class C fault names it. -/
def execRailDstRetired (n : Fin 512) (s : State) : Host.Outcome State Fault Refusal :=
  onDev s fun d => if d.railDest n && !(d.railD n).retired then d.railRetire n else d

/-- RAIL_FIFO_ADJUST_DONE (R101): a stepping destination reaches its setting. -/
def execRailFifoAdjustDone (n : Fin 512) (s : State) : Host.Outcome State Fault Refusal :=
  onDev s fun d =>
    match (d.railD n).target with
    | none => d
    | some (pos, _) =>
      let d1 := (d.sf (rRAIL_DST_STATUS n) fRAIL_DST_STATUS_FIFO_POS pos).sb (rRAIL_DST_STATUS n)
        fRAIL_DST_STATUS_ADJUSTING false
      (d1.setRailD n { d1.railD n with target := none }).railAdjusting (d1.f (rRAIL_DST_CFG n) fRAIL_DST_CFG_GROUP)

/-- At a deck boundary the delays recomputed by calibration are applied to a group, its destinations stepping toward
their new FIFO settings (R101). -/
def Dev.railCalApply (d : Dev) : Dev :=
  let d1 := d.each d.rail.newDelay fun e x =>
    let g := x.1
    let old := e.f (rRAIL_GRP_DELAY g) fRAIL_GRP_DELAY_DELAY
    let change := if x.2 ≤ old then old - x.2 else x.2 - old
    let e1 := e.sf (rRAIL_GRP_DELAY g) fRAIL_GRP_DELAY_DELAY x.2
    let e2 := e1.each (e1.railDsts g) fun h n =>
      if h.f (rRAIL_DST_STATUS n) fRAIL_DST_STATUS_DSTATE = 1 then
        ((h.setRailD n { h.railD n with target := some (h.free 4096, change), since := h.trk.tick }).sb
          (rRAIL_DST_STATUS n) fRAIL_DST_STATUS_ADJUSTING true).used
      else h
    e2.railAdjusting g
  { d1 with rail := { d1.rail with newDelay := [] } }

end Sys2Proof.Machine
end

