-- ==== Sys2Proof/Machine/Ports.lean ====
section
/-! DEFINITION. Machine/Ports.lean: the commands of lanes, ports, cages and protection groups (R57 to R91, R556).
The commands that a physical event makes (signal, lock, module lines) stand at the tick boundary at which the port's
state changes (R62; log entry 6). -/
namespace Sys2Proof.Machine

/-- PORT_CREATE (R91): a PRT_CFG write with MODE not 0 creates port p from the next tick boundary. -/
def execPortCreate (p : Fin 512) (value : BitVec 32) (s : State) : Host.Outcome State Fault Refusal :=
  onDev s fun d => if bits value.toNat 30 27 = 0 then d else d.prtCfgWrite p value.toNat

/-- PORT_ENABLE (R57, R59, R71): a PRT_CFG write that sets EN: checked; WAIT_MODULE from the next tick boundary. -/
def execPortEnable (p : Fin 512) (value : BitVec 32) (s : State) : Host.Outcome State Fault Refusal :=
  onDev s fun d => d.prtCfgWrite p (putBits value.toNat 31 31 1)

/-- PORT_DISABLE (R57, R60): a PRT_CFG write that clears EN: the port leaves UP at the next tick boundary. -/
def execPortDisable (p : Fin 512) (value : BitVec 32) (s : State) : Host.Outcome State Fault Refusal :=
  onDev s fun d => d.prtCfgWrite p (putBits value.toNat 31 31 0)

/-- PORT_REMOVE (R91): a PRT_CFG write of MODE 0 with EN 0. A port still enabled keeps its MODE (R59). -/
def execPortRemove (p : Fin 512) (value : BitVec 32) (s : State) : Host.Outcome State Fault Refusal :=
  onDev s fun d => d.prtCfgWrite p (putBits value.toNat 31 27 0)

/-- SIGNAL_DETECT (R62, R556): signal on every lane of a cageless port ends WAIT_MODULE. -/
def execSignalDetect (p : Fin 512) (s : State) : Host.Outcome State Fault Refusal :=
  onDev s fun d => if d.pState p = 1 && (d.cageOf p).isNone then d.leaveWait p else d

/-- The modes Clause 73 can resolve to (R63). -/
def anModes : List Nat := [12, 11, 9, 8, 7, 6, 4, 3, 2, 1]

/-- The mode negotiation resolves to: the fastest of the device's advertised modes (same lane count, rate not above the
configured mode's) that the partner advertises too (R63). -/
def anResolve (cfg : Nat) (partner : List Nat) : Option Nat :=
  anModes.find? fun m => decide (modeLanes m = modeLanes cfg) && decide (modeGbps m ≤ modeGbps cfg) && partner.contains m

/-- AUTONEG_RESOLVED (R63, R65, R66): resolution settles the link layer and the port moves to TRAINING; without a
common technology it stays in NEGOTIATE and NO_COMMON_MODE is raised once. -/
def execAutonegResolved (p : Fin 512) (partner : List Nat) (rsAble rsAsk eee : Bool) (s : State) :
    Host.Outcome State Fault Refusal :=
  onDev s fun d =>
    if d.pState p = 2 then
      let x := d.portSt p
      match anResolve (d.cfgMode p) partner with
      | none => if x.noCommon then d else (d.setPort p { x with noCommon := true }).raise ePRT_NEG_FAIL p
      | some m =>
        let cfg := d.f (rPRT_CFG p) fPRT_CFG_FEC
        let fec := if cfg ≠ 3 && fecAllowed m cfg then cfg
          else if m = 2 then (rsAble && rsAsk).toNat else fecDefault m
        ((d.setPort p { x with mode := m, fec := fec, an := true, eee := eee }).linkSettle p).setPState p 3
    else d

/-- LINK_TRAINING_DONE (R64): training, or preset settling, completes: LOCKING. -/
def execLinkTrainingDone (p : Fin 512) (s : State) : Host.Outcome State Fault Refusal :=
  onDev s fun d => if d.pState p = 3 then d.setPState p 4 else d

/-- TRAIN_FAIL (R64): back to NEGOTIATE, or to WAIT_MODULE on a forced port, and TRAIN_FAIL is raised. -/
def execTrainFail (p : Fin 512) (s : State) : Host.Outcome State Fault Refusal :=
  onDev s fun d =>
    if d.pState p = 3 then
      if d.anApplies p then ((d.setPort p { d.portSt p with noCommon := false }).setPState p 2).raise ePRT_NEG_FAIL p
      else
        let d1 := (d.setPState p 1).raise ePRT_NEG_FAIL p
        if d1.cageReadyFor p then d1.defer (.portReady p) else d1
    else d

/-- LOCK_TIMEOUT (R62): 10 decks in LOCKING without lock return the port to TRAINING. -/
def execLockTimeout (p : Fin 512) (s : State) : Host.Outcome State Fault Refusal :=
  onDev s fun d => if d.pState p = 4 then d.setPState p 3 else d

/-- LOSS_OF_SIGNAL (R60, R62, R67, R79, R86, R109): from UP or FAULT the port moves to LOCKING; leaving UP sets LOS_EVT,
raises LINK_DOWN and clears what the partner settled. The port's lanes lose CDR lock unless only block lock is lost. -/
def execLossOfSignal (p : Fin 512) (cause : LossCause) (s : State) : Host.Outcome State Fault Refusal :=
  onDev s fun d =>
    if decide (d.pState p = 5) || decide (d.pState p = 6) then
      let lanes := lanesOf p (d.portSt p).mode
      let d1 := if cause = .blockLock then d
        else { d with port := { d.port with cdr := d.port.cdr.filter fun n => !lanes.contains n } }
      (d1.leaveUp p 4).pev (26 + dieOf p) 0x16
    else d

/-- FAULT_SETS_RECEIVED (R62, R86): an UP port moves to FAULT; remote fault triggers failover where RF_TRIGGER is 1. -/
def execFaultSetsReceived (p : Fin 512) (remote : Bool) (s : State) : Host.Outcome State Fault Refusal :=
  onDev s fun d =>
    if d.isUp p then
      let trig := remote && (match d.pgOf p with
        | some (g, _) => d.b (rPRT_PG_CTRL g) fPRT_PG_CTRL_RF_TRIGGER
        | none => false)
      (d.leaveUp p 6 trig).sb (rPRT_STATUS p)
        (if remote then fPRT_STATUS_REMOTE_FAULT else fPRT_STATUS_LOCAL_FAULT) true
    else d

/-- MGMT_LAYER_TIMEOUT (R65): no hello within 10 rods of entering UP settles the management layer with JEVAR 0. -/
def execMgmtLayerTimeout (p : Fin 512) (s : State) : Host.Outcome State Fault Refusal :=
  onDev s fun d =>
    if d.isUp p && decide ((d.portSt p).layers = 1) && decide ((d.portSt p).upTick + 10000 ≤ d.trk.tick) then
      d.mgmtSettle p false false 0xFFFF
    else d

/-! ### Cages -/

/-- Enabled ports whose lanes lie in a cage. -/
def Dev.cagePorts (d : Dev) (c : Nat) : List Nat :=
  (d.listedIdx (rPRT_CFG 0) 0x40 512).filter fun k => d.b (rPRT_CFG k) fPRT_CFG_EN && decide (d.cageOf k = some c)

/-- Rail destination lanes in a cage. -/
def Dev.cageDsts (d : Dev) (c : Nat) : List Nat :=
  (d.listedIdx (rRAIL_DST_CFG 0) 8 512).filter fun n => d.railDest n && decide (d.cageOf n = some c)

/-- Copying state of a destination after its cage changed (R96). -/
def Dev.railCageChange (d : Dev) (n : Nat) : Dev :=
  let g := d.f (rRAIL_DST_CFG n) fRAIL_DST_CFG_GROUP
  if decide (d.railState g = 2) && !(d.railD n).starting then d.railCopy g n else d

/-- A departure accepted by the scan (R72): ABSENT, MOD_DEPART, every port on the cage to WAIT_MODULE. -/
def Dev.modDepart (d : Dev) (c : Nat) : Dev :=
  let d1 := ((d.setCage c { d.cage c with active := none, apps := [] }).setMstate c 0).raise ePRT_MOD_DEPART c
  let d2 := d1.each (d1.cagePorts c) fun e p => if e.pState p = 0 then e else e.leaveUp p 1
  d2.each (d2.cageDsts c) Dev.railCageChange

/-- One cage's lines as a scan reads them: accepted after two scans agree (R69). Ports that wait on a cage found UNSUPPORTED
go on, forced (R70). -/
def Dev.scanCage (d : Dev) (c : Nat) (line : Option CageLine) : Dev :=
  let x := d.cage c
  let pres := line.isSome
  let int := (line.map (·.int)).getD false
  let d1 := d.setCage c { x with rawPresent := pres, rawInt := int }
  let a := rPRT_CAGE_STATE c
  let d2 := if int = x.rawInt then d1.sb a fPRT_CAGE_STATE_INT int else d1
  if pres = x.rawPresent && pres != d2.b a fPRT_CAGE_STATE_PRESENT then
    let d3 := d2.sb a fPRT_CAGE_STATE_PRESENT pres
    let d4 := d3.each (d3.cagePorts c) fun e p => e.sb (rPRT_STATUS p) fPRT_STATUS_MOD_PRESENT pres
    match line with
    | some l =>
      let d5 := (d4.setMstate c 1).modArrive c l.info
      let d6 := d5.each (d5.cagePorts c) fun e p =>
        if e.pState p = 2 || e.pState p = 3 then e.setPState p 1 else e
      if d6.mstate c = 6 then d6.each (d6.cagePorts c) fun e p => if e.pState p = 1 then e.defer (.portReady p) else e else d6
    | none => d4.modDepart c
  else d2

/-- CAGE_SCAN (R68 to R72): every valid cage of the scanned chains is read; arrivals and departures are taken. -/
def execCageScan (lines : List CageLine) (s : State) : Host.Outcome State Fault Refusal :=
  onDev s fun d =>
    if d.b rPRT_SCAN fPRT_SCAN_EN then
      let n := 64 * min 4 (d.f rPRT_SCAN fPRT_SCAN_CHAINS)
      d.each ((d.listedIdx (rPRT_CAGE 0) 8 256).filter fun c =>
          d.b (rPRT_CAGE c) fPRT_CAGE_VALID && decide (c < n)) fun e c =>
        e.scanCage c (lines.find? fun l => l.cage = c)
    else d

/-- MODULE_READY (R70, R71, R96): a cage in POWERING_UP becomes READY, with MOD_ARRIVE when the wait followed an
arrival; its waiting ports go on, a port its application does not fit stays with MOD_FAULT, its rail lanes copy. -/
def execModuleReady (c : Fin 256) (s : State) : Host.Outcome State Fault Refusal :=
  onDev s fun d =>
    if d.mstate c = 3 then
      let x := d.cage c
      let d1 := (d.setCage c { x with arriving := false }).setMstate c 4
      let d2 := if x.arriving then d1.raise ePRT_MOD_ARRIVE c else d1
      let d3 := d2.each (d2.cagePorts c) fun e p =>
        if e.pState p = 1 then (if e.cageReadyFor p then e.leaveWait p else e.raise ePRT_MOD_FAULT c) else e
      d3.each (d3.cageDsts c) Dev.railCageChange
    else d

/-- MODULE_INIT_TIMEOUT (R70): a wait beyond the module's advertised maximum sets the cage to FAULT. -/
def execModuleInitTimeout (c : Fin 256) (s : State) : Host.Outcome State Fault Refusal :=
  onDev s fun d => if d.mstate c = 3 || d.mstate c = 1 then (d.setMstate c 5).raise ePRT_MOD_FAULT c else d

/-- MOD_FLAG (R73): after MOD_INT the device reads the flag pages and raises MOD_FLAG with the flags found. -/
def execModFlag (c : Fin 256) (flags : Nat) (s : State) : Host.Outcome State Fault Refusal :=
  onDev s fun d =>
    if d.b (rPRT_CAGE_STATE c) fPRT_CAGE_STATE_PRESENT && d.b (rPRT_CAGE_STATE c) fPRT_CAGE_STATE_INT then
      d.raise ePRT_MOD_FLAG c (some (flags % 2 ^ 64))
    else d

/-! ### Flow control -/

/-- A write of PRT_WM (R76, R91): refused with CFG_ERR where XOFF_CELLS is not 0 and XON_CELLS is not below it; else
stored, in force at the next tick boundary, where the fill is judged on the new pair. -/
def Dev.wmWrite (d : Dev) (p q v : Nat) : Dev :=
  let xoff := bits v 31 16
  if d.cfgMode p = 0 || d.insidePort p then d
  else if xoff ≠ 0 && decide (xoff ≤ bits v 15 0) then d.sb (rPRT_STATUS p) fPRT_STATUS_CFG_ERR true
  else d.wn (rPRT_WM p q) v

/-- WATERMARK_WRITE (R76, R91): a write of PRT_WM. -/
def execWatermarkWrite (p : Fin 512) (q : Fin 8) (value : BitVec 32) (s : State) : Host.Outcome State Fault Refusal :=
  onDev s fun d => d.wmWrite p q value.toNat

/-- XOFF_REFRESH (R77): while a priority stays paused, XOFF is sent again. -/
def execXoffRefresh (p : Fin 512) (q : Fin 8) (s : State) : Host.Outcome State Fault Refusal :=
  onDev s fun d =>
    if d.isUp p && decide (bits (d.portSt p).xoffSent q q = 1) then
      d.sendFc p q (d.lf (rPRT_FC p) fPRT_FC_XOFF_QUANTA)
    else d

/-- PAUSED_RX of a port: at least one priority stopped, or about to be. -/
def Dev.pausedRx (d : Dev) (p : Nat) : Dev :=
  d.sb (rPRT_STATUS p) fPRT_STATUS_PAUSED_RX ((d.portSt p).stops.any fun s => decide (d.trk.tick < s.2.2))

/-- A received pause time for one priority (R79, R80). -/
def Dev.rxPause (d : Dev) (p q quanta : Nat) : Dev :=
  let x := d.portSt p
  let t := d.trk.tick + 1
  let d1 := if quanta = 0 then d else d.cnt (rCNT_PORT_LO p 27)
  if quanta ≠ 0 && d1.wdTripped p q then d1.setPort p { x with lastXoff := kvSet 0 q d.trk.tick x.lastXoff }
  else
    let old := x.stops.find? (·.1 = q)
    let rest := x.stops.filter (·.1 ≠ q)
    if quanta = 0 then
      let ns := match old with
        | some o => rest ++ [(q, o.2.1, min o.2.2 t)]
        | none => rest
      (d1.setPort p { x with stops := ns, stopSince := kvErase q x.stopSince }).pausedRx p
    else
      let go := match old with
        | some o => decide (t ≤ o.2.2)
        | none => false
      let fr := if go then (old.map (·.2.1)).getD t else t
      let since := if go then kvGet t x.stopSince q else t
      (d1.setPort p { x with
        stops := rest ++ [(q, fr, t + quantaTicks x.mode quanta)],
        stopSince := (q, since) :: kvErase q x.stopSince,
        lastXoff := kvSet 0 q d.trk.tick x.lastXoff }).pausedRx p

/-- PAUSE_FRAME_RECEIVE (R75, R79, R80): a frame of the kind the port obeys stops or restarts the queues of the
priorities it names, from the next tick boundary; any other is not obeyed. -/
def execPauseFrameReceive (p : Fin 512) (pfc : Bool) (vec : BitVec 8) (quanta : List Nat) (s : State) :
    Host.Outcome State Fault Refusal :=
  onDev s fun d =>
    let m := d.lf (rPRT_CFG p) fPRT_CFG_FC_MODE
    if d.isUp p && decide (m = if pfc then 2 else 1) then
      if pfc then
        d.each ((List.range 8).filter fun q =>
            vec.getLsbD q && decide (bits (d.lf (rPRT_FC p) fPRT_FC_PFC_EN) q q = 1)) fun e q =>
          e.rxPause p q (quanta.getD q 0)
      else d.rxPause p 0 (quanta.getD 0 0)
    else d

/-- PAUSE_EXPIRE (R79): a pause time has run out and the stop ends. -/
def execPauseExpire (p : Fin 512) (q : Fin 8) (s : State) : Host.Outcome State Fault Refusal :=
  onDev s fun d =>
    let x := d.portSt p
    if x.stops.any fun o => decide (o.1 = q) && decide (o.2.2 ≤ d.trk.tick) then
      (d.setPort p { x with stops := x.stops.filter (·.1 ≠ q.val), stopSince := kvErase q x.stopSince }).pausedRx p
    else d

/-- PFC_WD_TRIP (R80): a priority stopped for WD_MS milliseconds trips the watchdog, and its stop ends. -/
def execPfcWdTrip (p : Fin 512) (q : Fin 8) (s : State) : Host.Outcome State Fault Refusal :=
  onDev s fun d =>
    let x := d.portSt p
    let ms := d.lf (rPRT_PFC_WD p) fPRT_PFC_WD_WD_MS
    match x.stopSince.find? fun o => o.1 = q.val with
    | none => d
    | some e =>
      if ms ≠ 0 && decide (e.2 + ms * 100000 ≤ d.trk.tick) && !d.wdTripped p q then
        let t := d.f (rPRT_STATUS p) fPRT_STATUS_PFC_WD_TRIP
        let d1 := d.setPort p { x with stops := x.stops.filter (·.1 ≠ q.val), stopSince := kvErase q x.stopSince }
        ((d1.sf (rPRT_STATUS p) fPRT_STATUS_PFC_WD_TRIP (putBits t q q 1)).pausedRx p).raise ePRT_PFC_WD_TRIP p
      else d

/-- PFC_WD_RESTORE (R80, R91): RESTORE_MS milliseconds, one tick at least, without XOFF restore a tripped priority. -/
def execPfcWdRestore (p : Fin 512) (q : Fin 8) (s : State) : Host.Outcome State Fault Refusal :=
  onDev s fun d =>
    if d.wdTripped p q &&
        decide (kvGet 0 (d.portSt p).lastXoff q + max 1 (d.lf (rPRT_PFC_WD p) fPRT_PFC_WD_RESTORE_MS * 100000) ≤ d.trk.tick) then
      let t := d.f (rPRT_STATUS p) fPRT_STATUS_PFC_WD_TRIP
      (d.sf (rPRT_STATUS p) fPRT_STATUS_PFC_WD_TRIP (putBits t q q 0)).raise ePRT_PFC_WD_RESTORE p
    else d

/-! ### Lane shedding and low-power idle -/

/-- May a port shed lanes (R81)? -/
def Dev.shedOk (d : Dev) (p : Nat) : Bool :=
  d.isUp p && d.lb (rPRT_CFG p) fPRT_CFG_SHED_EN && d.b (rPRT_PARTNER p) fPRT_PARTNER_JEVAR &&
  d.b (rPRT_PARTNER p) fPRT_PARTNER_SHED_CAP && d.locked && !d.levelMember p && (d.pgOf p).isNone &&
  (d.railOfPort p).isEmpty && !d.anchored p &&
  decide (d.lf (rPRT_SHED p) fPRT_SHED_MIN_LANES_LOG2 < d.f (rPRT_STATUS p) fPRT_STATUS_ACTIVE_LANES_LOG2)

/-- SHED_PROPOSAL (R81, R82): both loads below SHED_PCT percent of what would remain: a shed request naming the first
rod boundary at least 2 rods ahead is sent. -/
def execShedProposal (p : Fin 512) (tx rx : Nat) (s : State) : Host.Outcome State Fault Refusal :=
  onDev s fun d =>
    let x := d.portSt p
    let pct := d.lf (rPRT_SHED p) fPRT_SHED_SHED_PCT
    if d.shedOk p && decide (d.lf (rPRT_SHED p) fPRT_SHED_WINDOW_RODS ≠ 0) && decide (tx < pct) && decide (rx < pct) &&
        decide (x.shedBlocked ≤ d.rod) && x.shedAsked.isNone && x.shedRod.isNone then
      let rod := (d.trk.tick + 2000 + 999) / 1000
      let lanes := 2 ^ (d.f (rPRT_STATUS p) fPRT_STATUS_ACTIVE_LANES_LOG2 - 1)
      (d.setPort p { x with shedAsked := some rod }).ruleyLink p 0x0C (beBytes 8 rod ++ beBytes 1 lanes)
    else d

/-- SHED_STEP (R82): at the agreed rod boundary the port runs on half its lanes; the change is told (R74). -/
def execShedStep (p : Fin 512) (s : State) : Host.Outcome State Fault Refusal :=
  onDev s fun d =>
    let x := d.portSt p
    match x.shedRod with
    | none => d
    | some r =>
      let n := d.f (rPRT_STATUS p) fPRT_STATUS_ACTIVE_LANES_LOG2
      if decide (d.rod = r) && decide (0 < n) then
        ((d.setPort p { x with shedRod := none }).sf (rPRT_STATUS p) fPRT_STATUS_ACTIVE_LANES_LOG2 (n - 1)).raise
          ePRT_SHED_CHANGE p
      else d

/-- The rod of the first rod boundary at least 5 µs (500 ticks) ahead (R83). -/
def Dev.wakeAt (d : Dev) : Nat := (d.trk.tick + 500 + 999) / 1000

/-- LANE_RESTORE (R83): at the agreed rod boundary all lanes are active again, without retraining. -/
def execLaneRestore (p : Fin 512) (s : State) : Host.Outcome State Fault Refusal :=
  onDev s fun d =>
    let x := d.portSt p
    match x.wakeRod with
    | none => d
    | some r =>
      if d.rod = r then
        let n := log2Lanes (modeLanes x.mode)
        ((d.setPort p { x with wakeRod := none, shedRod := none }).sf (rPRT_STATUS p) fPRT_STATUS_ACTIVE_LANES_LOG2
          n).raise ePRT_SHED_CHANGE p
      else d

/-- SHED_REQ (R82, R456): the partner asks for a shed step. Accepted where the same condition holds here (`tx` and `rx`
are the port's own average loads), else refused. -/
def execShedReq (p : Fin 512) (rod : Nat) (lanes : Nat) (tx rx : Nat) (s : State) : Host.Outcome State Fault Refusal :=
  onDev s fun d0 =>
    let d := d0.domDrop p 0x0C
    let x := d.portSt p
    let pct := d.lf (rPRT_SHED p) fPRT_SHED_SHED_PCT
    if d.shedOk p && decide (tx < pct) && decide (rx < pct) && decide (d.rod < rod) &&
        decide (lanes * 2 = 2 ^ d.f (rPRT_STATUS p) fPRT_STATUS_ACTIVE_LANES_LOG2) then
      (d.setPort p { x with shedRod := some rod, shedAsked := none }).ruleyLink p 0x0D (beBytes 8 rod)
    else d.ruleyLink p 0x0E (beBytes 8 rod)

/-- SHED_ACK (R82): the accepted step is scheduled for the agreed rod. -/
def execShedAck (p : Fin 512) (rod : Nat) (s : State) : Host.Outcome State Fault Refusal :=
  onDev s fun d0 =>
    let d := d0.domDrop p 0x0D
    let x := d.portSt p
    if x.shedAsked = some rod then d.setPort p { x with shedAsked := none, shedRod := some rod } else d

/-- SHED_NAK (R82): a refusal blocks proposals for one window. -/
def execShedNak (p : Fin 512) (rod : Nat) (s : State) : Host.Outcome State Fault Refusal :=
  onDev s fun d0 =>
    let d := d0.domDrop p 0x0E
    let x := d.portSt p
    if x.shedAsked = some rod then
      d.setPort p { x with shedAsked := none, shedBlocked := d.rod + d.lf (rPRT_SHED p) fPRT_SHED_WINDOW_RODS }
    else d

/-- WAKE_REQ (R83): the partner asks for all lanes; they are restored at the rod it names. -/
def execWakeReq (p : Fin 512) (rod : Nat) (s : State) : Host.Outcome State Fault Refusal :=
  onDev s fun d => (d.domDrop p 0x0F).setPort p { d.portSt p with wakeRod := some rod }

/-- LPI_ENTER (R84): a transmitter idle for IDLE_TICKS ticks enters low-power idle where R84 allows it. -/
def execLpiEnter (p : Fin 512) (idle : Nat) (s : State) : Host.Outcome State Fault Refusal :=
  onDev s fun d =>
    let x := d.portSt p
    let n := d.lf (rPRT_EEE p) fPRT_EEE_IDLE_TICKS
    if d.isUp p && d.lb (rPRT_CFG p) fPRT_CFG_EEE_EN && x.eee && [1, 2, 4].contains x.mode && !d.levelMember p &&
        (d.pgOf p).isNone && (d.railOfPort p).isEmpty && !d.anchored p && decide (n ≠ 0) && decide (n ≤ idle) &&
        x.sending.isNone then
      d.sb (rPRT_STATUS p) fPRT_STATUS_LPI_TX true
    else d

/-! ### Protection groups -/

/-- The membership check of R85 for a control value. -/
def Dev.pgCheck (d : Dev) (g v : Nat) : Bool :=
  let d1 := d.wn (rPRT_PG_CTRL g) v
  let ms := (d1.pgMembers g).map (·.2)
  decide (2 ≤ ms.length) && ms.Nodup &&
  ms.all (fun p => decide (d.cfgMode p ≠ 0) && decide (d.cfgMode p = d.cfgMode (ms.headD 0)) &&
    (d.railOfPort p).isEmpty && !d.railDest p)

/-- A write of PRT_PG_CTRL[g] (R85): DIE is kept while EN is 1; EN stays 0 with CFG_ERR when the check fails, and while CFG_ERR is
set (R91). -/
def Dev.pgCtrlWrite (d : Dev) (g v : Nat) : Dev :=
  let old := d.rn (rPRT_PG_CTRL g)
  let v1 := putBits v 27 24 0
  let new := if bits old 31 31 = 1 then putBits v1 28 28 (bits old 28 28) else v1
  if bits new 31 31 = 1 && decide (bits old 31 31 = 0) then
    if d.b (rPRT_PG_STATUS g) fPRT_PG_STATUS_CFG_ERR then d.wn (rPRT_PG_CTRL g) (putBits new 31 31 0)
    else if d.pgCheck g new then
      let d1 := d.wn (rPRT_PG_CTRL g) new
      let act := (((d1.pgMembers g).find? fun m => d1.isUp m.2).map (·.1)).getD 0
      (d1.sf (rPRT_PG_STATUS g) fPRT_PG_STATUS_ACTIVE_IDX act).pgRefresh g
    else (d.wn (rPRT_PG_CTRL g) (putBits new 31 31 0)).sb (rPRT_PG_STATUS g) fPRT_PG_STATUS_CFG_ERR true
  else d.wn (rPRT_PG_CTRL g) new

/-- PG_ENABLE (R85): a PRT_PG_CTRL write with EN 1. -/
def execPgEnable (g : Fin 128) (value : BitVec 32) (s : State) : Host.Outcome State Fault Refusal :=
  onDev s fun d => d.pgCtrlWrite g (putBits value.toNat 31 31 1)

/-- The group's queues are served to member `i` from now on (R86): PG_SWITCH, one more switch. -/
def Dev.pgServe (d : Dev) (g i : Nat) : Dev :=
  let d1 := (d.sf (rPRT_PG_STATUS g) fPRT_PG_STATUS_ACTIVE_IDX i).setPg g { d.pgSt g with switchAt := none }
  ((d1.cntF (rPRT_PG_STATUS g) fPRT_PG_STATUS_SWITCHES).sb (rPRT_PG_STATUS g) fPRT_PG_STATUS_WTR_RUNNING false).raise
    ePRT_PG_SWITCH g

/-- PG_SWITCH (R86, R87): from the second tick boundary after the loss member 0's queues are served to the next member
in UP; a failover counts as a class A fault. With no member in UP the group has none (R87). -/
def execPgSwitch (g : Fin 128) (s : State) : Host.Outcome State Fault Refusal :=
  onDev s fun d =>
    match (d.pgSt g).switchAt with
    | none => d
    | some t =>
      if t ≤ d.trk.tick then
        match (d.pgMembers g).find? fun m => d.isUp m.2 with
        | some m => (d.pgServe g m.1).classA (d.f (rPRT_PG_CTRL g) fPRT_PG_CTRL_DIE)
        | none => (d.setPg g { d.pgSt g with switchAt := none }).pgRefresh g
      else d

/-- PG_REVERT (R87): a revertive group switches back once a lower-indexed member has stayed in UP for WTR_DECKS decks. -/
def execPgRevert (g : Fin 128) (s : State) : Host.Outcome State Fault Refusal :=
  onDev s fun d =>
    let act := d.f (rPRT_PG_STATUS g) fPRT_PG_STATUS_ACTIVE_IDX
    let wtr := d.lf (rPRT_PG_CTRL g) fPRT_PG_CTRL_WTR_DECKS
    if d.lb (rPRT_PG_CTRL g) fPRT_PG_CTRL_EN && d.lb (rPRT_PG_CTRL g) fPRT_PG_CTRL_REVERTIVE then
      match (d.pgMembers g).find? fun m => decide (m.1 < act) && d.isUp m.2 &&
          decide ((d.portSt m.2).upTick + wtr * 100000 ≤ d.trk.tick) with
      | some m => d.pgServe g m.1
      | none => d
    else d

/-! ### Medium-boundary calibration -/

/-- Is a temperature or period run of a lane due at a die temperature (R89)? A lane that has noted none takes any. -/
def Dev.calDue (d : Dev) (n temp : Nat) : Bool :=
  let t := kvGet 0 d.port.calTemp n
  let period := d.lf rPRT_CAL_CTRL fPRT_CAL_CTRL_PERIOD_DECKS
  decide (t = 0) || decide (d.lf rPRT_CAL_CTRL fPRT_CAL_CTRL_TEMP_STEP_C ≤ max (temp + 1) t - min (temp + 1) t) ||
    (decide (period ≠ 0) && decide (kvGet 0 d.port.calTick n + period * 100000 ≤ d.trk.tick))

/-- LANE_CAL_TRIGGER (R89, R465): a temperature or period run starts on a lane, and the die temperature is noted. It is
deferrable: without a unit left to it in the rod it waits for a later trigger. Runs at entry to UP start there. -/
def execLaneCalTrigger (n : Fin 512) (temp : Nat) (s : State) : Host.Outcome State Fault Refusal :=
  onDev s fun d =>
    if d.calDue n temp then
      let t := d.nrgTake 9
      if t.2 then
        let d1 := t.1.calStart [n]
        { d1 with port := { d1.port with calTemp := kvSet 0 n (temp + 1) d1.port.calTemp } }
      else d
    else d

/-- LANE_CAL_DONE (R89, R90, R101, R105): a converged run leaves its delays to be applied at the next deck boundary and
raises CAL_DONE; one that fails keeps the old values and raises MOD_FAULT naming the lane, and retires a rail
destination. -/
def execLaneCalDone (n : Fin 512) (rx tx : Nat) (converged : Bool) (s : State) : Host.Outcome State Fault Refusal :=
  onDev s fun d =>
    if d.port.calRunning.contains n.val then
      let d1 := { d with port := { d.port with calRunning := d.port.calRunning.filter (· ≠ n.val) } }
      if converged then
        let cn := d1.port.calNew.filter (·.1 ≠ n.val) ++ [(n.val, rx % 65536, tx % 65536)]
        let d2 := { d1 with port := { d1.port with calNew := cn } }
        let gs := d2.railGroups.filter fun g =>
          decide (d2.railSel g = n) || (d2.railDest n && decide (d2.f (rRAIL_DST_CFG n) fRAIL_DST_CFG_GROUP = g))
        let d3 := d2.each gs fun e g =>
          let e1 := e.setRailG g { e.railG g with calDone := n.val :: (e.railG g).calDone.filter (· ≠ n.val) }
          let nd := e1.rail.newDelay.filter (·.1 ≠ g) ++ [(g, e1.free 4609)]
          ({ e1 with rail := { e1.rail with newDelay := nd } }).used
        d3.raise ePRT_CAL_DONE 0xFFFF
      else
        let d2 := (d1.raise ePRT_CAL_DONE 0xFFFF).raise ePRT_MOD_FAULT n
        if d2.railDest n && !(d2.railD n).retired then d2.railRetire n else d2
    else d

/-- At a deck boundary new lane delays are applied (R90); a change of more than 0.1 ns on an anchored port is a lane
recalibration, and the port is off-grid until re-anchored (R54). -/
def Dev.calApply (d : Dev) : Dev :=
  let d1 := d.each d.port.calNew fun e x =>
    let n := x.1
    let far (a b : Nat) : Bool := decide (102 < a - b) || decide (102 < b - a)
    let moved := far (e.f (rPRT_LANE_CAL_TX n) fPRT_LANE_CAL_TX_DELAY) x.2.2 || far (e.f (rPRT_LANE_CAL_RX n) fPRT_LANE_CAL_RX_DELAY) x.2.1
    let e1 := (e.wn (rPRT_LANE_CAL_RX n) (2 ^ 31 + x.2.1)).wn (rPRT_LANE_CAL_TX n) (2 ^ 31 + x.2.2)
    if moved && e1.anchored n then
      (e1.setPort n { e1.portSt n with gridSet := false }).sb (rPRT_STATUS n) fPRT_STATUS_OFF_GRID true
    else e1
  { d1 with port := { d1.port with calNew := [] } }

end Sys2Proof.Machine
end

