-- ==== Sys2Proof/Machine/RegWrite.lean ====
section
/-! DEFINITION. Machine/RegWrite.lean: what a host write does to a register's fields by their types (R6 to R9). -/
namespace Sys2Proof.Machine

/-- A field after a write of `v` over `old` (R6). -/
def mergeField (v : Nat) (old : Nat) (f : FDesc) : Nat :=
  match f.ty with
  | .rw => putBits old f.fld.hi f.fld.lo (bits v f.fld.hi f.fld.lo)
  | .rw1c =>
    let was := bits old f.fld.hi f.fld.lo
    putBits old f.fld.hi f.fld.lo (was - Nat.land was (bits v f.fld.hi f.fld.lo))
  | .rw1s => putBits old f.fld.hi f.fld.lo (Nat.lor (bits old f.fld.hi f.fld.lo) (bits v f.fld.hi f.fld.lo))
  | .ro | .wo | .rc => old

/-- A register after a write (R6, R7): reserved fields ignore it. -/
def RDesc.merge (r : RDesc) (old v : Nat) : Nat := r.fields.foldl (mergeField v) old

/-- A host write of a register with no effect beyond its fields; an address that names none ignores it (R414). -/
def Dev.plainWrite (d : Dev) (a v : Nat) : Dev :=
  match regAt a with
  | none => d
  | some r => d.wn a (r.merge (d.rn a) v)

/-- Reading an RC field clears it to 0 (R6). -/
def readClear (old : Nat) (f : FDesc) : Nat :=
  match f.ty with
  | .rc => putBits old f.fld.hi f.fld.lo 0
  | .rw | .rw1c | .rw1s | .ro | .wo => old

/-- What a host read returns: WO fields read 0 (R6). -/
def readValue (old : Nat) (f : FDesc) : Nat :=
  match f.ty with
  | .wo => putBits old f.fld.hi f.fld.lo 0
  | .rw | .rw1c | .rw1s | .ro | .rc => old

/-- The value of a register as a host reads it. -/
def Dev.plainRead (d : Dev) (a : Nat) : Nat :=
  match regAt a with
  | none => 0
  | some r => r.fields.foldl readValue (d.rn a)

/-- The effect of a host read on the register (R6). -/
def Dev.readEffect (d : Dev) (a : Nat) : Dev :=
  match regAt a with
  | none => d
  | some r => d.wn a (r.fields.foldl readClear (d.rn a))

end Sys2Proof.Machine
end

