-- ==== Sys2Proof/Machine/TimOps.lean ====
section
/-! DEFINITION. Machine/TimOps.lean: PTP ports, messages, offsets and the servo (R302 to R328). Message layouts are those of
IEEE 1588-2019 (PRESUMED, log entry 5). -/
namespace Sys2Proof.Machine

/-- What a PTP port keeps beside its registers. -/
def Dev.timPort (d : Dev) (p : Nat) : TimPort := kvGet {} d.tim.ports p

/-- Replace it. -/
def Dev.setTimPort (d : Dev) (p : Nat) (x : TimPort) : Dev := { d with tim := { d.tim with ports := kvSet {} p x d.tim.ports } }

/-- PTP state of a port: 0 DISABLED, 2 MASTER, 3 SLAVE, 4 PASSIVE, 5 UNCALIBRATED. -/
def Dev.pstate (d : Dev) (p : Nat) : Nat := d.f (rTIM_PORT_STATE p) fTIM_PORT_STATE_PSTATE

/-- Does PTP run on a port? -/
def Dev.ptpOn (d : Dev) (p : Nat) : Bool := d.lb (rTIM_PORT_CFG p) fTIM_PORT_CFG_PTP_EN

/-- Ports with PTP registers written. -/
def Dev.ptpPorts (d : Dev) : List Nat := (d.listedIdx (rTIM_PORT_CFG 0) 16 512).filter d.ptpOn

/-- Is the partner of a port a Jevar device (R65)? -/
def Dev.jevar (d : Dev) (p : Nat) : Bool := d.b (rPRT_PARTNER p) fPRT_PARTNER_JEVAR

/-- Set a port's PTP state; a change starts its measurements anew (R313). -/
def Dev.setPstate (d : Dev) (p st : Nat) : Dev :=
  if d.pstate p = st then d
  else
    let x := d.timPort p
    ((d.sf (rTIM_PORT_STATE p) fTIM_PORT_STATE_PSTATE st).sb (rTIM_PORT_STATE p) fTIM_PORT_STATE_MONITOR false).setTimPort p
      { x with entered := d.trk.tick, heard := false, lastSync := d.trk.tick, sync := none, downLeg := none, req := none, presp := none }

/-- Is the device the root of its Ruley tree? -/
def Dev.isRoot (d : Dev) : Bool := d.f rDOM_STATUS fDOM_STATUS_STATE = 4

/-- SLAVE, or UNCALIBRATED while the L1SYNC exchange of a high-accuracy port has not confirmed both ends (R322). -/
def Dev.slaveState (d : Dev) (p : Nat) : Nat :=
  if d.lb (rTIM_PORT_CFG p) fTIM_PORT_CFG_HA && !(d.timPort p).l1 then 5 else 3

/-- The state a port takes from the Ruley tree, or from HOST_SLAVE on a root (R313, modes 0 and 1). -/
def Dev.treeState (d : Dev) (p : Nat) : Nat :=
  if !d.ptpOn p then 0
  else if d.lb (rTIM_PORT_CFG p) fTIM_PORT_CFG_HOST_SLAVE && d.isRoot then d.slaveState p
  else if decide (d.dom.parent.map (·.2) = some p) then d.slaveState p
  else if d.dom.children.any fun c => decide (c.2 = p) then 2
  else if d.lb (rTIM_PORT_CFG p) fTIM_PORT_CFG_HOST_MASTER then 2
  else 4

/-! ### Time layer (R318) -/

/-- Ticks of an interval of 2^log seconds. -/
def logTicks (log : Int) : Nat := 100000000 * 2 ^ log.toNat / 2 ^ (-log).toNat

/-- Has the partner of a SLAVE or PASSIVE port sent no PTP message within 3 announce intervals of the port's entry (R318)? -/
def Dev.timSilent (d : Dev) (p : Nat) : Bool :=
  let x := d.timPort p
  !x.heard && (decide (d.pstate p = 3) || decide (d.pstate p = 4)) &&
    decide (x.entered + 3 * logTicks (sext 4 (d.lf (rTIM_PORT_CFG p) fTIM_PORT_CFG_LOG_ANNOUNCE)) ≤ d.trk.tick)

/-- Settle or re-settle the time layer of a port whose management layer has settled: PARTNER_CHANGE with data 3 when a
value has changed and both are known. -/
def Dev.timLayer (d : Dev) (p stepSeen : Nat) : Dev :=
  let x := d.timPort p
  let a := rPRT_PARTNER p
  if !d.isUp p then
    if x.peer || decide (x.probes ≠ 0) || x.l1 || x.tlv.isSome then
      d.setTimPort p { x with peer := false, probes := 0, l1 := false, tlv := none }
    else d
  else if (d.portSt p).layers < 2 then d
  else
    let cfg := d.lf (rTIM_PORT_CFG p) fTIM_PORT_CFG_DELAY
    let on := d.ptpOn p
    let silent := d.timSilent p
    let mech := if !on || silent then 0 else if cfg = 1 ∨ cfg = 2 then cfg else if d.jevar p then 2 else if x.peer then 2
      else if decide (3 ≤ x.probes) && (match x.req with
        | none => true
        | some (_, t) => decide (t + logTicks (sext 4 (d.lf (rTIM_PORT_CFG p) fTIM_PORT_CFG_LOG_DELAY)) * 655360 ≤ d.nowT)) then 1
      else 0
    let step := if !on || silent then 0
      else if d.pstate p = 3 then (if stepSeen ≠ 0 then stepSeen else d.f a fPRT_PARTNER_TIME_STEP)
      else if d.lb (rTIM_PORT_CFG p) fTIM_PORT_CFG_ONE_STEP_EN then 1 else 2
    let same := decide (d.f a fPRT_PARTNER_DELAY_MECH = mech) && decide (d.f a fPRT_PARTNER_TIME_STEP = step)
    let d1 := (d.sf a fPRT_PARTNER_DELAY_MECH mech).sf a fPRT_PARTNER_TIME_STEP step
    if (same && decide ((d.portSt p).layers = 3)) || (on && (decide (mech = 0) || decide (step = 0))) then d1
    else (d1.setPort p { d1.portSt p with layers := 3 }).raise ePRT_PARTNER_CHANGE p (some 3)

/-- Port states follow the tree in mode 0, and HOST_SLAVE in mode 1 (R313). -/
def Dev.timFollow (d : Dev) : Dev :=
  let m := d.lf rTIM_CTRL fTIM_CTRL_STATE_SRC
  let ps := d.listedIdx (rTIM_PORT_CFG 0) 16 512
  if m = 0 then d.each ps fun e p => (e.setPstate p (e.treeState p)).timLayer p 0
  else if m = 1 then
    d.each ps fun e p =>
      (if !e.ptpOn p then e.setPstate p 0
       else if e.lb (rTIM_PORT_CFG p) fTIM_PORT_CFG_HOST_SLAVE && e.isRoot then e.setPstate p (e.slaveState p) else e).timLayer p 0
  else d.each ps fun e p => (if e.ptpOn p then e else e.setPstate p 0).timLayer p 0

/-! ### Uncertainty (R308, R309, R328) -/

/-- Magnitude of an offset in 1/16 ns, rounded up. -/
def uncOf (e : Int) : Nat := (e.natAbs + 4095) / 4096

/-- U_LINK of a port (R308). -/
def Dev.uLink (d : Dev) (p : Nat) : Nat :=
  match (d.timPort p).offs with
  | [] => 0xFFFF
  | l => uncAdd (uncAdd ((l.map uncOf).foldl max 0) (d.f (rTIM_PORT_ASYM p) fTIM_PORT_ASYM_ASYM_UNC)) 4

/-- U_DOM a port's partner advertises, or the one assumed of it (R308). -/
def Dev.uPartner (d : Dev) (p : Nat) : Nat :=
  match (d.timPort p).tlv with
  | some t => t.uDom
  | none =>
    let u := d.f (rTIM_PORT_ASYM p) fTIM_PORT_ASYM_PARENT_UNC
    if u = 255 then 0xFFFF else 16 * u

/-- U_DOM in HOLDOVER (R328): `ticks` since entry with `u0`; each term rounded up to 1/16 ns. -/
def Dev.uHold (d : Dev) (u0 ticks : Nat) : Nat :=
  let drift := if d.b rTIM_STATUS fTIM_STATUS_SYNCE_IN_USE then d.lf rTIM_HOLD fTIM_HOLD_DRIFT_SE
    else d.lf rTIM_HOLD fTIM_HOLD_DRIFT_FREE
  let age := d.lf rTIM_HOLD_AGE fTIM_HOLD_AGE_AGE
  let a := (16 * drift * ticks + 9999999999) / 10000000000
  let b := (16 * age * ticks * ticks + 19999999999999999999) / 20000000000000000000
  uncAdd (uncAdd u0 a) b

/-- Is the device a free-running root: ROOT_FREE set and SECONDS set by host software (R314)? -/
def Dev.rootFree (d : Dev) : Bool := d.isRoot && d.lb rTIM_CTRL fTIM_CTRL_ROOT_FREE && d.tim.secSet

/-- A PTP partner or PPS_IN is the source. -/
def Dev.srcValid (d : Dev) : Bool := d.b rTIM_STATUS fTIM_STATUS_SRC_VALID

/-- The source port; 0xFFFF for PPS_IN. -/
def Dev.srcPort (d : Dev) : Nat := if d.b rTIM_STATUS fTIM_STATUS_SRC_PPS then 0xFFFF else d.f rTIM_STATUS fTIM_STATUS_SRC_PORT

/-- U_DOM as it is computed while TIME_LOCKED is set (R308). -/
def Dev.uLocked (d : Dev) : Nat :=
  match d.tim.hold with
  | some (u0, t) => d.uHold u0 (d.trk.tick - t)
  | none =>
    if d.srcValid then
      if d.b rTIM_STATUS fTIM_STATUS_SRC_PPS then d.lf rTIM_UNC_MAX fTIM_UNC_MAX_ROOT_UNC
      else uncAdd (d.uPartner d.srcPort) (d.uLink d.srcPort)
    else if d.rootFree then d.lf rTIM_UNC_MAX fTIM_UNC_MAX_ROOT_UNC else 0xFFFF

/-- Recompute U_DOM and the U_LINK figures (R308). -/
def Dev.uRefresh (d : Dev) : Dev :=
  let d1 := d.each d.ptpPorts fun e p => e.sf (rTIM_PORT_STATE p) fTIM_PORT_STATE_U_LINK (e.uLink p)
  (d1.sf rTIM_UNC fTIM_UNC_U_DOM (if d.locked then d.uLocked else 0xFFFF)).sf rTIM_UNC fTIM_UNC_U_LINK
    (if d.srcValid && !d.b rTIM_STATUS fTIM_STATUS_SRC_PPS then d.uLink d.srcPort else 0xFFFF)

/-! ### TIME_LOCKED (R54, R327, R350) -/

/-- GRID_VALID follows DOMAIN and TIME_LOCKED; losing it puts every port off-grid (R54). -/
def Dev.gridRefresh (d : Dev) : Dev :=
  let v := d.b rTCK_STATUS fTCK_STATUS_DOMAIN && d.locked
  if v = d.b rTCK_GRID fTCK_GRID_GRID_VALID then d
  else if v then d.sb rTCK_GRID fTCK_GRID_GRID_VALID true
  else
    let d1 := (d.sb rTCK_GRID fTCK_GRID_GRID_VALID false).sb rTCK_GRID fTCK_GRID_GRID_LOST true
    d1.each (d1.listedIdx (rPRT_STATUS 0) 0x40 512) fun e p =>
      if e.anchored p then (e.sb (rPRT_STATUS p) fPRT_STATUS_OFF_GRID true).setPort p { e.portSt p with gridSet := false } else e

/-- TIME_LOCKED sets (R308, R327). -/
def Dev.timeLock (d : Dev) : Dev :=
  if d.locked then d
  else
    let d1 := (((d.sb rTIM_STATUS fTIM_STATUS_TIME_LOCKED true).sb rTCK_STATUS fTCK_STATUS_LOCKED true).sf rTIM_STATUS
      fTIM_STATUS_SSTATE (if d.tim.hold.isSome then 3 else 2)).raise eTIM_LOCKED 0xFFFF
    d1.uRefresh.gridRefresh.jrnMarking

/-- TIME_LOCKED clears (R308, R327, R350): each die of an ACTIVE journal writes an UNLOCK mark. -/
def Dev.timeUnlock (d : Dev) : Dev :=
  if !d.locked then d
  else
    let d0 := (d.sb rTIM_STATUS fTIM_STATUS_TIME_LOCKED false).sb rTCK_STATUS fTCK_STATUS_LOCKED false
    let d1 := if d0.f rTIM_STATUS fTIM_STATUS_SSTATE = 2 then d0.sf rTIM_STATUS fTIM_STATUS_SSTATE 1 else d0
    let d2 := { d1 with tim := { d1.tim with lockRow := 0 } }.raise eTIM_UNLOCKED 0xFFFF
    let d3 := d2.each [0, 1] fun e die => e.jrnMark die 6 0xFFFF 0xFFFFFFFF
    d3.uRefresh.gridRefresh.jrnMarking

/-! ### The source (R324 to R326) -/

/-- Time depth of the device (R323). -/
def Dev.timDepth (d : Dev) : Dev :=
  let v := if d.srcValid && !d.b rTIM_STATUS fTIM_STATUS_SRC_PPS then
      (match (d.timPort d.srcPort).tlv with
       | some t => if t.depth < 0xFE then t.depth + 1 else 0xFF
       | none => 0xFF)
    else if d.isRoot then 0 else 0xFF
  d.sf rTIM_STATUS fTIM_STATUS_DEPTH v

/-- Set the source, a port or PPS_IN (0xFFFF): TIM_SRC_CHANGE (R324). -/
def Dev.setSource (d : Dev) (p : Nat) : Dev :=
  let d1 := ((d.sb rTIM_STATUS fTIM_STATUS_SRC_VALID true).sb rTIM_STATUS fTIM_STATUS_SRC_PPS (decide (p = 0xFFFF))).sf
    rTIM_STATUS fTIM_STATUS_SRC_PORT (if p = 0xFFFF then 0 else p)
  (({ d1 with tim := { d1.tim with hold := none } }.timDepth).cnt (rTIM_CNT_LO 7)).raise eTIM_SRC_CHANGE p

/-- Is a port a usable monitor (R324)? -/
def Dev.monitorOk (d : Dev) (p : Nat) : Bool :=
  let a := rTIM_PORT_STATE p
  d.isUp p && decide (d.pstate p = 4) && d.b a fTIM_PORT_STATE_MONITOR && !d.b a fTIM_PORT_STATE_EXCLUDED &&
  (match (d.timPort p).tlv, (d.timPort d.srcPort).tlv with
   | some t, some s => t.locked && decide (t.depth ≤ s.depth)
   | _, _ => false)

/-- The monitor ports the servo watches: at most 3 (R324), those of the lowest numbers. -/
def Dev.monitors (d : Dev) : List Nat :=
  (d.ptpPorts.filter fun p => !(d.srcValid && decide (p = d.srcPort)) && d.b (rTIM_PORT_STATE p) fTIM_PORT_STATE_MONITOR &&
    !d.b (rTIM_PORT_STATE p) fTIM_PORT_STATE_EXCLUDED).take 3

/-- The usable monitor with the least U_DOM + U_LINK; none under STATE_SRC 2. -/
def Dev.bestMonitor (d : Dev) : Option Nat :=
  if d.lf rTIM_CTRL fTIM_CTRL_STATE_SRC = 2 then none
  else (sortBy (fun p => uncAdd (d.uPartner p) (d.uLink p)) (d.monitors.filter d.monitorOk)).head?

/-- Mean of a list of corrections. -/
def meanInt (l : List Int) (dflt : Int) : Int := if l.isEmpty then dflt else l.sum / (l.length : Int)

/-- Report the frequency correction in 1/1,024 ppb (R333): from 2^-47 ppb. -/
def Dev.setFreq (d : Dev) (x : Int) : Dev :=
  { d with tim := { d.tim with freq := x } }.wn rTIM_FREQ (wrapBits 32 (x / 2 ^ 37))

/-- The source is lost (R324, R325, R328): the best usable monitor takes its place, else HOLDOVER. -/
def Dev.sourceLost (d : Dev) : Dev :=
  match d.bestMonitor with
  | some p => d.setSource p
  | none =>
    let n := d.lf rTIM_HOLD_AGE fTIM_HOLD_AGE_HOLD_AVG_DECKS
    let mean := if n = 0 then d.tim.freq else meanInt (d.tim.freqHist.take n) d.tim.freq
    let d1 := ((d.sb rTIM_STATUS fTIM_STATUS_SRC_VALID false).sb rTIM_STATUS fTIM_STATUS_SRC_PPS false).sf rTIM_STATUS
      fTIM_STATUS_SSTATE 3
    let d2 := { d1 with tim := { d1.tim with hold := some (d.uDom, d.trk.tick), lockRow := 0, waiting := [] } }
    (((d2.setFreq mean).timDepth).cnt (rTIM_CNT_LO 9)).raise eTIM_HOLDOVER 0xFFFF

/-- A degraded candidate is excluded (R326); a degraded source is replaced, where a monitor can take its place. -/
def Dev.degrade (d : Dev) (p : Nat) : Dev :=
  let x := d.timPort p
  let d0 := d.setTimPort p { x with exclDeck := d.deck }
  if d.b (rTIM_PORT_STATE p) fTIM_PORT_STATE_EXCLUDED then d0
  else
    let d1 := ((d0.sb (rTIM_PORT_STATE p) fTIM_PORT_STATE_EXCLUDED true).cnt (rTIM_CNT_LO 8)).raise eTIM_SRC_EXCLUDED p
    if d1.srcValid && decide (d1.srcPort = p) then d1.sourceLost else d1

/-- Candidates of the servo: its source and the monitors, the excluded ones apart. -/
def Dev.candidates (d : Dev) : List Nat :=
  (if d.srcValid && !d.b (rTIM_PORT_STATE d.srcPort) fTIM_PORT_STATE_EXCLUDED then [d.srcPort] else []) ++ d.monitors

/-- Median of some offsets: of an even number, the mean of the two in the middle. -/
def medianOf (l : List Int) : Int :=
  let s := sortBy (fun x : Int => (x + 2 ^ 64).toNat) l
  (s.getD (l.length / 2) 0 + s.getD ((l.length - 1) / 2) 0) / 2

/-- Does a port differ from the median of at least two other candidates that agree within AGREE_NS (R326)? -/
def Dev.offMedian (d : Dev) (p : Nat) (e : Int) : Bool :=
  let ex := d.lf rTIM_EXCL fTIM_EXCL_EXCL_NS
  let ag := d.lf rTIM_EXCL fTIM_EXCL_AGREE_NS
  let l := ((d.candidates.filter (· ≠ p)).filter fun q => !(d.timPort q).offs.isEmpty).map fun q => (d.timPort q).lastOff
  let agree := l.filter fun a => decide (2 ≤ (l.filter fun b => decide ((a - b).natAbs ≤ ag * 65536)).length)
  decide (ex ≠ 0) && decide (2 ≤ agree.length) && decide (ex * 65536 < (e - medianOf agree).natAbs)

/-- Is the spread of the last 16 accepted offsets beyond SPREAD_NS (R326)? -/
def Dev.offSpread (d : Dev) (l : List Int) : Bool :=
  let s := d.lf rTIM_EXCL fTIM_EXCL_SPREAD_NS
  match l with
  | [] => false
  | a :: r => decide (s ≠ 0) && decide (((s * 65536 : Nat) : Int) < r.foldl max a - r.foldl min a)

/-- Is an offset at or above TCK_STEP_THRESH (R35)? A threshold of 0 forbids steps. -/
def Dev.stepSized (d : Dev) (e : Int) : Bool :=
  let th := d.lrn rTCK_STEP_THRESH
  decide (th ≠ 0) && decide (th * 655360 ≤ e.natAbs)

/-- Is an offset an outlier of a LOCKED servo (R326)? One of the source that is at or above TCK_STEP_THRESH clears
TIME_LOCKED instead (R35, R327). -/
def Dev.outlier (d : Dev) (e : Int) : Bool :=
  decide (d.f rTIM_STATUS fTIM_STATUS_SSTATE = 2) && decide (d.lf rTIM_LOCK fTIM_LOCK_UNLOCK * 4096 < e.natAbs)

/-- An offset measured on a port (R321, R326): accepted or not, with what it degrades; an accepted offset of the source
waits for the servo (R317). -/
def Dev.timOffset (d : Dev) (p : Nat) (e : Int) : Dev :=
  let x := d.timPort p
  let isSrc := d.srcValid && decide (d.srcPort = p)
  let ha := d.lb (rTIM_PORT_CFG p) fTIM_PORT_CFG_HA
  if !d.lb rTIM_CTRL fTIM_CTRL_EN || x.delay.isNone || decide (x.delayBad ≠ 0) || (ha && !x.l1) then
    d.setTimPort p { x with lastOff := e }
  else if d.outlier e && !(isSrc && d.stepSized e) then
    let bad := if d.offMedian p e then x.medianBad + 1 else 0
    let d1 := (d.setTimPort p { x with lastOff := e, outliers := x.outliers + 1, medianBad := bad }).cnt (rTIM_CNT_LO 6)
    if isSrc && decide (4 ≤ x.outliers + 1) then
      let d2 := if d1.bestMonitor.isNone then d1.timeUnlock else d1
      d2.degrade p
    else if 4 ≤ bad then d1.degrade p else d1
  else
    let off := d.offMedian p e
    let l := (e :: x.offs).take 16
    let y := { x with lastOff := e, offs := l, outliers := 0, medianBad := if off then x.medianBad + 1 else 0 }
    let d1 := d.setTimPort p y
    let d2 := d1.sf (rTIM_PORT_STATE p) fTIM_PORT_STATE_U_LINK (d1.uLink p)
    let d3 := if d2.offSpread l || decide (4 ≤ y.medianBad) then d2.degrade p else d2
    let takes := (isSrc || (!d3.srcValid && decide (d3.pstate p = 3))) && !d3.b (rTIM_PORT_STATE p) fTIM_PORT_STATE_EXCLUDED
    if takes then { d3 with tim := { d3.tim with waiting := d3.tim.waiting ++ [(p, e, y.logSync)] } } else d3

/-- A mean path delay measured on a port (R321): accepted, or refused; two refused in a row degrade the port. -/
def Dev.timDelay (d : Dev) (p : Nat) (m : Int) : Dev :=
  let x := d.timPort p
  let j := d.lf rTIM_EXCL fTIM_EXCL_DELAY_JUMP_NS
  let jump := match x.measured with
    | none => false
    | some o => decide (j ≠ 0) && decide (j * 65536 < (m - o).natAbs)
  if decide (m < 0) || jump then
    let d1 := d.setTimPort p { x with measured := some m, delayBad := x.delayBad + 1 }
    if 2 ≤ x.delayBad + 1 then d1.degrade p else d1
  else
    (d.setTimPort p { x with measured := some m, delay := some m, delayBad := 0 }).wn (rTIM_PORT_DELAY p)
      (min (2 ^ 32 - 1) (m.toNat / 256))

/-- Asymmetry of a port in 2^-16 ns (R322). -/
def TimPort.asymmetry (x : TimPort) : Int := x.asym * 4096 + x.coef * (x.delay.getD 0) / 2 ^ 40

/-! ### Messages (R315, R316, R319, R323) -/

/-- The TLV of R323 that a message to a Jevar partner carries. -/
def Dev.timTlv (d : Dev) (p : Nat) : List Byte :=
  if d.jevar p then
    beBytes 2 3 ++ beBytes 2 14 ++ beBytes 3 (d.f rTIM_ORG_ID fTIM_ORG_ID_ORG_ID) ++ beBytes 3 Config.ptpSubtype.toNat ++
    beBytes 2 d.devNo ++ beBytes 1 (d.f rTIM_STATUS fTIM_STATUS_DEPTH) ++
    beBytes 1 (d.f rTIM_STATUS fTIM_STATUS_SSTATE * 64 + d.locked.toNat * 32 +
      (d.b rTIM_STATUS fTIM_STATUS_SYNCE_IN_USE).toNat * 16) ++ beBytes 2 d.uDom ++ zeros 2
  else []

/-- Identity of a port in messages: the EUI-64 of the base address, and the port number. -/
def Dev.ptpIdent (d : Dev) (p : Nat) : List Byte :=
  let m := beBytes 6 d.baseMac
  m.take 3 ++ [0xFF, 0xFE] ++ m.drop 3 ++ beBytes 2 (p + 1)

/-- A message: header and body, with the TLV. -/
def Dev.ptpMsg (d : Dev) (p type : Nat) (two : Bool) (corr : Int) (seq : Nat) (log : Int) (body : List Byte) : List Byte :=
  let t := d.timTlv p
  beBytes 1 type ++ [0x12] ++ beBytes 2 (34 + body.length + t.length) ++ beBytes 1 (d.lf rTIM_CTRL fTIM_CTRL_PTP_DOMAIN) ++
  zeros 1 ++ beBytes 1 (two.toNat * 2) ++ zeros 1 ++ beBytes 8 (wrapBits 64 corr) ++ zeros 4 ++ d.ptpIdent p ++
  beBytes 2 (seq % 65536) ++ zeros 1 ++ beBytes 1 (wrapBits 8 log) ++ body ++ t

/-- SECONDS and NANOSECONDS of a time in 2^-16 ns. -/
def tsBytes (t : Nat) : List Byte := beBytes 6 (t / 65536 / 1000000000) ++ beBytes 4 (t / 65536 % 1000000000)

/-- FRACTION of a time. -/
def tsFrac (t : Nat) : Int := ((t % 65536 : Nat) : Int)

/-- The whole nanoseconds of a Timestamp field, in 2^-16 ns. -/
def tsAt (bs : List Byte) (o : Nat) : Int := (((beAt bs o 6 * 1000000000 + beAt bs (o + 6) 4) * 65536 : Nat) : Int)

/-- A frame that carries a message over the port's transport (R315). -/
def Dev.ptpFrame (d : Dev) (p : Nat) (peer : Bool) (event : Bool) (m : List Byte) : List Byte :=
  let tr := d.lf (rTIM_PORT_CFG p) fTIM_PORT_CFG_TRANSPORT
  let s := Config.ptpSource p
  let udpPort := if event then 319 else 320
  let udp (pad : Nat) := beBytes 2 udpPort ++ beBytes 2 udpPort ++ beBytes 2 (8 + m.length + pad) ++ zeros 2 ++ m ++ zeros pad
  let src := beBytes 6 (d.portMac p)
  if tr = 0 then beBytes 6 (if peer then 0x0180C200000E else 0x011B19000000) ++ src ++ beBytes 2 0x88F7 ++ m
  else if tr = 1 then
    let ip := [0x45, 0] ++ beBytes 2 (28 + m.length) ++ zeros 4 ++ [s.2, 17] ++ zeros 2 ++ beBytes 4 (s.1.toNat % 2 ^ 32) ++
      beBytes 4 (if peer then 0xE000006B else 0xE0000181)
    let cs := 0xFFFF - onesSum 0 ip % 65536
    beBytes 6 (if peer then 0x01005E00006B else 0x01005E000181) ++ src ++ beBytes 2 0x0800 ++ putAt ip 10 (beBytes 2 cs) ++ udp 0
  else
    let ip := [0x60, 0, 0, 0] ++ beBytes 2 (10 + m.length) ++ [17, s.2] ++ beBytes 16 s.1.toNat ++
      beBytes 16 (if peer then 0xFF020000000000000000000000000000 + 0x6B else 0xFF0E0000000000000000000000000000 + 0x181)
    let f := beBytes 6 (if peer then 0x33330000006B else 0x333300000181) ++ src ++ beBytes 2 0x86DD ++ ip ++ udp 2
    ptpCsum f 62 6

/-- A message leaves a port at `t` (R307, R317). -/
def Dev.ptpSend (d : Dev) (p : Nat) (peer event : Bool) (t : Nat) (m : List Byte) : Dev :=
  let f := d.ptpFrame p peer event m
  let bs := f ++ zeros (60 - f.length)
  let d1 := { d with out := { d.out with frames := d.out.frames ++
    [({ port := p, bytes := bs, stomped := false, stamp := stampOf t } : SentFrame)] } }
  ((d1.pcnt p 2).pcnt p 3 (bs.length + 4)).pev (26 + dieOf p) 0x11

/-- The TLV of R323 in a received message, past its first `n` bytes. -/
def tlvIn (org : Nat) : Nat → List Byte → Option (List Byte)
  | 0, _ => none
  | fuel + 1, l =>
    if l.length < 4 then none
    else if beAt l 0 2 = 3 ∧ beAt l 2 2 = 14 ∧ beAt l 4 3 = org then some (bytesAt l 10 8)
    else tlvIn org fuel (l.drop (4 + beAt l 2 2))

/-- The L1SYNC TLV of a received message: the partner's transmit clock is coherent (R322; IEEE 1588-2019 annex L). -/
def l1In : Nat → List Byte → Option Bool
  | 0, _ => none
  | fuel + 1, l =>
    if l.length < 4 then none
    else if beAt l 0 2 = 0x8001 then some (ebit l 5 0)
    else l1In fuel (l.drop (4 + beAt l 2 2))

/-- Length of a message type before its TLVs. -/
def ptpLen (type : Nat) : Nat := if type = 0 ∨ type = 1 ∨ type = 8 ∨ type = 12 then 44 else if type = 11 then 64 else 54

/-- The downstream leg of a Sync: receipt less origin, corrections and asymmetry; with a delay known, an offset (R321). -/
def Dev.syncLeg (d : Dev) (p : Nat) (t1 : Int) (t2 : Nat) (corr : Int) : Dev :=
  let x := d.timPort p
  let leg := (t2 : Int) - t1 - corr - x.asymmetry
  let d1 := d.setTimPort p { x with downLeg := some leg, sync := none }
  match x.delay with
  | none => d1
  | some m => d1.timOffset p (leg - m)

/-- A two-way exchange of requests has given the upstream leg: the mean path delay (R321). -/
def Dev.upLeg (d : Dev) (p : Nat) (up : Int) : Dev :=
  match (d.timPort p).downLeg with
  | none => d
  | some dn => d.timDelay p ((dn + up) / 2)

/-- A peer-delay exchange is complete: turnaround `turn`, request sent at `t1`, answer received at `t4` (R321). -/
def Dev.peerLeg (d : Dev) (p t1 t4 : Nat) (turn corr : Int) : Dev :=
  let x := d.timPort p
  ((d.setTimPort p { x with req := none, presp := none, peer := true }).timDelay p
    ((((t4 : Int) - t1) - turn - (corr + x.asymmetry)) / 2)).cnt (rTIM_CNT_LO 4)

/-- A message of the time queue is processed (R315 to R323): `t` is when an answer leaves. -/
def Dev.ptpProcess (d : Dev) (f : TimFrame) (t : Nat) : Dev :=
  match ptpAt f.bytes with
  | none => d
  | some (o, _) =>
    let p := f.port
    let m := f.bytes.drop o
    let type := eb m 0 % 16
    if eb m 1 % 16 ≠ 2 then d.cnt (rTIM_CNT_LO 14)
    else
      let corr := sext 64 (beAt m 8 8)
      let seq := beAt m 30 2
      let two := ebit m 6 1
      let rx := stampTime f.ts
      let tl := (m.take (beAt m 2 2)).drop (ptpLen type)
      let tlv := if d.jevar p then tlvIn (d.f rTIM_ORG_ID fTIM_ORG_ID_ORG_ID) 16 tl else none
      let x0 := { d.timPort p with heard := true }
      let x1 := match tlv with
        | some b =>
          { x0 with
            tlv := some
              { dev := beAt b 0 2, depth := eb b 2, sstate := eb b 3 / 64, locked := ebit b 3 5, uDom := beAt b 4 2 } }
        | none => x0
      let x2 := match l1In 16 tl with
        | some c => { x1 with l1 := c && d.b rTIM_STATUS fTIM_STATUS_SYNCE_IN_USE }
        | none => x1
      let st := d.pstate p
      let dm := d.setTimPort p x2
      let dn := if decide (st = 4) && tlv.isSome && d.lb rTIM_CTRL fTIM_CTRL_MON_EN then
          dm.sb (rTIM_PORT_STATE p) fTIM_PORT_STATE_MONITOR true else dm
      let d1 := dn.timLayer p 0
      let hears := decide (st = 3) || decide (st = 5) || d1.b (rTIM_PORT_STATE p) fTIM_PORT_STATE_MONITOR
      let answers := decide (st = 2) || d1.b (rTIM_PORT_STATE p) fTIM_PORT_STATE_MONITOR
      match type with
      | 0 =>
        let d2 := d1.cnt (rTIM_CNT_LO 0)
        if hears then
          let x := d2.timPort p
          let y := { x with lastSync := d.trk.tick, logSync := sext 8 (eb m 33) }
          let d3 := (d2.setTimPort p y).timLayer p (if two then 2 else 1)
          if two then d3.setTimPort p { d3.timPort p with sync := some (seq, rx, corr) }
          else d3.syncLeg p (tsAt m 34) rx corr
        else d2
      | 8 =>
        match x2.sync with
        | some (s, t2, c) => if s = seq && hears then d1.syncLeg p (tsAt m 34) t2 (c + corr) else d1
        | none => d1
      | 1 =>
        let d2 := d1.cnt (rTIM_CNT_LO 2)
        if answers then
          d2.ptpSend p false false t (d2.ptpMsg p 9 false (corr - tsFrac rx) seq
            (sext 4 (d.lf (rTIM_PORT_CFG p) fTIM_PORT_CFG_LOG_DELAY)) (tsBytes rx ++ bytesAt m 20 10))
        else d2
      | 9 =>
        match x2.req with
        | some (s, t3) =>
          if s = seq && hears && decide (bytesAt m 44 10 = d.ptpIdent p) then
            (d1.setTimPort p { x2 with req := none }).upLeg p (tsAt m 34 - (t3 : Int) - corr)
          else d1
        | none => d1
      | 2 =>
        if st = 0 then d1
        else if d.lb (rTIM_PORT_CFG p) fTIM_PORT_CFG_ONE_STEP_EN then
          d1.ptpSend p true true t (d1.ptpMsg p 3 false (corr + ((t : Int) - rx)) seq 0x7F (zeros 10 ++ bytesAt m 20 10))
        else
          let e := d1.ptpSend p true true t (d1.ptpMsg p 3 true (- tsFrac rx) seq 0x7F (tsBytes rx ++ bytesAt m 20 10))
          e.ptpSend p true false t (e.ptpMsg p 10 false (corr + tsFrac t) seq 0x7F (tsBytes t ++ bytesAt m 20 10))
      | 3 =>
        match x2.req with
        | some (s, t1) =>
          if s = seq && decide (bytesAt m 44 10 = d.ptpIdent p) then
            if two then d1.setTimPort p { x2 with presp := some (seq, (tsAt m 34).toNat, rx, corr) }
            else (d1.peerLeg p t1 rx 0 corr).timLayer p 0
          else d1
        | none => d1
      | 10 =>
        match x2.req, x2.presp with
        | some (s, t1), some (s2, t2, t4, c) =>
          if s = seq && s2 = seq then (d1.peerLeg p t1 t4 (tsAt m 34 - (t2 : Int)) (c + corr)).timLayer p 0 else d1
        | _, _ => d1
      | 11 =>
        let d2 := d1.cnt (rTIM_CNT_LO 5)
        if st = 3 && d.lb rTIM_UTC fTIM_UTC_FROM_PTP then
          ((((d2.sf rTIM_UTC fTIM_UTC_OFFSET (beAt m 44 2)).sb rTIM_UTC fTIM_UTC_LEAP61 (ebit m 7 0)).sb rTIM_UTC
            fTIM_UTC_LEAP59 (ebit m 7 1)).sb rTIM_UTC fTIM_UTC_VALID (ebit m 7 2))
        else d2
      | _ => d1

/-! ### The servo (R34, R35, R327) -/

/-- An offset is to be removed at the next tick boundary by a step, or from now on by a slew (R34, R35). -/
def Dev.offsetRemove (d : Dev) (e : Int) (mustStep : Bool) : Dev :=
  let big := d.stepSized e
  let d1 := if d.locked && big then d.timeUnlock else d
  if (big || (mustStep && decide (d.lrn rTCK_STEP_THRESH ≠ 0))) && d.lb rTCK_CTRL fTCK_CTRL_STEP_EN then
    { d1 with trk := { d1.trk with stepDue := some e }, tim := { d1.tim with integ := 0 } }
  else { d1 with trk := { d1.trk with slewLeft := e } }.sb rTCK_STATUS fTCK_STATUS_SLEWING (decide (e ≠ 0))

/-- The servo takes an accepted offset (R325, R327). -/
def Dev.servo (d : Dev) (p : Nat) (e : Int) (log : Int) : Dev :=
  let d0 := d.wn rTIM_OFFSET (wrapBits 32 (max (-(2 ^ 31)) (min (2 ^ 31 - 1) (e / 256))))
  let d1 := if d0.srcValid then d0 else d0.setSource p
  let first := decide (d1.f rTIM_STATUS fTIM_STATUS_SSTATE = 0)
  let d2 := if d1.f rTIM_STATUS fTIM_STATUS_SSTATE = 2 then d1
    else d1.sf rTIM_STATUS fTIM_STATUS_SSTATE (if d1.locked then 2 else 1)
  if first then
    let d3 := d2.offsetRemove e true
    if d3.trk.stepDue.isSome then d3 else (d3.sb rTCK_STATUS fTCK_STATUS_DOMAIN true).gridRefresh
  else if d2.stepSized e && d2.lb rTCK_CTRL fTCK_CTRL_STEP_EN then d2.offsetRemove e false
  else
    let ki := 2 ^ d2.lf rTIM_GAIN fTIM_GAIN_KI_LOG2
    let kp := 2 ^ d2.lf rTIM_GAIN fTIM_GAIN_KP_LOG2
    let u := e * 2 ^ 31
    let integ := if d2.b rTIM_STATUS fTIM_STATUS_SYNCE_IN_USE then d2.tim.integ else d2.tim.integ + u / ki
    let lim : Int := ((d2.lf rTCK_CTRL fTCK_CTRL_SLEW_PPM * 1000 * 2 ^ 47 : Nat) : Int)
    let adj := max (-lim) (min lim ((u / kp + integ) * 2 ^ (-log).toNat / 2 ^ log.toNat))
    let within := decide (e.natAbs ≤ d2.lf rTIM_LOCK fTIM_LOCK_LOCK * 4096)
    let row := if within then d2.tim.lockRow + 1 else 0
    let d3 := ({ d2 with tim := { d2.tim with integ := integ, lockRow := row } }.setFreq (-adj)).offsetRemove e false
    if !d3.locked && decide (d3.lf rTIM_LOCK fTIM_LOCK_LOCK_N ≤ row) && decide (d3.uLocked ≤ d3.lf rTIM_UNC_MAX fTIM_UNC_MAX_UNC_MAX) &&
        decide (d3.uLocked ≠ 0xFFFF) then d3.timeLock
    else d3

/-- The rod's recomputation of U_DOM (R308, R328): beyond UNC_MAX it clears TIME_LOCKED. -/
def Dev.uDomRod (d : Dev) : Dev :=
  let d1 := d.uRefresh
  if d1.locked && decide (d1.lf rTIM_UNC_MAX fTIM_UNC_MAX_UNC_MAX < d1.uDom) then d1.timeUnlock else d1

/-- A free-running root is its own source (R314): it is TIME_LOCKED with U_DOM = ROOT_UNC; a device no longer one, and
without a source, is in HOLDOVER. -/
def Dev.rootSelf (d : Dev) : Dev :=
  if d.rootFree && !d.srcValid && !d.locked && d.trk.stepDue.isNone then
    let d1 := { d with tim := { d.tim with hold := none } }
    ((d1.sf rTIM_STATUS fTIM_STATUS_SSTATE 2).sb rTCK_STATUS fTCK_STATUS_DOMAIN true).timDepth.timeLock
  else if d.locked && !d.srcValid && d.tim.hold.isNone && !d.rootFree then d.sourceLost
  else if d.srcValid && d.b rTIM_STATUS fTIM_STATUS_SRC_PPS && !(d.isRoot && d.lb rTIM_REF fTIM_REF_PPS_IN_PHASE) then
    d.sourceLost
  else d

/-- In Ruley mode the source is the SLAVE port (R324). -/
def Dev.sourceFollow (d : Dev) : Dev :=
  if decide (d.lf rTIM_CTRL fTIM_CTRL_STATE_SRC = 0) && d.srcValid && !d.b rTIM_STATUS fTIM_STATUS_SRC_PPS then
    match d.ptpPorts.find? fun p => decide (d.pstate p = 3) && !d.b (rTIM_PORT_STATE p) fTIM_PORT_STATE_EXCLUDED &&
        !(d.timPort p).offs.isEmpty with
    | some p => if p = d.srcPort then d else d.setSource p
    | none => d
  else d

end Sys2Proof.Machine
end

