-- ==== Sys2Proof/Machine/Dom.lean ====
section
/-! DEFINITION. Machine/Dom.lean: the Ruley domain: adjacencies, the tree and its routes (R440 to R458). -/
namespace Sys2Proof.Machine

/-! ### The device's place in the tree -/

/-- Device state (R449): 0 DISABLED, 1 SEEKING, 2 ADOPTING, 3 ATTACHED, 4 ROOT, 5 BLOCKED. -/
def Dev.domState (d : Dev) : Nat := d.f rDOM_STATUS fDOM_STATUS_STATE

/-- Depth; 0xFF none. -/
def Dev.domDepth (d : Dev) : Nat := d.f rDOM_STATUS fDOM_STATUS_DEPTH

/-- The device's serial (R440). -/
def Dev.serial (d : Dev) : Nat := d.rdPair rDOM_SERIAL_LO rDOM_SERIAL_HI

/-- The adjacency of a port (R444). -/
def Dev.adj (d : Dev) (p : Nat) : AdjSt := kvGet {} d.dom.adj p

/-- Replace it. -/
def Dev.setAdj (d : Dev) (p : Nat) (x : AdjSt) : Dev := { d with dom := { d.dom with adj := kvSet {} p x d.dom.adj } }

/-- Greatest depth below the device, from its children's keepalives (R443). -/
def Dev.domHeight (d : Dev) : Nat :=
  (d.dom.children.map fun c => match (d.adj c.2).hello with
    | some h => min 6 (h.height + 1)
    | none => 1).foldl max 0

/-- Device numbers of the subtree, the device first. -/
def Dev.subtree (d : Dev) : List Nat := d.devNo :: d.dom.routes.map (·.1)

/-- Is a device a child? -/
def Dev.isChild (d : Dev) (dev : Nat) : Bool := d.dom.children.any fun c => decide (c.1 = dev)

/-- Registers and port states follow the tree (R313, R446, R456). -/
def Dev.treeSync (d : Dev) : Dev :=
  let d1 := d.sf rDOM_STATUS fDOM_STATUS_CHILDREN d.dom.children.length
  let d2 := match d.dom.parent with
    | some (dev, p) =>
      ((d1.sf rDOM_STATUS fDOM_STATUS_PARENT_PORT p).sb rDOM_TREE fDOM_TREE_PARENT_VALID true).sf rDOM_TREE
        fDOM_TREE_PARENT dev
    | none =>
      ((d1.sf rDOM_STATUS fDOM_STATUS_PARENT_PORT 0).sb rDOM_TREE fDOM_TREE_PARENT_VALID false).sf rDOM_TREE
        fDOM_TREE_PARENT 0
  let d3 := (d2.sb rDOM_TREE fDOM_TREE_ROOT_VALID d.dom.root.isSome).sf rDOM_TREE fDOM_TREE_ROOT (d.dom.root.getD 0)
  let ports := (match d.dom.parent with
    | some (_, p) => [p]
    | none => []) ++ d.dom.children.map (·.2)
  { d3 with treePorts := ports.eraseDups }.timFollow

/-! ### HELLO (R443) -/

/-- Ports that carry HELLO. -/
def Dev.helloPorts (d : Dev) : List Nat :=
  (List.range 16).flatMap fun j =>
    if d.lrn (rDOM_PORT_EN j) = 0 then []
    else ((List.range 32).map fun i => 32 * j + i).filter fun p => d.domPortEn p && d.isUp p

/-- Send HELLO on a port with a device state. -/
def Dev.helloAs (d : Dev) (st p : Nat) : Dev :=
  let caps := 16 + (d.lb (rPRT_CFG p) fPRT_CFG_SHED_EN).toNat * 8 + 4 + 2 + d.f rDOM_CTRL fDOM_CTRL_ROOT_ELIG
  let path := d.dom.path.take 6
  d.ruleyLink p 0x01 (
    beBytes 1 st ++ beBytes 1 d.domDepth ++ beBytes 2 (d.dom.root.getD 0xFFFF) ++ beBytes 1 d.dom.rootPri ++
    beBytes 1 d.dom.children.length ++ beBytes 1 d.domHeight ++ beBytes 1 caps ++ beBytes 2 (d.adj p).partner ++ zeros 2 ++
    path.flatMap (beBytes 2) ++ (List.replicate (6 - path.length) 0xFFFF).flatMap (beBytes 2) ++ beBytes 8 d.serial)

/-- Send HELLO on a port. -/
def Dev.hello (d : Dev) (p : Nat) : Dev := if d.domState = 0 then d else d.helloAs d.domState p

/-- Send HELLO on every port that carries it. -/
def Dev.helloAll (d : Dev) : Dev :=
  if d.domState = 0 then d else d.each d.helloPorts fun e p => e.helloAs d.domState p

/-- A port has entered UP: HELLO goes out, and is repeated for at most 10 rods (R443). -/
def Dev.helloUp (d : Dev) (p : Nat) : Dev :=
  if d.domState ≠ 0 && d.domPortEn p && d.isUp p then
    (d.setAdj p { d.adj p with upRod := d.rod }).hello p
  else d

/-- The body of a received HELLO. -/
def helloOf (b : List Byte) : HelloBody :=
  { state := eb b 0, depth := eb b 1, root := beAt b 2 2, rootPri := eb b 4, children := eb b 5, height := eb b 6,
    caps := eb b 7, heard := beAt b 8 2,
    path := ((List.range 6).map fun i => beAt b (12 + 2 * i) 2).filter (· ≠ 0xFFFF), serial := beAt b 24 8 }

/-! ### Messages of the tree -/

/-- A device state is entered (R449): DOM_STATE_CHANGE. -/
def Dev.domEnter (d : Dev) (st : Nat) : Dev :=
  (({ d with dom := { d.dom with changeRod := d.rod } }.sf rDOM_STATUS fDOM_STATUS_STATE st).raise eDOM_STATE_CHANGE
    0xFFFF)

/-- Send LEAVE to a neighbour: the subtree's device numbers (R448). -/
def Dev.sendLeave (d : Dev) (p : Nat) : Dev := d.ruleyLink p 0x05 (d.subtree.flatMap (beBytes 2))

/-- Pass a message on to a port with its source and sequence (R452); its length is kept. -/
def Dev.relayOn (d : Dev) (p : Nat) (m : DomMsg) : Dev :=
  d.ruleyParts p m.type (Nat.lor (m.flags % 128) 0x40) 0 m.src m.dst m.seq m.body

/-- Routes leave the table; the root's registry entries go with them (R448). -/
def Dev.routesDrop (d : Dev) (gone : Nat × Nat → Bool) : Dev :=
  let out := (d.dom.routes.filter gone).map (·.1)
  { d with dom := { d.dom with
      routes := d.dom.routes.filter fun r => !gone r, registry := d.dom.registry.filter fun r => !out.contains r.1 } }

/-- Install routes to devices against a port (R448). -/
def Dev.routesPut (d : Dev) (devs : List Nat) (p : Nat) : Dev :=
  { d with dom := { d.dom with
      routes := d.dom.routes.filter (fun r => !devs.contains r.1) ++ devs.map fun x => (x, p) } }

/-- A root's preference: priority, then number (R445). -/
def rootKey (pri root : Nat) : Nat := pri * 65536 + root

/-- The root a device counts as its own (R446): the one it has, else itself while it may become root. -/
def Dev.ownRoot (d : Dev) : Option Nat :=
  match d.dom.root with
  | some r => some (rootKey d.dom.rootPri r)
  | none =>
    if d.b rDOM_CTRL fDOM_CTRL_ROOT_ELIG then some (rootKey (d.f rDOM_ROOT_CFG fDOM_ROOT_CFG_ROOT_PRI) d.devNo) else none

/-- May a device adopt toward a root: its own, or one preferred to it? -/
def Dev.rootOk (d : Dev) (h : HelloBody) : Bool :=
  decide (h.root ≠ 0xFFFF) && (match d.ownRoot with
    | some k => decide (rootKey h.rootPri h.root ≤ k)
    | none => true)

/-- Candidates (R446), best first: device and port. -/
def Dev.candPorts (d : Dev) : List (Nat × Nat) :=
  let l := d.dom.adj.filterMap fun e => match e.2.hello with
    | none => none
    | some h =>
      let ok := decide (e.2.st = 2) && (decide (h.state = 3) || decide (h.state = 4)) && d.rootOk h &&
        !h.path.contains d.devNo && decide (h.depth + 1 + d.domHeight ≤ 6) && decide (h.children < 32)
      if ok then some ((((rootKey h.rootPri h.root * 256 + h.depth) * 65536 + e.2.partner) * 512 + e.1), e.2.partner, e.1)
      else none
  (sortBy (·.1) l).map (·.2)

/-- Ask the best candidate not yet tried (R447); with none left the device will be SEEKING. -/
def Dev.askNext (d : Dev) : Dev :=
  match d.candPorts.find? fun c => !d.dom.tried.contains c.1 with
  | some (dev, p) =>
    ({ d with dom := { d.dom with asked := some (dev, p, d.trk.tick) } }).ruleyLink p 0x02
      (beBytes 1 d.domHeight ++ beBytes 2 d.subtree.length ++ zeros 1)
  | none => { d with dom := { d.dom with asked := none, next := some .seeking } }

/-- The device enters ADOPTING and asks its best candidate (R447, R450). -/
def Dev.adopting (d : Dev) : Dev :=
  let d1 := { d with dom := { d.dom with
      tried := [], asked := none, parent := none, path := [], oldDepth := (if d.domDepth = 0xFF then d.dom.oldDepth else d.domDepth) } }
  ((((d1.sf rDOM_STATUS fDOM_STATUS_DEPTH 0xFF).domEnter 2).treeSync).helloAll).askNext

/-- Sums held while the device had no parent go to it (R454). -/
def Dev.sendHeld (d : Dev) : Dev :=
  match d.dom.parent with
  | none => d
  | some (_, p) =>
    let d1 := d.each d.dom.heldSums fun e x => e.ruleyMsg p 0x0A 0 0 ((e.dom.parent.map (·.1)).getD 0xFFFF) x.2
    { d1 with dom := { d1.dom with heldSums := [] } }

/-- The device becomes ATTACHED (R447, R448). -/
def Dev.attach (d : Dev) (dev p depth : Nat) (path : List Nat) : Dev :=
  let h := (d.adj p).hello
  let old := d.dom.oldParent
  let d1 := { d with dom := { d.dom with
      parent := some (dev, p), path := path, asked := none, tried := [], oldParent := none, hadParent := true,
      oldDepth := depth, root := (match h with
        | some x => some x.root
        | none => d.dom.root),
      rootPri := (match h with
        | some x => x.rootPri
        | none => d.dom.rootPri) } }
  let d2 := ((d1.sf rDOM_STATUS fDOM_STATUS_DEPTH depth).domEnter 3).treeSync
  let d3 := if d.dom.hadParent then
      { d2 with dom := { d2.dom with reparents := satAdd (2 ^ 32 - 1) d2.dom.reparents 1 } }.cnt (rDOM_CNT_LO 2)
    else d2
  let d4 := d3.helloAll
  let d5 := d4.ruleyMsg p 0x06 0 0 (d4.dom.root.getD 0xFFFF) (beBytes 8 d4.serial ++ d4.subtree.flatMap (beBytes 2))
  let d6 := match old with
    | some (od, op) =>
      let e := if (od, op) ≠ (dev, p) then d5.raise eDOM_PARENT_CHANGE op else d5
      if (od, op) ≠ (dev, p) && decide ((e.adj op).st = 2) && decide ((e.adj op).partner = od) then e.sendLeave op else e
    | none => d5
  d6.sendHeld

/-- The device becomes BLOCKED: it leaves its parent and releases its children by LEAVE (R448, R449). -/
def Dev.domBlock (d : Dev) : Dev :=
  let d1 := match d.dom.parent with
    | some (_, p) => d.sendLeave p
    | none => d
  let d2 := d1.each d.dom.children fun e c => e.ruleyLink c.2 0x05 (beBytes 2 e.devNo)
  let d3 := { d2 with dom := { d2.dom with
      parent := none, children := [], routes := [], registry := [], path := [], root := none, rootPri := 0, asked := none,
      oldParent := none } }
  (((d3.sf rDOM_STATUS fDOM_STATUS_DEPTH 0xFF).domEnter 5).treeSync).helloAll

/-- An adjacency is lost (R444): RULEY and SHED_CAP clear; while the port stays UP the management layer settles anew
(R67, log entry 80). -/
def Dev.adjClear (d : Dev) (p : Nat) : Dev :=
  let d1 := ((d.sb (rPRT_PARTNER p) fPRT_PARTNER_RULEY false).sb (rPRT_PARTNER p) fPRT_PARTNER_SHED_CAP false).setAdj p {}
  if d.isUp p && decide ((d.adj p).st = 2) then d1.raise ePRT_PARTNER_CHANGE p (some 2) else d1

/-- A change of device state takes effect at a tick boundary (R449). -/
def Dev.domApply (d : Dev) : Dev :=
  let d0 := { d with dom := { d.dom with next := none } }
  match d.dom.next with
  | none =>
    if d.domState = 1 && !d.candPorts.isEmpty then d.adopting else d
  | some .seeking =>
    let d1 := { d0 with dom := { d0.dom with seekRod := d.rod, root := none, rootPri := 0, asked := none, tried := [] } }
    (d1.domEnter 1).treeSync.helloAll
  | some .adopting => d0.adopting
  | some .root => d0
  | some (.attached dev p depth path) => d0.attach dev p depth path
  | some .blocked => d0.domBlock
  | some .disabled =>
    let d1 := d0.each (d0.dom.adj.map (·.1)) Dev.adjClear
    let d2 := { d1 with dom := { d1.dom with
        adj := [], children := [], parent := none, path := [], root := none, rootPri := 0, routes := [], registry := [],
        asked := none, tried := [], oldParent := none, hadParent := false, heldSums := [], oldDepth := 0,
        next := if d1.b rDOM_CTRL fDOM_CTRL_EN then some .seeking else none } }
    ((d2.sf rDOM_STATUS fDOM_STATUS_DEPTH 0xFF).domEnter 0).treeSync

/-! ### Enabling (R440, R449) -/

/-- A write of DOM_CTRL with EN 1 (R440): checked; SEEKING follows at the next tick boundary. -/
def Dev.domEnable (d : Dev) (v : Nat) : Dev :=
  let was := d.b rDOM_CTRL fDOM_CTRL_EN
  let d1 := d.sf rDOM_CTRL fDOM_CTRL_FALLBACK_EN (bits v 29 29)
  if was then d1
  else
    let d2 := d1.sf rDOM_CTRL fDOM_CTRL_ROOT_ELIG (bits v 30 30)
    if (List.range 16).all fun j => decide (d.rn (rDOM_PORT_EN j) = 0) then d2.sb rDOM_STATUS fDOM_STATUS_CFG_ERR true
    else
      let d3 := d2.sb rDOM_CTRL fDOM_CTRL_EN true
      { d3 with dom := { d3.dom with
          next := (if d3.dom.next = some .disabled then some .disabled else some .seeking), reparents := 0 } }

/-- A write of DOM_CTRL with EN 0 (R449): LEAVE to the parent, HELLO with state DISABLED, DISABLED at the next boundary. -/
def Dev.domDisable (d : Dev) (v : Nat) : Dev :=
  let was := d.b rDOM_CTRL fDOM_CTRL_EN
  let d1 := (d.sf rDOM_CTRL fDOM_CTRL_FALLBACK_EN (bits v 29 29)).sb rDOM_CTRL fDOM_CTRL_EN false
  if was then
    let d2 := match d1.dom.parent with
      | some (_, p) => d1.sendLeave p
      | none => d1
    let d3 := if d2.domState = 0 then d2 else d2.each d2.helloPorts fun e p => e.helloAs 0 p
    { d3 with dom := { d3.dom with next := if d3.domState = 0 then none else some .disabled } }
  else d1.sf rDOM_CTRL fDOM_CTRL_ROOT_ELIG (bits v 30 30)

/-- DOMAIN_ENABLE (R440): a write of DOM_CTRL with EN 1. -/
def execDomainEnable (value : BitVec 32) (s : State) : Host.Outcome State Fault Refusal :=
  onDev s fun d => if bits value.toNat 31 31 = 1 then d.domEnable value.toNat else d

/-- DOMAIN_DISABLE (R449): a write of DOM_CTRL with EN 0. -/
def execDomainDisable (value : BitVec 32) (s : State) : Host.Outcome State Fault Refusal :=
  onDev s fun d => if bits value.toNat 31 31 = 0 then d.domDisable value.toNat else d

/-! ### Frames and adjacencies (R441 to R446) -/

/-- RULEY_FRAME_RECEIVE (R441, R442, R453). -/
def execRuleyFrameReceive (p : Fin 512) (bytes : List Byte) (s : State) : Host.Outcome State Fault Refusal :=
  onLive s fun d => if d.isUp p && d.isRuley p bytes then d.domQueue p bytes else d

/-- REASSEMBLY_TIMEOUT (R441): a message whose first part is more than 1 deck old and that lacks a part is discarded. -/
def execReassemblyTimeout (die : Fin 2) (s : State) : Host.Outcome State Fault Refusal :=
  onLive s fun d =>
    let q := d.domQ die
    match q.find? fun f => decide (f.tick + 100000 < d.trk.tick) && !msgWhole q f.bytes with
    | none => d
    | some f =>
      let ps := partsOf q f.bytes
      (d.setDomQ die (q.filter fun g => !(ps.contains g))).cnt (rDOM_CNT_LO 11)

/-- The parent's own place has changed (R451): depth, path and root follow at once; depth 7 blocks the device. -/
def Dev.followParent (d : Dev) (m : DomMsg) (h : HelloBody) : Dev :=
  let depth := h.depth + 1
  let path := h.path ++ [m.src]
  if 6 < depth then
    if d.dom.next = some .blocked then d
    else { d with dom := { d.dom with next := some .blocked } }.raise eDOM_DEPTH_LIMIT 0xFFFF
  else if decide (d.domDepth = depth) && decide (d.dom.path = path) && decide (d.dom.root = some h.root) &&
      decide (d.dom.rootPri = h.rootPri) then d
  else
    let d1 := { d with dom := { d.dom with path := path, root := some h.root, rootPri := h.rootPri, oldDepth := depth } }
    ((d1.sf rDOM_STATUS fDOM_STATUS_DEPTH depth).treeSync).helloAll

/-- The parent is gone or has let the device go: ADOPTING follows (R449, R450). -/
def Dev.parentGone (d : Dev) : Dev :=
  match d.dom.parent with
  | none => d
  | some (_, p) =>
    ({ d with dom := { d.dom with next := some .adopting, oldParent := none } }).raise eDOM_PARENT_CHANGE p

/-- HELLO (R444, R445, R451): the port's adjacency and candidate data are updated; the parent's place is followed; a
preferred root heard in 3 keepalives is adopted toward. -/
def execHello (die : Fin 2) (s : State) : Host.Outcome State Fault Refusal :=
  onLive s fun d0 =>
    match d0.domTake die 0x01 with
    | none => d0
    | some (m, d) =>
      let p := m.port
      if d.domState = 0 || m.body.length ≠ 32 || !d.isUp p then d
      else
        let h := helloOf m.body
        let x := d.adj p
        let st := if h.heard = d.devNo then 2 else max 1 x.st
        let better := decide (3 ≤ d.domState) && decide (d.domState ≤ 4) && (decide (h.state = 3) || decide (h.state = 4)) &&
          decide (h.root ≠ 0xFFFF) && (match d.dom.root with
            | some r => decide (rootKey h.rootPri h.root < rootKey d.dom.rootPri r)
            | none => false)
        let keep := decide (m.tick / 1000 % 10 = 0)
        let prefer := if better then (if keep then x.prefer + 1 else x.prefer) else 0
        let d1 := d.setAdj p { x with st := st, partner := m.src, hello := some h, prefer := prefer }
        let d2 := if st = 2 && x.st ≠ 2 then
            (d1.mgmtSettle p true (bits h.caps 3 3 = 1 && d.lb (rPRT_CFG p) fPRT_CFG_SHED_EN) m.src).raise
              eDOM_NEIGH_CHANGE p
          else d1
        let d3 := if d2.dom.parent = some (m.src, p) && d2.domState = 3 then
            (if h.state = 3 ∨ h.state = 4 then d2.followParent m h
             else if h.state = 0 ∨ h.state = 5 then d2.parentGone else d2)
          else d2
        if 3 ≤ prefer && st = 2 && d3.dom.next.isNone then
          { d3 with dom := { d3.dom with next := some .adopting, oldParent := d3.dom.parent } }
        else d3

/-- HELLO_RESEND (R443): at a rod boundary, until the adjacency is TWO_WAY and for at most 10 rods. -/
def execHelloResend (p : Fin 512) (s : State) : Host.Outcome State Fault Refusal :=
  onLive s fun d =>
    if decide (d.trk.tick % 1000 = 0) && d.domPortEn p && d.isUp p && decide ((d.adj p).st ≠ 2) &&
        decide (d.rod ≤ (d.adj p).upRod + 10) then d.hello p
    else d

/-- KEEPALIVE (R443): at every rod boundary that is a multiple of 10. -/
def execKeepalive (s : State) : Host.Outcome State Fault Refusal :=
  onLive s fun d => if d.trk.tick % 10000 = 0 then d.helloAll else d

/-- Body of a FAULT message (R442): reported device, class, code, tick, first bytes of its log entry. -/
def faultBody (dev cls code tick : Nat) (entry : List Byte) : List Byte :=
  beBytes 2 dev ++ beBytes 1 cls ++ zeros 1 ++ beBytes 4 code ++ beBytes 8 tick ++ (entry ++ zeros 16).take 16

/-- A FAULT message toward the root (R455): reported device, class, code, tick and the first bytes of its entry. -/
def Dev.sendFault (d : Dev) (dev cls code tick : Nat) (entry : List Byte) : Dev :=
  if d.domState = 0 then d
  else
    let body := faultBody dev cls code tick entry
    if d.domState = 4 then d.raise eDOM_REMOTE_FAULT dev (some code)
    else
      match d.dom.parent with
      | some (_, p) => d.ruleyMsg p 0x0B 0 0 (d.dom.root.getD 0xFFFF) body
      | none =>
        match d.dom.root with
        | some r => d.ruleyTo 0x0B r body
        | none => d.cnt (rDOM_CNT_LO 7)

/-- A child is gone: its routes, its place, DOM_CHILD_LOST, and a FAULT on its behalf when its port has left UP. -/
def Dev.childGone (d : Dev) (dev p : Nat) (down : Bool) : Dev :=
  let d1 := d.routesDrop fun r => decide (r.2 = p)
  let d2 := { d1 with dom := { d1.dom with children := d1.dom.children.filter fun c => decide (c ≠ (dev, p)) } }
  let d3 := (d2.treeSync.raise eDOM_CHILD_LOST p).jrnNoLink dev
  if down then
    let e := if d3.domState = 4 then d3 else d3.raise eDOM_REMOTE_FAULT dev (some 0)
    e.sendFault dev 0x0F 0 d.trk.tick []
  else d3

/-- Another UP port with a TWO_WAY adjacency to a device (R446). -/
def Dev.sparePort (d : Dev) (dev p : Nat) : Option Nat :=
  (d.twoWay.filter fun q => decide (q ≠ p) && decide ((d.adj q).partner = dev) && d.isUp q).head?

/-- ADJACENCY_LOST (R444, R450, R456): a port has left UP, or has been silent for MISS_RODS. -/
def execAdjacencyLost (p : Fin 512) (s : State) : Host.Outcome State Fault Refusal :=
  onLive s fun d =>
    let x := d.adj p
    let silent := decide (d.trk.tick % 1000 = 0) && decide (d.lf rDOM_TIMER fDOM_TIMER_MISS_RODS ≤ d.rod - x.lastRod)
    if decide (x.st ≠ 0) && (!d.isUp p || silent) then
      let dev := x.partner
      let d0 := d.adjClear p
      let d1 := if d0.isUp p && (decide ((d0.portSt p).shedRod.isSome) ||
          decide (d0.f (rPRT_STATUS p) fPRT_STATUS_ACTIVE_LANES_LOG2 < log2Lanes (modeLanes (d0.portSt p).mode))) then
          d0.setPort p { d0.portSt p with wakeRod := some d0.wakeAt, shedRod := none }
        else d0
      let d2 := if d1.dom.children.contains (dev, p.val) then
          match d1.sparePort dev p with
          | some q =>
            { d1 with dom := { d1.dom with
                children := d1.dom.children.map (fun c => if c = (dev, p.val) then (dev, q) else c),
                routes := d1.dom.routes.map fun (r : Nat × Nat) => if r.2 = p.val then (r.1, q) else r } }.treeSync
          | none => d1.childGone dev p (!d.isUp p)
        else d1
      if d2.dom.parent = some (dev, p.val) then
        match d2.sparePort dev p with
        | some q => { d2 with dom := { d2.dom with parent := some (dev, q) } }.treeSync
        | none => (({ d2 with dom := { d2.dom with next := none, oldParent := none } }).raise eDOM_PARENT_CHANGE p).adopting
      else d2
    else d

/-- ROOT_TAKEOVER (R445): an eligible device that has been SEEKING for ROOT_HOLD_RODS rods and hears no preferred root. -/
def execRootTakeover (s : State) : Host.Outcome State Fault Refusal :=
  onLive s fun d =>
    let pri := d.f rDOM_ROOT_CFG fDOM_ROOT_CFG_ROOT_PRI
    let own := rootKey pri d.devNo
    let pref := d.dom.adj.any fun e => decide (e.2.st = 2) && (match e.2.hello with
      | some h => (decide (h.state = 3) || decide (h.state = 4)) && decide (h.root ≠ 0xFFFF) &&
          decide (rootKey h.rootPri h.root < own)
      | none => false)
    if decide (d.domState = 1) && d.dom.next.isNone && d.b rDOM_CTRL fDOM_CTRL_ROOT_ELIG &&
        decide (d.dom.seekRod + d.lf rDOM_ROOT_CFG fDOM_ROOT_CFG_ROOT_HOLD_RODS ≤ d.rod) && !pref then
      let d1 := { d with dom := { d.dom with
          root := some d.devNo, rootPri := pri, path := [], oldDepth := 0,
          registry := d.dom.registry.filter (fun (r : Nat × Nat) => decide (r.1 ≠ d.devNo)) ++ [(d.devNo, d.serial)] } }
      (((d1.sf rDOM_STATUS fDOM_STATUS_DEPTH 0).domEnter 4).treeSync).helloAll
    else d

/-! ### Adoption (R447, R448) -/

/-- ADOPT_REQ (R447): the checks in the order of the NAK reasons. -/
def execAdoptReq (die : Fin 2) (s : State) : Host.Outcome State Fault Refusal :=
  onLive s fun d0 =>
    match d0.domTake die 0x02 with
    | none => d0
    | some (m, d) =>
      let p := m.port
      if d.domState = 0 || m.body.length ≠ 4 || (d.adj p).st = 0 then d
      else
        let height := eb m.body 0
        let other := match (d.adj p).hello, d.dom.root with
          | some h, some r => decide (h.root ≠ 0xFFFF) && decide (rootKey h.rootPri h.root < rootKey d.dom.rootPri r)
          | _, _ => false
        let reason := if d.domState ≠ 3 ∧ d.domState ≠ 4 then 1
          else if 32 ≤ (d.dom.children.filter fun c => decide (c.1 ≠ m.src)).length then 2
          else if 6 < d.domDepth + 1 + height then 3
          else if d.dom.path.contains m.src then 4
          else if other then 5 else 0
        if reason ≠ 0 then (d.ruleyLink p 0x04 (beBytes 1 reason)).cnt (rDOM_CNT_LO 3)
        else
          let d1 := { d with dom := { d.dom with
              children := d.dom.children.filter (fun (c : Nat × Nat) => decide (c.1 ≠ m.src)) ++ [(m.src, p)] } }
          let d2 := d1.treeSync.raise eDOM_CHILD_JOIN p
          let path := d2.dom.path.take 6
          d2.ruleyLink p 0x03 (beBytes 1 d2.domDepth ++ zeros 1 ++ path.flatMap (beBytes 2) ++
            (List.replicate (6 - path.length) 0xFFFF).flatMap (beBytes 2))

/-- ADOPT_ACK (R447, R448): ATTACHED at the next tick boundary. -/
def execAdoptAck (die : Fin 2) (s : State) : Host.Outcome State Fault Refusal :=
  onLive s fun d0 =>
    match d0.domTake die 0x03 with
    | none => d0
    | some (m, d) =>
      match d.dom.asked with
      | none => d
      | some (dev, p, _) =>
        if d.domState = 2 && dev = m.src && p = m.port && m.body.length = 14 then
          let path := ((List.range 6).map fun i => beAt m.body (2 + 2 * i) 2).filter (· ≠ 0xFFFF)
          { d with dom := { d.dom with next := some (.attached dev p (eb m.body 0 + 1) (path ++ [dev])), asked := none } }
        else d

/-- The candidate asked has refused or not answered: the next one is asked (R447). -/
def Dev.askFailed (d : Dev) (dev : Nat) : Dev := { d with dom := { d.dom with tried := dev :: d.dom.tried } }.askNext

/-- ADOPT_NAK (R447). -/
def execAdoptNak (die : Fin 2) (s : State) : Host.Outcome State Fault Refusal :=
  onLive s fun d0 =>
    match d0.domTake die 0x04 with
    | none => d0
    | some (m, d) =>
      match d.dom.asked with
      | none => d
      | some (dev, p, _) =>
        if d.domState = 2 && dev = m.src && p = m.port && m.body.length = 1 then d.askFailed dev else d

/-- ADOPT_TIMEOUT (R447): no answer within 1 rod. -/
def execAdoptTimeout (s : State) : Host.Outcome State Fault Refusal :=
  onLive s fun d =>
    match d.dom.asked with
    | none => d
    | some (dev, _, t) => if d.domState = 2 && decide (t + 1000 ≤ d.trk.tick) then d.askFailed dev else d

/-- The device numbers in a body from an offset. -/
def numbersOf (b : List Byte) (o : Nat) : List Nat := (List.range ((b.length - o) / 2)).map fun i => beAt b (o + 2 * i) 2

/-- LEAVE (R448): routes of the moved subtree go; it passes up the old path and stops where the MOVE has already
installed others. From the parent it releases the device (R449). -/
def execLeave (die : Fin 2) (s : State) : Host.Outcome State Fault Refusal :=
  onLive s fun d0 =>
    match d0.domTake die 0x05 with
    | none => d0
    | some (m, d) =>
      let p := m.port
      let devs := numbersOf m.body 0
      if d.domState = 0 || m.body.length % 2 ≠ 0 || devs.isEmpty then d
      else if d.dom.parent.map (·.2) = some p then d.parentGone
      else
        let moved := d.dom.routes.any fun r => decide (some r.1 = devs.head?) && decide (r.2 ≠ p)
        let d1 := d.routesDrop fun r => devs.contains r.1 && decide (r.2 = p)
        let d2 := { d1 with dom := { d1.dom with
            children := d1.dom.children.filter fun c => !(decide (some c.1 = devs.head?) && decide (c.2 = p)) } }.treeSync
        if moved then d2
        else match d2.dom.parent with
          | some (_, q) => d2.relayOn q m
          | none => d2

/-- MOVE (R448): routes are installed against the port it arrived on; the root checks its registry. -/
def execMove (die : Fin 2) (s : State) : Host.Outcome State Fault Refusal :=
  onLive s fun d0 =>
    match d0.domTake die 0x06 with
    | none => d0
    | some (m, d) =>
      let p := m.port
      let serial := beAt m.body 0 8
      let devs := numbersOf m.body 8
      if d.domState = 0 || m.body.length < 10 || m.body.length % 2 ≠ 0 then d
      else if d.domState = 4 then
        let n := devs.headD 0xFFFF
        match d.dom.registry.find? fun r => decide (r.1 = n) && decide (r.2 ≠ serial) with
        | some r => d.ruleyMsg p 0x07 0 0 n (beBytes 2 n ++ beBytes 8 r.2)
        | none =>
          let d1 := d.routesPut devs p
          { d1 with dom := { d1.dom with registry := d1.dom.registry.filter (fun (r : Nat × Nat) => decide (r.1 ≠ n)) ++ [(n, serial)] } }
      else
        let d1 := d.routesPut devs p
        match d1.dom.parent with
        | some (_, q) => d1.relayOn q m
        | none => d1.cnt (rDOM_CNT_LO 7)

/-- JOIN_NAK (R448): passed down to the newcomer, which becomes BLOCKED and raises DOM_DUP_NUMBER. -/
def execJoinNak (die : Fin 2) (s : State) : Host.Outcome State Fault Refusal :=
  onLive s fun d0 =>
    match d0.domTake die 0x07 with
    | none => d0
    | some (m, d) =>
      let n := beAt m.body 0 2
      if d.domState = 0 || m.body.length ≠ 10 then d
      else if decide (n = d.devNo) && decide (d.serial ≠ beAt m.body 2 8) then
        ({ d with dom := { d.dom with next := some .blocked } }).raise eDOM_DUP_NUMBER 0xFFFF (some (beAt m.body 2 8))
      else
        match d.dom.routes.find? fun r => decide (r.1 = n) with
        | some r => d.relayOn r.2 m
        | none => d.cnt (rDOM_CNT_LO 7)

/-- A message of another device is flooded, on every TWO_WAY adjacency but the one it arrived on (R453). -/
def Dev.floodMsg (d : Dev) (m : DomMsg) : Dev :=
  d.floodPorts (d.twoWay.filter fun p => decide (p ≠ m.port)) m.type 0xC0 (d.f rDOM_TIMER fDOM_TIMER_FLOOD_HOPS) m.src
    m.dst m.seq m.body

/-- RULEY_FAULT (R455): counted, told by the reported device's parent and by the root, and passed toward the root. -/
def execRuleyFault (die : Fin 2) (s : State) : Host.Outcome State Fault Refusal :=
  onLive s fun d0 =>
    match d0.domTake die 0x0B with
    | none => d0
    | some (m, d) =>
      let dev := beAt m.body 0 2
      if d.domState = 0 || m.body.length ≠ 32 then d
      else
        let d1 := d.cnt (rDOM_CNT_LO 5)
        let d2 := if d1.domState = 4 || d1.isChild dev then d1.raise eDOM_REMOTE_FAULT dev (some (beAt m.body 4 4)) else d1
        if d2.domState = 4 then d2
        else match d2.dom.parent with
          | some (_, q) => if q = m.port then d2.cnt (rDOM_CNT_LO 7) else d2.relayOn q m
          | none =>
            if d2.b rDOM_CTRL fDOM_CTRL_FALLBACK_EN && decide (m.dst ≠ d2.devNo) then d2.floodMsg m
            else d2.cnt (rDOM_CNT_LO 7)

/-! ### Status commands (R457) -/

/-- DOM_STATUS (0x0C00). -/
def execDomStatus (h : CmdHdr) (s : State) : Host.Outcome State Fault Refusal :=
  onCmd s h 0x0C00 fun d =>
    d.reply h 0x0C00 stOk 0 (
      beBytes 1 d.domState ++ beBytes 1 d.domDepth ++ beBytes 1 d.dom.children.length ++ beBytes 1 d.domHeight ++
      beBytes 2 d.devNo ++ beBytes 2 (d.f rDOM_ID fDOM_ID_DOMAIN) ++ beBytes 2 (d.dom.root.getD 0xFFFF) ++
      beBytes 2 ((d.dom.parent.map (·.1)).getD 0xFFFF) ++ beBytes 2 ((d.dom.parent.map (·.2)).getD 0xFFFF) ++
      beBytes 2 d.dom.routes.length ++ beBytes 4 d.dom.reparents ++ beBytes 4 (min (2 ^ 32 - 1) (d.rod - d.dom.changeRod)))

/-- The neighbour entry of a port. -/
def Dev.neighEntry (d : Dev) (p : Nat) : List Byte :=
  let x := d.adj p
  let on := d.portExists p && d.domPortEn p
  let role := if d.dom.parent.map (·.2) = some p then 1
    else if d.dom.children.any fun c => decide (c.2 = p) then 2
    else if d.candPorts.any fun c => decide (c.2 = p) then 3 else 0
  beBytes 2 p ++ beBytes 1 (if on then x.st else 0xFF) ++ beBytes 1 role ++ beBytes 2 x.partner ++
  (match x.hello with
   | some h => beBytes 1 h.depth ++ beBytes 1 h.state
   | none => [0xFF, 0])

/-- DOM_NEIGH (0x0C01). -/
def execDomNeigh (h : CmdHdr) (first count : BitVec 16) (s : State) : Host.Outcome State Fault Refusal :=
  onCmd s h 0x0C01 fun d =>
    if count.toNat = 0 ∨ 512 < first.toNat + count.toNat then d.replySt h 0x0C01 stBadParam
    else d.reply h 0x0C01 stOk 0 ((List.range count.toNat).flatMap fun i => d.neighEntry (first.toNat + i))

/-! ### Ports that come up, and wake requests (R62, R83, R443) -/

/-- LOCK_ACQUIRED (R62): block and FEC lock; the port enters UP and sends HELLO. -/
def execLockAcquired (p : Fin 512) (s : State) : Host.Outcome State Fault Refusal :=
  onDev s fun d =>
    if d.pState p = 4 then
      let new := (lanesOf p (d.portSt p).mode).filter fun n => !d.port.cdr.contains n
      let e := { d with port := { d.port with cdr := d.port.cdr ++ new } }
      (e.enterUp p).helloUp p
    else d

/-- FAULT_SETS_CLEARED (R62): a FAULT port returns to UP. -/
def execFaultSetsCleared (p : Fin 512) (s : State) : Host.Outcome State Fault Refusal :=
  onDev s fun d => if d.pState p = 6 then (d.enterUp p).helloUp p else d

/-- Does a queue of a port hold more shared cells than its dynamic threshold allows (R83, R245)? -/
def Dev.overThreshold (d : Dev) (p : Nat) : Bool :=
  let die := dieOf p
  (List.range 16).any fun i =>
    let q := qIdx p i
    let alpha := sext 4 (d.lf (rBUF_Q_CFG die q) fBUF_Q_CFG_ALPHA_LOG2)
    let f := d.freeShared die
    let limit := if alpha = -8 then 0 else if 0 ≤ alpha then f * 2 ^ alpha.toNat else f / 2 ^ (-alpha).toNat
    decide (limit < (d.queue die q).shUsed)

/-- WAKE_PROPOSAL (R83): a port on fewer lanes whose transmit load exceeds WAKE_PCT, or a queue of which exceeds its
dynamic threshold, asks for all lanes. -/
def execWakeProposal (p : Fin 512) (tx : Nat) (s : State) : Host.Outcome State Fault Refusal :=
  onDev s fun d =>
    let x := d.portSt p
    let n := d.f (rPRT_STATUS p) fPRT_STATUS_ACTIVE_LANES_LOG2
    if d.isUp p && decide (n < log2Lanes (modeLanes x.mode)) && x.wakeRod.isNone &&
        (decide (d.lf (rPRT_SHED p) fPRT_SHED_WAKE_PCT < tx) || d.overThreshold p) then
      (d.setPort p { x with wakeRod := some d.wakeAt }).ruleyLink p 0x0F (beBytes 8 d.wakeAt)
    else d

end Sys2Proof.Machine
end

