-- ==== Sys2Proof/Machine/Hbm.lean ====
section
/-! DEFINITION. Machine/Hbm.lean: the HBM stacks, their partition, calendar, errors, refresh and row hammering
(R44, R360 to R380). -/
namespace Sys2Proof.Machine

/-- A stack. -/
def Dev.stack (d : Dev) (k : Nat) : HbmStack := kvGet {} d.hbm.stk k

/-- Replace it. -/
def Dev.setStack (d : Dev) (k : Nat) (x : HbmStack) : Dev := { d with hbm := { d.hbm with stk := kvSet {} k x d.hbm.stk } }

/-- Is a stack's controller frozen (R375)? -/
def Dev.frozen (d : Dev) (k : Nat) : Bool := d.b (rMEM_S_STATUS k) fMEM_S_STATUS_FROZEN

/-! ### Contents of the regions other than the flow region (R22, R258, R341, R391) -/

/-- The journal ring byte at an offset of a stack's quarter: rows of 1 KiB alternate between a die's stacks (R341). -/
def Dev.jrnByteAt (d : Dev) (stack off : Nat) : Byte :=
  let die := stack / 2
  let row := 2 * (off / 1024) + stack % 2
  let i := row * 16 + off % 1024 / 64
  if i < d.jrnSize die then (kvGet [] (d.jrn.die die).ring i).getD (off % 64) 0 else 0

/-- The mirror ring byte at an offset of a stack's quarter: entries of 256 bytes alternate between a die's stacks (R258). -/
def Dev.mirByteAt (d : Dev) (stack off : Nat) : Byte :=
  let die := stack / 2
  let i := 2 * (off / 256) + stack % 2
  (kvGet [] (d.buf die).mirRing i).getD (off % 256) 0

/-- A byte of HBM by the address form of R391. -/
def Dev.hbmByte (d : Dev) (a : Nat) : Byte :=
  let region := bits a 63 61
  let stack := bits a 60 59
  let off := bits a 58 0
  if region = 2 then d.jrnByteAt stack off
  else if region = 4 then d.mirByteAt stack off
  else memByte d.hbm.mem a

/-- Bytes of HBM from an address. -/
def Dev.hbmRead (d : Dev) (a n : Nat) : List Byte := (List.range n).map fun i => d.hbmByte (a + i)

/-- Store a byte of HBM. -/
def Dev.hbmPut (d : Dev) (a : Nat) (v : Byte) : Dev :=
  let region := bits a 63 61
  let stack := bits a 60 59
  let off := bits a 58 0
  let die := stack / 2
  if region = 2 then
    let i := (2 * (off / 1024) + stack % 2) * 16 + off % 1024 / 64
    let x := d.jrn.die die
    let r := (kvGet [] x.ring i ++ zeros 64).take 64
    if i < d.jrnSize die then { d with jrn := d.jrn.setDie die { x with ring := kvSet [] i (setAt r (off % 64) v) x.ring } }
    else d
  else if region = 4 then
    let i := 2 * (off / 256) + stack % 2
    let b := d.buf die
    let r := (kvGet [] b.mirRing i ++ zeros 256).take 256
    d.setBuf die { b with mirRing := kvSet [] i (setAt r (off % 256) v) b.mirRing }
  else { d with hbm := { d.hbm with mem := memWrite d.hbm.mem a [v] } }

/-- Store bytes of HBM from an address. -/
def Dev.hbmWrite (d : Dev) (a : Nat) (l : List Byte) : Dev :=
  d.each (l.zip (List.range l.length)) fun e x => e.hbmPut (a + x.2) x.1

/-- Bytes of a stack's quarter of a region (R361). -/
def Dev.quarter (d : Dev) (region : Nat) : Nat :=
  let units := if region = 1 then d.f rMEM_PART_A fMEM_PART_A_SPILL else if region = 2 then d.f rMEM_PART_A fMEM_PART_A_JOURNAL
    else if region = 3 then d.f rMEM_PART_A fMEM_PART_A_TALLY else if region = 4 then d.f rMEM_PART_B fMEM_PART_B_MIRROR
    else if region = 5 then d.f rMEM_PART_B fMEM_PART_B_AUX else 0
  if d.committed then units * 67108864 else 0

/-- Do `n` bytes at an address lie within a region that can be reached (R391, R422)? -/
def Dev.hbmIn (d : Dev) (a n : Nat) : Bool := decide (a < 2 ^ 64) && decide (bits a 58 0 + n ≤ d.quarter (bits a 63 61))

/-! ### The partition (R361 to R365, R377) -/

/-- The sum of the regions in 256 MiB (R361). -/
def Dev.partSum (d : Dev) : Nat :=
  4 * d.f rMEM_PART_A fMEM_PART_A_FLOW + d.f rMEM_PART_A fMEM_PART_A_SPILL + d.f rMEM_PART_A fMEM_PART_A_JOURNAL +
  d.f rMEM_PART_A fMEM_PART_A_TALLY + d.f rMEM_PART_B fMEM_PART_B_MIRROR + d.f rMEM_PART_B fMEM_PART_B_AUX

/-- Spare rows laid on each pseudo-channel (R365). -/
def Dev.spareRows (d : Dev) : Nat := (d.f rMEM_PART_B fMEM_PART_B_SPARE * 65536 + 61) / 62

/-- Whole flow parts that the spare rows of a stack can take, whichever channel is retired first (R365). -/
def Dev.spareParts (d : Dev) : Nat :=
  let part := d.f rMEM_PART_A fMEM_PART_A_FLOW * 4096
  if part = 0 then 0 else min 255 (63 * d.spareRows / part)

/-- Sizes of the sum and child rings: those JRN_SUM_CFG names, none without a Tally region or before the commit (R354,
R358, R362). -/
def Dev.sumSizes (d : Dev) : Dev :=
  let ok := d.committed && decide (d.f rMEM_PART_A fMEM_PART_A_TALLY ≠ 0)
  (d.wn rJRN_SUM_SIZE (if ok then 2 ^ d.f rJRN_SUM_CFG fJRN_SUM_CFG_SUM_LOG2 else 0)).wn rJRN_CHILD_SIZE
    (if ok then 2 ^ d.f rJRN_SUM_CFG fJRN_SUM_CFG_CHILD_LOG2 else 0)

/-- The registers that tell the regions' sizes take them (R341, R258, R354, R358, R177). -/
def Dev.partSizes (d : Dev) : Dev :=
  let ok := d.committed
  let n (x : Nat) : Nat := if ok then x else 0
  let d1 := d.each [0, 1] fun e die =>
    let e1 := (e.wn (rJRN_SIZE die) (n (e.f rMEM_PART_A fMEM_PART_A_JOURNAL * 2097152))).wn (rBUF_MIR_SIZE die)
      (n (e.f rMEM_PART_B fMEM_PART_B_MIRROR * 524288))
    let e2 := (e1.sf (rFLW_REGION die) fFLW_REGION_UNITS (n (e1.f rMEM_PART_A fMEM_PART_A_FLOW))).sb (rFLW_STATUS die)
      fFLW_STATUS_ABSENT (decide (n (e1.f rMEM_PART_A fMEM_PART_A_FLOW) = 0))
    (e2.sf (rFLW_SPARE die) fFLW_SPARE_STACK0 (n e2.spareParts)).sf (rFLW_SPARE die) fFLW_SPARE_STACK1 (n e2.spareParts)
  d1.sumSizes

/-- COMMIT (R362): checked; the partition is fixed and the clear begins. -/
def Dev.memCommit (d : Dev) : Dev :=
  if d.b rMEM_STATUS fMEM_STATUS_COMMITTED then d.classA
  else if 512 < d.partSum ∨ d.f rMEM_PART_B fMEM_PART_B_AUX * 1024 < d.spareRows then
    d.sb rMEM_STATUS fMEM_STATUS_PART_ERR true
  else
    let d1 := ((d.sb rMEM_STATUS fMEM_STATUS_COMMITTED true).sb rMEM_STATUS fMEM_STATUS_CLEARING true).partSizes
    let d2 := d1.each [0, 1] fun e die => e.setFlw die { e.flw die with buckets := [] }
    { d2 with hbm := { d2.hbm with mem := [] } }

/-- A write of MEM_CTRL (R380). -/
def Dev.memCtrlWrite (d : Dev) (v : Nat) : Dev :=
  let d1 := (d.sf rMEM_CTRL fMEM_CTRL_RH_EN (bits v 2 2)).sf rMEM_CTRL fMEM_CTRL_SCRUB_EN (bits v 1 1)
  if bits v 0 0 = 1 then d1.memCommit else d1

/-- MEM_COMMIT (R362): a write of MEM_CTRL with COMMIT 1. -/
def execMemCommit (value : BitVec 32) (s : State) : Host.Outcome State Fault Refusal :=
  onDev s fun d => if bits value.toNat 0 0 = 1 then d.memCtrlWrite value.toNat else d

/-- HBM_REGION_CLEAR_DONE (R362): the clear ends and FLW_STATUS.READY sets. -/
def execHbmRegionClearDone (s : State) : Host.Outcome State Fault Refusal :=
  onDev s fun d =>
    if d.b rMEM_STATUS fMEM_STATUS_CLEARING then
      let d1 := d.sb rMEM_STATUS fMEM_STATUS_CLEARING false
      d1.each [0, 1] fun e die => e.sb (rFLW_STATUS die) fFLW_STATUS_READY true
    else d

/-! ### Errors and freezes (R370, R371, R375, R377) -/

/-- The controller freezes (R375): its registers hold the failing access, and a class D fault is reported. -/
def Dev.hbmFreeze (d : Dev) (k kind pc row burst cls req tag syn : Nat) : Dev :=
  if d.frozen k then d
  else
    let d1 := ((d.sb (rMEM_S_STATUS k) fMEM_S_STATUS_FROZEN true).sf rMEM_STATUS fMEM_STATUS_FROZEN
      (putBits (d.f rMEM_STATUS fMEM_STATUS_FROZEN) k k 1)).setStack k { d.stack k with frozenTick := d.trk.tick }
    let a := rMEM_FRZ_KIND k
    let d2 := ((((d1.sf a fMEM_FRZ_KIND_KIND kind).sf a fMEM_FRZ_KIND_PC pc).sf a fMEM_FRZ_KIND_BANK (row % 16)).sf a
      fMEM_FRZ_KIND_CLASS cls).sf a fMEM_FRZ_KIND_SYNDROME (if kind = 1 then syn else 0)
    let d3 := (((d2.sf (rMEM_FRZ_ADDR k) fMEM_FRZ_ADDR_ROW row).sf (rMEM_FRZ_ADDR k) fMEM_FRZ_ADDR_BURST burst).sf
      (rMEM_FRZ_REQ k) fMEM_FRZ_REQ_REQ req).sf (rMEM_FRZ_REQ k) fMEM_FRZ_REQ_TAG tag
    (d3.raise eMEM_FROZEN k).report (k / 2) 0xD 11 (if kind = 1 then 2 else if kind = 2 then 3 else 9) (k * 64 + pc)

/-- A corrected read (R370, R371): logged, a class B fault, and a correction write unless a newer write supersedes it. -/
def Dev.hbmCorrected (d : Dev) (k pc row burst req : Nat) (superseded : Bool) : Dev :=
  let d1 := ((d.sf (rMEM_CE_ADDR k) fMEM_CE_ADDR_PC pc).sf (rMEM_CE_ADDR k) fMEM_CE_ADDR_ROW row).sf (rMEM_CE_ADDR k)
    fMEM_CE_ADDR_BURST burst
  let d2 := ((d1.sf (rMEM_CE_REQ k) fMEM_CE_REQ_REQ req).cnt (rMEM_S_CNT_LO k 1)).cnt (rMEM_S_CNT_LO k (if superseded then 4 else 3))
  ((d2.raise eMEM_CE k).pev (22 + k) 0x14).report (k / 2) 0xB 11 1 (k * 64 + pc)

/-- HBM_FREEZE (R375, R376); a stack's catastrophic-temperature flag drives THERMTRIP_L low too (R553). -/
def execHbmFreeze (stack : Fin 4) (kind : FreezeKind) (pc : Fin 64) (row : Fin 524288) (burst : Fin 32) (cls : Fin 10)
    (req : BitVec 12) (tag syndrome : BitVec 16) (s : State) : Host.Outcome State Fault Refusal :=
  onDev s fun d =>
    let trip := d.board.thermtrip || decide (kind = .thermal)
    ({ d with board := { d.board with thermtrip := trip } }).hbmFreeze stack (match kind with
      | .ue => 1
      | .caParity => 2
      | .thermal => 3) pc row burst cls req.toNat tag.toNat syndrome.toNat

/-- HBM_RUNTIME_LANE_REPAIR (R377): a class B fault. -/
def execHbmRuntimeLaneRepair (stack : Fin 4) (s : State) : Host.Outcome State Fault Refusal :=
  onDev s fun d =>
    (d.cntF (rMEM_S_STATUS stack) fMEM_S_STATUS_LANES_REPAIRED).report (stack.val / 2) 0xB 11 0xB (stack * 64)

/-- A read of MEM_QLOG_DATA (R380): the selected word, 0 while the controller is not frozen; the index advances. -/
def Dev.qlogRead (d : Dev) (k : Nat) : Dev :=
  let a := rMEM_QLOG_SEL k
  let i := d.f a fMEM_QLOG_SEL_INDEX
  let w := if d.frozen k then Config.qlog k (d.stack k).frozenTick (d.f a fMEM_QLOG_SEL_LOG) i else 0
  ({ d with bus := { d.bus with rdata := w } }.wr (rMEM_QLOG_DATA k) w).sf a fMEM_QLOG_SEL_INDEX ((i + 1) % 65536)

/-- QLOG_DATA_READ (R380). -/
def execQlogDataRead (stack : Fin 4) (s : State) : Host.Outcome State Fault Refusal :=
  onDev s fun d => d.qlogRead stack

/-- Lag of the scrub passes: the largest of the stacks, in decks (R371). -/
def Dev.hbmLag (d : Dev) : Dev :=
  let p := d.lrn rMEM_SCRUB
  let lag (k : Nat) : Nat := d.deck - (d.stack k).scrubDeck - p
  if p = 0 then d.sf rMEM_SCRUB_STATUS fMEM_SCRUB_STATUS_LAG 0
  else d.sf rMEM_SCRUB_STATUS fMEM_SCRUB_STATUS_LAG (min 65535 (((List.range 4).map lag).foldl max 0))

/-- HBM_SCRUB_READ (R371): the next row of a stack's pass; its pass ends with the last row. -/
def execHbmScrubRead (stack : Fin 4) (err : HbmErr) (s : State) : Host.Outcome State Fault Refusal :=
  onDev s fun d =>
    if d.lb rMEM_CTRL fMEM_CTRL_SCRUB_EN && decide (d.lrn rMEM_SCRUB ≠ 0) && !d.frozen stack &&
        d.b (rMEM_S_STATUS stack) fMEM_S_STATUS_TRAINED then
      let t := d.nrgTake 6
      if !t.2 then t.1
      else
        let x := t.1.stack stack
        let at_ := x.scrubNext
        let last := decide (at_ + 1 = 64 * 524288)
        let y := { x with
          scrubNext := if last then 0 else at_ + 1, scrubDeck := if last then d.deck else x.scrubDeck }
        let d1 := (t.1.setStack stack y).cnt (rMEM_S_CNT_LO stack 5)
        let d2 := match err with
          | .none => d1
          | .corrected b sup => d1.hbmCorrected stack (at_ / 524288) (at_ % 524288) b (0x600 + stack) sup
        if last && stack.val = 0 then (d2.cntF rMEM_SCRUB_STATUS fMEM_SCRUB_STATUS_PASSES).hbmLag else d2
    else d

/-! ### Refresh and temperature (R372, R373) -/

/-- HBM_TEMP_READ (R372, R373): once per rod; a reading that fails counts as above 85 °C. -/
def execHbmTempRead (stack : Fin 4) (temp : Option (BitVec 8)) (s : State) : Host.Outcome State Fault Refusal :=
  onDev s fun d =>
    let x := d.stack stack
    let a := rMEM_S_STATUS stack
    match temp with
    | none => (d.setStack stack { x with hot := true, cool := 0 }).classA (stack / 2)
    | some v =>
      let t := v.toNat
      let hot := decide (d.lf rMEM_TEMP fMEM_TEMP_HOT_C ≤ t)
      let d1 := ((d.sf a fMEM_S_STATUS_TEMP t).sb a fMEM_S_STATUS_HOT hot).setStack stack
        { x with hot := x.hot || decide (85 < t), cool := if t ≤ 82 then x.cool + 1 else 0 }
      if hot then (d1.raise eMEM_HOT stack).classA (stack / 2) else d1

/-- At a rod boundary the refresh rates follow the readings (R372). -/
def Dev.refRod (d : Dev) : Dev :=
  d.each [0, 1, 2, 3] fun e k =>
    let x := e.stack k
    let a := rMEM_S_STATUS k
    let e1 := e.setStack k { x with hot := false }
    if x.hot && !e.b a fMEM_S_STATUS_REF_2X then (e1.sb a fMEM_S_STATUS_REF_2X true).raise eMEM_REF_CHANGE k
    else if !x.hot && decide (100 ≤ x.cool) && e.b a fMEM_S_STATUS_REF_2X then
      (e1.sb a fMEM_S_STATUS_REF_2X false).raise eMEM_REF_CHANGE k
    else e1

/-! ### Calendar and row hammering (R44, R45, R367, R374) -/

/-- Is an activation the flow share's: a column's flow port or a write-back; every other requester is of the non-flow share
(R21, R369)? The requester numbers name the columns' flow ports (0). -/
def actFlow (a : HbmAct) : Bool := decide (a.req.toNat / 256 = 0)

/-- The requester with most of a row's last activations, the most recent of equals (R374). -/
def topReq (l : List (Nat × Nat)) : Nat :=
  let n (r : Nat) : Nat := (l.filter fun x => decide (x.1 = r)).length
  (l.foldl (fun b x => match b with
    | none => some x.1
    | some y => if n y < n x.1 then some x.1 else some y) none).getD 0

/-- A bank's tracker after an activation of a row by a requester. -/
def rhTrack (l : List RhRow) (row req tick : Nat) : List RhRow :=
  match l.find? fun x => decide (x.row = row) with
  | some x =>
    l.map fun y => if y.row = row then { y with count := x.count + 1, reqs := ((req, tick) :: y.reqs).take 64 } else y
  | none =>
    if l.length < 32 then l ++ [{ row := row, count := 1, reqs := [(req, tick)] }]
    else match (sortBy (fun x : RhRow => x.count) l) with
      | [] => l
      | w :: _ => (l.filter fun y => decide (y.row ≠ w.row)) ++ [{ row := row, count := w.count + 1, reqs := [(req, tick)] }]

/-- One activation of a frame (R374): not made on a frozen stack, nor by a throttled requester of its row within its gap. -/
def Dev.hbmActivate (d : Dev) (a : HbmAct) : Dev :=
  let k : Nat := a.stack
  let x := d.stack k
  let pc : Nat := a.pc
  let row : Nat := a.row
  let req := a.req.toNat
  let thr := x.throttled.find? fun t => decide (t.1 = pc) && decide (t.2.1 = row) && decide (t.2.2.1 = req)
  let held := match thr with
    | some t => decide (d.trk.tick < t.2.2.2 + d.lf rMEM_RH fMEM_RH_GAP_TICKS)
    | none => false
  if d.frozen k then d
  else if held then d.pev (22 + k) 0x16
  else
    let key := pc * 16 + row % 16
    let tr := if d.lb rMEM_CTRL fMEM_CTRL_RH_EN then rhTrack (kvGet [] x.rh key) row req d.trk.tick else kvGet [] x.rh key
    let ths := x.throttled.map fun t =>
      if t.1 = pc ∧ t.2.1 = row ∧ t.2.2.1 = req then (t.1, t.2.1, t.2.2.1, d.trk.tick) else t
    let d1 := (d.setStack k { x with rh := kvSet [] key tr x.rh, throttled := ths }).cnt (rMEM_S_CNT_LO k 0)
    let d1 := d1.pev (22 + k) (if actFlow a then 0x10 else 0x11)
    let d2 := match tr.find? fun y => decide (y.row = row) with
      | none => d1
      | some y =>
        if decide (d.lf rMEM_RH fMEM_RH_THRESH ≤ y.count) && !x.targets.contains (pc, row) && d.lb rMEM_CTRL fMEM_CTRL_RH_EN then
          let top := topReq y.reqs
          let last := ((y.reqs.find? fun z => decide (z.1 = top)).map (·.2)).getD d.trk.tick
          let z := d1.stack k
          ((d1.setStack k { z with
            throttled := z.throttled.filter (fun t => !(decide (t.1 = pc) && decide (t.2.1 = row) && decide (t.2.2.1 = top))) ++
              [(pc, row, top, last)],
            targets := z.targets ++ [(pc, row)] }).cnt (rMEM_S_CNT_LO k 6)).raise eMEM_RH_THROTTLE k
        else d1
    match a.err with
    | .none => d2
    | .corrected b sup => d2.hbmCorrected k pc row b req sup

/-- A frame's slots lent and unused, as the stacks' performance events (R45, R500): each pseudo-channel has four slots of
the flow share and one of the other. `n` holds the activations made by each pseudo-channel; those refused are not counted. -/
def Dev.frameSlots (d e : Dev) (n : List (Nat × Nat)) (acts : List HbmAct) : Dev :=
  e.each [0, 1, 2, 3] fun x k =>
    if d.b (rMEM_S_STATUS k) fMEM_S_STATUS_TRAINED && !d.frozen k then
      let made := (n.filter fun y => decide (y.1 / 64 = k)).map (·.2)
      let lent := (List.range 64).map fun pc =>
        let mine := acts.filter fun a => decide (a.stack.val = k) && decide (a.pc.val = pc)
        ((mine.filter actFlow).length - 4) + ((mine.filter fun a => !actFlow a).length - 1)
      (x.pev (22 + k) 0x12 lent.sum).pev (22 + k) 0x13 (320 - made.sum)
    else x

/-- HBM_CALENDAR_FRAME (R44, R45): at every even tick a frame begins; the activations of its slots are made, five a
pseudo-channel and one more in the window of R368. -/
def execHbmCalendarFrame (acts : List HbmAct) (s : State) : Host.Outcome State Fault Refusal :=
  onDev s fun d =>
    if d.trk.tick % 2 = 0 then
      let room (a : HbmAct) : Nat :=
        5 + (decide (d.trk.tick / 2 % 8 = 0) && !d.b (rMEM_S_STATUS a.stack) fMEM_S_STATUS_REF_2X).toNat
      let step (p : Dev × List (Nat × Nat)) (a : HbmAct) : Dev × List (Nat × Nat) :=
        let key := a.stack.val * 64 + a.pc.val
        let n := kvGet 0 p.2 key
        if n < room a then (p.1.hbmActivate a, kvSet 0 key (n + 1) p.2) else p
      d.frameSlots (acts.foldl step (d, [])).1 (acts.foldl step (d, [])).2 acts
    else d

/-- TARGETED_REFRESH (R374): the neighbours of a row are refreshed, and its count restarts. -/
def execTargetedRefresh (stack : Fin 4) (pc : Fin 64) (row : Fin 524288) (s : State) : Host.Outcome State Fault Refusal :=
  onDev s fun d =>
    let x := d.stack stack
    if x.targets.contains (pc.val, row.val) then
      let key := pc.val * 16 + row.val % 16
      let tr := (kvGet [] x.rh key).map fun y => if y.row = row.val then { y with count := 0 } else y
      (d.setStack stack { x with targets := x.targets.erase (pc.val, row.val), rh := kvSet [] key tr x.rh }).cnt
        (rMEM_S_CNT_LO stack 7)
    else d

/-- RH_INTERVAL_END (R374): the refresh interval of R372 ends; counts and throttles end with it. -/
def execRhIntervalEnd (stack : Fin 4) (s : State) : Host.Outcome State Fault Refusal :=
  onDev s fun d =>
    let x := d.stack stack
    let n := if d.b (rMEM_S_STATUS stack) fMEM_S_STATUS_REF_2X then 1600000 else 3200000
    if x.rhStart + n ≤ d.trk.tick then d.setStack stack { x with rh := [], throttled := [], rhStart := d.trk.tick } else d

/-! ### Non-flow lateness (R51, R369, R379) -/

/-- NONFLOW_LATE (R51, R369, R379): counted by class and charged to its pseudo-channel. -/
def execNonflowLate (die : Fin 2) (cls : Fin 8) (stack : Fin 4) (pc : Fin 64) (s : State) : Host.Outcome State Fault Refusal :=
  onDev s fun d =>
    let d1 := (((d.late 2).cnt32 (rMEM_NFLATE die cls)).cntF (rMEM_PC_NF stack pc) fMEM_PC_NF_LATE).pev (22 + stack) 0x17
    let k := stack.val * 64 + pc.val
    if d1.hbm.nfDeck.contains k then d1 else { d1 with hbm := { d1.hbm with nfDeck := d1.hbm.nfDeck ++ [k] } }

/-- At a deck boundary the runs of late decks are kept (R379); the hundredth raises the class C fault of R52. -/
def Dev.nfDeck (d : Dev) : Dev :=
  let run := d.listedIdx (rMEM_PC_NF 0 0) 4 256
  let keys := (run ++ d.hbm.nfDeck).eraseDups
  let d1 := d.each keys fun e k =>
    let a := rMEM_PC_NF (k / 64) (k % 64)
    if d.hbm.nfDeck.contains k then
      let e1 := e.cntF a fMEM_PC_NF_RUN
      if e1.f a fMEM_PC_NF_RUN = 100 then e1.report (k / 128) 0xC 11 6 k else e1
    else e.sf a fMEM_PC_NF_RUN 0
  { d1 with hbm := { d1.hbm with nfDeck := [] } }

/-- At a deck boundary the stacks' on-die correction counts are read (R360). -/
def Dev.eccDeck (d : Dev) (ecc : List Nat) : Dev :=
  d.each (ecc.zip [0, 1, 2, 3]) fun e x => if e.frozen x.2 then e else e.cnt (rMEM_S_CNT_LO x.2 2) x.1

end Sys2Proof.Machine
end

