-- ==== Sys2Proof/Machine/Rck.lean ====
section
/-! DEFINITION. Machine/Rck.lean: the reckoner machine and its micro-operations (R381 to R398), but BLK. -/
namespace Sys2Proof.Machine

/-! ### Registers, scratch and the sequencer (R381, R384) -/

/-- A general register: G0 reads as 0. -/
def Dev.g (d : Dev) (k r : Nat) : BitVec 64 := if r = 0 then 0 else kvGet 0 (d.reck k).g r

/-- Write a general register: writes to G0 are ignored. -/
def Dev.setG (d : Dev) (k r : Nat) (v : BitVec 64) : Dev :=
  if r = 0 then d
  else
    let x := d.reck k
    d.setReck k { x with g := kvSet 0 r v x.g }

/-- Bytes of a reckoner's local scratch. -/
def Dev.scratch (d : Dev) (k a n : Nat) : List Byte := memRead (d.reck k).scratch a n

/-- Store bytes in local scratch. -/
def Dev.setScratch (d : Dev) (k a : Nat) (l : List Byte) : Dev :=
  let x := d.reck k
  d.setReck k { x with scratch := memWrite x.scratch a l }

/-- Micro-program counter. -/
def Dev.pc (d : Dev) (k : Nat) : Nat := d.f (rRCK_K_STATUS k) fRCK_K_STATUS_PC

/-- Set it. -/
def Dev.setPc (d : Dev) (k a : Nat) : Dev := d.sf (rRCK_K_STATUS k) fRCK_K_STATUS_PC a

/-- Does an address lie in the open region (R396)? -/
def openPc (a : Nat) : Bool := decide (0x6000 ≤ a)

/-- Is the reckoner executing open-region microcode (R397)? -/
def Dev.openCode (d : Dev) (k : Nat) : Bool := openPc (d.pc k)

/-- The 32-bit microword of an operation (R383). -/
def mwWord (w : Micro) (op : Nat) : Nat := op * 2 ^ 26 + w.d.val * 2 ^ 21 + w.a.val * 2 ^ 16 + w.imm.toNat

/-- The immediate, zero-extended. -/
def mwU (w : Micro) : BitVec 64 := w.imm.setWidth 64

/-- The immediate, sign-extended. -/
def mwS (w : Micro) : BitVec 64 := w.imm.signExtend 64

/-- Source register A. -/
def Dev.ga (d : Dev) (w : Micro) : BitVec 64 := d.g w.k.val w.a.val

/-- Register D as a source. -/
def Dev.gd (d : Dev) (w : Micro) : BitVec 64 := d.g w.k.val w.d.val

/-- Source register B of the register form. -/
def Dev.gb (d : Dev) (w : Micro) : BitVec 64 := d.g w.k.val (w.imm.toNat % 32)

/-! ### Micro-faults (R398) -/

/-- The end a micro-fault makes of the task its reckoner holds: status DENIED, no reissue. -/
def Dev.taskDenied (d : Dev) (die i k : Nat) (t : Task) : Dev :=
  let d1 := match t.cmd with
    | some c =>
      let e := if t.replied then d else d.ctxReply c stDenied 0 d.trk.tick []
      (e.cmdBuf c).cmdOut c.src c.pos
    | none => d
  (d1.taskFree die i).trace die 6 k i t stDenied

/-- A micro-fault in the word a reckoner executes (R398). -/
def Dev.microFault (d : Dev) (k word cause : Nat) : Dev :=
  let die := k / 64
  let pc := d.pc k
  let d1 := match d.kTask k with
    | some (i, t) => d.taskDenied die i k t
    | none => d
  let d2 := ((((d1.wn rRCK_MF_INFO 0).sf rRCK_MF_INFO fRCK_MF_INFO_CAUSE cause).sb rRCK_MF_INFO fRCK_MF_INFO_OPEN
    (openPc pc)).sf rRCK_MF_INFO fRCK_MF_INFO_RECKONER k).sf rRCK_MF_INFO fRCK_MF_INFO_PC pc
  let d3 := (((d2.wn rRCK_MF_WORD word).cnt (rRCK_D_CNT_LO die 6)).raiseD eRCK_MICROFAULT die k)
  ((if openPc pc then d3.classA die else d3.report die 0xC 12 0x0C k).kRestart k).rckReport die

/-! ### Executing a microword -/

/-- A reckoner executes a microword: it must be running or starting; the word must be readable (R396, R398). -/
def Dev.micro (d : Dev) (w : Micro) (op : Nat) (body : Dev → Dev) : Dev :=
  let k := w.k.val
  let st := d.kState k
  if st = 1 ∨ st = 4 then
    let d1 := d.setKState k 1
    if w.ecc.val = 2 ∨ (k / 64, d.pc k) ∈ d.rck.csBad then d1.microFault k (mwWord w op) 8
    else body (d1.when (decide (w.ecc.val = 1)) fun e => e.report (k / 64) 0xB 12 0x01 0)
  else d

/-- A microword after which the next address is PC + 1 (R384): beyond 0x7FFF it is a micro-fault. -/
def Dev.seq (d : Dev) (w : Micro) (op : Nat) (f : Dev → Dev) : Dev :=
  d.micro w op fun e =>
    if e.pc w.k.val = 0x7FFF then e.microFault w.k.val (mwWord w op) 4
    else f (e.setPc w.k.val (e.pc w.k.val + 1))

/-- A fault of the word at a PC already advanced: the PC of the word is one back. -/
def Dev.faultBack (d : Dev) (w : Micro) (op cause : Nat) : Dev :=
  (d.setPc w.k.val (d.pc w.k.val - 1)).microFault w.k.val (mwWord w op) cause

/-- A register-form operation (R383, R385): `ok` is what its B field must be beside IMM[15:5] zero. -/
def Dev.regOp (d : Dev) (w : Micro) (op : Nat) (f : BitVec 64 → BitVec 64 → BitVec 64) (ok : Bool := true) : Dev :=
  d.seq w op fun e =>
    if w.imm.toNat < 32 ∧ ok then e.setG w.k.val w.d.val (f (e.ga w) (e.gb w)) else e.faultBack w op 2

/-- An immediate-form operation whose immediate must meet `ok`. -/
def Dev.immOp (d : Dev) (w : Micro) (op : Nat) (v : Dev → BitVec 64) (ok : Bool := true) : Dev :=
  d.seq w op fun e => if ok then e.setG w.k.val w.d.val (v e) else e.faultBack w op 2

/-- 1 or 0. -/
def bool64 (b : Bool) : BitVec 64 := if b then 1 else 0

/-- Shift amount of R385: the low 6 bits. -/
def shamt (b : BitVec 64) : Nat := b.toNat % 64

/-- Index of the lowest 1 bit at or above `n`, or 64. -/
def lowBit (x : BitVec 64) : Nat → Nat → Nat
  | 0, _ => 64
  | fuel + 1, n => if x.getLsbD n then n else lowBit x fuel (n + 1)

/-- Number of 1 bits. -/
def popc (x : BitVec 64) : Nat := ((List.range 64).filter fun i => x.getLsbD i).length

/-- The low `n` bytes of a register, most significant first. -/
def lowBytes (x : BitVec 64) (n : Nat) : List Byte := beBytes n x.toNat

/-- A register from a number. -/
def r64 (n : Nat) : BitVec 64 := BitVec.ofNat 64 n

/-! ### Plain operations (R385) -/

/-- NOP. -/
def execNop (w : Micro) (s : State) : Host.Outcome State Fault Refusal := onDev s fun d => d.seq w 0x00 id

/-- ADD. -/
def execAdd (w : Micro) (s : State) : Host.Outcome State Fault Refusal := onDev s fun d => d.regOp w 0x01 (· + ·)

/-- SUB. -/
def execSub (w : Micro) (s : State) : Host.Outcome State Fault Refusal := onDev s fun d => d.regOp w 0x02 (· - ·)

/-- AND. -/
def execAnd (w : Micro) (s : State) : Host.Outcome State Fault Refusal := onDev s fun d => d.regOp w 0x03 (· &&& ·)

/-- OR. -/
def execOr (w : Micro) (s : State) : Host.Outcome State Fault Refusal := onDev s fun d => d.regOp w 0x04 (· ||| ·)

/-- XOR. -/
def execXor (w : Micro) (s : State) : Host.Outcome State Fault Refusal := onDev s fun d => d.regOp w 0x05 (· ^^^ ·)

/-- SHL. -/
def execShl (w : Micro) (s : State) : Host.Outcome State Fault Refusal :=
  onDev s fun d => d.regOp w 0x06 fun a b => a <<< shamt b

/-- SHR. -/
def execShr (w : Micro) (s : State) : Host.Outcome State Fault Refusal :=
  onDev s fun d => d.regOp w 0x07 fun a b => a >>> shamt b

/-- SAR. -/
def execSar (w : Micro) (s : State) : Host.Outcome State Fault Refusal :=
  onDev s fun d => d.regOp w 0x08 fun a b => a.sshiftRight (shamt b)

/-- MUL. -/
def execMul (w : Micro) (s : State) : Host.Outcome State Fault Refusal := onDev s fun d => d.regOp w 0x09 (· * ·)

/-- SLTU. -/
def execSltu (w : Micro) (s : State) : Host.Outcome State Fault Refusal :=
  onDev s fun d => d.regOp w 0x0A fun a b => bool64 (a.ult b)

/-- SEQ. -/
def execSeq (w : Micro) (s : State) : Host.Outcome State Fault Refusal :=
  onDev s fun d => d.regOp w 0x0B fun a b => bool64 (decide (a = b))

/-- MINU. -/
def execMinu (w : Micro) (s : State) : Host.Outcome State Fault Refusal :=
  onDev s fun d => d.regOp w 0x0C fun a b => if a.ult b then a else b

/-- MAXU. -/
def execMaxu (w : Micro) (s : State) : Host.Outcome State Fault Refusal :=
  onDev s fun d => d.regOp w 0x0D fun a b => if a.ult b then b else a

/-- FFS: B must be G0. -/
def execFfs (w : Micro) (s : State) : Host.Outcome State Fault Refusal :=
  onDev s fun d => d.regOp w 0x0E (fun a _ => r64 (lowBit a 64 0)) (decide (w.imm.toNat % 32 = 0))

/-- POPC: B must be G0. -/
def execPopc (w : Micro) (s : State) : Host.Outcome State Fault Refusal :=
  onDev s fun d => d.regOp w 0x0F (fun a _ => r64 (popc a)) (decide (w.imm.toNat % 32 = 0))

/-- ADDI. -/
def execAddi (w : Micro) (s : State) : Host.Outcome State Fault Refusal := onDev s fun d => d.immOp w 0x10 fun e => e.ga w + (mwS w)

/-- ANDI. -/
def execAndi (w : Micro) (s : State) : Host.Outcome State Fault Refusal :=
  onDev s fun d => d.immOp w 0x11 fun e => e.ga w &&& (mwU w)

/-- ORI. -/
def execOri (w : Micro) (s : State) : Host.Outcome State Fault Refusal :=
  onDev s fun d => d.immOp w 0x12 fun e => e.ga w ||| (mwU w)

/-- XORI. -/
def execXori (w : Micro) (s : State) : Host.Outcome State Fault Refusal :=
  onDev s fun d => d.immOp w 0x13 fun e => e.ga w ^^^ (mwU w)

/-- SHLI: IMM[15:6] zero. -/
def execShli (w : Micro) (s : State) : Host.Outcome State Fault Refusal :=
  onDev s fun d => d.immOp w 0x14 (fun e => e.ga w <<< w.imm.toNat) (decide (w.imm.toNat < 64))

/-- SHRI: IMM[15:6] zero, as of SHLI (DEDUCED, log entry 40). -/
def execShri (w : Micro) (s : State) : Host.Outcome State Fault Refusal :=
  onDev s fun d => d.immOp w 0x15 (fun e => e.ga w >>> w.imm.toNat) (decide (w.imm.toNat < 64))

/-- SARI: IMM[15:6] zero, as of SHLI (DEDUCED, log entry 40). -/
def execSari (w : Micro) (s : State) : Host.Outcome State Fault Refusal :=
  onDev s fun d => d.immOp w 0x16 (fun e => (e.ga w).sshiftRight w.imm.toNat) (decide (w.imm.toNat < 64))

/-- SHIN. -/
def execShin (w : Micro) (s : State) : Host.Outcome State Fault Refusal :=
  onDev s fun d => d.immOp w 0x17 fun e => (e.ga w <<< 16) ||| (mwU w)

/-- SLTUI. -/
def execSltui (w : Micro) (s : State) : Host.Outcome State Fault Refusal :=
  onDev s fun d => d.immOp w 0x18 fun e => bool64 ((e.ga w).ult (mwU w))

/-- SEQI. -/
def execSeqi (w : Micro) (s : State) : Host.Outcome State Fault Refusal :=
  onDev s fun d => d.immOp w 0x19 fun e => bool64 (decide (e.ga w = (mwU w)))

/-- Position of a bit field: p = IMM[5:0]. -/
def mwP (w : Micro) : Nat := w.imm.toNat % 64

/-- Width of a bit field: w = IMM[11:6] + 1. -/
def mwW (w : Micro) : Nat := w.imm.toNat / 64 % 64 + 1

/-- IMM[15:12] zero and p + w at most 64 (R385). -/
def mwFieldOk (w : Micro) : Bool := decide (w.imm.toNat < 4096) && decide ((mwP w) + (mwW w) ≤ 64)

/-- BFX. -/
def execBfx (w : Micro) (s : State) : Host.Outcome State Fault Refusal :=
  onDev s fun d => d.immOp w 0x1A (fun e => r64 ((e.ga w).toNat / 2 ^ (mwP w) % 2 ^ (mwW w))) (mwFieldOk w)

/-- BFI. -/
def execBfi (w : Micro) (s : State) : Host.Outcome State Fault Refusal :=
  onDev s fun d =>
    d.immOp w 0x1B (fun e => r64 (putBits (e.gd w).toNat ((mwP w) + (mwW w) - 1) (mwP w) (e.ga w).toNat)) (mwFieldOk w)

/-- Byte count n = IMM[3:0] of BSWAP and CRC. -/
def mwN (w : Micro) : Nat := w.imm.toNat % 16

/-- n from 1 to 8. -/
def mwNOk (w : Micro) : Bool := decide (1 ≤ (mwN w)) && decide ((mwN w) ≤ 8)

/-- BSWAP. -/
def execBswap (w : Micro) (s : State) : Host.Outcome State Fault Refusal :=
  onDev s fun d => d.immOp w 0x1C (fun e => r64 (ofBe (lowBytes (e.ga w) (mwN w)).reverse)) (mwNOk w)

/-- CRC. -/
def execCrc (w : Micro) (s : State) : Host.Outcome State Fault Refusal :=
  onDev s fun d => d.immOp w 0x1D (fun e => r64 (crcCont ((e.gd w).toNat % 2 ^ 32) (lowBytes (e.ga w) (mwN w)))) (mwNOk w)

/-- RAND: the 64 bits are a free value. -/
def execRand (w : Micro) (s : State) : Host.Outcome State Fault Refusal :=
  onDev s fun d => d.seq w 0x1E fun e => e.used.setG w.k.val w.d.val (r64 (e.free (2 ^ 64)))

/-! ### Branches (R384, R385, R397) -/

/-- The next address of a taken branch: open-region microcode may not leave its region by it. -/
def Dev.jump (d : Dev) (w : Micro) (op target : Nat) : Dev :=
  if d.openCode w.k.val ∧ target < 0x6000 then d.microFault w.k.val (mwWord w op) 5 else d.setPc w.k.val target

/-- Target of the immediate branches: IMM[14:0]. -/
def mwTarget (w : Micro) : Nat := w.imm.toNat % 2 ^ 15

/-- JMP. -/
def execJmp (w : Micro) (s : State) : Host.Outcome State Fault Refusal :=
  onDev s fun d => d.micro w 0x20 fun e => e.jump w 0x20 (mwTarget w)

/-- A conditional branch. -/
def Dev.branch (d : Dev) (w : Micro) (op : Nat) (take : Dev → Bool) : Dev :=
  d.micro w op fun e =>
    if take e then e.jump w op (mwTarget w)
    else if e.pc w.k.val = 0x7FFF then e.microFault w.k.val (mwWord w op) 4 else e.setPc w.k.val (e.pc w.k.val + 1)

/-- BZ. -/
def execBz (w : Micro) (s : State) : Host.Outcome State Fault Refusal :=
  onDev s fun d => d.branch w 0x21 fun e => decide (e.ga w = 0)

/-- BNZ. -/
def execBnz (w : Micro) (s : State) : Host.Outcome State Fault Refusal :=
  onDev s fun d => d.branch w 0x22 fun e => decide (e.ga w ≠ 0)

/-- CALL: from the open region only to the open region or to a gate word (R397). -/
def execCall (w : Micro) (s : State) : Host.Outcome State Fault Refusal :=
  onDev s fun d => d.micro w 0x23 fun e =>
    let k := w.k.val
    if e.openCode k ∧ 0x100 ≤ (mwTarget w) ∧ (mwTarget w) < 0x6000 then e.microFault k (mwWord w 0x23) 5
    else (e.setG k w.d.val (r64 (e.pc k + 1))).setPc k (mwTarget w)

/-- RET. -/
def execRet (w : Micro) (s : State) : Host.Outcome State Fault Refusal :=
  onDev s fun d => d.micro w 0x24 fun e => e.jump w 0x24 ((e.ga w).toNat % 2 ^ 15)

/-- JMPT. -/
def execJmpt (w : Micro) (s : State) : Host.Outcome State Fault Refusal :=
  onDev s fun d => d.micro w 0x25 fun e => e.jump w 0x25 ((e.ga w + (mwS w)).toNat % 2 ^ 15)

/-! ### GET, WAIT, PARK, DONE (R386 to R390) -/

/-- GET: the reckoner waits until the dispatcher grants it a task. -/
def execGet (w : Micro) (s : State) : Host.Outcome State Fault Refusal :=
  onDev s fun d => d.micro w 0x28 fun e =>
    let k := w.k.val
    if 1 ≤ w.d.val ∧ w.d.val ≤ 26 then ((e.setReck k { e.reck k with getD := w.d.val }).setKState k 0).rckReport (k / 64)
    else e.microFault k (mwWord w 0x28) 6

/-- The condition of a WAIT or PARK (R388): none for a reserved kind. -/
def Dev.condOf (d : Dev) (w : Micro) : Option Cond :=
  let arg := w.imm.toNat % 4096
  match w.imm.toNat / 4096 with
  | 0 => some (.operand (arg % 4))
  | 1 => some (.tick (arg + 1))
  | 2 => some (.tag (d.ga w).toNat)
  | 3 => some .tags
  | 4 => some (.deck 1)
  | _ => none

/-- Has operand `i` of a task arrived? -/
def Task.has (t : Task) (i : Nat) : Bool := decide (bits t.present i i = 1)

/-- Does a reckoner's condition hold (R388)? A tag not outstanding has completed. -/
def Dev.condHolds (d : Dev) (k : Nat) (c : Cond) : Bool :=
  match c with
  | .operand i => match d.kTask k with
    | some (_, t) => t.has i
    | none => false
  | .tick n => decide (n = 0)
  | .tag v => (d.reck k).tags.all fun t => decide (t.1 ≠ v)
  | .tags => (d.reck k).tags.isEmpty
  | .deck n => decide (n = 0)

/-- WAIT: a condition that already holds ends it in its own cycle. -/
def execWait (w : Micro) (s : State) : Host.Outcome State Fault Refusal :=
  onDev s fun d => d.seq w 0x29 fun e =>
    let k := w.k.val
    match e.condOf w with
    | none => e.faultBack w 0x29 1
    | some c => if e.condHolds k c then e else (e.setReck k { e.reck k with wait := some c }).setKState k 2

/-- WAIT_CONDITION_MET (R388): the reckoner continues. -/
def execWaitConditionMet (k : Fin 128) (s : State) : Host.Outcome State Fault Refusal :=
  onDev s fun d => match (d.reck k).wait with
    | none => d
    | some c =>
      if d.kState k = 2 ∧ d.condHolds k c then (d.setReck k { d.reck k with wait := none }).setKState k 1 else d

/-- The reckoner lets go of its task. -/
def Dev.kRelease (d : Dev) (k : Nat) : Dev := d.wn (rRCK_K_TASK k) 0

/-- PARK (R389): only OPERAND, TICK and DECK. The reckoner goes on at PC + 1; the task stays in the table. -/
def execPark (w : Micro) (s : State) : Host.Outcome State Fault Refusal :=
  onDev s fun d => d.seq w 0x2A fun e =>
    let k := w.k.val
    let die := k / 64
    match e.condOf w, e.kTask k with
    | some (.tag _), _ | some .tags, _ | none, _ => e.faultBack w 0x2A 1
    | some _, none => e.faultBack w 0x2A 7
    | some c, some (i, t) =>
      let st := if e.condHolds k c then TaskSt.ready else .parked c
      let e1 := (((e.kRelease k).setTask die i { t with st := st, context := (e.ga w).toNat }).cnt (rRCK_D_CNT_LO die 2))
      e1.trace die 2 k i t 0

/-- PARK_CONDITION_MET (R389): the parked task is READY again, with its original deadline. -/
def execParkConditionMet (die : Fin 2) (i : Fin 16384) (s : State) : Host.Outcome State Fault Refusal :=
  onDev s fun d => match (d.rckD die).task i with
    | none => d
    | some t => match t.st with
      | .parked c =>
        let met := match c with
          | .operand j => t.has j
          | .tick n | .deck n => decide (n = 0)
          | .tag _ | .tags => false
        if met then d.setTask die i { t with st := .ready } else d
      | _ => d

/-- DONE (R390): the entry is freed; a command without a reply is answered by the dispatcher. The spec gives the
reckoner's next address no value: a free value. -/
def execDone (w : Micro) (s : State) : Host.Outcome State Fault Refusal :=
  onDev s fun d => d.micro w 0x2B fun e =>
    let k := w.k.val
    let die := k / 64
    let status := (e.ga w).toNat % 65536
    match e.kTask k with
    | none => e.microFault k (mwWord w 0x2B) 7
    | some (i, t) =>
      let e1 := ((e.kRelease k).setPc k (e.free (2 ^ 15))).used
      let e2 := match t.cmd with
        | some c => if t.replied then e1 else ((e1.ctxReply c status 0 e1.trk.tick []).cmdBuf c).cmdOut c.src c.pos
        | none => e1
      ((e2.cnt (rRCK_D_CNT_LO die 1)).taskFree die i).trace die 3 k i t status

/-- TASK (R393): a task from the 48-byte descriptor at scratch G[A] + IMM; its task word, or all ones when no entry could
be taken or a user type is not accepted (R401). -/
def execTask (w : Micro) (s : State) : Host.Outcome State Fault Refusal :=
  onDev s fun d => d.seq w 0x2C fun e =>
    let k := w.k.val
    let die := k / 64
    let a := (e.ga w + (mwU w)).toNat
    if a % 8 ≠ 0 ∨ 4096 < a + 48 then e.faultBack w 0x2C 3
    else
      let b := e.scratch k a 48
      let ty := beAt b 0 2
      let opn := openPc (e.pc k - 1)
      let fl := beAt b 3 1
      if opn ∧ !userType ty then e.faultBack w 0x2C 5
      else if userType ty ∧ !e.b rRCK_STATUS fRCK_STATUS_USER_ON then e.setG k w.d.val (BitVec.allOnes 64)
      else
        let r := e.taskCreate die {
          type := ty, required := beAt b 2 1 / 16, present := beAt b 2 1 % 16,
          ops := (List.range 4).map fun j => if bits (beAt b 2 1) j j = 1 then beAt b (16 + 8 * j) 8 else 0,
          deadline := beAt b 8 8, budget := beAt b 4 2, requester := beAt b 6 2,
          committed := !opn && decide (bits fl 7 7 = 1), trace := decide (bits fl 6 6 = 1) }
        match r.2 with
        | none => r.1.setG k w.d.val (BitVec.allOnes 64)
        | some i => match (r.1.rckD die).task i with
          | some t => r.1.setG k w.d.val (r64 (taskWord die i t))
          | none => r.1

/-- POST (R394). -/
def execPost (w : Micro) (s : State) : Host.Outcome State Fault Refusal :=
  onDev s fun d => d.seq w 0x2D fun e => e.operand ((e.ga w).toNat % 2 ^ 32) (e.gd w).toNat

/-- OPERAND_ARRIVE (R394). -/
def execOperandArrive (tag : BitVec 32) (value : BitVec 64) (s : State) : Host.Outcome State Fault Refusal :=
  onDev s fun d => d.operand tag.toNat value.toNat

/-- REPLY (R390): the reply record at scratch offset IMM, in the layout of R426 (DEDUCED, log entry 40); the tag is the
command's and the completion tick the device's. A second one, or that of a reissued task that had replied, is
suppressed and counted. -/
def execReply (w : Micro) (s : State) : Host.Outcome State Fault Refusal :=
  onDev s fun d => d.seq w 0x2E fun e =>
    let k := w.k.val
    let die := k / 64
    let a := w.imm.toNat
    match e.kTask k with
    | none => e.faultBack w 0x2E 7
    | some (i, t) =>
      let len := beAt (e.scratch k a 16) 4 2
      if a % 8 ≠ 0 ∨ 4096 < a + 16 ∨ 4096 < a + 16 + len then e.faultBack w 0x2E 3
      else match t.cmd with
        | none => e
        | some c =>
          if t.replied then e.cnt (rRCK_D_CNT_LO die 10)
          else
            let e1 := e.ctxReply c (beAt (e.scratch k a 16) 2 2) 0 e.trk.tick (e.scratch k (a + 16) len)
            ((e1.cmdBuf c).cmdOut c.src c.pos).setTask die i { t with replied := true, cmd := some { c with buf := none } }

/-- EVT (R385, R397, R417): the instance is the reckoner (DEDUCED, log entry 40). -/
def execEvt (w : Micro) (s : State) : Host.Outcome State Fault Refusal :=
  onDev s fun d => d.seq w 0x2F fun e =>
    let k := w.k.val
    let code := w.imm.toNat % 256
    if openPc (e.pc k - 1) ∧ code < 0xF0 then e.faultBack w 0x2F 5
    else e.evtPut code (0x80 + 0x40 * (k / 64)) k (some (e.ga w).toNat)

/-! ### Scratch, pool and HBM (R385, R391, R397) -/

/-- Is an 8-byte scratch address in range and aligned (R381)? -/
def scratchOk (a : Nat) : Bool := decide (a % 8 = 0) && decide (a + 8 ≤ 4096)

/-- LD. -/
def execLd (w : Micro) (s : State) : Host.Outcome State Fault Refusal :=
  onDev s fun d => d.seq w 0x30 fun e =>
    let a := (e.ga w + (mwS w)).toNat
    if scratchOk a then e.setG w.k.val w.d.val (r64 (ofBe (e.scratch w.k.val a 8))) else e.faultBack w 0x30 3

/-- ST. -/
def execSt (w : Micro) (s : State) : Host.Outcome State Fault Refusal :=
  onDev s fun d => d.seq w 0x31 fun e =>
    let a := (e.ga w + (mwS w)).toNat
    if scratchOk a then e.setScratch w.k.val a (beBytes 8 (e.gd w).toNat) else e.faultBack w 0x31 3

/-- Is an address of `n` bytes one of pool scratch in the form of R418? -/
def poolOk (a n : Nat) : Bool := decide (a < 2 ^ 32) && decide (bits a 30 23 = 0) && decide (bits a 22 0 + n ≤ 0x800000)

/-- An access of 8 bytes of pool scratch: in range and aligned, and under open rights within a buffer of the open owner. -/
def Dev.poolAccess (d : Dev) (w : Micro) (op a : Nat) (f : Dev → Dev) : Dev :=
  if !poolOk a 8 || decide (a % 8 ≠ 0) then d.faultBack w op 3
  else if openPc (d.pc w.k.val - 1) && decide (d.poolOwner a ≠ some (d.f rRCK_OPEN_CTRL fRCK_OPEN_CTRL_OWNER)) then
    d.faultBack w op 5
  else f d

/-- LDP. -/
def execLdp (w : Micro) (s : State) : Host.Outcome State Fault Refusal :=
  onDev s fun d => d.seq w 0x32 fun e =>
    let a := (e.ga w + (mwS w)).toNat
    e.poolAccess w 0x32 a fun x => x.setG w.k.val w.d.val (r64 (ofBe (x.poolRead a 8)))

/-- STP: the table names no sign for its immediate, which is so zero-extended (R383). -/
def execStp (w : Micro) (s : State) : Host.Outcome State Fault Refusal :=
  onDev s fun d => d.seq w 0x33 fun e =>
    let a := (e.ga w + (mwU w)).toNat
    e.poolAccess w 0x33 a fun x => x.poolWrite a (beBytes 8 (x.gd w).toNat)

/-- A tag not outstanding, from `t` upward. -/
def freeTag (used : List Nat) : Nat → Nat → Nat
  | 0, t => t
  | fuel + 1, t => if used.contains t then freeTag used fuel ((t + 1) % 2 ^ 32) else t

/-- A reckoner takes a tag: its number is a free value. -/
def Dev.takeTag (d : Dev) (k : Nat) (x : TagKind) : Dev × Nat :=
  let y := d.reck k
  let t := freeTag (y.tags.map (·.1)) y.tags.length (d.free (2 ^ 32))
  (d.used.setReck k { y with tags := kvErase t y.tags ++ [(t, x)] }, t)

/-- An HBM access of a microword (R391, R397): aligned, in a region that can be reached, and under open rights in the
heap window of an Aux quarter. -/
def Dev.hbmAccess (d : Dev) (w : Micro) (op : Nat) (f : Dev → Nat → Dev) : Dev :=
  let a := (d.ga w).toNat
  let sc := w.imm.toNat
  let region := bits a 63 61
  let off := bits a 58 0
  let base := d.f rRCK_HEAP_BASE fRCK_HEAP_BASE_MIB * 2 ^ 20
  let size := d.f rRCK_HEAP_SIZE fRCK_HEAP_SIZE_MIB * 2 ^ 20
  if off % 64 ≠ 0 ∨ sc % 64 ≠ 0 ∨ 4032 < sc ∨ region = 0 ∨ 5 < region then d.faultBack w op 3
  else if openPc (d.pc w.k.val - 1) ∧ (region ≠ 5 ∨ off < base ∨ base + size < off + 64) then d.faultBack w op 5
  else if d.hbmIn a 64 then f d a else d.faultBack w op 3

/-- HRD. -/
def execHrd (w : Micro) (s : State) : Host.Outcome State Fault Refusal :=
  onDev s fun d => d.seq w 0x34 fun e => e.hbmAccess w 0x34 fun x a =>
    let r := x.takeTag w.k.val (.read (bits a 60 59) w.imm.toNat (x.hbmRead a 64))
    r.1.setG w.k.val w.d.val (r64 r.2)

/-- HWR: a frozen controller issues no write (R375). -/
def execHwr (w : Micro) (s : State) : Host.Outcome State Fault Refusal :=
  onDev s fun d => d.seq w 0x35 fun e => e.hbmAccess w 0x35 fun x a =>
    let y := if x.frozen (bits a 60 59) then x else x.hbmWrite a (x.scratch w.k.val w.imm.toNat 64)
    let r := y.takeTag w.k.val (.write (bits a 60 59))
    r.1.setG w.k.val w.d.val (r64 r.2)

/-- MEMORY_TAG_COMPLETE (R391): the data reach the scratch before the tag completes; a frozen stack never answers. -/
def execMemoryTagComplete (k : Fin 128) (tag : BitVec 32) (s : State) : Host.Outcome State Fault Refusal :=
  onDev s fun d => match (d.reck k).tags.find? fun t => decide (t.1 = tag.toNat) with
    | some (t, .read stack a data) => if d.frozen stack then d else (d.setScratch k a data).tagDone k t
    | some (t, .write stack) => if d.frozen stack then d else d.tagDone k t
    | _ => d

/-- BLOCK_ANSWER (R392): the answer is written into the parameter block before the tag completes. -/
def execBlockAnswer (k : Fin 128) (tag : BitVec 32) (s : State) : Host.Outcome State Fault Refusal :=
  onDev s fun d => match (d.reck k).tags.find? fun t => decide (t.1 = tag.toNat) with
    | some (t, .block a answer) => (d.setScratch k a answer).tagDone k t
    | _ => d

/-! ### INJ, TIME, FAULT (R385, R395) -/

/-- A frame in pool scratch goes to the pipeline under a 16-byte inject descriptor (R395). A descriptor with a field out
of range injects nothing, and its buffer goes back (DESIGN CHOICE, log entry 41). -/
def Dev.inject (d : Dev) (addr : Nat) (desc : List Byte) (task : Option Nat) : Dev :=
  let port := beAt desc 2 2
  let len := beAt desc 4 2
  let bytes := d.poolRead addr (len - 4)
  if 512 ≤ port ∨ len < 64 ∨ 16383 < len ∨ 1 < beAt desc 0 1 ∨ (beAt desc 0 1 = 1 ∧ 15 < beAt desc 7 1) then d.poolGive addr
  else if beAt desc 0 1 = 0 then
    let i : Inject := {
      col := d.column port, port := port,
      state := if beAt desc 1 1 / 128 = 1 then some (beAt desc 6 1) else none,
      bytes := bytes, task := task, tick := d.trk.tick, buf := some addr }
    { d with path := { d.path with injects := d.path.injects ++ [i] } }
  else d.sendOwn port (beAt desc 7 1) bytes (putAt (mdReset port) 0 (bytesAt desc 8 8)) (some addr)

/-- INJ. -/
def execInj (w : Micro) (s : State) : Host.Outcome State Fault Refusal :=
  onDev s fun d => d.seq w 0x37 fun e =>
    let k := w.k.val
    let a := (e.ga w).toNat
    let sc := w.imm.toNat
    if sc % 8 ≠ 0 ∨ 4096 < sc + 16 ∨ !poolOk a (beAt (e.scratch k sc 16) 4 2) then e.faultBack w 0x37 3
    else
      let i := match e.kTask k with
        | some (i, _) => i
        | none => 0
      e.inject a (e.scratch k sc 16) (some (16384 * (k / 64) + i))

/-- TIME: the cycle within the tick is a free value, and so is the dispatch tick while no task is held. -/
def execTime (w : Micro) (s : State) : Host.Outcome State Fault Refusal :=
  onDev s fun d => d.seq w 0x38 fun e =>
    let k := w.k.val
    let c := e.free 16
    let st := stampOf (e.nowT + c * 40960)
    let give (v : Nat) : Dev := (e.used 2).setG k w.d.val (r64 v)
    match w.imm.toNat with
    | 0 => give e.trk.tick
    | 1 => give e.deck
    | 2 => give c
    | 3 => match e.kTask k with
      | some (_, t) => give t.dispTick
      | none => give (e.freeAt 1 (2 ^ 64))
    | 4 => give (st / 2 ^ 48)
    | 5 => give (st % 2 ^ 48)
    | _ => e.faultBack w 0x38 1

/-- FAULT: the spec does not say where the 12-bit code stands in a fault code (R477): the kind is a free value, the code
stands in the detail bytes (log entry 40). -/
def execFault (w : Micro) (s : State) : Host.Outcome State Fault Refusal :=
  onDev s fun d => d.seq w 0x39 fun e =>
    let k := w.k.val
    let code := w.imm.toNat % 4096
    match w.imm.toNat / 4096 % 4 with
    | 0 => e.faultBack w 0x39 1
    | 1 => e.classA (k / 64)
    | c => (e.used).report (k / 64) (0x9 + c) 12 (e.free 256) k (beBytes 2 code)

/-! ### The dispatcher (R403 to R407) -/

/-- Has a command of a ring that stands before position `pos` not yet begun, or (`all`) not yet completed (R428)? -/
def Dev.ringBehind (d : Dev) (r pos : Nat) (all : Bool) : Bool :=
  let out := (kvGet ({} : RingSt) d.host.rings r).out
  if all then out.any fun o => decide (o.1 < pos)
  else
    let tasks := (d.rckD 0).all ++ (d.rckD 1).all
    out.any (fun o => decide (o.1 < pos) && o.2) ||
      tasks.any fun e => match e.2.cmd with
        | some c => decide (c.src = .ring r) && decide (c.pos < pos) && !e.2.begun
        | none => false

/-- May a READY task be granted now: commands of one ring begin in ring order, and a FENCE stands alone (R428). -/
def Dev.mayBegin (d : Dev) (t : Task) : Bool :=
  t.begun || match t.cmd with
    | none => true
    | some c => match c.src with
      | .ring r => !d.ringBehind r c.pos (decide (bits c.flags 3 3 = 1))
      | .relay _ _ | .reckoner _ _ _ => true

/-- In the safe state only commands of R487's list are dispatched; the vendor's safe-state tasks, of which the spec gives
no type number, are the work of FAULT_SEAL (R486). -/
def Dev.safeMay (d : Dev) (t : Task) : Bool :=
  !d.b rFLT_STATUS fFLT_STATUS_SAFE || match t.cmd with
    | none => false
    | some c => safeOpcodes.contains c.opcode

/-- READY tasks of a die that may be granted, in the dispatcher's order: deadline, then index. -/
def Dev.readyOrder (d : Dev) (die : Nat) : List (Nat × Task) :=
  sortBy (fun e => e.2.deadline * 16384 + e.1) ((d.rckD die).all.filter fun e => e.2.isReady && d.mayBegin e.2 && d.safeMay e.2)

/-- The first task of the order that a waiting reckoner may take, with the lowest such reckoner (R404). -/
def grantPick (waiting : List Nat) : List (Nat × Task) → Option (Nat × Task × Nat)
  | [] => none
  | (i, t) :: l => match waiting.find? fun k => decide (t.excluded ≠ some k) with
    | some k => some (i, t, k)
    | none => grantPick waiting l

/-- A task is given to a reckoner (R387). -/
def Dev.grant (d : Dev) (die i k : Nat) (t : Task) : Dev :=
  let t1 := { t with st := .running k, dispTick := d.trk.tick, begun := true }
  let g := (d.reck k).getD
  let vals := [r64 (taskWord die i t)] ++ (t.ops.map r64) ++ [r64 t.context]
  let d1 := ((List.range 6).zip vals).foldl (fun e (x : Nat × BitVec 64) => e.setG k (g + x.1) x.2) d
  let d2 := ((d1.setPc k (bits (d.entry t.type) 14 0)).setKState k 1)
  let d3 := ((d2.sb (rRCK_K_TASK k) fRCK_K_TASK_VALID true).sf (rRCK_K_TASK k) fRCK_K_TASK_GENERATION t.gen).sf
    (rRCK_K_TASK k) fRCK_K_TASK_INDEX i
  (((d3.setTask die i t1).cnt (rRCK_D_CNT_LO die 0)).pev (20 + die) 0x10).trace die 1 k i t 0

/-- DISPATCH_GRANT (R404). A reckoner that waits in GET while it holds a task is offered none (DESIGN CHOICE, log
entry 42). -/
def execDispatchGrant (die : Fin 2) (s : State) : Host.Outcome State Fault Refusal :=
  onDev s fun d =>
    let waiting := (d.recksIn die 0).filter fun k => !d.b (rRCK_K_TASK k) fRCK_K_TASK_VALID
    match grantPick waiting (d.readyOrder die) with
    | none => d
    | some (i, t, k) => d.grant die i k t

/-- TASK_LATE (R51, R405): at the boundary that ends its budget a running task is aborted; it is reissued once. -/
def execTaskLate (die : Fin 2) (i : Fin 16384) (s : State) : Host.Outcome State Fault Refusal :=
  onDev s fun d => match (d.rckD die).task i with
    | none => d
    | some t => match t.st with
      | .running k =>
        if d.trk.tick < t.dispTick + t.budget then d
        else
          let d1 := ((((d.late 1).cnt (rRCK_D_CNT_LO die 3)).pev (20 + die) 0x13).kRestart k)
          let once := decide (bits (d.entry t.type) 30 30 = 1) ||
            (decide (t.type < 0x40) && d.b (rRCK_TYPE_CFG t.type) fRCK_TYPE_CFG_NO_REISSUE)
          if t.reissued || once then (d1.taskDiscard die i k t).rckReport die
          else
            let t1 := { t with st := .ready, reissued := true, excluded := some k }
            ((d1.setTask die i t1).cnt (rRCK_D_CNT_LO die 4)).trace die 4 k i t1 0
      | _ => d

/-- Class of a reckoner's retirement: a die with all 64 retired is a class D fault (R407). -/
def Dev.retireClass (d : Dev) (die : Nat) : Nat :=
  let n := (d.recksIn die 3).length
  if 64 ≤ n then 0xD else 0xC

/-- RECKONER_HARD_FAULT (R407): the reckoner is retired, and its task READY without an abort counted. -/
def execReckonerHardFault (k : Fin 128) (hang : Bool) (s : State) : Host.Outcome State Fault Refusal :=
  onDev s fun d =>
    let die := k.val / 64
    if d.kState k = 3 then d
    else
      let d1 := match d.kTask k with
        | some (i, t) => (d.setTask die i { t with st := .ready }).trace die 7 k i t 0
        | none => d
      let a := if k.val % 64 < 32 then rRCK_D_RETIRED_LO die else rRCK_D_RETIRED_HI die
      let d2 := ((d1.kRestart k).setKState k 3).wn a (putBits (d1.rn a) (k.val % 32) (k.val % 32) 1)
      let cls := d2.retireClass die
      ((d2.raiseD eRCK_RETIRED die k).report die cls 12 (if hang then 5 else 2) k).rckReport die

/-! ### The control store (R396) -/

/-- A word of a die's control store is found uncorrectable: the same word bad on both dies is class D. -/
def Dev.csFind (d : Dev) (die addr : Nat) : Dev :=
  let d1 := if (die, addr) ∈ d.rck.csBad then d else { d with rck := { d.rck with csBad := d.rck.csBad ++ [(die, addr)] } }
  d1.when (decide ((1 - die, addr) ∈ d1.rck.csBad)) fun e => e.report die 0xD 12 0x02 0

/-- CS_REPAIR (R396): the word is restored from the other die's copy, unless that is bad too. A word not yet known to be
bad is found so on a fetch. -/
def execCsRepair (die : Fin 2) (addr : Fin 32768) (s : State) : Host.Outcome State Fault Refusal :=
  onDev s fun d =>
    let d1 := d.csFind die addr
    if (1 - die.val, addr.val) ∈ d1.rck.csBad then d1
    else ({ d1 with rck := { d1.rck with csBad := d1.rck.csBad.filter fun x => decide (x ≠ (die.val, addr.val)) } }).raiseD
      eRCK_CS_REPAIR die 0xFFFF

/-- CS_SCRUB_PASS (R396): every word once per deck while CS_SCRUB_EN is 1: single-bit errors are corrected, other words
marked for repair. -/
def execCsScrubPass (die : Fin 2) (finds : List (Fin 32768 × Bool)) (s : State) : Host.Outcome State Fault Refusal :=
  onDev s fun d =>
    if d.b rRCK_CTRL fRCK_CTRL_CS_SCRUB_EN then
      finds.foldl (fun e (x : Fin 32768 × Bool) =>
        if x.2 then e.csFind die x.1.val else e.report die 0xB 12 0x01 0) d
    else d

end Sys2Proof.Machine
end

