-- ==== Sys2Proof/Machine/BufCfg.lean ====
section
/-! DEFINITION. Machine/BufCfg.lean: writes of reserves, shapers and level settings, the audit, the spill engine, queue
samples, and the commands of the queues and shaping family (R243, R252, R259 to R264, R276, R279 to R290, R433). -/
namespace Sys2Proof.Machine

/-! ### Reserves (R243, R261) -/

/-- Address of a reserve's register. -/
def resvAddr : ResvReg → Nat
  | .queue die q => rBUF_Q_CFG die q
  | .headroom p => rPRT_HEADROOM p
  | .levelPool die => rBUF_LEVEL_POOL die
  | .spillTail die => rBUF_SPILL_TAIL die

/-- Dies on which a register's reserve lies: headroom is reserved on both. -/
def resvDies : ResvReg → List Nat
  | .queue die _ => [die]
  | .headroom _ => [0, 1]
  | .levelPool die => [die]
  | .spillTail die => [die]

/-- Does a write set DEEP on a queue that cannot be deep (R261)? -/
def Dev.deepRefused (d : Dev) (r : ResvReg) (v : Nat) : Bool :=
  match r with
  | .queue die q => decide (bits v 20 20 = 1) && decide (q.val % 16 = 15) && d.treePort (256 * die + q / 16)
  | _ => false

/-- A write of a register that sets a reserve (R243, R261): ignored when it would take a die's reserves above 294,912
cells. -/
def Dev.reserveWrite (d : Dev) (r : ResvReg) (v : Nat) : Dev :=
  if d.deepRefused r v then d
  else
    let d1 := d.plainWrite (resvAddr r) v
    let bad := (resvDies r).filter fun die => decide (294912 < resvIn d1.regs d1.treePorts die)
    if bad.isEmpty then d1
    else d.each bad fun e die => (e.sb (rBUF_STATUS die) fBUF_STATUS_RESV_ERR true).raiseD eBUF_RESV_ERR die 0xFFFF

/-- RESERVE_WRITE: a host write of a reserve (R243). -/
def execReserveWrite (r : ResvReg) (value : BitVec 32) (s : State) : Host.Outcome State Fault Refusal :=
  onDev s fun d => d.reserveWrite r value.toNat

/-! ### The audit (R259, R260) -/

/-- A frame's count brought down to the references found; at 0 its chain is freed (R260). -/
def Dev.auditCount (d : Dev) (die f found : Nat) : Dev :=
  let b := d.buf die
  match b.chain f with
  | none => d
  | some c =>
    if c.refs ≤ found then d
    else
      let d1 := d.cnt (rBUF_CNT_LO die 25)
      let b1 := d1.buf die
      if found = 0 then ((d1.setBuf die (b1.setChain f none)).bufReport die).frameGc f
      else d1.setBuf die (b1.setChain f (some { c with refs := found }))

/-- Cells found leaked in two passes are reclaimed: class B, LEAK with the first handle (R260). -/
def Dev.auditLeak (d : Dev) (die : Nat) (again : List Nat) : Dev :=
  match sortBy id again with
  | [] => d
  | h :: _ => (((d.cnt (rBUF_CNT_LO die 21) again.length).sf (rBUF_AUDIT_STATUS die) fBUF_AUDIT_STATUS_FIRST_HANDLE h).raiseD
      eBUF_LEAK die 0xFFFF).report die 0xB 6 2 0

/-- Free cells that are reached are removed from the free list: class C, the mark of R29, FREE_AND_USED (R260). -/
def Dev.auditUsed (d : Dev) (die n : Nat) : Dev :=
  if n = 0 then d
  else ((d.cnt (rBUF_CNT_LO die 22) n).raiseD eBUF_FREE_AND_USED die 0xFFFF).report die 0xC 6 2 0

/-- AUDIT_PASS: a pass due on a die, with what it found (R259, R260). -/
def execAuditPass (die : Fin 2) (leaked : List (Fin 393216)) (used : Nat) (beyond : List (Nat × Nat)) (s : State) :
    Host.Outcome State Fault Refusal :=
  onDev s fun d =>
    let period := d.lf (rBUF_AUDIT_CFG die) fBUF_AUDIT_CFG_PERIOD_DECKS
    let b := d.buf die
    if d.lb (rBUF_AUDIT_CFG die) fBUF_AUDIT_CFG_EN && decide (period ≠ 0) &&
        decide (b.auditTick + period * 100000 ≤ d.trk.tick) then
      let r := d.nrgTake 8
      if r.2 then
        let cells := leaked.map (·.val)
        let d1 := r.1.auditLeak die (cells.filter b.auditSeen.contains)
        let d2 := d1.auditUsed die used
        let d3 := d2.each (beyond.filter fun x => b.auditOver.contains x.1) fun e x => e.auditCount die x.1 x.2
        let b3 := d3.buf die
        d3.setBuf die { b3 with
          auditTick := d.trk.tick, auditSeen := cells.filter fun c => !b.auditSeen.contains c, auditOver := beyond.map (·.1) }
      else r.1
    else d

/-! ### The spill engine (R262, R264) -/

/-- Spill rows in use on a die, reported in BUF_SPILL_STATUS; SPILL_HIGH when they pass 7/8 of the die's rows. -/
def Dev.spillReport (d : Dev) (die : Nat) : Dev :=
  let n := ((d.buf die).queues.map (·.2.rows)).sum
  let was := d.f (rBUF_SPILL_STATUS die) fBUF_SPILL_STATUS_ROWS
  let d1 := d.sf (rBUF_SPILL_STATUS die) fBUF_SPILL_STATUS_ROWS n
  if 8 * was ≤ 7 * d.spillRows ∧ 7 * d.spillRows < 8 * n then d1.raiseD eBUF_SPILL_HIGH die 0xFFFF else d1

/-- Is a queue's head short of HEAD_CELLS ÷ 2, with rows to read back (R262)? -/
def Dev.readbackDue (d : Dev) (die : Nat) (x : QueueSt) : Bool :=
  x.spilled && decide (x.rows ≠ 0) && decide (x.onDie < d.lf (rBUF_SPILL_CFG die) fBUF_SPILL_CFG_HEAD_CELLS / 2)

/-- Cells of a chain grow by those of a copy that is on-die again, charged to the shared pool. -/
def BufDie.chainMore (b : BufDie) (f n : Nat) : BufDie :=
  match b.chain f with
  | none => b
  | some c => b.setChain f (some { c with parts := c.parts ++ [(.shared, n)] })

/-- Copies at the front that are whole among `n` cells read back become on-die: the copies, those made whole with their
cells, and the cells left over. -/
def wholeCopies : List Copy → Nat → List Copy × List (Nat × Nat) × Nat
  | [], n => ([], [], n)
  | c :: l, n =>
    if c.spilled then
      if c.cells ≤ n then
        let r := wholeCopies l (n - c.cells)
        ({ c with spilled := false, shUsed := c.shUsed + c.cells } :: r.1, (c.pkt.frame, c.cells) :: r.2.1, r.2.2)
      else (c :: l, [], n)
    else
      let r := wholeCopies l n
      (c :: r.1, r.2.1, r.2.2)

/-- Cells read back, or the tail relinked, join the head of a queue. -/
def Dev.headJoin (d : Dev) (die q : Nat) (x : QueueSt) (n : Nat) (normal : Bool) : Dev :=
  let r := wholeCopies x.copies n
  let more := (r.2.1.map (·.2)).sum
  let d1 := d.setQueue die q { x with
    copies := r.1, backCells := if normal then 0 else r.2.2, shUsed := x.shUsed + more, spilled := !normal,
    tailCells := if normal then 0 else x.tailCells }
  let d2 := d1.each r.2.1 fun e c => e.setBuf die ((e.buf die).chainMore c.1 c.2)
  ((d2.queueReport die q).bufReport die).spillReport die

/-- SPILL_ROW_WRITE: four tail cells of a deep queue become one row in HBM; read-backs are served first (R262, R264). -/
def execSpillRowWrite (die : Fin 2) (q : Fin 4096) (s : State) : Host.Outcome State Fault Refusal :=
  onLive s fun d =>
    let x := d.queue die q
    let used := ((d.buf die).queues.map (·.2.rows)).sum
    if x.spilled && decide (4 ≤ x.tailCells) && decide (used < d.spillRows) &&
        !((d.buf die).queues.any fun e => d.readbackDue die e.2) then
      let r := d.nrgTake 0
      if r.2 then
        let d1 := (r.1.setQueue die q { x with tailCells := x.tailCells - 4, rows := x.rows + 1 }).cnt (rBUF_CNT_LO die 23)
        (d1.bufReport die).spillReport die
      else r.1
    else d

/-- SPILL_ROW_READBACK: a row comes back to the head; with no row left the tail is relinked and the queue is NORMAL
(R262). -/
def execSpillRowReadback (die : Fin 2) (q : Fin 4096) (s : State) : Host.Outcome State Fault Refusal :=
  onLive s fun d =>
    let x := d.queue die q
    if d.readbackDue die x then
      let r := d.nrgTake 0
      if r.2 then
        let y := { x with rows := x.rows - 1 }
        let d1 := r.1.cnt (rBUF_CNT_LO die 24)
        if y.rows = 0 then d1.headJoin die q y (y.backCells + 4 + y.tailCells) true
        else d1.headJoin die q y (y.backCells + 4) false
      else r.1
    else if x.spilled && decide (x.rows = 0) then d.headJoin die q x (x.backCells + x.tailCells) true
    else d

/-! ### Shapers and DRR (R270 to R276, R281) -/

/-- Address of a SCH_ register. -/
def schAddr : SchReg → Nat
  | .qCfg die q => rSCH_Q_CFG die q
  | .qRate die q => rSCH_Q_RATE die q
  | .qBurst die q => rSCH_Q_BURST die q
  | .portRate p => rSCH_PORT_RATE (p / 256) (p % 256)
  | .portBurst p => rSCH_PORT_BURST (p / 256) (p % 256)
  | .smpCfg die => rSCH_SMP_CFG die

/-- Die of a SCH_ register. -/
def schDie : SchReg → Nat
  | .qCfg die _ | .qRate die _ | .qBurst die _ | .smpCfg die => die
  | .portRate p | .portBurst p => p / 256

/-- How a SCH_ write comes out: applied, ignored, or ignored with CFG_ERR, a class A fault beside it or not. -/
inductive SchCheck where
  | ok
  | ignored
  | err (classA : Bool)
deriving DecidableEq, Repr

/-- Checks on a rate (R276). -/
def rateCheck (r : Nat) : SchCheck := if 1 ≤ r ∧ r ≤ 7 then .err true else if 800000000 < r then .ignored else .ok

/-- Checks on a burst (R276). -/
def burstCheck (b : Nat) : SchCheck := if b = 0 then .err true else if 16777216 < b then .ignored else .ok

/-- Checks on a SCH_ write (R276, R281). -/
def Dev.schCheck (d : Dev) (r : SchReg) (v : Nat) : SchCheck :=
  match r with
  | .qCfg _ _ => if bits v 24 0 = 0 then .err true else .ok
  | .qRate _ _ => rateCheck (bits v 29 0)
  | .portRate _ => rateCheck (bits v 29 0)
  | .qBurst _ _ => if sext 7 (bits v 31 25) < -32 then .err false else burstCheck (bits v 24 0)
  | .portBurst _ => burstCheck (bits v 24 0)
  | .smpCfg die =>
    let n := bits v 4 0
    if 10 ≤ n ∧ n ≤ 26 ∧ (n = d.f (rSCH_SMP_CFG die) fSCH_SMP_CFG_RING_LOG2 ∨
      d.f (rSCH_SMP_CFG die) fSCH_SMP_CFG_PERIOD_RODS = 0 ∨ bits v 31 16 = 0) then .ok else .ignored

/-- A shaper that a RATE of 0 has closed is opened: it is refilled at the next tick boundary, at which the RATE is in force
(R276; log entry 78). -/
def Shaper.reopen (s : Shaper) (t : Nat) : Shaper :=
  if s.wheel.isNone && decide (s.credit ≤ 0) then { s with wheel := some (t + 1, false) } else s

/-- What a SCH_ write changes beside its register: a shaper opened again, and a queue that leaves STRICT enters the ring
with no deficit (R275, R276). -/
def Dev.schReopen (d : Dev) (r : SchReg) (v : Nat) : Dev :=
  match r with
  | .qCfg die q =>
    if d.b (rSCH_Q_CFG die q) fSCH_Q_CFG_STRICT && decide (bits v 30 30 = 0) then
      d.setQueue die q { d.queue die q with deficit := 0 } else d
  | .qRate die q =>
    if d.f (rSCH_Q_RATE die q) fSCH_Q_RATE_RATE = 0 ∧ bits v 29 0 ≠ 0 then
      d.setQueue die q { d.queue die q with shaper := (d.queue die q).shaper.reopen d.trk.tick } else d
  | .portRate p =>
    if d.f (rSCH_PORT_RATE (p / 256) (p % 256)) fSCH_PORT_RATE_RATE = 0 ∧ bits v 29 0 ≠ 0 then
      d.setPortShaper p ((d.portShaper p).reopen d.trk.tick) else d
  | _ => d

/-- A write of a SCH_ register (R275, R276, R281). A new ring size sets both counters of the ring to 0. -/
def Dev.schWrite (d : Dev) (r : SchReg) (v : Nat) : Dev :=
  match d.schCheck r v with
  | .ok =>
    let d1 := d.schReopen r v |>.plainWrite (schAddr r) v
    match r with
    | .smpCfg die =>
      if bits v 4 0 = d.f (rSCH_SMP_CFG die) fSCH_SMP_CFG_RING_LOG2 then d1
      else
        let b := d1.buf die
        ((d1.wn (rSCH_SMP_WR die) 0).wn (rSCH_SMP_RD die) 0).setBuf die { b with smpRing := [] }
    | _ => d1
  | .ignored => d
  | .err a =>
    let d1 := d.sb (rSCH_STATUS (schDie r)) fSCH_STATUS_CFG_ERR true
    if a then d1.classA (schDie r) else d1

/-- SHAPER_CONFIG_WRITE: a host write of a SCH_ register (R276). -/
def execShaperConfigWrite (r : SchReg) (value : BitVec 32) (s : State) : Host.Outcome State Fault Refusal :=
  onDev s fun d => d.schWrite r value.toNat

/-! ### Queue samples (R279 to R281) -/

/-- Is a queue stopped by received PAUSE or PFC? -/
def Dev.qStopped (d : Dev) (die q : Nat) : Bool := d.queueStopped (256 * die + q / 16) (256 * die + q / 16) (q % 16)

/-- SCH_Q_STATE of a queue as a read finds it (R283). -/
def Dev.schView (d : Dev) (die q : Nat) : Dev :=
  (d.schReport die q).sb (rSCH_Q_STATE die q) fSCH_Q_STATE_STOPPED (d.qStopped die q)

/-- A sample entry (R280). -/
def Dev.sampleEntry (d : Dev) (die q tick : Nat) : List Byte :=
  let x := d.queue die q
  let closed := decide (d.lf (rSCH_Q_RATE die q) fSCH_Q_RATE_RATE = 0)
  let sojourn := match x.copies.head? with
    | some c => min (tick - c.grant) 0xFFFFFFFF
    | none => 0
  beBytes 8 tick ++ beBytes 2 q ++
  beBytes 1 (die * 128 + x.spilled.toNat * 64 + (d.qStopped die q).toNat * 32 + x.shaper.wheel.isSome.toNat * 16 + closed.toNat * 8) ++
  zeros 1 ++ beBytes 4 (x.onDie + 4 * x.rows) ++ beBytes 4 sojourn ++ beBytes 4 x.maxSojourn ++ beBytes 4 x.bytesDeq ++
  beBytes 2 (min 0xFFFF (x.avg / 256 / 16)) ++ beBytes 2 (min 0xFFFF x.refused)

/-- One sample: written, or dropped by a full ring (R281). -/
def Dev.sampleOne (d : Dev) (die q tick : Nat) : Dev :=
  let wr := d.rn (rSCH_SMP_WR die)
  let size := 2 ^ d.f (rSCH_SMP_CFG die) fSCH_SMP_CFG_RING_LOG2
  if !d.committed || decide ((wr + 2 ^ 32 - d.rn (rSCH_SMP_RD die)) % 2 ^ 32 = size) then
    (d.cnt (rSCH_CNT_LO die 7)).raiseD eSCH_SMP_FULL die 0xFFFF
  else
    let e := d.sampleEntry die q tick
    let b := d.buf die
    let x := d.queue die q
    let b1 := { b with
      smpRing := kvSet [] (wr % size) e b.smpRing,
      queues := kvSet {} q { x with maxSojourn := 0, bytesDeq := 0, refused := 0 } b.queues }
    ((d.setBuf die b1).wn (rSCH_SMP_WR die) ((wr + 1) % 2 ^ 32)).cnt (rSCH_CNT_LO die 6)

/-- QUEUE_SAMPLE_PERIOD: the flagged queues of a die are sampled in rising order, 64 a tick (R279); those the planner
defers past the period are skipped and counted. -/
def execQueueSamplePeriod (die : Fin 2) (s : State) : Host.Outcome State Fault Refusal :=
  onLive s fun d =>
    let period := d.lf (rSCH_SMP_CFG die) fSCH_SMP_CFG_PERIOD_RODS
    if decide (period ≠ 0) && decide (d.rod % period = 0) && d.committed then
      let qs := (List.range 4096).filter fun q => d.lb (rSCH_Q_CFG die q) fSCH_Q_CFG_SMP
      let r := (qs.zip (List.range qs.length)).foldl (fun (acc : Dev × Nat) x =>
        let t := acc.1.nrgTake 4
        if t.2 then (t.1.sampleOne die x.1 (d.trk.tick + x.2 / 64), acc.2) else (t.1, acc.2 + 1)) (d, 0)
      if r.2 = 0 then r.1 else (r.1.cnt (rSCH_CNT_LO die 7) r.2).raiseD eSCH_SMP_SKIPPED die 0xFFFF
    else d

/-! ### Level groups and queues (R284, R285, R289) -/

/-- Is a change of L of an enabled group still within its window: it has yet to take effect, or domain time has not
passed tc + l_prev (R289)? -/
def Dev.lvlWindow (d : Dev) (g : Nat) : Bool :=
  let a := rLVL_GRP_CFG g
  let lp := d.f (rLVL_GRP_STATUS g) fLVL_GRP_STATUS_L_PREV
  decide (d.lf a fLVL_GRP_CFG_L ≠ d.f a fLVL_GRP_CFG_L) ||
    (decide (d.lf a fLVL_GRP_CFG_L ≠ lp) && decide (d.nowT ≤ d.lvlTc g + lp * 655360))

/-- Set a group's configuration, the checks made: a disabled group's L is its l_prev as well, since no L has been in
force before it (R289). -/
def Dev.lvlSet (d : Dev) (g v : Nat) : Dev :=
  let a := rLVL_GRP_CFG g
  let d1 := d.plainWrite a v
  if d.b a fLVL_GRP_CFG_EN then d1 else d1.sf (rLVL_GRP_STATUS g) fLVL_GRP_STATUS_L_PREV (bits v 16 0)

/-- A write of LVL_GRP_CFG (R284, R289, R296). -/
def Dev.lvlGroupWrite (d : Dev) (g v : Nat) : Dev :=
  let a := rLVL_GRP_CFG g
  let l := bits v 16 0
  let bad := decide (l < 60) || decide (100000 < l) || decide (2 ≤ bits v 28 27) ||
    (d.b a fLVL_GRP_CFG_EN && decide (l ≠ d.f a fLVL_GRP_CFG_L) && d.lvlWindow g)
  if bad then d.sb (rLVL_GRP_STATUS g) fLVL_GRP_STATUS_CFG_ERR true
  else d.lvlSet g v

/-- LEVEL_GROUP_CFG_WRITE: a host write of LVL_GRP_CFG (R289). -/
def execLevelGroupCfgWrite (g : Fin 1024) (value : BitVec 32) (s : State) : Host.Outcome State Fault Refusal :=
  onDev s fun d => d.lvlGroupWrite g value.toNat

/-- May level queue `i` take a configuration (R285): the destination is owned by its die, and no other enabled queue
names the same group and destination? -/
def Dev.lvlQueueOk (d : Dev) (i v : Nat) : Bool :=
  let pg := decide (bits v 30 30 = 1)
  let dest := bits v 8 0
  let own := if pg then decide (dest < 128) && ((d.pgMembers dest).isEmpty || decide (dieOf (d.pgPort0 dest) = i / 512))
    else decide (dieOf dest = i / 512)
  own && (decide (bits v 31 31 = 0) || !((d.listedIdx (rLVL_Q_CFG 0) 16 1024).any fun j =>
    let w := d.rn (rLVL_Q_CFG j)
    decide (j ≠ i) && decide (bits w 31 31 = 1) && decide (bits w 30 20 = bits v 30 20) && decide (bits w 8 0 = dest)))

/-- A write of LVL_Q_CFG (R285). -/
def Dev.lvlQueueWrite (d : Dev) (i v : Nat) : Dev :=
  if d.lvlQueueOk i v then d.plainWrite (rLVL_Q_CFG i) v else d.sb rLVL_STATUS fLVL_STATUS_CFG_ERR true

/-- LEVEL_QUEUE_CFG_WRITE: a host write of LVL_Q_CFG (R285). -/
def execLevelQueueCfgWrite (i : Fin 1024) (value : BitVec 32) (s : State) : Host.Outcome State Fault Refusal :=
  onDev s fun d => d.lvlQueueWrite i value.toNat

/-! ### Commands of the queues and shaping family (R433) -/

/-- The SCH_ writes a Q_SHAPE makes: register and value, for a queue or, with 0xFF, the port (R433). -/
def Dev.shapeWrites (d : Dev) (port queue : Nat) (x : ShapeSet) : List (SchReg × Nat) :=
  if h : port < 512 then
    let p : Fin 512 := ⟨port, h⟩
    if queue = 0xFF then
      let a := d.rn (schAddr (.portRate p))
      let b := d.rn (schAddr (.portBurst p))
      let a1 := (x.rate.map fun r => putBits a 29 0 r.toNat).getD a
      let a2 := (x.shapeEn.map fun r => putBits a1 31 31 r.toNat).getD a1
      [(.portRate p, a2), (.portBurst p, (x.burst.map fun r => putBits b 24 0 r.toNat).getD b)]
    else
      let die : Fin 2 := ⟨port / 256, by omega⟩
      let q : Fin 4096 := ⟨qIdx port queue % 4096, Nat.mod_lt _ (by decide)⟩
      let c := d.rn (schAddr (.qCfg die q))
      let a := d.rn (schAddr (.qRate die q))
      let b := d.rn (schAddr (.qBurst die q))
      let c1 := (x.quantum.map fun r => putBits c 24 0 r.toNat).getD c
      let c2 := (x.strict.map fun r => putBits c1 30 30 r.toNat).getD c1
      let c3 := (x.shapeEn.map fun r => putBits c2 31 31 r.toNat).getD c2
      let b1 := (x.burst.map fun r => putBits b 24 0 r.toNat).getD b
      [(.qCfg die q, c3), (.qRate die q, (x.rate.map fun r => putBits a 29 0 r.toNat).getD a),
        (.qBurst die q, (x.overhead.map fun r => putBits b1 31 25 (r.toNat % 128)).getD b1)]
  else []

/-- Are the values of a Q_SHAPE within the limits of R272 and R276, each in its parameter's full width? -/
def shapeOk (x : ShapeSet) : Bool :=
  x.rate.all (fun r => decide (r.toNat = 0 ∨ (8 ≤ r.toNat ∧ r.toNat ≤ 800000000))) &&
  x.burst.all (fun r => decide (1 ≤ r.toNat ∧ r.toNat ≤ 16777216)) &&
  x.quantum.all (fun r => decide (1 ≤ r.toNat ∧ r.toNat ≤ 16777215)) &&
  x.overhead.all (fun r => decide (-32 ≤ sext 8 r.toNat ∧ sext 8 r.toNat ≤ 63))

/-- A Q_SHAPE on the device: the status that refuses it, or the settings made. -/
def Dev.shape (d : Dev) (port queue : Nat) (x : ShapeSet) : Except Nat Dev :=
  if !d.portExists port || !(decide (queue < 16) || decide (queue = 0xFF)) || !shapeOk x then .error stBadParam
  else .ok (d.each (d.shapeWrites port queue x) fun e w => e.schWrite w.1 w.2)

/-- Q_FLUSH: every copy of a queue is dropped (R276, R433). -/
def execQFlush (h : CmdHdr) (port : BitVec 16) (queue : BitVec 8) (s : State) : Host.Outcome State Fault Refusal :=
  onCmd s h 0x0501 fun d =>
    let p := port.toNat
    let q := queue.toNat
    if !d.portExists p || decide (16 ≤ q) then d.replySt h 0x0501 stBadParam
    else
      let die := dieOf p
      let x := d.queue die (qIdx p q)
      let l := x.copies
      let d1 := d.setQueue die (qIdx p q) { x with
        copies := [], spilled := false, rows := 0, tailCells := 0, backCells := 0, deficit := 0, epoch := x.epoch + 1 }
      let d2 := d1.each l fun e c => e.dequeueDrop c 0x0C p false
      let d3 := ((d2.queueReport die (qIdx p q)).bufReport die).spillReport die
      d3.reply h 0x0501 stOk 0 (beBytes 4 l.length)

/-- Set a multicast group (R252). -/
def Dev.setGroup (d : Dev) (g : Nat) (x : McGroup) : Dev :=
  let m := d.tbl.mem
  { d with tbl := { d.tbl with mem := { m with groups := kvSet {} g x m.groups } } }

/-- Content of a multicast group from its command's parameters. -/
def mcOf (pruneSrc jrn copyId : Bool) (ports : BitVec 512) (pgs : BitVec 128) : McGroup :=
  { ports := ports.toNat, pgs := pgs.toNat, prune := pruneSrc, jrn := jrn, copyId := copyId }

/-- MC_READ: a group's content and the counts of both dies (R252, R433). The bitmaps are returned as they are written,
each as one number (R4). -/
def execMcRead (h : CmdHdr) (group : BitVec 16) (s : State) : Host.Outcome State Fault Refusal :=
  onCmd s h 0x0503 fun d =>
    let x := kvGet {} d.tbl.mem.groups group.toNat
    let cnt (die : Nat) : List Byte :=
      beBytes 8 (kvGet 0 (d.buf die).mcMade group.toNat) ++ beBytes 8 (kvGet 0 (d.buf die).mcRefused group.toNat)
    d.reply h 0x0503 stOk 0 ([Config.mcFlags x.prune x.jrn x.copyId, 0] ++ beBytes 64 x.ports ++ beBytes 16 x.pgs ++ cnt 0 ++ cnt 1)

/-- LVL_GROUP_WRITE: a level group's settings (R284, R289, R433). -/
def execLvlGroupWrite (h : CmdHdr) (group : BitVec 16) (l : BitVec 32) (lateMax : BitVec 16) (en unlockedOk grid : Bool)
    (lateAct : BitVec 2) (s : State) : Host.Outcome State Fault Refusal :=
  onCmd s h 0x0504 fun d =>
    let g := group.toNat
    if 1024 ≤ g ∨ l.toNat < 60 ∨ 100000 < l.toNat ∨ 2 ≤ lateAct.toNat then d.replySt h 0x0504 stBadParam
    else if d.b (rLVL_GRP_CFG g) fLVL_GRP_CFG_EN && decide (l.toNat ≠ d.f (rLVL_GRP_CFG g) fLVL_GRP_CFG_L) && d.lvlWindow g then
      d.replySt h 0x0504 stBusy
    else
      let v := en.toNat * 2 ^ 31 + unlockedOk.toNat * 2 ^ 30 + grid.toNat * 2 ^ 29 + lateAct.toNat * 2 ^ 27 + l.toNat
      ((d.lvlSet g v).sf (rLVL_GRP_LATE g) fLVL_GRP_LATE_LATE_MAX lateMax.toNat).replySt h 0x0504 stOk

/-- LVL_QUEUE_WRITE: a level queue's binding (R285, R433). -/
def execLvlQueueWrite (h : CmdHdr) (queue group dest : BitVec 16) (maxCells : BitVec 32) (en pg : Bool) (s : State) :
    Host.Outcome State Fault Refusal :=
  onCmd s h 0x0505 fun d =>
    let i := queue.toNat
    if 1024 ≤ i ∨ 1024 ≤ group.toNat ∨ 2 ^ 19 ≤ maxCells.toNat then d.replySt h 0x0505 stBadParam
    else
      let v := en.toNat * 2 ^ 31 + pg.toNat * 2 ^ 30 + group.toNat * 2 ^ 20 + dest.toNat % 512
      if decide (dest.toNat < 512) && d.lvlQueueOk i v then
        ((d.plainWrite (rLVL_Q_CFG i) v).sf (rLVL_Q_LIMIT i) fLVL_Q_LIMIT_MAX_CELLS maxCells.toNat).replySt h 0x0505 stOk
      else d.replySt h 0x0505 stDenied

/-- LVL_RANK_WRITE: tie-break ranks of ingress ports (R290, R433). -/
def execLvlRankWrite (h : CmdHdr) (first count : BitVec 16) (ranks : List (BitVec 16)) (s : State) :
    Host.Outcome State Fault Refusal :=
  onCmd s h 0x0506 fun d =>
    let n := count.toNat
    if ranks.length ≠ n then d.replySt h 0x0506 stBadLength
    else if n = 0 ∨ 256 < n ∨ 512 < first.toNat + n then d.replySt h 0x0506 stBadParam
    else
      (d.each (ranks.zip (List.range n)) fun e x => e.sf (rLVL_RANK (first.toNat + x.2)) fLVL_RANK_RANK
        (x.1.toNat % 1024)).replySt h 0x0506 stOk

end Sys2Proof.Machine
end

