-- ==== Sys2Proof/Machine/FlowEng.lean ====
section
/-! DEFINITION. Machine/FlowEng.lean: engine operations of the flow store: learning, insertion, moves, deletion, ageing,
kills, export, retirement and rehash (R195, R202, R210, R213 to R238). -/
namespace Sys2Proof.Machine

/-! ### Buckets -/

/-- Is a slot's MOVE_LOCK bit set? -/
def Bucket.locked (b : Bucket) (s : Nat) : Bool := decide (bits b.lock s s = 1)
/-- Set a slot's MOVE_LOCK bit. -/
def Bucket.setLock (b : Bucket) (s : Nat) (on : Bool) : Bucket := { b with lock := putBits b.lock s s on.toNat }
/-- SPILLS incremented, saturating at 255 (R218); OVERFLOW is 1 exactly when it is not 0. -/
def Bucket.spillUp (b : Bucket) : Bucket := { b with spills := min 255 (b.spills + 1) }
/-- SPILLS decremented unless it is 255 (R221, R226). -/
def Bucket.spillDown (b : Bucket) : Bucket := { b with spills := if b.spills = 255 then 255 else b.spills - 1 }
/-- The lowest slot that is neither valid nor reserved. -/
def Bucket.freeSlot (b : Bucket) : Option Nat := (List.range 7).find? fun s => (b.slot s).isNone && !b.locked s
/-- Change a bucket. -/
def FlwDie.modB (x : FlwDie) (b : Nat) (f : Bucket → Bucket) : FlwDie := x.setBucket b (f (x.bucket b))
/-- Change a bucket of a die. -/
def Dev.modB (d : Dev) (die b : Nat) (f : Bucket → Bucket) : Dev := d.setFlw die ((d.flw die).modB b f)
/-- The flow key of a record under the seeds in use. -/
def Dev.recFk (d : Dev) (die : Nat) (body : List Byte) : FKey := d.fkey die (recProfile body) (recKey body)

/-- The bucket whose SPILLS counts a record stored as second choice in bucket `b`: its home under the pair that placed it
(R236). -/
def Dev.spillHome (d : Dev) (die b : Nat) (k : FKey) : Nat :=
  let n := d.buckets die
  if b = secondBucket n k ∨ !d.flwDual die then homeBucket n k else homeBucket n (d.fkeyOld die k)

/-- Is a stored record new-placed (R237): in its home with SECOND 0, or in its second-choice bucket with SECOND 1? -/
def Dev.newPlaced (d : Dev) (die b : Nat) (y : FSlot) : Bool :=
  let n := d.buckets die
  let k := d.recFk die y.body
  (decide (b = homeBucket n k) && !y.second) || (decide (b = secondBucket n k) && y.second)

/-- May a chain displace a record: valid, not moving, not reserved, new-placed (R214, R218, R237)? -/
def Dev.movable (d : Dev) (die b s : Nat) (y : FSlot) : Bool :=
  y.valid && !y.moving && !((d.flw die).bucket b).locked s && d.newPlaced die b y

/-- The other bucket of a key's two. -/
def otherBucket (n : Nat) (k : FKey) (b : Nat) : Nat := if b = homeBucket n k then secondBucket n k else homeBucket n k

/-! ### NAT ports (R205, R222) -/

/-- A held port of a pool address. -/
def natKey (pool addr port : Nat) : Nat := (pool * 256 + addr) * 65536 + port

/-- Free ports of a pool, over its addresses. -/
def Dev.natFree (d : Dev) (die pool : Nat) : Nat :=
  let e := kvGet [] d.tbl.mem.kind ((die * 4 + 1) * 1024 + pool)
  beAt e 0 2 * (beAt e 4 2 + 1 - beAt e 2 2) - (d.flw die).nat.countP fun k => decide (k / 2 ^ 24 = pool)

/-- NAT_POOL_LOW when a pool's free ports fall below its low-water mark (R205). -/
def Dev.natReport (d : Dev) (die pool : Nat) : Dev :=
  let x := d.flw die
  let low := decide (d.natFree die pool < beAt (kvGet [] d.tbl.mem.kind ((die * 4 + 1) * 1024 + pool)) 6 2)
  if low && !x.natLow.contains pool then (d.setFlw die { x with natLow := pool :: x.natLow }).raiseD 0x33 die 0xFFFF
  else if low then d else d.setFlw die { x with natLow := x.natLow.filter (· ≠ pool) }

/-- Allocate an address index and a port of a pool (R205, R222); none when no port is free. -/
def Dev.natTake (d : Dev) (die pool h2 : Nat) : Dev × Option (Nat × Nat) :=
  let key := (die * 4 + 1) * 1024 + pool
  let e := kvGet [] d.tbl.mem.kind key
  let n := beAt e 0 2
  let lo := beAt e 2 2
  let span := beAt e 4 2 + 1 - lo
  let x := d.flw die
  let cur := beAt e 8 2
  let find (a : Nat) : Option (Nat × Nat) :=
    ((List.range span).map fun i => lo + (cur - lo + i) % span).findSome? fun p =>
      if x.nat.contains (natKey pool a p) then none else some (a, p)
  if n = 0 ∨ 255 < pool then (d, none)
  else match ((List.range n).map fun i => (h2 % n + i) % n).findSome? find with
    | none => (d, none)
    | some (a, p) =>
      let m := d.tbl.mem
      let e1 := putAt e 8 (beBytes 2 (lo + (p + 1 - lo) % span))
      let d1 := { d with tbl := { d.tbl with mem := { m with kind := kvSet [] key e1 m.kind } } }
      ((d1.setFlw die { x with nat := natKey pool a p :: x.nat }).natReport die pool, some (a, p))

/-- Give a port back. -/
def Dev.natGive (d : Dev) (die key : Nat) : Dev :=
  let x := d.flw die
  (d.setFlw die { x with nat := x.nat.erase key }).natReport die (key / 2 ^ 24)

/-! ### Export (R210) -/

/-- Does export apply to a record? -/
def Dev.exported (d : Dev) (die : Nat) (body : List Byte) : Bool :=
  d.lb (rFLW_CTRL die) fFLW_CTRL_EXPORT_EN &&
    (decide (recKind body = 3) || d.lb (rFLW_PROF_B die (recProfile body)) fFLW_PROF_B_EXPORT)

/-- Is a task of a type in a die's table, or waiting for one? -/
def Dev.hasTask (d : Dev) (die ty : Nat) : Bool :=
  ((d.rckD die).all.any fun e => decide (e.2.type = ty)) || (d.rckD die).held.any fun e => decide (e.type = ty)

/-- Hand a record to export: a backlog above 65,536 discards the oldest. -/
def Dev.exportPut (d : Dev) (die : Nat) (body : List Byte) (lastHit : Nat) : Dev :=
  let x := d.flw die
  let l := x.exports ++ [{ profile := recProfile body, body := body, lastHit := lastHit }]
  let d1 := if 65536 < l.length then (d.setFlw die { x with exports := l.drop 1 }).flwCnt die 22
    else d.setFlw die { x with exports := l }
  if d1.hasTask die 0x20 then d1 else d1.taskRaise die 0x20 []

/-! ### Records as any operation sees them (R190, R228) -/

/-- The record of a key with its carry applied, its newest LAST_HIT, and its locator. -/
def Dev.recSeen (d : Dev) (die : Nat) (fk : FKey) : Option (List Byte × Nat × Nat) :=
  let x := d.flw die
  match d.cacheFind die fk with
  | some l => let r := withCarry (x.carry l.loc) l.body l.lastHit; some (r.1, r.2, l.loc)
  | none => (d.hbmFind die fk).1.map fun h =>
      let loc := locator die h.1 h.2.1
      let r := withCarry (x.carry loc) h.2.2.body h.2.2.lastHit
      (r.1, r.2, loc)

/-- Change a record through the bucket port: the cached line, which is then DIRTY, or the HBM copy (R185, R195). A line
whose STAY is cleared leaves the cache (R184). -/
def Dev.recChange (d : Dev) (die : Nat) (fk : FKey) (f : List Byte → List Byte) : Dev :=
  match d.cacheFind die fk with
  | some l =>
    let l1 := { l with body := f l.body, dirty := true }
    let d1 := d.cachePut die fk { l1 with stay := l.stay && recStay l1.body }
    if l.stay && !recStay l1.body then (d1.writeBack die l1).cacheDrop die fk else d1
  | none =>
    match (d.hbmFind die fk).1 with
    | none => d
    | some (b, s, y) =>
      let body := f y.body
      d.modB die b fun z => z.setSlot s (some { y with body := body, kind := recKind body, pinned := recPinned body })

/-- A deletion's one step at the bucket port (R226): export, line and carry, slot, SPILLS of its home, NAT port. -/
def Dev.recDelete (d : Dev) (die b s : Nat) (y : FSlot) : Dev :=
  let fk := d.recFk die y.body
  let loc := locator die b s
  let now := match d.cacheFind die fk with
    | some l => (l.body, l.lastHit)
    | none => (y.body, y.lastHit)
  let body := now.1
  let seen := withCarry ((d.flw die).carry loc) body now.2
  let d1 := (if d.exported die body then d.exportPut die seen.1 seen.2 else d).pev (16 + die) 0x16
  let d2 := d1.cacheDrop die fk
  let d3 := d2.setCarries die ((d2.flw die).carries.filter (·.loc ≠ loc))
  let d4 := d3.modB die b fun z => { z.setSlot s none with occ := z.occ - 1 }
  let d5 := if y.second then d4.modB die (d4.spillHome die b fk) Bucket.spillDown else d4
  if recNat body then d5.natGive die (natKey (recAction body / 2 ^ 24) (recAction body / 65536 % 256) (recAction body % 65536))
  else d5

/-! ### Placement (R218) -/

/-- The breadth-first search of R218 step 5: from the buckets of a level, each with the slots displaced on the way to it,
latest first. -/
def Dev.placeSearch (d : Dev) (die : Nat) : Nat → List (Nat × List (Nat × Nat)) → Option ((Nat × Nat) × List (Nat × Nat))
  | n, front =>
    match front.findSome? fun x => (((d.flw die).bucket x.1).freeSlot).map fun s => ((x.1, s), x.2) with
    | some r => some r
    | none =>
      match n with
      | 0 => none
      | n + 1 => d.placeSearch die n (front.flatMap fun x => (List.range 7).filterMap fun s =>
          match ((d.flw die).bucket x.1).slot s with
          | some y => if d.movable die x.1 s y && !x.2.contains (x.1, s) then
              some (otherBucket (d.buckets die) (d.recFk die y.body) x.1, (x.1, s) :: x.2) else none
          | none => none)

/-- The moves of a chain, its far end first. -/
def slotMoves : Nat × Nat → List (Nat × Nat) → List (Nat × Nat × Nat × Nat)
  | _, [] => []
  | f, p :: l => (p.1, p.2, f.1, f.2) :: slotMoves p l

/-- A key's placement (R218, steps 2 to 6): where it goes, and the moves that free the slot. -/
def Dev.placement (d : Dev) (die : Nat) (fk : FKey) : Option ((Nat × Nat) × List (Nat × Nat × Nat × Nat)) :=
  let n := d.buckets die
  let x := d.flw die
  let b1 := homeBucket n fk
  let b2 := secondBucket n fk
  let home3 := (List.range 7).findSome? fun s =>
    match (x.bucket b1).slot s with
    | some y =>
      if y.second && d.movable die b1 s y then
        let h := homeBucket n (d.recFk die y.body)
        (x.bucket h).freeSlot.map fun t => ((b1, s), [(b1, s, h, t)])
      else none
    | none => none
  if n = 0 then none
  else match (x.bucket b1).freeSlot, home3, (x.bucket b2).freeSlot with
    | some s, _, _ => some ((b1, s), [])
    | none, some r, _ => some r
    | none, none, some s => some ((b2, s), [])
    | none, none, none =>
      match d.placeSearch die (d.lf (rFLW_INS_CFG die) fFLW_INS_CFG_MAX_MOVES) [(b1, []), (b2, [])] with
      | none => none
      | some (f, path) => some (path.getLastD f, slotMoves f path)

/-- Reserve the slots of a placement: their MOVE_LOCK bits (R218). -/
def Dev.reserve (d : Dev) (die : Nat) (dest : Nat × Nat) (moves : List (Nat × Nat × Nat × Nat)) : Dev :=
  let d1 := d.modB die dest.1 fun z => z.setLock dest.2 true
  d1.each moves fun e m =>
    (e.modB die m.1 fun z => z.setLock m.2.1 true).modB die m.2.2.1 fun z => z.setLock m.2.2.2 true

/-- Is the key that of the record an operation is moving (R224)? -/
def Dev.opMoves (d : Dev) (die : Nat) (o : EngOp) (fk : FKey) : Bool :=
  o.moving.isSome && (match o.moves with
    | m :: _ => (((d.flw die).bucket m.1).slot m.2.1).any (slotIs fk)
    | [] => false)

/-- The operation in progress on a key: the operation table holds its entry, or its record is moving (R214, R224). -/
def Dev.opOn (d : Dev) (die : Nat) (fk : FKey) : Option EngOp :=
  (d.flw die).ops.find? fun o => (decide (o.fk.key = fk.key) && decide (o.fk.profile = fk.profile)) || d.opMoves die o fk

/-- Set the operation table. -/
def Dev.setOps (d : Dev) (die : Nat) (l : List EngOp) : Dev := d.setFlw die { d.flw die with ops := l }

/-- Set the learn table and report it. -/
def Dev.setLearns (d : Dev) (die : Nat) (l : List LearnEnt) : Dev :=
  (d.setFlw die { d.flw die with learns := l }).sf (rFLW_LEARN_STATUS die) fFLW_LEARN_STATUS_ENTRIES l.length

/-- Is a learn-table entry of a key? -/
def learnIs (fk : FKey) (e : LearnEnt) : Bool := decide (e.fk.key = fk.key) && decide (e.fk.profile = fk.profile)

/-- An insertion fails (R216, R219, R222): counted, its port given back, its learn entry held for HOLD_RODS rods. -/
def Dev.insFail (d : Dev) (die : Nat) (o : EngOp) : Dev :=
  let d1 := d.cnt (rFLW_RACE_CNT_LO die 1)
  let d2 := match o.nat with
    | some k => d1.natGive die k
    | none => d1
  let hold := d2.rod + d2.lf (rFLW_LEARN_CFG die) fFLW_LEARN_CFG_HOLD_RODS
  let d3 := if o.learned then d2.setLearns die ((d2.flw die).learns.map fun e =>
      if learnIs o.fk e then { e with started := true, hold := some hold } else e) else d2
  match o.reply with
  | some r => d3.replyLater r.1 r.2.1 r.2.2 stNoRoom 0 []
  | none => d3

/-- An insertion takes its entry of the operation table and reserves its placement (R214, R218); with none it fails. -/
def Dev.insBegin (d : Dev) (die : Nat) (o : EngOp) : Dev :=
  match d.placement die o.fk with
  | none => d.insFail die o
  | some (dest, moves) =>
    let d1 := d.reserve die dest moves
    let second := decide (dest.1 ≠ homeBucket (d.buckets die) o.fk)
    let d2 := if 1 < moves.length then d1.cnt (rFLW_RACE_CNT_LO die 6) else d1
    d2.setOps die ((d2.flw die).ops ++ [{ o with dest := some (dest.1, dest.2, second), moves := moves }])

/-! ### Moves (R221, R224, R225) -/

/-- The fetch of a move: the record's line in the flow cache, marked MOVING; none while no victim can be chosen. -/
def Dev.moveFetch (d : Dev) (die b s : Nat) (y : FSlot) : Option (Dev × FLine) :=
  let fk := d.recFk die y.body
  match d.cacheFind die fk with
  | some l => some (d.cachePut die fk { l with moving := true }, { l with moving := true })
  | none =>
    let l := { slotLine die b s y with moving := true }
    (d.cacheFill die fk l).map fun e => (e, l)

/-- M0 and M1 of a move (R221): the source locked and MOVING, the line's copy in the destination. -/
def Dev.moveCopy (d : Dev) (die : Nat) (m : Nat × Nat × Nat × Nat) : Option Dev :=
  match ((d.flw die).bucket m.1).slot m.2.1 with
  | none => none
  | some y =>
    match d.moveFetch die m.1 m.2.1 y with
    | none => none
    | some (d1, l) =>
      let n := d1.buckets die
      let fk := d1.recFk die y.body
      let second := decide (m.2.2.1 ≠ homeBucket n fk)
      let d2 := if second then d1.modB die (homeBucket n fk) Bucket.spillUp else d1
      let d3 := if y.second then d2.modB die (d2.spillHome die m.1 fk) Bucket.spillDown else d2
      let d4 := d3.modB die m.1 fun z => (z.setSlot m.2.1 (some { y with moving := true })).setLock m.2.1 true
      some (d4.modB die m.2.2.1 fun z => z.setSlot m.2.2.2 (some { y with
        fp := fingerprint fk, second := second, moving := true, body := l.body, kind := recKind l.body,
        pinned := recPinned l.body, lastHit := l.lastHit }))

/-- M2 of a move (R221, R225): the source cleared, the record's locator the new one, its carry folded. `last` says that
nothing is to be placed in the source slot. -/
def Dev.moveSwitch (d : Dev) (die : Nat) (m : Nat × Nat × Nat × Nat) (last : Bool) : Dev :=
  match ((d.flw die).bucket m.2.2.1).slot m.2.2.2 with
  | none => d
  | some y =>
    let fk := d.recFk die y.body
    let old := locator die m.1 m.2.1
    let new := locator die m.2.2.1 m.2.2.2
    let d1 := d.modB die m.1 fun z => { (z.setSlot m.2.1 none).setLock m.2.1 (!last) with occ := z.occ - 1 }
    let d2 := d1.modB die m.2.2.1 fun z =>
      { (z.setSlot m.2.2.2 (some { y with moving := false })).setLock m.2.2.2 false with occ := z.occ + 1 }
    let d3 := match d2.cacheFind die fk with
      | some l => d2.cachePut die fk (foldLine ((d2.flw die).carry old)
          { l with loc := new, second := y.second, moving := false })
      | none => d2
    ((d3.setCarries die ((d3.flw die).carries.filter (·.loc ≠ old))).cnt (rFLW_RACE_CNT_LO die 5)).pev (16 + die) 0x16

/-- A step of an operation's chain fails, its record gone: every slot still reserved is released, the moves made stand,
and an insertion completes with NO_ROOM (R220). -/
def Dev.opRelease (d : Dev) (die : Nat) (o : EngOp) : Dev :=
  let d1 := d.setOps die ((d.flw die).ops.filter (· ≠ o))
  let d2 := match o.dest with
    | some (b, s, _) => d1.modB die b fun z => z.setLock s false
    | none => d1
  let d3 := d2.each o.moves fun e m =>
    (e.modB die m.1 fun z => z.setLock m.2.1 false).modB die m.2.2.1 fun z => z.setLock m.2.2.2 false
  if o.moveOnly then d3 else (d3.cnt (rFLW_RACE_CNT_LO die 7)).insFail die o

/-- One step of an operation's next move: M0 and M1, or M2 once they have been made. -/
def Dev.opMove (d : Dev) (die : Nat) (o : EngOp) : Dev :=
  let put (e : Dev) (o1 : EngOp) : Dev := e.setOps die ((e.flw die).ops.map fun z => if z = o then o1 else z)
  match o.moves, o.moving with
  | m :: _, none => match d.moveCopy die m with
    | some e => put e { o with moving := some d.trk.tick }
    | none => if (((d.flw die).bucket m.1).slot m.2.1).isNone then d.opRelease die o else d
  | m :: l, some _ =>
    let e := d.moveSwitch die m (o.moveOnly && l.isEmpty)
    if o.moveOnly && l.isEmpty then e.setOps die ((e.flw die).ops.filter (· ≠ o))
    else put e { o with moves := l, moving := none }
  | [], _ => d

/-- The placing commit (R219): the record and its entry, OCC, the learn entry, a clean line; the reply. -/
def Dev.placeCommit (d : Dev) (die : Nat) (o : EngOp) : Dev :=
  match o.dest with
  | none => d
  | some (b, s, second) =>
    let d0 := d.setOps die ((d.flw die).ops.filter (· ≠ o))
    let d1 := if second then d0.modB die (homeBucket (d.buckets die) o.fk) Bucket.spillUp else d0
    let body := if o.learned then o.body else putAt o.body 60 (beBytes 4 d.deck)
    let y : FSlot := {
      fp := fingerprint o.fk, lastHit := if o.learned then o.lastHit else d.deck24, valid := true, pinned := recPinned body,
      moving := false, kind := recKind body, second := second, body := body }
    let d2 := d1.modB die b fun z => { (z.setSlot s (some y)).setLock s false with occ := z.occ + 1 }
    let d3 := d2.setLearns die ((d2.flw die).learns.filter fun e => !learnIs o.fk e)
    let d4 := (((d3.cacheFill die o.fk (slotLine die b s y)).getD d3).cnt (rFLW_RACE_CNT_LO die 0)).pev (16 + die) 0x16
    match o.reply with
    | some r => d4.replyLater r.1 r.2.1 r.2.2 stOk 0 (beBytes 4 (locator die b s))
    | none => d4

/-- One step of an operation: its next move, or its placing commit. -/
def Dev.opStep (d : Dev) (die : Nat) (o : EngOp) : Dev :=
  if o.moves.isEmpty then d.placeCommit die o else d.opMove die o

/-- A command on a key waits for the operation before it (R214): that operation's steps come first. -/
def Dev.opFinish (d : Dev) (die : Nat) (fk : FKey) : Dev :=
  match d.opOn die fk with
  | none => d
  | some o => (List.range (2 * o.moves.length + 1)).foldl (fun d _ => match d.opOn die fk with
      | some z => d.opStep die z
      | none => d) d

/-! ### Learning (R215 to R217) -/

/-- The record a learn request builds (R217), with the port it has allocated; none when the pool is exhausted. -/
def Dev.learnRecord (d : Dev) (die : Nat) (e : LearnEnt) : Dev × Option (List Byte × Option Nat) :=
  let pn := e.fk.profile
  let a := rFLW_PROF_A die pn
  let kind := d.lf a fFLW_PROF_A_KIND
  let tmpl := d.lf (rFLW_PROF_B die pn) fFLW_PROF_B_TEMPLATE
  let t8 := tmpl % 256
  let st := if kind = 2 ∨ kind = 4 then match e.tcp with
      | some fl => (tcpNext 0 fl (d.lb (rFLW_PROF_B die pn) fFLW_PROF_B_STRICT)).1
      | none => 0
    else 0
  let slot := d.lf a fFLW_PROF_A_SEQ_SLOT
  let seqOk := decide (slot ≤ 7) && decide (bits e.pkt.pr.xtrValid slot slot = 1)
  let make (flags act kd : Nat) : List Byte :=
    e.fk.key ++ beBytes 1 (kind * 16 + pn) ++ beBytes 1 st ++ beBytes 1 flags ++ [0] ++ beBytes 4 act ++ beBytes 6 e.len ++
      beBytes 2 kd ++ beBytes 4 1 ++ beBytes 4 (e.tick / 100000)
  match kind with
  | 1 => (d, some (make 0 (tmpl * 2 ^ 22 + eb (d.kindEnt die 0 tmpl) (1280 + e.fk.h2 % 256) * 2 ^ 14) 0, none))
  | 2 => match d.natTake die t8 e.fk.h2 with
    | (d1, some (x, p)) => (d1, some (make 0x20 (t8 * 2 ^ 24 + x * 65536 + p) 0, some (natKey t8 x p)))
    | (d1, none) => (d1, none)
  | 3 => (d, some (make 0 0xFFFF0000 (e.tick / 100 % 65536), none))
  | 4 => (d, some (make 0 (t8 * 2 ^ 24 + (beAt (d.kindEnt die 2 t8) 4 4 % 2 ^ 24 - e.len))
      (e.tick / 1000 % 65536), none))
  | 5 => (d, some (make 0 (t8 * 2 ^ 24 + (beAt (d.kindEnt die 3 t8) 4 4 % 2 ^ 24 - 256))
      (if seqOk then (e.pkt.pr.xtr.getD slot 0 + 1) % 65536 else 0), none))
  | _ => (d, some (make 0 0 0, none))

/-- A learn request runs (R217, R218): it goes no further when its key has a record. -/
def Dev.learnRun (d : Dev) (die : Nat) (e : LearnEnt) : Dev :=
  let fk := d.fkey die e.fk.profile e.fk.key
  let d0 := d.setLearns die ((d.flw die).learns.map fun z => if z = e then { e with started := true } else z)
  let o : EngOp := { fk := fk, body := [], lastHit := e.tick / 100000 % 2 ^ 24, learned := true }
  if (d0.hbmFind die fk).1.isSome then d0.setLearns die ((d0.flw die).learns.filter fun z => !learnIs fk z)
  else match d0.learnRecord die e with
    | (d1, none) => d1.insFail die o
    | (d1, some (body, nat)) => d1.insBegin die { o with body := body, nat := nat }

/-! ### Retirement and rehash (R233 to R238) -/

/-- Replace a flow key's hashes by those under the seeds in use. -/
def Dev.reKey (d : Dev) (die : Nat) (k : FKey) : FKey := d.fkey die k.profile k.key

/-- The seed pair changes (R236): the learn table, the kill list and the lookups in flight hash with the new pair. -/
def Dev.reKeyAll (d : Dev) (die : Nat) : Dev :=
  let x := d.flw die
  let kill (e : KillEnt) : KillEnt := let k := d.fkey die e.profile e.key; { e with h1 := k.h1, h2 := k.h2 }
  d.setFlw die { x with
    learns := x.learns.map fun e => { e with fk := d.reKey die e.fk }
    lookups := x.lookups.map fun e => { e with fk := d.reKey die e.fk }
    parked := x.parked.map fun e => { e with fk := d.reKey die e.fk }
    kills := x.kills.map kill
    killsLive := x.killsLive.map kill }

/-- The die becomes DUAL under a new seed pair (R236). -/
def Dev.dualNow (d : Dev) (die h1 h2 : Nat) : Dev :=
  let d1 := ((d.wr (rFLW_OLD_SEED_H1 die) (d.rd (rFLW_SEED_H1 die))).wr (rFLW_OLD_SEED_H2 die) (d.rd (rFLW_SEED_H2 die)))
  (((d1.wn (rFLW_SEED_H1 die) h1).wn (rFLW_SEED_H2 die) h2).sf (rFLW_REHASH die) fFLW_REHASH_STATE 1).reKeyAll die

/-- The old pair is dropped and the flush begins (R238). -/
def Dev.singleNow (d : Dev) (die : Nat) : Dev :=
  (d.setFlw die { d.flw die with flushSet := some 0 }).sf (rFLW_REHASH die) fFLW_REHASH_STATE 2

/-- One record of a bucket under migration (R237). -/
def Dev.migrate (d : Dev) (die b s : Nat) : Dev :=
  let x := d.flw die
  let n := d.buckets die
  match (x.bucket b).slot s with
  | none => d
  | some y =>
    let fk := d.recFk die y.body
    if !y.valid || y.moving || (x.bucket b).locked s || d.newPlaced die b y then d
    else if b = homeBucket n fk ∨ b = secondBucket n fk then
      let second := decide (b = secondBucket n fk)
      let d1 := if y.second then d.modB die (homeBucket n (d.fkeyOld die fk)) Bucket.spillDown else d
      let d2 := if second then d1.modB die (homeBucket n fk) Bucket.spillUp else d1
      d2.modB die b fun z => z.setSlot s (some { y with fp := fingerprint fk, second := second })
    else match d.placement die fk with
      | none =>
        let k := x.stuck + 1
        ((d.setFlw die { x with stuck := k }).sf (rFLW_REHASH die) fFLW_REHASH_STUCK (min k (2 ^ 24 - 1))).cnt
          (rFLW_RACE_CNT_LO die 14)
      | some (dest, moves) =>
        let all := moves ++ [(b, s, dest.1, dest.2)]
        let d1 := d.reserve die dest moves
        let o : EngOp := { fk := fk, body := y.body, lastHit := y.lastHit, moves := all, learned := false, moveOnly := true }
        d1.setOps die ((d1.flw die).ops ++ [o])

/-- A migration pass has ended (R237, R238). -/
def Dev.passEnd (d : Dev) (die : Nat) : Dev :=
  let d0 := d.each (d.flw die).ops fun e o => e.opFinish die o.fk
  let x := d0.flw die
  let pass := d0.f (rFLW_REHASH die) fFLW_REHASH_PASS
  if x.stuck = 0 then
    let d1 := (d0.setFlw die { x with rehashOn := false }).sf (rFLW_REHASH die) fFLW_REHASH_STUCK 0
    { d1 with deferred := d1.deferred ++ [.flwSingle die] }
  else if d0.lf (rFLW_REHASH_CFG die) fFLW_REHASH_CFG_PASSES ≤ pass then
    let d1 := (d0.setFlw die { x with rehashOn := false, rehash := none }).raiseD 0x36 die 0xFFFF
    match x.rehash with
    | some r => d1.replyLater r.1 r.2.1 r.2.2 stPartial 0 (beBytes 4 x.stuck)
    | none => d1
  else ((d0.setFlw die { x with stuck := 0 }).sf (rFLW_REHASH die) fFLW_REHASH_PASS (pass + 1))

/-! ### Commands of the engine -/

/-- FLOW_WRITEBACK_DONE: a write-back's response frees its tag (R199). -/
def execFlowWritebackDone (die : Fin 2) (pc : Fin 128) (s : State) : Host.Outcome State Fault Refusal :=
  onLive s fun d => (d.setFlw die { d.flw die with wbs := (d.flw die).wbs.erase pc }).flwTags die

/-- Report the kill list. -/
def Dev.setKills (d : Dev) (die : Nat) (l : List KillEnt) : Dev :=
  (d.setFlw die { d.flw die with kills := l }).sf (rFLW_KILL_STATUS die) fFLW_KILL_STATUS_ENTRIES l.length

/-- KILL_ENTRY_RELEASE: the flag stored, the lookups outstanding then settled, the boundary passed (R195). -/
def execKillEntryRelease (die : Fin 2) (entry : Nat) (s : State) : Host.Outcome State Fault Refusal :=
  onLive s fun d =>
    let x := d.flw die
    match x.kills[entry]? with
    | none => d
    | some e =>
      let open_ := x.lookups.any fun l => decide (l.fk.key = e.key) && decide (l.fk.profile = e.profile) && decide (l.tick ≤ e.stored)
      if open_ || decide (d.trk.tick < e.stored + 50) then d else d.setKills die (x.kills.erase e)

/-- IPFIX_PERIODIC_EXPORT: every ACTIVE_DECKS decks of a record's life (R210). -/
def execIpfixPeriodicExport (die : Fin 2) (locator : BitVec 32) (s : State) : Host.Outcome State Fault Refusal :=
  onLive s fun d =>
    let loc := locator.toNat
    match ((d.flw die).bucket (locBucket loc)).slot (locSlot loc) with
    | none => d
    | some y =>
      match d.recSeen die (d.recFk die y.body) with
      | none => d
      | some (body, hit, _) =>
        let n := d.lf (rFLW_IPFIX_CFG die) fFLW_IPFIX_CFG_ACTIVE_DECKS
        let age := (d.deck + 2 ^ 32 - beAt body 60 4) % 2 ^ 32
        if n ≠ 0 ∧ age ≠ 0 ∧ age % n = 0 ∧ d.exported die body then d.exportPut die body hit else d

/-- Field widths of a profile's key, as template fields (R210): the elements themselves host software names, which the
spec does not place anywhere: free values. -/
def Dev.ipfixFields (d : Dev) (die p : Nat) : List Nat :=
  let prof := ((d.par die).bank (d.f (rPAR_STATUS die) fPAR_STATUS_ACTIVE_BANK)).profile p
  (List.range (eb prof 6)).map (fieldWidth prof)

/-- Free bytes. -/
def Dev.freeBytes (d : Dev) (n : Nat) : Dev × List Byte :=
  (d.used n, (List.range n).map fun i => BitVec.ofNat 8 (d.freeAt i 256))

/-- The UTC offset: what domain time is ahead of UTC, in seconds (R304). -/
def Dev.utcOffset (d : Dev) : Int := sext 16 (d.f rTIM_UTC fTIM_UTC_OFFSET)

/-- A message under RFC 7011 with one set, handed to admission toward the collector (R210): version 10, length, export
time, sequence, observation domain, set identifier and length. The headers before it and the collector's port and queue
are host software's, and the spec does not place them: free values. -/
def Dev.ipfixSend (d : Dev) (die set : Nat) (body : List Byte) : Dev :=
  let msg := beBytes 2 10 ++ beBytes 2 (20 + body.length) ++
    beBytes 4 (wrapBits 32 (((d.deck : Int) - 1000 * d.utcOffset) / 1000)) ++ beBytes 4 (d.rn (rFLW_CNT_LO die 16)) ++
    beBytes 4 d.devNo ++ beBytes 2 set ++ beBytes 2 (4 + body.length) ++ body
  let h := d.freeBytes 42
  let port := h.1.free 512
  let queue := h.1.freeAt 1 16
  let bytes := h.2 ++ msg ++ zeros (60 - (42 + msg.length))
  let t := (h.1.used 2).poolTake die 11 bytes.length
  match t.2 with
  | none => t.1
  | some a => (t.1.poolWrite a bytes).sendOwn port queue bytes (mdReset port) (some a)

/-- IPFIX_TEMPLATE_RESEND: one template per exporting profile, every 1,000 decks (R210). -/
def execIpfixTemplateResend (die : Fin 2) (s : State) : Host.Outcome State Fault Refusal :=
  onLive s fun d =>
    if d.lb (rFLW_CTRL die) fFLW_CTRL_EXPORT_EN && decide (d.deck % 1000 = 0) then
      d.each ((List.range 16).filter fun p => d.lb (rFLW_PROF_B die p) fFLW_PROF_B_EXPORT ||
          decide (d.lf (rFLW_PROF_A die p) fFLW_PROF_A_KIND = 3)) fun e p =>
        let tele := decide (e.lf (rFLW_PROF_A die p) fFLW_PROF_A_KIND = 3)
        let named := e.ipfixFields die p
        let el (i w : Nat) : List Byte := beBytes 2 (e.freeAt i 65536) ++ beBytes 2 w
        let keys := ((List.range named.length).zip named).flatMap fun x => el x.1 x.2
        let std := beBytes 2 85 ++ beBytes 2 8 ++ beBytes 2 86 ++ beBytes 2 8 ++ beBytes 2 152 ++ beBytes 2 8 ++
          beBytes 2 153 ++ beBytes 2 8
        let extra := if tele then el named.length 2 ++ el (named.length + 1) 2 else []
        let n := named.length + 4 + (if tele then 2 else 0)
        (e.used (named.length + 2)).ipfixSend die 2 (beBytes 2 (256 + p) ++ beBytes 2 n ++ keys ++ std ++ extra)
    else d

/-- Milliseconds of the IPFIX epoch at the start of a deck (R2, R210). -/
def Dev.deckMs (d : Dev) (deck : Nat) : Nat := wrapBits 64 ((deck : Int) - 1000 * d.utcOffset)

/-- A data record (R210): the key's fields, octets, packets, start and end, and for TELEMETRY the inter-arrivals. Decks
are expanded against the current one. -/
def Dev.ipfixRecord (d : Dev) (die : Nat) (x : ExportRec) : List Byte :=
  let w := (d.ipfixFields die x.profile).sum
  let first := d.deck - (d.deck + 2 ^ 32 - beAt x.body 60 4) % 2 ^ 32
  let last := d.deck - (d.deck24 + 2 ^ 24 - x.lastHit) % 2 ^ 24
  bytesAt x.body 0 w ++ beBytes 8 (beAt x.body 48 6) ++ beBytes 8 (recPackets x.body) ++ beBytes 8 (d.deckMs first) ++
    beBytes 8 (d.deckMs last) ++ (if recKind x.body = 3 then bytesAt x.body 44 4 else [])

/-- EXPORT_TASK: a message with the oldest records of one profile, as many as it and the rod's grant have room for
(R210). -/
def execExportTask (die : Fin 2) (s : State) : Host.Outcome State Fault Refusal :=
  onLive s fun d =>
    match (d.flw die).exports with
    | [] => d.taskDone die 0x20
    | x :: l =>
      let r := (x :: l).takeWhile fun e => decide (e.profile = x.profile) && decide (recKind e.body = recKind x.body)
      let max := d.lf (rFLW_IPFIX_CFG die) fFLW_IPFIX_CFG_MAX_MSG
      let pick := r.foldl (fun (acc : Dev × List Byte × Nat) e =>
        let b := acc.1.ipfixRecord die e
        if max < 20 + acc.2.1.length + b.length ∧ acc.2.2 ≠ 0 then acc
        else match acc.1.nrgTake 3 with
          | (d1, true) => (d1, acc.2.1 ++ b, acc.2.2 + 1)
          | (_, false) => acc) (d, [], 0)
      if pick.2.2 = 0 then d.taskDone die 0x20
      else
        let d1 := pick.1.setFlw die { pick.1.flw die with exports := (x :: l).drop pick.2.2 }
        ((d1.ipfixSend die (256 + x.profile) pick.2.1).flwCnt die 16 pick.2.2).taskDone die 0x20

/-- LEARN_TASK: the oldest learn request not yet run (R217). -/
def execLearnTask (die : Fin 2) (s : State) : Host.Outcome State Fault Refusal :=
  onLive s fun d =>
    match (d.flw die).learns.find? fun e => !e.started with
    | none => d.taskDone die 0x01
    | some e => if 4096 ≤ (d.flw die).ops.length then d
        else ((d.opFinish die e.fk).learnRun die e).taskDone die 0x01

/-- FLOW_PLACE_COMMIT: the placing commit of an operation whose moves are done (R219). -/
def execFlowPlaceCommit (die : Fin 2) (op : Nat) (s : State) : Host.Outcome State Fault Refusal :=
  onLive s fun d => match (d.flw die).ops[op]? with
    | some o => if o.moves.isEmpty then d.placeCommit die o else d
    | none => d

/-- LEARN_HOLD_EXPIRE: a failed key leaves the learn table (R216). -/
def execLearnHoldExpire (die : Fin 2) (entry : Nat) (s : State) : Host.Outcome State Fault Refusal :=
  onLive s fun d => match (d.flw die).learns[entry]? with
    | some e => match e.hold with
      | some r => if r ≤ d.rod then d.setLearns die ((d.flw die).learns.eraseIdx entry) else d
      | none => d
    | none => d

/-- MOVE_LOCK_COPY: M0 and M1 of an operation's next move (R221). -/
def execMoveLockCopy (die : Fin 2) (op : Nat) (s : State) : Host.Outcome State Fault Refusal :=
  onLive s fun d => match (d.flw die).ops[op]? with
    | some o => if o.moving.isNone && !o.moves.isEmpty then d.opMove die o else d
    | none => d

/-- MOVE_SWITCH: M2 of the move in progress (R221). -/
def execMoveSwitch (die : Fin 2) (op : Nat) (s : State) : Host.Outcome State Fault Refusal :=
  onLive s fun d => match (d.flw die).ops[op]? with
    | some o => if o.moving.isSome then d.opMove die o else d
    | none => d

/-- The ageing limit of a record in decks (R227). -/
def Dev.ageLimit (d : Dev) (die : Nat) (body : List Byte) : Nat :=
  let p := recProfile body
  let st := recState body
  let emb := d.lf (rFLW_AGE_TCP die p) fFLW_AGE_TCP_EMBRYO_DECKS
  let clo := d.lf (rFLW_AGE_TCP die p) fFLW_AGE_TCP_CLOSING_DECKS
  if (recKind body = 2 ∨ recKind body = 4) ∧ (st = 1 ∨ st = 2) ∧ emb ≠ 0 then emb
  else if (recKind body = 2 ∨ recKind body = 4) ∧ 4 ≤ st ∧ st ≤ 6 ∧ clo ≠ 0 then clo
  else d.lf (rFLW_AGE die p) fFLW_AGE_AGE_DECKS

/-- The homing move of a bucket the sweep visits, if the rod's grant has one left (R223, R227). -/
def Dev.sweepHome (d : Dev) (die b : Nat) : Dev :=
  let x := d.flw die
  let n := d.buckets die
  let pick := (List.range 7).findSome? fun s =>
    match (x.bucket b).slot s with
    | some y =>
      let fk := d.recFk die y.body
      if y.second && d.movable die b s y && (d.opOn die fk).isNone then
        (x.bucket (homeBucket n fk)).freeSlot.map fun t => (fk, y, (b, s, homeBucket n fk, t))
      else none
    | none => none
  match pick with
  | none => d
  | some (fk, y, m) =>
    let r := d.nrgTake 11
    if r.2 then
      let d1 := (r.1.reserve die (m.2.2.1, m.2.2.2) [m]).cnt (rFLW_RACE_CNT_LO die 11)
      let o : EngOp := { fk := fk, body := y.body, lastHit := y.lastHit, moves := [m], learned := false, moveOnly := true }
      d1.setOps die ((d1.flw die).ops ++ [o])
    else d

/-- The sweep visits its next bucket (R227), if it is enabled and the rod's grant has a visit left (R230). -/
def Dev.sweepVisit (d : Dev) (die : Nat) : Dev :=
  let n := d.buckets die
  if d.lb (rFLW_AGE_CFG die) fFLW_AGE_CFG_EN && decide (n ≠ 0) && d.b (rFLW_STATUS die) fFLW_STATUS_READY then
    let r := d.nrgTake 5
    if r.2 then
      let b := r.1.f (rFLW_AGE_PTR die) fFLW_AGE_PTR_BUCKET
      let x := r.1.flw die
      let old := (List.range 7).filterMap fun i =>
        match (x.bucket b).slot i with
        | some y =>
          let body := ((d.cacheFind die (d.recFk die y.body)).map (·.body)).getD y.body
          let lim := d.ageLimit die body
          if y.valid && !recPinned body && !y.moving && !(x.bucket b).locked i && decide (lim ≠ 0) &&
              decide (lim ≤ (d.deck24 + 2 ^ 24 - y.lastHit) % 2 ^ 24) then some (locator die b i, y.lastHit) else none
        | none => none
      let d1 := r.1.setFlw die { x with cads := x.cads ++ old, sweepDone := x.sweepDone + 1 }
      (d1.sf (rFLW_AGE_PTR die) fFLW_AGE_PTR_BUCKET ((b + 1) % n)).sweepHome die b
    else d
  else d

/-- AGE_SWEEP_VISIT: the sweep visits its next bucket (R227). -/
def execAgeSweepVisit (die : Fin 2) (s : State) : Host.Outcome State Fault Refusal :=
  onLive s fun d => d.sweepVisit die

/-- COMPARE_AND_DELETE: the deletion commits only if LAST_HIT is unchanged (R228). -/
def execCompareAndDelete (die : Fin 2) (s : State) : Host.Outcome State Fault Refusal :=
  onLive s fun d =>
    match (d.flw die).cads with
    | [] => d
    | (loc, hit) :: l =>
      let d1 := d.setFlw die { d.flw die with cads := l }
      match ((d1.flw die).bucket (locBucket loc)).slot (locSlot loc) with
      | none => d1.cnt (rFLW_RACE_CNT_LO die 9)
      | some y =>
        if y.moving || ((d1.flw die).bucket (locBucket loc)).locked (locSlot loc) then d1
        else
          let cur := (d1.recSeen die (d1.recFk die y.body)).map fun r => r.2.1
          if cur = some hit then (d1.recDelete die (locBucket loc) (locSlot loc) y).cnt (rFLW_RACE_CNT_LO die 8)
          else d1.cnt (rFLW_RACE_CNT_LO die 9)

/-- The next row of a retiring channel is copied and remapped; after the last the channel is retired (R234). -/
def Dev.retireStep (d : Dev) (die : Nat) : Dev :=
  match (d.flw die).retire with
  | none => d
  | some j =>
    let b := j.row * 256 + 2 * j.pc
    let up (z : Bucket) : Bucket := { z with gen := (z.gen + 1) % 256 }
    let d1 := if j.row < j.rows then (((d.modB die b up).modB die (b + 1) up).cnt (rFLW_RACE_CNT_LO die 13)).sf
        (rFLW_RETIRE_PROG die) fFLW_RETIRE_PROG_ROWS_DONE (j.row + 1) else d
    if j.row + 1 < j.rows then d1.setFlw die { d1.flw die with retire := some { j with row := j.row + 1 } }
    else
      let a := rFLW_PC_RETIRED die (j.pc / 32)
      let d2 := ((d1.setFlw die { d1.flw die with retire := none }).wn a (putBits (d1.rn a) (j.pc % 32) (j.pc % 32) 1)).sb
        (rFLW_RETIRE die) fFLW_RETIRE_BUSY false
      let d3 := (d2.cntF (rFLW_RETIRE die) fFLW_RETIRE_COUNT).raiseD 0x34 die 0xFFFF
      match j.reply with
      | some r => d3.replyLater r.1 r.2.1 r.2.2 stOk 0 (beBytes 8 d3.trk.tick)
      | none => d3

/-- RETIRE_ROW_COPY: a row of a retiring channel is copied and remapped; after the last the channel is retired (R234). -/
def execRetireRowCopy (die : Fin 2) (s : State) : Host.Outcome State Fault Refusal :=
  onLive s fun d => d.retireStep die

/-- The records of the next bucket are sorted under the new seeds (R237). -/
def Dev.migrateStep (d : Dev) (die : Nat) : Dev :=
  let n := d.buckets die
  if (d.flw die).rehashOn && d.flwDual die && decide (d.lf (rFLW_REHASH_CFG die) fFLW_REHASH_CFG_RATE ≠ 0) then
    let b := d.f (rFLW_REHASH_PTR die) fFLW_REHASH_PTR_BUCKET
    let d1 := d.each (List.range 7) fun e i => e.migrate die b i
    let d2 := d1.modB die b fun z => { z with gen := (z.gen + 1) % 256 }
    let d3 := d2.sf (rFLW_REHASH_PTR die) fFLW_REHASH_PTR_BUCKET ((b + 1) % n)
    if b + 1 < n then d3 else d3.passEnd die
  else d

/-- REHASH_MIGRATE_STEP: the records of the next bucket are sorted under the new seeds (R237). -/
def execRehashMigrateStep (die : Fin 2) (s : State) : Host.Outcome State Fault Refusal :=
  onLive s fun d => d.migrateStep die

/-- FLOW_ENGINE_TASK: a flow-engine task runs a sweep, rehash or retirement step (R214, R408). -/
def execFlowEngineTask (die : Fin 2) (what : Fin 3) (s : State) : Host.Outcome State Fault Refusal :=
  onLive s fun d =>
    (if what = 0 then d.sweepVisit die else if what = 1 then d.migrateStep die else d.retireStep die).taskDone die 0x08

/-- FLOW_CACHE_FLUSH: the next set is written back, folded and invalidated; after the last the rehash is done (R238). -/
def execFlowCacheFlush (die : Fin 2) (s : State) : Host.Outcome State Fault Refusal :=
  onDev s fun d =>
    match (d.flw die).flushSet with
    | none => d
    | some n =>
      let lines := (d.flw die).set n
      if lines.any (·.moving) || decide (12288 < (d.flw die).wbs.length + lines.countP fun l => d.needsWb die l) then d
      else
        let d1 := d.each lines fun e l => e.writeBack die l
        let x := (d1.flw die).putSet n []
        if n + 1 < 16384 then d1.setFlw die { x with flushSet := some (n + 1) }
        else
          let d2 := ((d1.setFlw die { x with flushSet := none, rehash := none }).sf (rFLW_REHASH die) fFLW_REHASH_STATE 0).raiseD
            0x35 die 0xFFFF
          match x.rehash with
          | some r => d2.replyLater r.1 r.2.1 r.2.2 stOk 0 (beBytes 4 0)
          | none => d2

/-! ### The flow commands (R433) -/

/-- A flow command's key on a die, if the die and the profile exist; the operation before it on the key is finished. -/
def Dev.flowCmd (d : Dev) (h : CmdHdr) (op die profile : Nat) (key : List Byte) (f : Dev → FKey → Dev) : Dev :=
  if 1 < die ∨ 15 < profile then d.replySt h op stBadParam
  else
    let fk := d.fkey die profile key
    f (d.opFinish die fk) fk

/-- FLOW_INSERT (R218, R219). -/
def execFlowInsert (h : CmdHdr) (die profile flags : BitVec 8) (key bytes : List Byte) (s : State) :
    Host.Outcome State Fault Refusal :=
  onCmd s h 0x0400 fun d => d.flowCmd h 0x0400 die.toNat profile.toNat key fun d fk =>
    let dn := die.toNat
    let kind := bits (eb bytes 0) 7 4
    let b0 := (fk.key ++ beBytes 1 (kind * 16 + fk.profile) ++ bytes.drop 1 ++ zeros 24).take 64
    let body := putAt b0 43 [0]
    if 5 < kind then d.replySt h 0x0400 stBadParam
    else if !d.b (rFLW_STATUS dn) fFLW_STATUS_READY then d.replySt h 0x0400 stNotReady
    else if 4096 ≤ (d.flw dn).ops.length then d.replySt h 0x0400 stBusy
    else match d.recSeen dn fk with
      | some (_, _, loc) =>
        if bits flags.toNat 7 7 = 1 then
          let f (r : List Byte) : List Byte := putAt (putAt r 40 (bytesAt body 40 8)) 54 (bytesAt body 54 2)
          (d.recChange dn fk f).reply h 0x0400 stOk 0x20 (beBytes 4 loc)
        else d.reply h 0x0400 stDenied 0 (beBytes 4 loc)
      | none =>
        let o : EngOp := { fk := fk, body := body, lastHit := 0, learned := false, reply := some (h.src, h.tag, 0x0400) }
        if bits flags.toNat 6 6 = 1 then
          match d.natTake dn (recAction body / 2 ^ 24) fk.h2 with
          | (d1, none) => d1.insFail dn o
          | (d1, some (a, p)) =>
            let pool := recAction body / 2 ^ 24
            let fl := BitVec.ofNat 8 (putBits (eb body 42) 5 5 1)
            let b1 := setAt (setAction body (pool * 2 ^ 24 + a * 65536 + p)) 42 fl
            d1.insBegin dn { o with body := b1, nat := some (natKey pool a p) }
        else d.insBegin dn o

/-- FLOW_DELETE (R219, R226). -/
def execFlowDelete (h : CmdHdr) (die profile : BitVec 8) (key : List Byte) (s : State) : Host.Outcome State Fault Refusal :=
  onCmd s h 0x0401 fun d => d.flowCmd h 0x0401 die.toNat profile.toNat key fun d fk =>
    match (d.hbmFind die.toNat fk).1 with
    | none => d.replySt h 0x0401 stOk
    | some (b, i, y) => ((d.recDelete die.toNat b i y).cnt (rFLW_RACE_CNT_LO die.toNat 10)).replySt h 0x0401 stOk

/-- The 8 bytes of a slot entry (R179). -/
def slotEntry (y : FSlot) (hit : Nat) (dirty : Bool) : List Byte :=
  beBytes 8 (y.fp * 2 ^ 40 + hit % 2 ^ 24 * 2 ^ 16 + y.valid.toNat * 2 ^ 15 + dirty.toNat * 2 ^ 14 + y.pinned.toNat * 2 ^ 13 +
    y.moving.toNat * 2 ^ 12 + y.kind % 16 * 2 ^ 8 + y.second.toNat * 2 ^ 7)

/-- FLOW_READ (R190). -/
def execFlowRead (h : CmdHdr) (die profile : BitVec 8) (key : List Byte) (s : State) : Host.Outcome State Fault Refusal :=
  onCmd s h 0x0402 fun d => d.flowCmd h 0x0402 die.toNat profile.toNat key fun d fk =>
    match (d.hbmFind die.toNat fk).1, d.recSeen die.toNat fk with
    | some (_, _, y), some (body, hit, _) =>
      let dirty := ((d.cacheFind die.toNat fk).map (·.dirty)).getD false
      d.reply h 0x0402 stOk 0 (body ++ slotEntry { y with kind := recKind body, pinned := recPinned body } hit dirty)
    | _, _ => d.replySt h 0x0402 stOk

/-- FLOW_WRITE: bytes 41 to 63 of a record under a mask (R433); byte 43 is reserved and stays 0. -/
def execFlowWrite (h : CmdHdr) (die profile : BitVec 8) (key : List Byte) (mask : Word) (bytes : List Byte) (s : State) :
    Host.Outcome State Fault Refusal :=
  onCmd s h 0x0403 fun d => d.flowCmd h 0x0403 die.toNat profile.toNat key fun d fk =>
    if bits mask.toNat 0 0 = 1 then d.replySt h 0x0403 stBadParam
    else if (d.recSeen die.toNat fk).isNone then d.replySt h 0x0403 stNoRoom
    else
      let f (r : List Byte) : List Byte := (List.range 24).foldl (fun r i =>
        if bits mask.toNat i i = 1 ∧ i ≠ 3 then putAt r (40 + i) (bytesAt bytes i 1) else r) r
      (d.recChange die.toNat fk f).replySt h 0x0403 stOk

/-- A kill or its end (R195): the kill list, the record's flag, and the reply with the boundary from which it holds. -/
def Dev.flowKill (d : Dev) (h : CmdHdr) (op die : Nat) (fk : FKey) (on : Bool) : Dev :=
  let x := d.flw die
  let rest := x.kills.filter fun e => !killIs fk e
  if (d.recSeen die fk).isNone then d.replySt h op stNoRoom
  else if on ∧ 4096 ≤ rest.length then (d.raiseD 0x31 die 0xFFFF).replySt h op stBusy
  else
    let e : KillEnt := { profile := fk.profile, h1 := fk.h1, h2 := fk.h2, key := fk.key, stored := d.trk.tick, set := on,
                         was := ((d.recSeen die fk).map fun r => recKill r.1).getD false }
    let f (r : List Byte) : List Byte := setAt r 42 (BitVec.ofNat 8 (putBits (eb r 42) 7 7 on.toNat))
    ((d.setKills die (rest ++ [e])).recChange die fk f).reply h op stOk 0 (beBytes 8 (d.trk.tick + 1))

/-- FLOW_KILL (R195). -/
def execFlowKill (h : CmdHdr) (die profile : BitVec 8) (key : List Byte) (s : State) : Host.Outcome State Fault Refusal :=
  onCmd s h 0x0404 fun d => d.flowCmd h 0x0404 die.toNat profile.toNat key fun d fk => d.flowKill h 0x0404 die.toNat fk true

/-- FLOW_UNKILL (R195). -/
def execFlowUnkill (h : CmdHdr) (die profile : BitVec 8) (key : List Byte) (s : State) : Host.Outcome State Fault Refusal :=
  onCmd s h 0x0405 fun d => d.flowCmd h 0x0405 die.toNat profile.toNat key fun d fk => d.flowKill h 0x0405 die.toNat fk false

/-- Bytes of a kind-memory entry, and how many entries there are (R202, R557). -/
def kindSize (kind : Nat) : Nat × Nat :=
  if kind = 0 then (1536, 1024) else if kind = 1 then (1040, 256) else if kind = 2 then (8, 256) else (16, 256)

/-- May a kind-memory entry stand (R202, R557)? -/
def kindOk (kind : Nat) (e : List Byte) : Bool :=
  let within (x lo hi : Nat) : Bool := decide (lo ≤ x) && decide (x ≤ hi)
  (e.all (· = 0)) ||
  (if kind = 0 then (List.range 256).all fun m => decide (eb e (5 * m) % 128 = 0)
  else if kind = 1 then
    let lo := beAt e 2 2
    let hi := beAt e 4 2
    within (beAt e 0 2) 1 256 && within lo 1024 65535 && within hi lo 65535 && within (beAt e 8 2) lo hi &&
      decide (beAt e 10 6 = 0)
  else if kind = 2 then within (beAt e 0 4) 1 16777215 && within (beAt e 4 4) (beAt e 0 4) 16777215
  else within (beAt e 0 4) 0 16777215 && within (beAt e 4 4) 256 16777215 && decide (beAt e 8 2 ≤ 1023) &&
    decide (beAt e 10 6 = 0))

/-- FLOW_KIND_WRITE (R202, R557). -/
def execFlowKindWrite (h : CmdHdr) (mask kind : BitVec 8) (index offset count : BitVec 16) (bytes : List Byte) (s : State) :
    Host.Outcome State Fault Refusal :=
  onCmd s h 0x0406 fun d =>
    let k := kind.toNat
    let size := kindSize k
    let dies := [0, 1].filter fun i => decide (bits mask.toNat i i = 1)
    let key (die : Nat) : Nat := (die * 4 + k) * 1024 + index.toNat
    let after (e : Dev) (die : Nat) : List Byte :=
      putAt ((kvGet [] e.tbl.mem.kind (key die) ++ zeros size.1).take size.1) offset.toNat (bytes.take count.toNat)
    if bytes.length ≠ count.toNat then d.replySt h 0x0406 stBadLength
    else if dies.isEmpty || decide (3 < k) || decide (size.2 ≤ index.toNat) || decide (size.1 < offset.toNat + count.toNat) ||
        dies.any fun die => !kindOk k (after d die) then d.replySt h 0x0406 stBadParam
    else (d.each dies fun e die =>
      let m := e.tbl.mem
      let v := after e die
      { e with tbl := { e.tbl with mem := { m with
          kind := kvSet [] (key die) (if v.all (· = 0) then [] else v) m.kind
          badKind := m.badKind.filter (· ≠ key die) } } }).replySt h 0x0406 stOk

/-- FLOW_RETIRE_PC (R233, R234). -/
def execFlowRetirePc (h : CmdHdr) (die channel : BitVec 8) (s : State) : Host.Outcome State Fault Refusal :=
  onCmd s h 0x0407 fun d =>
    let dn := die.toNat
    let k := channel.toNat
    let a := rFLW_PC_RETIRED dn (k / 32)
    let spare := if k < 64 then fFLW_SPARE_STACK0 else fFLW_SPARE_STACK1
    if 1 < dn ∨ 127 < k then d.replySt h 0x0407 stBadParam
    else if bits (d.rn a) (k % 32) (k % 32) = 1 then d.replySt h 0x0407 stDenied
    else if (d.flw dn).retire.isSome || decide (d.f (rFLW_REHASH dn) fFLW_REHASH_STATE ≠ 0) then d.replySt h 0x0407 stBusy
    else if d.f (rFLW_SPARE dn) spare = 0 then d.replySt h 0x0407 stNoRoom
    else
      let j : RetireJob := { pc := k, row := 0, rows := d.buckets dn / 256, reply := some (h.src, h.tag, 0x0407) }
      let d1 := (d.setFlw dn { d.flw dn with retire := some j }).sf (rFLW_SPARE dn) spare (d.f (rFLW_SPARE dn) spare - 1)
      let d2 := ((d1.sb (rFLW_RETIRE dn) fFLW_RETIRE_BUSY true).sf (rFLW_RETIRE dn) fFLW_RETIRE_PC k).sf (rFLW_RETIRE_PROG dn)
        fFLW_RETIRE_PROG_ROWS_DONE 0
      if d2.hasTask dn 0x08 then d2 else d2.taskRaise dn 0x08 []

/-- FLOW_REHASH (R236). -/
def execFlowRehash (h : CmdHdr) (die : BitVec 8) (s : State) : Host.Outcome State Fault Refusal :=
  onCmd s h 0x0408 fun d =>
    let dn := die.toNat
    let x := d.flw dn
    if 1 < dn then d.replySt h 0x0408 stBadParam
    else if x.retire.isSome || x.rehashOn || x.flushSet.isSome then d.replySt h 0x0408 stBusy
    else if !d.b (rFLW_STATUS dn) fFLW_STATUS_READY then d.replySt h 0x0408 stNotReady
    else
      let d1 := d.setFlw dn { x with rehash := some (h.src, h.tag, 0x0408), rehashOn := true, stuck := 0 }
      let d2 := ((d1.sf (rFLW_REHASH dn) fFLW_REHASH_PASS 1).sf (rFLW_REHASH dn) fFLW_REHASH_STUCK 0).sf (rFLW_REHASH_PTR dn)
        fFLW_REHASH_PTR_BUCKET 0
      let d3 := if d.flwDual dn then d2 else
        { d2.used 2 with deferred := d2.deferred ++ [.flwDual dn (d2.free (2 ^ 32)) (d2.freeAt 1 (2 ^ 32))] }
      if d3.hasTask dn 0x08 then d3 else d3.taskRaise dn 0x08 []

end Sys2Proof.Machine
end

