-- ==== Sys2Proof/Machine/TblOps.lean ====
section
/-! DEFINITION. Machine/TblOps.lean: changes of the match tables (R133, R146 to R172): creation, insertion and its chains
of moves, deletion, poison, versions, and the commands 81 to 87 of the table. -/
namespace Sys2Proof.Machine

/-! ### Descriptors and capacity (R146, R148, R149, R157) -/

/-- May a table be created from a descriptor (R146)? -/
def descOk (d : List Byte) : Bool :=
  let kb := eb d 2
  let b3 := eb d 3
  let b4 := eb d 4
  let b5 := eb d 5
  let within (x lo hi : Nat) : Bool := decide (lo ≤ x) && decide (x ≤ hi)
  decide (bits (eb d 1) 7 6 ≠ 0) && decide (bits (eb d 1) 4 3 ≠ 3) &&
    (match eb d 0 with
    | 1 => within kb 1 40 && within b3 8 16 && within b4 1 8
    | 2 => decide (kb = 4) && decide (b3 = 0) && decide (b4 = 0)
    | 3 => decide (kb = 8) && decide (b3 = 0) && (decide (b4 < 128) || decide (b4 = 0xFF))
    | 4 => decide (b3 ≤ 2) && (if b3 = 0 then within kb 1 20 else if b3 = 1 then within kb 21 40 else within kb 41 80) &&
        within b4 1 (48 / 2 ^ b3) && (within b5 4 10 || decide (b5 = 0xFF)) && decide (eb d 6 ≤ 8) &&
        ((List.range 8).all fun i => decide (beAt d (8 + 2 * i) 2 ≤ 639))
    | _ => false)

/-- Tables of a die. -/
def TblMem.tablesOf (m : TblMem) (die : Nat) : List (Nat × Table) :=
  m.tables.filterMap fun e => if e.1 / 128 = die then e.2.map fun t => (e.1 % 128, t) else none

/-- Buckets per way an exact-match table takes; 0 for other types. -/
def Table.emShare (t : Table) : Nat := if t.type = 1 then 2 ^ t.sizeLog2 else 0
/-- Banks a TCAM table takes; 0 for other types. -/
def Table.tcamShare (t : Table) : Nat := if t.type = 4 then eb t.desc 4 * 2 ^ t.sizeLog2 else 0

/-- Does a die have room for one more table (R148)? -/
def TblMem.roomFor (m : TblMem) (die : Nat) (t : Table) : Bool :=
  let l := t :: (m.tablesOf die).map (·.2)
  decide ((l.map (·.emShare)).sum ≤ 65536) && decide ((l.map (·.tcamShare)).sum ≤ 48)

/-- Length of the key a command gives a table: an LPM key carries the VRF before the address (R154). -/
def Table.cmdKeyLen (t : Table) : Nat := if t.type = 2 then 6 else if t.type = 3 then 18 else t.keyBytes

/-- Reserved hole spacing in rows of a TCAM table, none when packed (R146). -/
def Table.holes (t : Table) : Option Nat := if eb t.desc 5 = 0xFF then none else some (2 ^ eb t.desc 5)

/-- Entries that are the program's, the mark of a poisoned trie node apart. -/
def Table.real (t : Table) : List TblEntry := t.entries.filter fun e => !e.result.isEmpty

/-- Report a table in its registers (R172); a table not created reads 0. -/
def Dev.tblReport (d : Dev) (die no : Nat) : Dev :=
  match d.tbl.mem.table die no with
  | none => ((((((d.wn (rTBL_T_STATUS die no) 0).wn (rTBL_T_OCC die no) 0).wrPair (rTBL_T_HIT_LO die no)
      (rTBL_T_HIT_HI die no) 0).wrPair (rTBL_T_MISS_LO die no) (rTBL_T_MISS_HI die no) 0).wn (rTBL_T_TIE die no) 0).wn
      (rTBL_T_FAULT die no) 0)
  | some t =>
    let b := t.bound.getD (0, 0, 0)
    let s := 2 ^ 31 + t.type * 2 ^ 28 + t.versioned.toNat * 2 ^ 27 + t.bound.isSome.toNat * 2 ^ 26 + b.1 * 2 ^ 25 +
      b.2.1 * 2 ^ 21 + b.2.2 * 2 ^ 20
    ((d.wn (rTBL_T_STATUS die no) s).wn (rTBL_T_OCC die no) t.real.length).sf (rTBL_T_FAULT die no)
      fTBL_T_FAULT_POISONED (min 65535 (t.entries.countP (·.poisoned)))

/-- Replace a table and report it. -/
def Dev.setTable (d : Dev) (die no : Nat) (x : Option Table) : Dev :=
  { d with tbl := { d.tbl with mem := d.tbl.mem.setTable die no x } }.tblReport die no

/-! ### Placing an entry (R151, R154 to R160) -/

/-- How placing an entry comes out. -/
inductive PutEnd where
  /-- Into table `no`: the moves to make first, in their order, the entry to store, and the table before the moves. -/
  | put (no : Nat) (moves : List (Nat × Nat)) (e : TblEntry) (t : Table)
  /-- Its result word is replaced in place. -/
  | same (no : Nat) (t : Table) (place : Nat)
  /-- The key is present and REPLACE is not given. -/
  | present (no : Nat) (place : Nat)
  | noRoom (no : Nat)
deriving DecidableEq, Repr

/-- Make moves on a table. -/
def Table.moved (t : Table) (moves : List (Nat × Nat)) : Table :=
  moves.foldl (fun t m => { t with entries := t.entries.map fun e => if e.place = m.1 then { e with place := m.2 } else e }) t

/-- A free place of an exact-match bucket: the lowest unit, or pair of units for a wide entry (R149). -/
def emRoom (t : Table) (b : Nat) : Option Nat :=
  let units := if 20 < t.keyBytes then [0, 2] else [0, 1, 2, 3]
  (units.map (4 * b + ·)).find? fun p => !(t.entries.any fun e => decide (e.place = p))

/-- The breadth-first search of R151 for a chain of at most `n` displacements: from the buckets of a level, each with
the places displaced on the way to it, latest first. -/
def emSearch (t : Table) (no : Nat) : Nat → List (Nat × List Nat) → Option (Nat × List Nat)
  | n, front =>
    match front.findSome? fun x => (emRoom t x.1).map fun f => (f, x.2) with
    | some r => some r
    | none =>
      match n with
      | 0 => none
      | n + 1 => emSearch t no n (front.flatMap fun x =>
          (sortBy (·.place) (t.entries.filter fun e => decide (e.place / 4 = x.1) && !e.poisoned && !x.2.contains e.place)).flatMap
            fun e => ((emCands t no e.key).filter (· ≠ x.1)).map fun b => (b, e.place :: x.2))

/-- The moves of a chain, its far end first: each displaced place to the one freed before it. -/
def chainMoves : Nat → List Nat → List (Nat × Nat)
  | _, [] => []
  | f, p :: l => (p, f) :: chainMoves p l

/-- Mark an entry DEL when `flag` asks for shadows and it is plain; an ADD entry of the same commit goes (R169). -/
def Table.without (t : Table) (p : TblEntry → Bool) (flag : Nat) : Table :=
  if flag = 0 then { t with entries := t.entries.filter fun e => !p e }
  else
    let keep := t.entries.filter fun e => !(p e && decide (e.flag = 1))
    { t with entries := keep.map fun e => if p e && decide (e.flag = 0) then { e with flag := 2 } else e }

/-- Store an entry under a key that is present: in place, or for a commit a DEL of the old form and an ADD (R169). -/
def Table.rewrite (t : Table) (old : TblEntry) (result : List Byte) (flag : Nat) : Option Table :=
  if flag = 0 ∨ old.flag = 1 then
    some { t with entries := t.entries.map fun e => if e = old then { e with result := result, poisoned := false } else e }
  else none

/-- Place an exact-match entry (R151); `flag` is 1 for an entry of a commit to a versioned table. -/
def emPut (t : Table) (no : Nat) (key result : List Byte) (flag : Nat) (replace : Bool) : PutEnd :=
  let old := t.entries.find? fun e => decide (e.key = key) && decide (e.flag ≠ 2)
  let place (t1 : Table) : PutEnd :=
    match emSearch t1 no (eb t1.desc 4) ((emCands t1 no key).map fun b => (b, [])) with
    | none => .noRoom no
    | some (f, path) => .put no (chainMoves f path)
        { place := path.getLastD f, key := key, result := result, flag := flag } t1
  match old with
  | none => place t
  | some e =>
    if replace then
      match t.rewrite e result flag with
      | some t1 => .same no t1 e.place
      | none => place (t.without (fun x => decide (x = e)) 1)
    else .present no e.place

/-- Places among LPM prefixes on a die, in IPv4 prefixes (R148). -/
def TblMem.lpmUsed (m : TblMem) (die : Nat) : Nat :=
  ((m.tablesOf die).map fun x =>
    if x.2.type = 2 then x.2.real.length else if x.2.type = 3 then 2 * x.2.real.length else 0).sum

/-- Is an entry the prefix with this VRF, address and length (R155)? -/
def TblEntry.isPrefix (e : TblEntry) (key : List Byte) (len : Nat) : Bool :=
  decide (e.len = len) && lpmCovers e (beAt key 0 2) (key.drop 2) && !e.result.isEmpty

/-- Place a prefix in the trie (R155). -/
def lpmPut (m : TblMem) (die : Nat) (t : Table) (no : Nat) (key result : List Byte) (len flag : Nat) (replace : Bool) : PutEnd :=
  let old := t.entries.find? fun e => e.isPrefix key len && decide (e.flag ≠ 2)
  let place (t1 : Table) : PutEnd :=
    if m.lpmUsed die + (if t.type = 2 then 1 else 2) ≤ 2097152 then
      .put no [] { place := 0, key := key, len := len, result := result, flag := flag } t1
    else .noRoom no
  match old with
  | none => place t
  | some e =>
    if replace then
      match t.rewrite e result flag with
      | some t1 => .same no t1 0
      | none => place (t.without (fun x => decide (x = e)) 1)
    else .present no 0

/-- The first row from `a` on, `n` rows far, that holds no entry; upward or downward. -/
def freeRow (used : List Nat) (up : Bool) : Nat → Nat → Option Nat
  | _, 0 => none
  | a, n + 1 => if used.contains a then freeRow used up (if up then a + 1 else a - 1) n else some a

/-- Where a TCAM entry of a priority goes (R158, R160): the moves that free its row, and the row. -/
def tcamPlan (t : Table) (prio : Nat) : Option (List (Nat × Nat) × Nat) :=
  let used := t.entries.map (·.place)
  let next := ((t.entries.filter fun e => decide (e.prio ≤ prio)).map fun e => e.place + 1).foldl max 0
  let above := ((t.entries.filter fun e => decide (prio < e.prio)).map (·.place)).foldl min t.rows
  if next < above then some ([], next)
  else
    let up := freeRow used true above (t.rows - above)
    let dn := if next = 0 then none else freeRow used false (next - 1) next
    let goUp (u : Nat) := (((List.range (u - above)).map fun i => (u - 1 - i, u - i)), above)
    let goDn (l : Nat) := (((List.range (next - 1 - l)).map fun i => (l + 1 + i, l + i)), next - 1)
    match up, dn with
    | some u, some l => if u - above ≤ next - 1 - l then some (goUp u) else some (goDn l)
    | some u, none => some (goUp u)
    | none, some l => some (goDn l)
    | none, none => none

/-- Place a TCAM entry (R158, R160); a prefix of R156 is unique and follows REPLACE. -/
def tcamPut (t : Table) (no : Nat) (key mask : List Byte) (prio handle : Nat) (result : List Byte) (flag : Nat)
    (uniq replace : Bool) : PutEnd :=
  let place (t1 : Table) : PutEnd :=
    match tcamPlan t1 prio with
    | none => .noRoom no
    | some (moves, row) => .put no moves
        { place := row, key := key, mask := mask, prio := prio, handle := handle, result := result, flag := flag } t1
  match (if uniq then t.entries.find? fun e => decide (e.key = key) && decide (e.mask = mask) && decide (e.flag ≠ 2) else none) with
  | none => place t
  | some e =>
    if replace then
      match t.rewrite e result flag with
      | some t1 => .same no t1 e.place
      | none => place (t.without (fun x => decide (x = e)) 1)
    else .present no e.place

/-- The first `n` bits of an address kept, the rest 0. -/
def prefixBytes (addr : List Byte) (n : Nat) : List Byte :=
  let a := ofBe (bytesAt addr 0 16)
  beBytes 16 (a / 2 ^ (128 - n) * 2 ^ (128 - n))

/-- Mask bytes of a prefix in a companion row: the 12 bits of the VRF and `n` bits of the address (R156). -/
def prefixMask (n : Nat) : List Byte := beBytes 2 0xFFF ++ beBytes 16 ((2 ^ n - 1) * 2 ^ (128 - n))

/-- May an insertion be made: the checks of R154 to R158 and R433 on one die; the status that refuses it. -/
def TblMem.insertCheck (m : TblMem) (die no plen prio : Nat) (key mask : List Byte) : Option Nat :=
  match m.table die no with
  | none => some stBadParam
  | some t =>
    if m.isCompanion die no then some stDenied
    else if (key.drop t.cmdKeyLen).any (· ≠ 0) || (mask.drop t.cmdKeyLen).any (· ≠ 0) then some stBadParam
    else if t.type = 2 ∧ (0xFFF < beAt key 0 2 ∨ 32 < plen) then some stBadParam
    else if t.type = 3 ∧ (0xFFF < beAt key 0 2 ∨ (if t.companion.isSome then 128 else 64) < plen) then some stBadParam
    else if t.type = 4 ∧ 1048575 < prio then some stBadParam
    else none

/-- Place an entry given by TBL_INSERT on one die, the checks made. -/
def TblMem.place (m : TblMem) (die no plen prio handle : Nat) (result key mask : List Byte) (replace : Bool) : PutEnd :=
  match m.table die no with
  | none => .noRoom no
  | some t =>
    let k := key.take t.cmdKeyLen
    let flag := t.versioned.toNat
    if t.type = 1 then emPut t no k result flag replace
    else if t.type = 4 then tcamPut t no k (mask.take t.cmdKeyLen) prio handle result flag false replace
    else if 64 < plen then
      match t.companion.bind fun c => (m.table die c).map fun x => (c, x) with
      | none => .noRoom no
      | some (c, x) => tcamPut x c (companionKey (beAt k 0 2) (prefixBytes (k.drop 2) plen)) (prefixMask plen) (128 - plen)
          handle result x.versioned.toNat true replace
    else lpmPut m die t no k result plen flag replace

/-- Result bytes of TBL_INSERT for an entry's place (R433). -/
def Table.putResult (t : Table) (place handle : Nat) : List Byte :=
  if t.type = 1 then beBytes 1 (place / 4 / 2 ^ t.sizeLog2) ++ beBytes 4 (place / 4 % 2 ^ t.sizeLog2)
  else if t.type = 4 then beBytes 4 handle else []

/-- The mark of a poisoned trie node goes when no poisoned prefix remains below it (R165). -/
def Table.unmark (t : Table) : Table :=
  { t with entries := t.entries.filter fun e => !(e.result.isEmpty && !(t.entries.any fun x =>
      x.poisoned && !x.result.isEmpty && decide (e.len ≤ x.len) && lpmCovers e (beAt x.key 0 2) (x.key.drop 2))) }

/-- Segments of a TCAM table's rows, and those that have a free row (R160). -/
def Table.segments (t : Table) (s : Nat) : List Bool :=
  (List.range (t.rows / s)).map fun i => decide ((t.entries.countP fun e => decide (e.place / s = i)) < s)

/-- After a row has been used: a segment left without a hole queues a respacing sweep, and HOLES_LOW is raised when fewer
than one segment in eight has a hole (R160). -/
def Dev.holeCheck (d : Dev) (die no : Nat) (t : Table) (row : Nat) : Dev :=
  match t.holes with
  | none => d
  | some s =>
    let l := t.segments s
    if l.getD (row / s) true then d
    else
      let d1 := if d.tbl.respace.contains (die, no) then d
        else { d with tbl := { d.tbl with respace := d.tbl.respace ++ [(die, no)] } }
      if 8 * l.countP id < l.length then d1.raiseD 0x23 die no else d1

/-- An insertion finds no room (R152, R160): counted, and for an exact-match table TBL_REHASH with its occupancy. -/
def Dev.tblNoRoom (d : Dev) (die no : Nat) : Dev :=
  let d1 := d.cntF (rTBL_T_FAULT die no) fTBL_T_FAULT_NO_ROOM
  match d.tbl.mem.table die no with
  | none => d1
  | some t => if t.type = 1 then d1.raiseD 0x20 die no else d1

/-- The rows an insertion takes: the free row its moves end in, or its own. -/
def takenRow (moves : List (Nat × Nat)) (e : TblEntry) : Nat := (moves.head?.map (·.2)).getD e.place

/-- Carry out a placement at once on a die: its moves, then its entry (R151, R155, R160). -/
def Dev.putNow (d : Dev) (die : Nat) : PutEnd → Dev
  | .put no moves e t =>
    let t1 := t.moved moves
    let t2 := ({ t1 with entries := t1.entries ++ [e] } : Table).unmark
    let d1 := d.setTable die no (some t2)
    if t.type = 4 then d1.holeCheck die no t2 (takenRow moves e)
    else if t.type = 1 then d1
    else { d1 with tbl := { d1.tbl with oldNodes := d1.tbl.oldNodes ++ [(die, no, d.trk.tick + 1)] } }
  | .same no t _ => d.setTable die no (some t.unmark)
  | .present _ _ => d
  | .noRoom no => d.tblNoRoom die no

/-- An insertion's reply once its chain on every die is done. -/
def Dev.jobReply (d : Dev) (j : InsJob) : Dev :=
  match j.reply with
  | none => d
  | some r => if d.tbl.jobs.any fun x => decide (x.reply = some r) then d
      else d.replyLater r.1 r.2.1 r.2.2 stOk 0 j.result

/-- Begin a placement outside a batch: with moves to make it becomes a chain, each move of one tick (R151, R160). -/
def Dev.putJob (d : Dev) (die : Nat) (p : PutEnd) (reply : Option (CmdSrc × Nat × Nat)) (result : List Byte) : Dev :=
  match p with
  | .put no (m :: moves) e t =>
    let d1 := d.setTable die no (some t)
    { d1 with tbl := { d1.tbl with jobs := d1.tbl.jobs ++
      [{ die := die, table := no, moves := m :: moves, entry := e, reply := reply, result := result }] } }
  | _ => d.putNow die p

/-- The job open on a table. -/
def Dev.jobOf (d : Dev) (die no : Nat) : Option InsJob :=
  d.tbl.jobs.find? fun j => decide (j.die = die) && decide (j.table = no)

/-- Make a job's next move; after the last one store its entry and reply. -/
def Dev.jobStep (d : Dev) (j : InsJob) : Dev :=
  match d.tbl.mem.table j.die j.table with
  | none => { d with tbl := { d.tbl with jobs := d.tbl.jobs.filter (· ≠ j) } }
  | some t =>
    match j.moves with
    | m :: x :: l =>
      let d1 := d.setTable j.die j.table (some (t.moved [m]))
      { d1 with tbl := { d1.tbl with jobs := d1.tbl.jobs.map fun y => if y = j then { j with moves := x :: l } else y } }
    | l =>
      let d1 := d.putNow j.die (.put j.table l j.entry t)
      { d1 with tbl := { d1.tbl with jobs := d1.tbl.jobs.filter (· ≠ j) } }.jobReply j

/-- A later command on a table waits for the chain before it (R428): the chain's moves come first. -/
def Dev.jobFinish (d : Dev) (die no : Nat) : Dev :=
  match d.jobOf die no with
  | none => d
  | some j => (List.range (j.moves.length + 1)).foldl (fun d _ => match d.jobOf die no with
      | some x => d.jobStep x
      | none => d) d

/-! ### Deletion and reading (R152, R155, R160) -/

/-- The entry that TBL_DELETE or TBL_READ names, with the table that holds it. -/
def TblMem.named (m : TblMem) (die no plen handle : Nat) (key : List Byte) (p : TblEntry → Bool) : Option (Nat × Table × TblEntry) :=
  match m.table die no with
  | none => none
  | some t =>
    let k := key.take t.cmdKeyLen
    let pick (n : Nat) (x : Table) (q : TblEntry → Bool) := (x.entries.find? fun e => q e && p e).map fun e => (n, x, e)
    if t.type = 1 then pick no t fun e => decide (e.key = k)
    else if t.type = 4 then pick no t fun e => decide (e.handle = handle)
    else if t.type = 3 ∧ 64 < plen then
      (t.companion.bind fun c => (m.table die c).map fun x => (c, x)).bind fun c =>
        pick c.1 c.2 fun e => decide (e.key = companionKey (beAt k 0 2) (prefixBytes (k.drop 2) plen)) &&
          decide (e.mask = prefixMask plen)
    else pick no t fun e => e.isPrefix k plen

/-- Delete an entry on a die; an absent one changes nothing. -/
def Dev.tblDelete (d : Dev) (die no plen handle : Nat) (key : List Byte) : Dev :=
  match d.tbl.mem.named die no plen handle key fun e => decide (e.flag ≠ 2) with
  | none => d
  | some (n, t, e) =>
    let d1 := d.setTable die n (some (t.without (fun x => decide (x = e)) t.versioned.toNat).unmark)
    if t.type = 1 ∨ t.type = 4 then d1
    else { d1 with tbl := { d1.tbl with oldNodes := d1.tbl.oldNodes ++ [(die, n, d.trk.tick + 1)] } }

/-! ### Binding (R136, R137, R141, R147) -/

/-- Is a key segment within the range of R141? -/
def segOk (dir : Nat) (segs : List Byte) (i : Nat) : Bool :=
  let o := 4 * i
  if ebit segs o 7 then
    let src := bits (eb segs o) 6 5
    let e := beAt segs (o + 2) 2 + bits (eb segs (o + 1)) 7 4 + 1
    decide (src ≠ 3) && !(decide (src = 0) && decide (dir = 1)) &&
      (decide (src ≠ 0) || decide (e ≤ 272)) && (decide (src ≠ 1) || decide (e ≤ 64))
  else true

/-- Sum of the widths of a keymap's valid segments. -/
def segSum (segs : List Byte) : Nat :=
  ((List.range 8).map fun i => if ebit segs (4 * i) 7 then bits (eb segs (4 * i + 1)) 7 4 + 1 else 0).sum

/-- May a table be bound to a slot of a die (R136, R137, R141, R147)? -/
def TblMem.bindOk (m : TblMem) (die no dir stage slot : Nat) (segs : List Byte) (companion : Nat) : Bool :=
  match m.table die no with
  | none => false
  | some t =>
    let lpm := decide (t.type = 2) || decide (t.type = 3)
    let free (s : Nat) := (m.boundAt die dir stage s).isNone && !(decide (dir = 0) && decide (stage = 6) && decide (s = 0))
    t.bound.isNone && decide (dir ≤ 1) && decide (stage < if dir = 0 then 12 else 8) && decide (slot ≤ 1) && free slot &&
      !(lpm && decide (stage = 0)) && decide (companion = (t.companion.getD 0xFF)) &&
      ((List.range 8).all (segOk dir segs)) && decide (segSum segs ≤ t.bindLen) &&
      (match t.companion with
      | none => true
      | some c => free (1 - slot) && (match m.table die c with
        | some x => decide (x.type = 4) && decide (x.sizeLog2 = 0) && decide (x.keyBytes = 18) && x.bound.isNone
        | none => false))

/-- The binding that packets of the current version see until the commit, kept for a versioned table (R169). -/
def Dev.keepBind (d : Dev) (die no : Nat) (t : Table) : Dev :=
  let k := 128 * die + no
  if t.versioned && !(d.tbl.prevBind.any fun e => decide (e.1 = k)) then
    { d with tbl := { d.tbl with prevBind := d.tbl.prevBind ++ [(k, t.bound, t.keymap)] } }
  else d

/-- Set a table's binding on a die. -/
def Dev.setBind (d : Dev) (die no : Nat) (b : Option (Nat × Nat × Nat)) (segs : Option (List Byte)) : Dev :=
  match d.tbl.mem.table die no with
  | none => d
  | some t => d.setTable die no (some { t with
      bound := b, keymap := segs.getD t.keymap, mapPoison := if segs.isSome then false else t.mapPoison })

/-- Bind a table and its companion on a die. -/
def Dev.tblBind (d : Dev) (die no dir stage slot : Nat) (segs : List Byte) : Dev :=
  match d.tbl.mem.table die no with
  | none => d
  | some t =>
    let d1 := d.setBind die no (some (dir, stage, slot)) (some segs)
    match t.companion with
    | none => d1
    | some c => d1.setBind die c (some (dir, stage, 1 - slot)) (some segs)

/-- Unbind a table and its companion on a die. -/
def Dev.tblUnbind (d : Dev) (die no : Nat) : Dev :=
  match d.tbl.mem.table die no with
  | none => d
  | some t =>
    let d1 := d.setBind die no none none
    match t.companion with
    | none => d1
    | some c => d1.setBind die c none none

/-- May a profile be written (R143)? -/
def profileOk (dir : Nat) (p : List Byte) : Bool :=
  let op (i : Nat) : Bool :=
    let o := 8 * i
    let code := bits (eb p o) 7 4
    let e := eb p (o + 2) + bits (eb p (o + 1)) 5 3 + 1
    decide (code ≤ 6) && (decide (code = 0) ||
      (decide (e ≤ if ebit p o 3 then 32 else 64) && !(decide (dir = 1) && decide (bits (eb p (o + 1)) 7 6 = 2))))
  let kind := bits (eb p 32) 6 4
  let len := eb p 36
  ((List.range 4).all op) && (!ebit p 32 7 ||
    (decide (kind < 4) && decide (1 ≤ len) && decide (len ≤ 32) && (decide (kind ≠ 3) || decide (len = 1))))

/-- Write a profile on a die; its poison goes (R165). -/
def Dev.profileWrite (d : Dev) (die dir stage slot p : Nat) (entry : List Byte) : Dev :=
  let k := profKey die dir stage slot p
  let m := d.tbl.mem
  { d with tbl := { d.tbl with mem := { m with
      profiles := kvSet (zeros 48) k entry m.profiles, badProfiles := m.badProfiles.filter (· ≠ k) } } }

/-! ### Versions (R168 to R170) -/

/-- A previous version is held (R170). -/
def Dev.prevHeld (d : Dev) : Bool := d.b (rTBL_STATUS 0) fTBL_STATUS_PREV_HELD

/-- A packet stamped with a version remains in the ingress stages: parked, or waiting to recirculate. -/
def Dev.verInIngress (d : Dev) (v : Nat) : Bool :=
  (d.path.recirc.any fun k => decide (k.ver = v)) || (d.path.flw0.parked.any fun x => decide (x.pkt.ver = v)) ||
    d.path.flw1.parked.any fun x => decide (x.pkt.ver = v)

/-- ADD entries become plain and DEL entries are freed. -/
def Table.settled (t : Table) : Table :=
  { t with entries := (t.entries.filter fun e => decide (e.flag ≠ 2)).map fun e => { e with flag := 0 } }

/-- The version current becomes `v` on both dies, the one before it previous (R169). -/
def Dev.setVersion (d : Dev) (v prev : Nat) : Dev :=
  d.each [0, 1] fun d die => ((d.sf (rTBL_VERSION die) fTBL_VERSION_CURRENT v).sf (rTBL_VERSION die)
    fTBL_VERSION_PREVIOUS prev).sb (rTBL_STATUS die) fTBL_STATUS_PREV_HELD (decide (v ≠ prev))

/-- The previous version retires (R170). -/
def Dev.retireVersion (d : Dev) : Dev :=
  let settle (m : TblMem) : TblMem := { m with tables := m.tables.map fun e => (e.1, e.2.map Table.settled) }
  let d1 := { d with tbl := { d.tbl with mem := settle d.tbl.mem, live := settle d.tbl.live, prevBind := [] } }
  let v := d.verCur 0
  (d1.setVersion v v).each [0, 1] fun d die => d.each ((d.tbl.mem.tablesOf die).map (·.1)) fun d no => d.tblReport die no

/-! ### Poison and scrubbing (R163 to R165) -/

/-- An uncorrectable error found in a table memory: TBL_POISON naming die, table and entry, and a class C fault (R165). The
entry is the event's data; an action profile is in no table (log entry 79). -/
def Dev.poisonFault (d : Dev) (die : Nat) (no : Option Nat) (entry : Nat) : Dev :=
  (d.raiseD 0x21 die (no.getD 0xFFFF) (some entry)).report die 0xC 4 2 (no.getD 0)

/-- Poison what a find names, in the table memory and as the lookups see it. -/
def TblMem.poison (m : TblMem) (die : Nat) : ScrubFind → TblMem
  | .clean => m
  | .corrected _ => m
  | .entry no place => match m.table die no with
    | none => m
    | some t => m.setTable die no (some { t with
        entries := t.entries.map fun e => if e.place = place then { e with poisoned := true } else e })
  | .node no key len => match m.table die no with
    | none => m
    | some t =>
      let mark : TblEntry := { place := 0, key := key, len := len, result := [], poisoned := true }
      let below (e : TblEntry) : Bool := decide (len ≤ e.len) && lpmCovers mark (beAt e.key 0 2) (e.key.drop 2)
      m.setTable die no (some { t with
        entries := mark :: t.entries.map fun e => if below e then { e with poisoned := true } else e })
  | .profile dir stage slot p =>
    let k := profKey die dir stage slot p
    { m with badProfiles := if m.badProfiles.contains k then m.badProfiles else k :: m.badProfiles }
  | .keymap no => match m.table die no with
    | none => m
    | some t => m.setTable die no (some { t with mapPoison := true })

/-- What a find changes and reports (R163, R165). -/
def Dev.scrubFound (d : Dev) (die : Nat) (f : ScrubFind) : Dev :=
  let d1 := { d with tbl := { d.tbl with mem := d.tbl.mem.poison die f, live := d.tbl.live.poison die f } }
  match f with
  | .clean => d
  | .corrected no => (d.cnt (rTBL_CNT_LO die 6)).report die 0xB 4 1 no
  | .entry no place => if (d.tbl.mem.table die no).isNone then d else (d1.tblReport die no).poisonFault die no place
  | .node no _ len => if (d.tbl.mem.table die no).isNone then d else (d1.tblReport die no).poisonFault die no len
  | .profile dir stage slot p => d1.poisonFault die none (profKey die dir stage slot p)
  | .keymap no => if (d.tbl.mem.table die no).isNone then d else d1.poisonFault die no 0

/-- Lag of the scrub passes in decks (R164). -/
def Dev.scrubLag (d : Dev) (die : Nat) : Dev :=
  let s := (d.tbl.scrubDecks.find? fun e => decide (e.1 = die)).getD (die, 0, 0)
  let lag (since period : Nat) : Nat := if period = 0 then 0 else min 65535 (since - period)
  (d.sf (rTBL_SCRUB_STATUS die) fTBL_SCRUB_STATUS_TCAM_LAG (lag s.2.1 (d.lf (rTBL_SCRUB die) fTBL_SCRUB_TCAM_DECKS))).sf
    (rTBL_SCRUB_STATUS die) fTBL_SCRUB_STATUS_SRAM_LAG (lag s.2.2 (d.lf (rTBL_SCRUB die) fTBL_SCRUB_SRAM_DECKS))

/-- Set a die's decks since its last scrub passes. -/
def Dev.setScrub (d : Dev) (die : Nat) (f : Nat × Nat → Nat × Nat) : Dev :=
  let s := (d.tbl.scrubDecks.find? fun e => decide (e.1 = die)).getD (die, 0, 0)
  { d with tbl := { d.tbl with
    scrubDecks := (die, f s.2) :: d.tbl.scrubDecks.filter fun e => decide (e.1 ≠ die) } }.scrubLag die

/-- May the scrubber of a kind run: it is enabled, its period is not 0, and the rod's count of units is not used up. -/
def Dev.scrubOn (d : Dev) (die : Nat) (tcam : Bool) : Bool :=
  d.lb (rTBL_CTRL die) fTBL_CTRL_SCRUB_EN &&
    decide (d.lf (rTBL_SCRUB die) (if tcam then fTBL_SCRUB_TCAM_DECKS else fTBL_SCRUB_SRAM_DECKS) ≠ 0)

/-! ### Respacing (R160) -/

/-- Rows with one free row at the end of each segment, in order; packed where entries leave too few free rows. -/
def respaced (rows s n : Nat) : List Nat :=
  if n ≤ rows / s * (s - 1) then (List.range n).map fun i => i / (s - 1) * s + i % (s - 1) else List.range n

/-! ### The commands -/

/-- A write of PAR_CTRL (R133): the banks swap at the next tick boundary; refused while the old bank is busy. -/
def Dev.swapWrite (d : Dev) (die v : Nat) : Dev :=
  if bits v 0 0 = 0 then d
  else if d.b (rPAR_STATUS die) fPAR_STATUS_OLD_BANK_BUSY then
    (d.sb (rPAR_STATUS die) fPAR_STATUS_SWAP_REFUSED true).classA die
  else if d.deferred.contains (.parSwap die) then d
  else (d.defer (.parSwap die)).sb (rPAR_STATUS die) fPAR_STATUS_SWAP_PENDING true

/-- PARSER_SWAP: a write of PAR_CTRL (R133). -/
def execParserSwap (die : Fin 2) (value : Word) (s : State) : Host.Outcome State Fault Refusal :=
  onDev s fun d => d.swapWrite die value.toNat

/-- EM_MOVE_STEP: one displacement of an insertion chain (R151). -/
def execEmMoveStep (die : Fin 2) (table : Fin 128) (s : State) : Host.Outcome State Fault Refusal :=
  onDev s fun d => match d.tbl.mem.table die table, d.jobOf die table with
    | some t, some j => if t.type = 1 then d.jobStep j else d
    | _, _ => d

/-- TCAM_ROW_MOVE: one shift of an insertion (R160). -/
def execTcamRowMove (die : Fin 2) (table : Fin 128) (s : State) : Host.Outcome State Fault Refusal :=
  onDev s fun d => match d.tbl.mem.table die table, d.jobOf die table with
    | some t, some j => if t.type = 4 then d.jobStep j else d
    | _, _ => d

/-- TCAM_RESPACING_SWEEP: one free row per segment again (R160). -/
def execTcamRespacingSweep (die : Fin 2) (table : Fin 128) (s : State) : Host.Outcome State Fault Refusal :=
  onDev s fun d =>
    if d.tbl.respace.contains (die.val, table.val) && d.lb (rTBL_CTRL die) fTBL_CTRL_RESPACE_EN then
      let r := d.nrgTake 10
      if r.2 then
        let d1 := { r.1 with tbl := { r.1.tbl with respace := r.1.tbl.respace.filter (· ≠ (die.val, table.val)) } }
        match d1.tbl.mem.table die table with
        | none => d1
        | some t => match t.holes with
          | none => d1
          | some h =>
            let l := sortBy (·.place) t.entries
            d1.setTable die table (some { t with
              entries := (l.zip (respaced t.rows h l.length)).map fun e => { e.1 with place := e.2 } })
      else d
    else d

/-- LPM_NODE_FREE: the old nodes of a change are freed (R155). -/
def execLpmNodeFree (die : Fin 2) (table : Fin 128) (s : State) : Host.Outcome State Fault Refusal :=
  onDev s fun d => { d with tbl := { d.tbl with
    oldNodes := d.tbl.oldNodes.filter fun e => !(decide (e.1 = die.val) && decide (e.2.1 = table.val) &&
      decide (e.2.2 + 2 ≤ d.trk.tick)) } }

/-- TABLE_SCRUB_STEP: the scrubber reads a word (R163 to R165). -/
def execTableScrubStep (die : Fin 2) (tcam : Bool) (find : ScrubFind) (passEnd : Bool) (s : State) :
    Host.Outcome State Fault Refusal :=
  onDev s fun d =>
    if d.scrubOn die tcam then
      let r := d.nrgTake 7
      if r.2 then
        let d1 := r.1.scrubFound die find
        if passEnd then d1.setScrub die fun x => if tcam then (0, x.2) else (x.1, 0) else d1
      else d
    else d

end Sys2Proof.Machine
end

