-- ==== Sys2Proof/Machine/TblCmd.lean ====
section
/-! DEFINITION. Machine/TblCmd.lean: the commands of the tables family, atomic batches and their commit (R146 to R171,
R431, R433). -/
namespace Sys2Proof.Machine

/-- Dies of a die mask. -/
def maskDies (m : Nat) : List Nat := [0, 1].filter fun die => decide (bits m die die = 1)

/-- Dies a table is on. -/
def TblMem.diesOf (m : TblMem) (no : Nat) : List Nat := [0, 1].filter fun die => (m.table die no).isSome

/-- A table on any die. -/
def TblMem.anyTable (m : TblMem) (no : Nat) : Option Table := (m.diesOf no).head?.bind fun die => m.table die no

/-- How an operation comes out: the device after it, its status and its result. A refusal changes nothing but what
`dev` counts. -/
structure OpEnd where
  dev : Dev
  status : Nat
  result : List Byte := []

/-- A 20-bit handle no entry of a table has: a free value, the next one not in use (R157). -/
def freshHandle (used : List Nat) : Nat → Nat → Nat
  | 0, n => n
  | fuel + 1, n => if used.contains n then freshHandle used fuel ((n + 1) % 2 ^ 20) else n

/-- The handle a new TCAM entry takes on every die it is placed on (R159). -/
def Dev.newHandle (d : Dev) (no : Nat) : Nat :=
  let t := d.tbl.mem.anyTable no
  let c := (t.bind Table.companion).getD no
  let used (n : Nat) := (d.tbl.mem.diesOf n).flatMap fun die => ((d.tbl.mem.table die n).map fun x => x.entries.map (·.handle)).getD []
  let l := used no ++ used c
  freshHandle l (l.length + 1) (d.free (2 ^ 20))

/-- Where an insertion goes on each die of its mask, or the status that refuses it, with the bytes a DENIED returns. -/
def Dev.insertPlan (d : Dev) (no flags plen prio handle : Nat) (result key mask : List Byte) :
    Except (Nat × List Byte × List (Nat × Nat)) (List (Nat × PutEnd)) :=
  let dies := maskDies (flags % 4)
  let m := d.tbl.mem
  match dies.filterMap fun die => m.insertCheck die no plen prio key mask with
  | st :: _ => .error (st, [], [])
  | [] =>
    if dies.isEmpty then .error (stBadParam, [], [])
    else
      let l := dies.map fun die => (die, m.place die no plen prio handle result key mask (decide (bits flags 7 7 = 1)))
      let full := l.filterMap fun x => match x.2 with
        | .noRoom n => some (x.1, n)
        | _ => none
      let present := l.findSome? fun x => match x.2 with
        | .present n p => some ((m.table x.1 n).map fun t => t.putResult p handle)
        | _ => none
      match present with
      | some r => .error (stDenied, r.getD [], [])
      | none => if full.isEmpty then .ok l else .error (stNoRoom, [], full)

/-- Result bytes of an insertion. -/
def Dev.insertResult (d : Dev) (no handle : Nat) (l : List (Nat × PutEnd)) : List Byte :=
  let place : Option Nat := l.findSome? fun x => match x.2 with
    | .put _ _ e _ => some e.place
    | .same _ _ p => some p
    | _ => none
  match d.tbl.mem.anyTable no, place with
  | some t, some p => t.putResult p handle
  | _, _ => []

/-- Bind a table on every die it is on (R147). -/
def Dev.bindAll (d : Dev) (no dir stage slot : Nat) (segs : List Byte) (companion : Nat) : OpEnd :=
  let dies := d.tbl.mem.diesOf no
  if dies.isEmpty || decide (segs.length ≠ 32) || !(dies.all fun die => d.tbl.mem.bindOk die no dir stage slot segs companion) then
    { dev := d, status := stBadParam }
  else { dev := d.each dies fun e die => e.tblBind die no dir stage slot segs, status := stOk }

/-- Unbind a table on every die it is on. -/
def Dev.unbindAll (d : Dev) (no : Nat) : OpEnd :=
  let dies := d.tbl.mem.diesOf no
  if dies.any fun die => ((d.tbl.mem.table die no).bind (·.bound)).isSome then
    { dev := d.each dies fun e die => e.tblUnbind die no, status := stOk }
  else { dev := d, status := stDenied }

/-- Write an action profile on the dies of a mask (R143). -/
def Dev.profileAll (d : Dev) (mask dir stage slot p : Nat) (entry : List Byte) : OpEnd :=
  if p = 0 then { dev := d, status := stDenied }
  else if mask % 4 = 0 ∨ 1 < dir ∨ (if dir = 0 then 12 else 8) ≤ stage ∨ 1 < slot ∨ 63 < p ∨ profileOk dir entry = false then
    { dev := d, status := stBadParam }
  else { dev := d.each (maskDies (mask % 4)) fun e die => e.profileWrite die dir stage slot p entry, status := stOk }

/-- Carry out one operation of a batch (R168, R431). -/
def Dev.opApply (d : Dev) : StagedOp → OpEnd
  | .bind no dir stage slot segs companion =>
    let r := d.bindAll no dir stage slot segs companion
    if r.status = stOk then
      { r with dev := (d.each (d.tbl.mem.diesOf no) fun e die => match e.tbl.mem.table die no with
        | some t => e.keepBind die no t
        | none => e).bindAll no dir stage slot segs companion |>.dev }
    else r
  | .unbind no =>
    let r := d.unbindAll no
    if r.status = stOk then
      { r with dev := (d.each (d.tbl.mem.diesOf no) fun e die => match e.tbl.mem.table die no with
        | some t => e.keepBind die no t
        | none => e).unbindAll no |>.dev }
    else r
  | .insert no flags plen prio handle result key mask =>
    match d.insertPlan no flags plen prio handle result key mask with
    | .error (st, r, full) => { dev := d.each full fun e x => e.tblNoRoom x.1 x.2, status := st, result := r }
    | .ok l => { dev := d.each l fun e x => e.putNow x.1 x.2, status := stOk, result := d.insertResult no handle l }
  | .delete no mask plen handle key =>
    let dies := maskDies (mask % 4)
    if dies.isEmpty || dies.any (fun die => (d.tbl.mem.table die no).isNone) then { dev := d, status := stBadParam }
    else { dev := d.each dies fun e die => e.tblDelete die no plen handle key, status := stOk }
  | .profile mask dir stage slot p entry => d.profileAll mask dir stage slot p entry
  | .parseSwap mask =>
    if mask % 4 = 0 then { dev := d, status := stBadParam }
    else if (maskDies (mask % 4)).any fun die => d.b (rPAR_STATUS die) fPAR_STATUS_OLD_BANK_BUSY then
      { dev := d, status := stBusy }
    else { dev := d.each (maskDies (mask % 4)) fun e die => e.bankSwitch die, status := stOk }
  | .shape port queue x =>
    match d.shape port queue x with
    | .error st => { dev := d, status := st }
    | .ok e => { dev := e, status := stOk }
  | .mcWrite g x => { dev := d.setGroup g x, status := stOk }

/-- Carry out operations in order until one is refused: the device, and that operation's status and number. -/
def Dev.opsApply (d : Dev) : List StagedOp → Nat → Dev × Option (Nat × Nat)
  | [], _ => (d, none)
  | op :: l, n =>
    let r := d.opApply op
    if r.status = stOk then r.dev.opsApply l (n + 1) else (d, some (r.status, n))

/-- Dies whose tables an operation writes: a table operation of R168. -/
def Dev.opDies (d : Dev) : StagedOp → List Nat
  | .bind no .. => d.tbl.mem.diesOf no
  | .unbind no => d.tbl.mem.diesOf no
  | .insert _ flags .. => maskDies (flags % 4)
  | .delete _ mask .. => maskDies (mask % 4)
  | .profile mask .. => maskDies (mask % 4)
  | .parseSwap _ | .shape .. | .mcWrite .. => []

/-- Does an operation touch a versioned table (R169)? -/
def Dev.opVersioned (d : Dev) : StagedOp → Bool
  | .bind no .. | .unbind no | .insert no .. | .delete no .. =>
    (d.tbl.mem.anyTable no).any fun t => t.versioned || (t.companion.bind d.tbl.mem.anyTable).any Table.versioned
  | .profile .. | .parseSwap _ | .shape .. | .mcWrite .. => false

/-! ### Batches (R168, R170, R431) -/

/-- Open batches. -/
def Dev.batches (d : Dev) : List (Nat × Batch) := d.host.batches.filterMap fun e => e.2.map fun b => (e.1, b)

/-- Replace a batch. -/
def Dev.setBatch (d : Dev) (id : Nat) (b : Option Batch) : Dev :=
  { d with host := { d.host with batches := kvSet none id b d.host.batches } }

/-- Swaps staged and not committed, reported in PAR_STATUS.SWAP_PENDING. -/
def Dev.swapReport (d : Dev) : Dev :=
  d.each [0, 1] fun e die => e.sb (rPAR_STATUS die) fPAR_STATUS_SWAP_PENDING
    (e.deferred.contains (.parSwap die) || e.batches.any fun b => b.2.ops.any fun op => match op with
      | .parseSwap m => decide (bits m die die = 1)
      | _ => false)

/-- Chains begun outside a batch on the tables of an operation are finished first (R428). -/
def Dev.opReady (d : Dev) : StagedOp → Dev
  | .bind no .. | .unbind no | .insert no .. | .delete no .. =>
    let c := ((d.tbl.mem.anyTable no).bind Table.companion).getD no
    (d.each [0, 1] fun e die => e.jobFinish die no).each [0, 1] fun e die => e.jobFinish die c
  | .profile .. | .parseSwap _ | .shape .. | .mcWrite .. => d

/-- Mark a batch failed at its next operation. -/
def Batch.fail (b : Batch) (st : Nat) : Batch := { b with failed := b.failed.orElse fun _ => some (st, b.ops.length) }

/-- Stage an operation in a batch (R431): checked against the tables as the batch's operations leave them, staged with
STAGED set, or refused, which marks the batch failed. -/
def Dev.stageOp (d : Dev) (h : CmdHdr) (opcode id : Nat) (op : StagedOp) : Dev :=
  let open_ := kvGet none d.host.batches id
  if open_.isNone && decide (64 ≤ (d.batches.filter fun b => decide (b.1 < 2 ^ 32)).length) then d.replySt h opcode stBusy
  else
    let d0 := d.opReady op
    let b := open_.getD { deck := d.deck }
    let tooMany := (d0.opDies op).any fun die => decide (16384 ≤ (b.ops.filter fun o => (d0.opDies o).contains die).length)
    let r := (d0.opsApply b.ops 0).1.opApply op
    if tooMany then (d0.setBatch id (some (b.fail stNoRoom))).replySt h opcode stNoRoom
    else if r.status = stOk then
      ((d0.setBatch id (some { b with ops := b.ops ++ [op] })).swapReport.used).reply h opcode stOk 0x40 r.result
    else
      let d1 := match op with
        | .insert no .. => if r.status = stNoRoom then d0.each (d0.opDies op) fun e die => e.tblNoRoom die no else d0
        | _ => d0
      (d1.setBatch id (some (b.fail r.status))).reply h opcode r.status 0 r.result

/-- A commit is requested (R168, R170): it waits for the next tick boundary, and for the previous version's
retirement, which raises COMMIT_DEFERRED. -/
def Dev.commitAsk (d : Dev) (id : Nat) (b : Batch) (r : CmdSrc × Nat × Nat) : Dev :=
  let d1 := (d.setBatch id (some { b with commit := some r })).each [0, 1] fun e die =>
    e.sb (rTBL_STATUS die) fTBL_STATUS_COMMIT_PENDING true
  if d1.prevHeld then d1.each [0, 1] fun e die => e.raiseD eTBL_COMMIT_DEFERRED die 0xFFFF else d1

/-- A write outside a batch to a versioned table is a batch of one (R169): it answers at its commit. -/
def Dev.single (d : Dev) (h : CmdHdr) (opcode : Nat) (op : StagedOp) : Dev :=
  let d0 := d.opReady op
  let r := d0.opApply op
  if r.status ≠ stOk then
    (match op with
      | .insert .. => if r.status = stNoRoom then r.dev else d0
      | _ => d0).reply h opcode r.status 0 r.result
  else
    let id := 2 ^ 32 + d.host.batches.length + d.fresh
    (d0.used).commitAsk id { ops := [op], deck := d.deck, single := some r.result } (h.src, h.tag, opcode)

/-- An operation of a command: staged, a batch of one, or done at once and visible from the next tick boundary. -/
def Dev.runOp (d : Dev) (h : CmdHdr) (opcode : Nat) (op : StagedOp) : Dev :=
  match h.batch with
  | some id => d.stageOp h opcode id.toNat op
  | none =>
    if d.opVersioned op then d.single h opcode op
    else
      let r := (d.opReady op).opApply op
      r.dev.used.reply h opcode r.status 0 r.result

/-- The commit of one batch at a tick boundary (R168): all of it or nothing. Answers whether it touched a versioned
table. -/
def Dev.commitOne (d : Dev) (id : Nat) (b : Batch) : Dev × Bool :=
  let ver := b.ops.any d.opVersioned
  let r := match b.failed with
    | some f => (d, some f)
    | none => d.opsApply b.ops 0
  let d1 := (r.1.setBatch id none).swapReport
  match b.commit with
  | none => (d1, ver)
  | some (src, tag, opcode) =>
    match r.2 with
    | some (st, n) => (d1.replyLater src tag opcode st 0 (if b.single.isSome then [] else beBytes 4 n), false)
    | none => (d1.replyLater src tag opcode stOk 0 (b.single.getD (beBytes 8 d.trk.tick)), ver)

/-- All batches whose commit is due, in the order they were asked for (R168, R169): the version advances once when a
versioned table was touched. -/
def Dev.commitDue (d : Dev) : Dev :=
  let due := d.batches.filter fun b => b.2.commit.isSome
  if due.isEmpty || d.prevHeld then d
  else
    let r := due.foldl (fun (acc : Dev × Bool) b =>
      let x := acc.1.commitOne b.1 b.2
      (x.1, acc.2 || x.2)) (d, false)
    let d1 := r.1.each [0, 1] fun e die => e.sb (rTBL_STATUS die) fTBL_STATUS_COMMIT_PENDING false
    if r.2 then
      let v := d1.verCur 0
      let d2 := { d1 with tbl := { d1.tbl with commitTick := d1.trk.tick } }
      (d2.setVersion ((v + 1) % 65536) v).each [0, 1] fun e die =>
        e.wrPair (rTBL_COMMIT_LO die) (rTBL_COMMIT_HI die) d1.trk.tick
    else d1

/-- VERSION_RETIRE: at least 8 ticks after the commit and with no packet of the previous version in ingress, that
version retires; a deferred commit follows at the same boundary (R170). -/
def execVersionRetire (s : State) : Host.Outcome State Fault Refusal :=
  onDev s fun d =>
    if d.prevHeld && decide (d.tbl.commitTick + 8 ≤ d.trk.tick) && !d.verInIngress (d.verPrev 0) then
      let e := d.retireVersion.commitDue
      { e with tbl := { e.tbl with live := e.tbl.mem } }
    else d

/-- DEV_BATCH_COMMIT: commit an open batch at the next tick boundary (R168, R431). -/
def execDevBatchCommit (h : CmdHdr) (batch : BitVec 32) (s : State) : Host.Outcome State Fault Refusal :=
  onCmd s h 0x0105 fun d =>
    match kvGet none d.host.batches batch.toNat with
    | none => d.replySt h 0x0105 stNotReady
    | some b =>
      if b.commit.isSome then d.replySt h 0x0105 stNotReady
      else match b.failed with
        | some (st, n) => ((d.setBatch batch.toNat none).swapReport).reply h 0x0105 st 0 (beBytes 4 n)
        | none => d.commitAsk batch.toNat b (h.src, h.tag, 0x0105)

/-- DEV_BATCH_ABORT: discard an open batch (R431). -/
def execDevBatchAbort (h : CmdHdr) (batch : BitVec 32) (s : State) : Host.Outcome State Fault Refusal :=
  onCmd s h 0x0106 fun d =>
    match kvGet none d.host.batches batch.toNat with
    | none => d.replySt h 0x0106 stNotReady
    | some b =>
      if b.commit.isSome then d.replySt h 0x0106 stNotReady
      else (d.setBatch batch.toNat none).swapReport.reply h 0x0106 stOk 0 (beBytes 4 b.ops.length)

/-- BATCH_EXPIRED: a batch not committed within BATCH_TTL decks is discarded (R431). -/
def execBatchExpired (batch : BitVec 32) (s : State) : Host.Outcome State Fault Refusal :=
  onDev s fun d =>
    match kvGet none d.host.batches batch.toNat with
    | none => d
    | some b =>
      if b.commit.isNone && decide (b.deck + d.f rDMA_CMD_CFG fDMA_CMD_CFG_BATCH_TTL ≤ d.deck) then
        (d.setBatch batch.toNat none).swapReport.raise eDMA_BATCH_EXPIRED 0xFFFF
      else d

/-! ### Tables family (R433) -/

/-- TBL_CREATE: a table from a descriptor (R146). The seeds of an exact-match table are four free values. -/
def execTblCreate (h : CmdHdr) (table : BitVec 8) (desc : List (BitVec 8)) (s : State) : Host.Outcome State Fault Refusal :=
  onCmd s h 0x0300 fun d =>
    let no := table.toNat
    let seeds := (List.range 4).map fun i => d.freeAt i (2 ^ 32)
    let t : Table := { desc := desc, seeds := if eb desc 0 = 1 then seeds else [] }
    let dies := maskDies t.placeMask
    if desc.length ≠ 32 then d.replySt h 0x0300 stBadLength
    else if 128 ≤ no ∨ descOk desc = false then d.replySt h 0x0300 stBadParam
    else if (d.tbl.mem.anyTable no).isSome then d.replySt h 0x0300 stDenied
    else if dies.any fun die => !d.tbl.mem.roomFor die t then d.replySt h 0x0300 stNoRoom
    else
      let d1 := (d.used 4).each dies fun e die => e.setTable die no (some t)
      d1.reply h 0x0300 stOk 0 (if t.type = 1 then seeds.flatMap (beBytes 4) else zeros 16)

/-- Is a table still seen by packets of a previous version (R147, R170)? -/
def Dev.tblHeld (d : Dev) (no : Nat) : Bool :=
  d.prevHeld && ((d.tbl.prevBind.any fun e => decide (e.1 % 128 = no)) ||
    (d.tbl.mem.diesOf no).any fun die => (d.tbl.mem.table die no).any fun t => t.entries.any fun e => decide (e.flag ≠ 0))

/-- TBL_DESTROY: remove an unbound table (R147). -/
def execTblDestroy (h : CmdHdr) (table : BitVec 8) (s : State) : Host.Outcome State Fault Refusal :=
  onCmd s h 0x0301 fun d =>
    let no := table.toNat
    let d0 := d.each [0, 1] fun e die => e.jobFinish die no
    let dies := d0.tbl.mem.diesOf no
    if dies.isEmpty then d0.replySt h 0x0301 stBadParam
    else if dies.any fun die => ((d0.tbl.mem.table die no).bind (·.bound)).isSome || d0.tbl.mem.isCompanion die no then
      d0.replySt h 0x0301 stDenied
    else if d0.tblHeld no then d0.replySt h 0x0301 stBusy
    else
      let d1 := d0.each dies fun e die => e.setTable die no none
      { d1 with tbl := { d1.tbl with
          respace := d1.tbl.respace.filter (fun e => decide (e.2 ≠ no)),
          oldNodes := d1.tbl.oldNodes.filter fun e => decide (e.2.1 ≠ no) } }.replySt h 0x0301 stOk

/-- TBL_BIND (R147). -/
def execTblBind (h : CmdHdr) (table dir stage slot : BitVec 8) (segs : List (BitVec 8)) (companion : BitVec 8) (s : State) :
    Host.Outcome State Fault Refusal :=
  onCmd s h 0x0302 fun d =>
    if segs.length ≠ 32 then d.replySt h 0x0302 stBadLength
    else d.runOp h 0x0302 (.bind table.toNat dir.toNat stage.toNat slot.toNat segs companion.toNat)

/-- TBL_UNBIND (R147). -/
def execTblUnbind (h : CmdHdr) (table : BitVec 8) (s : State) : Host.Outcome State Fault Refusal :=
  onCmd s h 0x0303 fun d => d.runOp h 0x0303 (.unbind table.toNat)

/-- An insertion outside a batch to a table that is not versioned (R151, R155, R160): at once, or as a chain of moves
that answers at its end. -/
def Dev.insertPlain (d : Dev) (h : CmdHdr) (no flags plen prio handle : Nat) (result key mask : List Byte) : Dev :=
  let d0 := d.opReady (.insert no flags plen prio handle result key mask)
  match d0.insertPlan no flags plen prio handle result key mask with
  | .error (st, r, full) => (d0.each full fun e x => e.tblNoRoom x.1 x.2).reply h 0x0304 st 0 r
  | .ok l =>
    let res := d0.insertResult no handle l
    let chain := l.any fun x => match x.2 with
      | .put _ (_ :: _) _ _ => true
      | _ => false
    let d1 := d0.used.each l fun e x => e.putJob x.1 x.2 (some (h.src, h.tag, 0x0304)) res
    if chain then d1 else d1.reply h 0x0304 stOk 0 res

/-- TBL_INSERT: insert or replace an entry (R151, R154 to R160). -/
def execTblInsert (h : CmdHdr) (table flags plen : BitVec 8) (prio : BitVec 32) (result key mask : List (BitVec 8)) (s : State) :
    Host.Outcome State Fault Refusal :=
  onCmd s h 0x0304 fun d =>
    if result.length ≠ 8 ∨ key.length ≠ 80 ∨ mask.length ≠ 80 then d.replySt h 0x0304 stBadLength
    else
      let no := table.toNat
      let handle := d.newHandle no
      let op := StagedOp.insert no flags.toNat plen.toNat prio.toNat handle result key mask
      if h.batch.isNone && !d.opVersioned op then
        d.insertPlain h no flags.toNat plen.toNat prio.toNat handle result key mask
      else d.runOp h 0x0304 op

/-- TBL_DELETE: delete an entry; an absent one changes nothing (R152). -/
def execTblDelete (h : CmdHdr) (table mask plen : BitVec 8) (handle : BitVec 32) (key : List (BitVec 8)) (s : State) :
    Host.Outcome State Fault Refusal :=
  onCmd s h 0x0305 fun d =>
    if key.length ≠ 40 then d.replySt h 0x0305 stBadLength
    else d.runOp h 0x0305 (.delete table.toNat mask.toNat plen.toNat handle.toNat key)

/-- TBL_READ: the entry a packet issued in this tick would see (R169). -/
def execTblRead (h : CmdHdr) (table mask plen : BitVec 8) (handle : BitVec 32) (key : List (BitVec 8)) (s : State) :
    Host.Outcome State Fault Refusal :=
  onCmd s h 0x0306 fun d =>
    if key.length ≠ 40 then d.replySt h 0x0306 stBadLength
    else match maskDies (mask.toNat % 4) with
      | [die] =>
        if (d.tbl.live.table die table.toNat).isNone then d.replySt h 0x0306 stBadParam
        else
          let v := d.verCur die
          match d.tbl.live.named die table.toNat plen.toNat handle.toNat key fun e => e.seen v v (d.verPrev die) with
          | none => d.replySt h 0x0306 stOk
          | some (_, t, e) =>
            let r := if e.poisoned then d.freeBytes 8 else (d, e.result)
            let tcam := if t.type = 4 ∧ (d.tbl.live.table die table.toNat).any fun x => decide (x.type = 4) then
              (e.key ++ zeros 80).take 80 ++ (e.mask ++ zeros 80).take 80 ++ beBytes 4 e.prio else []
            r.1.reply h 0x0306 stOk 0 (r.2 ++ tcam)
      | _ => d.replySt h 0x0306 stBadParam

/-- TCAM_STEP: one lookup and its matches (R162). -/
def execTcamStep (h : CmdHdr) (table die start count : BitVec 8) (key : List (BitVec 8)) (s : State) :
    Host.Outcome State Fault Refusal :=
  onCmd s h 0x0307 fun d =>
    match (if die.toNat ≤ 1 then d.tbl.live.table die.toNat table.toNat else none) with
    | none => d.replySt h 0x0307 stBadParam
    | some t =>
      if key.length ≠ 80 then d.replySt h 0x0307 stBadLength
      else if t.type ≠ 4 ∨ 64 < count.toNat then d.replySt h 0x0307 stBadParam
      else
        let v := d.verCur die.toNat
        let es := t.entries.filter fun e => e.seen v v (d.verPrev die.toNat)
        let l := tcamMatches es (key.take t.cmdKeyLen)
        let multi := decide (1 < l.length)
        let tie := match l with
          | a :: b :: _ => decide (a.prio = b.prio)
          | _ => false
        let sum := beBytes 4 l.length ++ beBytes 4 ((l.head?.map (·.handle)).getD 0xFFFFFFFF) ++
          beBytes 1 (multi.toNat * 128 + tie.toNat * 64) ++ zeros 3
        let one (e : TblEntry) : List Byte := beBytes 4 e.place ++ beBytes 4 e.handle ++ beBytes 4 e.prio ++ e.result
        d.reply h 0x0307 stOk 0 (sum ++ ((l.drop start.toNat).take count.toNat).flatMap one)

/-- TBL_PROFILE_WRITE (R143). -/
def execTblProfileWrite (h : CmdHdr) (mask dir stage slot profile : BitVec 8) (entry : List (BitVec 8)) (s : State) :
    Host.Outcome State Fault Refusal :=
  onCmd s h 0x0308 fun d =>
    if entry.length ≠ 48 then d.replySt h 0x0308 stBadLength
    else d.runOp h 0x0308 (.profile mask.toNat dir.toNat stage.toNat slot.toNat profile.toNat entry)

/-- Write one entry of a parse bank. -/
def ParBank.write (b : ParBank) (kind index : Nat) (e : List Byte) : ParBank :=
  match kind with
  | 0 => { b with states := kvSet (zeros 32) index e b.states }
  | 1 => { b with trans := kvSet (zeros 12) index e b.trans }
  | 2 => { b with pats := kvSet (zeros 48) index e b.pats }
  | _ => { b with profs := kvSet [] index e b.profs }

/-- TBL_PARSE_WRITE: one entry of the inactive bank (R113, R124, R126, R133). -/
def execTblParseWrite (h : CmdHdr) (mask kind : BitVec 8) (index : BitVec 16) (entry : List (BitVec 8)) (s : State) :
    Host.Outcome State Fault Refusal :=
  onCmd s h 0x0309 fun d =>
    let dies := maskDies (mask.toNat % 4)
    let k := kind.toNat
    let i := index.toNat
    let len := if k = 0 then 32 else if k = 1 then 12 else if k = 2 then 48 else 128
    let max_ := if k = 0 then 256 else if k = 1 then 2048 else if k = 2 then 4096 else 16
    let ok := if k = 0 then stateOk entry else if k = 2 then patOk entry
      else if k = 3 then profOk entry && (decide (i ≠ 0) || ebit entry 0 7) else true
    if dies.isEmpty || decide (3 < k) || decide (max_ ≤ i) then d.replySt h 0x0309 stBadParam
    else if entry.length ≠ len then d.replySt h 0x0309 stBadLength
    else if !ok then d.replySt h 0x0309 stBadParam
    else if dies.any fun die => d.b (rPAR_STATUS die) fPAR_STATUS_OLD_BANK_BUSY then d.replySt h 0x0309 stBusy
    else
      (d.each dies fun e die =>
        let x := e.par die
        e.setPar die (if e.b (rPAR_STATUS die) fPAR_STATUS_ACTIVE_BANK then { x with bank0 := x.bank0.write k i entry }
          else { x with bank1 := x.bank1.write k i entry })).replySt h 0x0309 stOk

/-- TBL_PARSE_SWAP: the banks of the named dies swap at the next tick boundary, or with their batch (R133). -/
def execTblParseSwap (h : CmdHdr) (mask : BitVec 8) (s : State) : Host.Outcome State Fault Refusal :=
  onCmd s h 0x030A fun d =>
    let dies := maskDies (mask.toNat % 4)
    match h.batch with
    | some id => d.stageOp h 0x030A id.toNat (.parseSwap mask.toNat)
    | none =>
      if dies.isEmpty then d.replySt h 0x030A stBadParam
      else if dies.any fun die => d.b (rPAR_STATUS die) fPAR_STATUS_OLD_BANK_BUSY then d.replySt h 0x030A stBusy
      else
        (d.each dies fun e die => if e.deferred.contains (.parSwap die) then e
          else (e.defer (.parSwap die)).sb (rPAR_STATUS die) fPAR_STATUS_SWAP_PENDING true).replySt h 0x030A stOk

/-- Q_SHAPE: a queue's or a port's shaper and DRR fields (R275, R276, R433). -/
def execQShape (h : CmdHdr) (port : BitVec 16) (queue : BitVec 8) (set : ShapeSet) (s : State) : Host.Outcome State Fault Refusal :=
  onCmd s h 0x0500 fun d => d.runOp h 0x0500 (.shape port.toNat queue.toNat set)

/-- MC_WRITE: a multicast group's membership and flags (R252). -/
def execMcWrite (h : CmdHdr) (group : BitVec 16) (pruneSrc jrn copyId : Bool) (ports : BitVec 512) (pgs : BitVec 128) (s : State) :
    Host.Outcome State Fault Refusal :=
  onCmd s h 0x0502 fun d => d.runOp h 0x0502 (.mcWrite group.toNat (mcOf pruneSrc jrn copyId ports pgs))

end Sys2Proof.Machine
end

