-- ==== Sys2Proof/Machine/Host.lean ====
section
/-! DEFINITION. Machine/Host.lean: the command rings and their packets, relayed commands, punt rings, DMA channels, pools'
registers and resets of the host interface (R412 to R437, R452). -/
namespace Sys2Proof.Machine

/-! ### Command packets (R425, R433) -/

/-- Version of a command packet. -/
def cpVersion (p : List Byte) : Nat := beAt p 0 1
/-- Flags byte. -/
def cpFlags (p : List Byte) : Nat := beAt p 1 1
/-- Opcode. -/
def cpOpcode (p : List Byte) : Nat := beAt p 2 2
/-- Tag. -/
def cpTag (p : List Byte) : Nat := beAt p 4 2
/-- Target device. -/
def cpTarget (p : List Byte) : Nat := beAt p 6 2
/-- PARAM_LEN. -/
def cpLen (p : List Byte) : Nat := beAt p 8 2
/-- Execute-at deck. -/
def cpDeck (p : List Byte) : Nat := beAt p 12 8
/-- Batch id. -/
def cpBatch (p : List Byte) : Nat := beAt p 20 4
/-- Parameters. -/
def cpParams (p : List Byte) : List Byte := bytesAt p 32 (cpLen p)
/-- SCHEDULED. -/
def cpSched (p : List Byte) : Bool := decide (bits (cpFlags p) 7 7 = 1)
/-- RELAY. -/
def cpRelay (p : List Byte) : Bool := decide (bits (cpFlags p) 6 6 = 1)
/-- BATCH. -/
def cpBatched (p : List Byte) : Bool := decide (bits (cpFlags p) 5 5 = 1)

/-- Opcodes that may carry BATCH (R433). -/
def batchOpcodes : List Nat := [0x0302, 0x0303, 0x0304, 0x0305, 0x0308, 0x030A, 0x0500, 0x0502]

/-- Fixed parameter lengths of the opcodes (R433). -/
def paramLens : List (Nat × Nat) := [
  (0x0100, 0), (0x0101, 0), (0x0102, 6), (0x0103, 12), (0x0104, 2), (0x0105, 4), (0x0106, 4), (0x0108, 4), (0x0200, 5),
  (0x0202, 4), (0x0300, 33), (0x0301, 1), (0x0302, 40), (0x0303, 1), (0x0304, 176), (0x0305, 48), (0x0306, 48),
  (0x0307, 84), (0x0308, 56), (0x030A, 1), (0x0400, 68), (0x0401, 44), (0x0402, 44), (0x0403, 72), (0x0404, 44),
  (0x0405, 44), (0x0407, 2), (0x0408, 1), (0x0500, 20), (0x0501, 4), (0x0502, 84), (0x0503, 2), (0x0504, 12),
  (0x0505, 12), (0x0600, 12), (0x0601, 0), (0x0602, 4), (0x0603, 26), (0x0604, 10), (0x0605, 4), (0x0700, 12),
  (0x0701, 8), (0x0702, 8), (0x0703, 16), (0x0800, 12), (0x0801, 0), (0x0802, 0), (0x0900, 16), (0x0901, 6),
  (0x0902, 1), (0x0A00, 2), (0x0A01, 2), (0x0B00, 6), (0x0B01, 256), (0x0C00, 0), (0x0C01, 4)]

/-- Is PARAM_LEN the opcode's length (R425 check 8, R433)? -/
def paramLenOk (op n : Nat) (ps : List Byte) : Bool :=
  match paramLens.find? fun e => decide (e.1 = op) with
  | some e => decide (n = e.2)
  | none =>
    match op with
    | 0x0107 => decide (16 + 64 ≤ n) && decide (n ≤ 16 + 16383)
    | 0x0201 => decide (n = 5 + beAt ps 4 1)
    | 0x0309 => decide (n = 4 + ([32, 12, 48, 128].getD (beAt ps 1 1) 0))
    | 0x0406 => decide (n = 8 + beAt ps 6 2)
    | 0x0506 => decide (n = 4 + 2 * beAt ps 2 2)
    | 0x0803 => decide (n = 4 + 8 * beAt ps 1 1)
    | _ => true

/-- Checks 1 to 4 of R425 on a packet; `slot` is the room of its slot, none where it came by no ring. -/
def Dev.cpChecks1 (d : Dev) (p : List Byte) (slot : Option Nat) : Option Nat :=
  if cpVersion p ≠ 1 then some stBadOpcode
  else if cpFlags p % 8 ≠ 0 ∨ beAt p 10 2 ≠ 0 ∨ beAt p 24 8 ≠ 0 ∨ 2 ^ 48 ≤ cpDeck p then some stBadParam
  else if slot.any fun n => decide (n - 32 < cpLen p) then some stBadLength
  else if cpTarget p ≠ 0xFFFF ∧ cpTarget p ≠ d.devNo ∧ !cpRelay p then some stBadParam
  else none

/-- Checks 6 to 9 of R425, and the safe state's (R487). -/
def Dev.cpChecks2 (d : Dev) (p : List Byte) : Option Nat :=
  let op := cpOpcode p
  if op < 0x0100 ∨ 0x0D00 ≤ op ∨ !d.entryValid op then some stBadOpcode
  else if d.b rFLT_STATUS fFLT_STATUS_SAFE ∧ op ∉ safeOpcodes then some stNotReady
  else if (cpSched p ∧ cpDeck p = 0) ∨ (!cpSched p ∧ cpDeck p ≠ 0) ∨ (cpBatched p ∧ (cpSched p ∨ op ∉ batchOpcodes ∨ cpBatch p = 0))
    then some stBadParam
  else if !paramLenOk op (cpLen p) (cpParams p) then some stBadLength
  else if cpSched p ∧ cpDeck p ≤ d.deck then some stLate
  else none

/-! ### Commands accepted (R424, R429, R430) -/

/-- The core die with more free entries, CD0 when both have equal numbers. -/
def Dev.roomierDie (d : Dev) : Nat := if (d.rckD 1).all.length < (d.rckD 0).all.length then 1 else 0

/-- A command that ends without a task: its reply, its ring's count, its buffer. -/
def Dev.ctxEnd (d : Dev) (c : CmdCtx) (status : Nat) : Dev :=
  ((d.ctxReply c status 0 d.trk.tick []).cmdBuf c).cmdOut c.src c.pos

/-- A command's task is created, or its request waits where the reserve refuses it (R406). -/
def Dev.cmdTaskMake (d : Dev) (die : Nat) (c : CmdCtx) (deadline : Nat) : Dev :=
  if d.taskRoom die false then (d.taskCreate die { type := c.opcode, cmd := some c, deadline := deadline }).1
  else
    let x := d.rckD die
    (d.cnt (rRCK_D_CNT_LO die 7)).setRckD die { x with
      held := x.held ++ [({ type := c.opcode, ops := [], cmd := some c, deadline := deadline } : TaskReq)] }

/-- Is the device joined (R449)? -/
def Dev.joined (d : Dev) : Bool := decide (d.domState = 3) || decide (d.domState = 4)

/-- A relayed command is sent toward its target (R430, R452). -/
def Dev.cmdRelay (d : Dev) (die : Nat) (c : CmdCtx) (p : List Byte) : Dev :=
  if !d.joined then d.ctxEnd c stNotReady
  else
    let ring := match c.src with
      | .ring r => r
      | .relay _ _ | .reckoner _ _ _ => 0
    let token := ring * 2 ^ 40 + d.host.fetchSeq * 2 ^ 8 + die
    let d1 := { d with
      host := { d.host with
        fetchSeq := (d.host.fetchSeq + 1) % 2 ^ 32
        relayed := d.host.relayed ++ [({ ctx := c, token := token, deck := d.deck } : Relayed)] } }
    d1.ruleyTo 0x08 (cpTarget p) (beBytes 2 d.devNo ++ beBytes 6 token ++ bytesAt p 0 (32 + cpLen p))

/-- From check 6 on (R425): refused, held in the schedule store, or given a task. -/
def Dev.cmdRun (d : Dev) (die : Nat) (c : CmdCtx) (p : List Byte) : Dev :=
  match d.cpChecks2 p with
  | some st => d.ctxEnd c st
  | none =>
    if cpSched p then
      if 1024 ≤ d.host.store.length then d.ctxEnd c stBusy
      else { d with host := { d.host with store := d.host.store ++ [c] } }
    else d.cmdTaskMake die c 0

/-- A whole command packet is taken: checked, relayed or run. -/
def Dev.cmdAccept (d : Dev) (die : Nat) (c : CmdCtx) (p : List Byte) (slot : Option Nat) : Dev :=
  match d.cpChecks1 p slot with
  | some st => d.ctxEnd c st
  | none =>
    if cpTarget p ≠ 0xFFFF ∧ cpTarget p ≠ d.devNo then d.cmdRelay die c p else d.cmdRun die c p

/-- The context of a packet. -/
def ctxOf (src : CmdSrc) (p : List Byte) (pos : Nat) (buf : Option Nat) : CmdCtx := {
  src := src, tag := cpTag p, flags := cpFlags p, opcode := cpOpcode p, batch := cpBatch p, deck := cpDeck p,
  params := cpParams p, pos := pos, buf := buf }

/-- Commands waiting in a ring. -/
def Dev.ringHas (d : Dev) (r : Nat) : Nat := (d.rn (rDMA_CR_PROD r) + 2 ^ 32 - d.rn (rDMA_CR_CONS r)) % 2 ^ 32

/-- Slots of a ring and its reply ring. -/
def Dev.ringSize (d : Dev) (r : Nat) : Nat := 2 ^ d.f (rDMA_CR_CFG r) fDMA_CR_CFG_SIZE_LOG2

/-- Bytes of a slot. -/
def Dev.slotSize (d : Dev) (r : Nat) : Nat := 2 ^ d.f (rDMA_CR_CFG r) fDMA_CR_CFG_SLOT_LOG2

/-- May the fetcher fetch from a ring (R424)? -/
def Dev.canFetch (d : Dev) (r : Nat) : Bool :=
  let out := d.f (rDMA_CR_STATUS r) fDMA_CR_STATUS_OUT
  let used := (d.rn (rDMA_RR_WR r) + 2 ^ 32 - d.rn (rDMA_RR_RD r)) % 2 ^ 32
  let die := d.roomierDie
  d.b rDMA_CTRL fDMA_CTRL_CMD_EN && d.b rOTP_BOOT_STATUS fOTP_BOOT_STATUS_COMMAND_READY &&
  d.b (rDMA_CR_CFG r) fDMA_CR_CFG_EN && decide (0 < d.ringHas r) &&
  decide (out < d.f (rDMA_CR_CFG r) fDMA_CR_CFG_MAX_OUT) && decide (d.f rDMA_STATUS fDMA_STATUS_OUTSTANDING < 4096) &&
  decide (used + out < d.ringSize r) && (d.poolTake die 8 (d.slotSize r)).2.isSome && d.taskRoom die false

/-- The ring whose turn it is: the first from `turn` on, round robin, that can be fetched from. -/
def Dev.fetchTurn (d : Dev) : Option Nat := ((List.range 16).map fun i => (d.host.turn + i) % 16).find? d.canFetch

/-- A ring error (R424, R438). -/
def Dev.ringErr (d : Dev) (r cause : Nat) : Dev :=
  ((d.sb (rDMA_CR_STATUS r) fDMA_CR_STATUS_ERR true).sf (rDMA_CR_STATUS r) fDMA_CR_STATUS_CAUSE cause).raise eDMA_RING_ERR 0xFFFF

/-- COMMAND_FETCH (R424, R425): the ring must be the one whose turn it is. A bus error leaves the command in its slot
(DESIGN CHOICE, log entry 43). -/
def execCommandFetch (r : Fin 16) (slot : Option (List (BitVec 8))) (s : State) : Host.Outcome State Fault Refusal :=
  onDev s fun d =>
    if d.fetchTurn ≠ some r.val then d
    else
      let d0 := { d with host := { d.host with turn := (r.val + 1) % 16 } }
      match slot with
      | none => d0.ringErr r 3
      | some bytes =>
        let n := d0.slotSize r
        let p := bytesAt bytes 0 n
        let die := d0.roomierDie
        let t := d0.poolTake die 8 n
        let pos := d0.rn (rDMA_CR_CONS r)
        let d1 := ((t.1.wn (rDMA_CR_CONS r) ((pos + 1) % 2 ^ 32)).cnt (rDMA_CNT_LO 0)).pev 29 0x12
        let d2 := match t.2 with
          | some a => d1.poolWrite a p
          | none => d1
        let x := kvGet ({} : RingSt) d2.host.rings r
        let d3 := { d2 with host := { d2.host with
          rings := kvSet {} r.val { x with out := x.out ++ [(pos, decide (bits (cpFlags p) 3 3 = 1))] } d2.host.rings } }
        let d4 := (d3.sf (rDMA_CR_STATUS r) fDMA_CR_STATUS_OUT (x.out.length + 1)).sf rDMA_STATUS fDMA_STATUS_OUTSTANDING
          (d3.f rDMA_STATUS fDMA_STATUS_OUTSTANDING + 1)
        d4.cmdAccept die (ctxOf (.ring r) p pos t.2) p (some n)

/-- A write of DMA_CR_PROD (R424): refused when PROD − CONS would leave 0 to the ring size. -/
def Dev.prodWrite (d : Dev) (r v : Nat) : Dev :=
  if d.ringSize r < (v + 2 ^ 32 - d.rn (rDMA_CR_CONS r)) % 2 ^ 32 then d.ringErr r 1 else d.wn (rDMA_CR_PROD r) v

/-- CR_PROD_WRITE. -/
def execCrProdWrite (r : Fin 16) (value : BitVec 32) (s : State) : Host.Outcome State Fault Refusal :=
  onDev s fun d => d.prodWrite r value.toNat

/-- A write of DMA_RR_RD (R426, R438): from its present value up to DMA_RR_WR. -/
def Dev.rrRdWrite (d : Dev) (r v : Nat) : Dev :=
  let rd := d.rn (rDMA_RR_RD r)
  if (d.rn (rDMA_RR_WR r) + 2 ^ 32 - rd) % 2 ^ 32 < (v + 2 ^ 32 - rd) % 2 ^ 32 then d.ringErr r 2 else d.wn (rDMA_RR_RD r) v

/-- DMA_RR_RD_WRITE. -/
def execDmaRrRdWrite (r : Fin 16) (value : BitVec 32) (s : State) : Host.Outcome State Fault Refusal :=
  onDev s fun d => d.rrRdWrite r value.toNat

/-- At a deck boundary the commands scheduled for the deck go to the dispatcher, with their deadline counted from its
start; one whose deck a step has skipped completes with LATE (R39, R41, R429). -/
def Dev.schedRelease (d : Dev) : Dev :=
  let due := d.host.store.filter fun c => decide (c.deck ≤ d.deck)
  let d1 := { d with host := { d.host with store := d.host.store.filter fun c => !decide (c.deck ≤ d.deck) } }
  d1.each due fun e c =>
    if c.deck < e.deck then e.ctxEnd c stLate
    else e.cmdTaskMake e.roomierDie c (e.trk.tick + e.f rRCK_CMD_CFG fRCK_CMD_CFG_DEADLINE)

/-- CMD_LATE (R49, R51): a released scheduled command that has not begun by the end of its deck completes with LATE. -/
def execCmdLate (die : Fin 2) (s : State) : Host.Outcome State Fault Refusal :=
  onDev s fun d =>
    let beyond (c : Option CmdCtx) : Bool := c.any fun c => decide (c.deck ≠ 0) && decide (c.deck < d.deck)
    match (d.rckD die).held.find? fun h => beyond h.cmd with
    | some h =>
      let x := d.rckD die
      match h.cmd with
      | some c => ((d.setRckD die { x with held := x.held.erase h }).late 7).ctxEnd c stLate
      | none => d
    | none => match (d.rckD die).all.find? fun e => !e.2.begun && beyond e.2.cmd with
      | some (i, t) => match t.cmd with
        | some c => (((d.late 7).ctxEnd c stLate).taskFree die i)
        | none => d
      | none => d

/-! ### Relayed commands (R430, R452, R453) -/

/-- A message for another device is passed on (R452): by the tree, by flooding where the tree offers no path, or
dropped. -/
def Dev.routeOn (d : Dev) (m : DomMsg) : Dev :=
  match d.routeTo m.dst with
  | some p => if p = m.port then d.cnt (rDOM_CNT_LO 7) else (d.relayOn p m).cnt (rDOM_CNT_LO 4)
  | none => if d.b rDOM_CTRL fDOM_CTRL_FALLBACK_EN then d.floodMsg m else d.cnt (rDOM_CNT_LO 7)

/-- RULEY_CMD (R430, R452): routed onward, or taken from check 6 on at its target; a buffer of owner 8 holds it when one
is free. -/
def execRuleyCmd (die : Fin 2) (s : State) : Host.Outcome State Fault Refusal :=
  onLive s fun d0 => match d0.domTake die 0x08 with
    | none => d0
    | some (m, d) =>
      if d.domState = 0 || m.body.length < 40 then d
      else if m.dst ≠ d.devNo then d.routeOn m
      else
        let p := m.body.drop 8
        let tgt := d.roomierDie
        let t := d.poolTake tgt 8 p.length
        let d1 := match t.2 with
          | some a => t.1.poolWrite a p
          | none => t.1
        d1.cmdRun tgt (ctxOf (.relay (beAt m.body 0 2) (beAt m.body 2 6)) p 0 t.2) p

/-- RULEY_REPLY (R430, R452): routed back, or written into the slot its command reserved; a token of no outstanding
command is counted and discarded. -/
def execRuleyReply (die : Fin 2) (s : State) : Host.Outcome State Fault Refusal :=
  onLive s fun d0 => match d0.domTake die 0x09 with
    | none => d0
    | some (m, d) =>
      if d.domState = 0 || m.body.length < 24 then d
      else if m.dst ≠ d.devNo then d.routeOn m
      else match d.host.relayed.find? fun x => decide (x.token = beAt m.body 0 6) with
        | none => (d.cnt (rDOM_CNT_LO 8)).cnt (rDMA_CNT_LO 7)
        | some x =>
          let d1 := { d with host := { d.host with relayed := d.host.relayed.erase x } }
          let b := m.body.drop 8
          ((d1.ctxReply x.ctx (beAt b 2 2) (beAt b 6 1 % 128) (beAt b 8 8) (bytesAt b 16 (beAt b 4 2))).cmdBuf x.ctx).cmdOut
            x.ctx.src x.ctx.pos

/-- RELAY_TIMEOUT (R430): the oldest relayed command without a reply for RELAY_DECKS decks completes with TIMEOUT. -/
def execRelayTimeout (s : State) : Host.Outcome State Fault Refusal :=
  onDev s fun d => match d.host.relayed.find? fun x =>
      decide (x.deck + d.f rDMA_CMD_CFG fDMA_CMD_CFG_RELAY_DECKS ≤ d.deck) with
    | none => d
    | some x => ({ d with host := { d.host with relayed := d.host.relayed.erase x } }).ctxEnd x.ctx stTimeout

/-! ### Punts and inject notes (R395, R402, R432) -/

/-- The 32 bytes of a remainder descriptor (R130). -/
def Dev.rmdBytes (d : Dev) (e : RmdDesc) : List Byte :=
  let fr := d.fr e.frame
  beBytes 2 e.port ++ beBytes 1 e.profile ++ beBytes 1 e.flags ++ beBytes 2 e.reason ++
  beBytes 2 (if fr.ended then fr.bytes.length else 0) ++ beBytes 12 fr.ts ++ beBytes 2 fr.unc ++ beBytes 2 e.depth ++
  beBytes 1 e.steps ++ beBytes 1 e.lastState ++ beBytes 2 (if fr.bad = 0 then 0 else 0x8000) ++ beBytes 4 e.handle

/-- A frame goes to its punt ring, or is dropped when the ring is full or disabled or owner 9 gets no buffer (R432, R436). -/
def Dev.punt (d : Dev) (die : Nat) (e : RmdDesc) : Dev :=
  let map := if e.profile < 8 then d.rn rDMA_PUNT_MAP_LO else d.rn rDMA_PUNT_MAP_HI
  let q := bits map (4 * (e.profile % 8) + 3) (4 * (e.profile % 8))
  let fr := d.fr e.frame
  let wr := d.rn (rDMA_PUNT_WR q)
  let size := 2 ^ d.f (rDMA_PUNT_CFG q) fDMA_PUNT_CFG_SIZE_LOG2
  let slot := 2 ^ d.f (rDMA_PUNT_CFG q) fDMA_PUNT_CFG_SLOT_LOG2
  let t := d.poolTake die 9 fr.bytes.length
  if !d.b (rDMA_PUNT_CFG q) fDMA_PUNT_CFG_EN ∨ size ≤ (wr + 2 ^ 32 - d.rn (rDMA_PUNT_RD q)) % 2 ^ 32 then
    let d1 := d.cnt (rDMA_CNT_LO 4)
    if d1.host.puntFull.contains q then d1
    else ({ d1 with host := { d1.host with puntFull := q :: d1.host.puntFull } }).raise eDMA_PUNT_DROP 0xFFFF
  else match t.2 with
    | none => t.1.cnt (rDMA_CNT_LO 4)
    | some a =>
      let base := d.rdPair (rDMA_PUNT_BASE_LO q) (rDMA_PUNT_BASE_HI q)
      let bs := d.rmdBytes e ++ fr.bytes.take (slot - 32)
      let d1 := { t.1 with
        out := { t.1.out with hostMem := memWrite t.1.out.hostMem (base + slot * (wr % size)) bs }
        host := { t.1.host with puntFull := t.1.host.puntFull.filter (· ≠ q) } }
      (((d1.wn (rDMA_PUNT_WR q) ((wr + 1) % 2 ^ 32)).cnt (rDMA_CNT_LO 3)).irqTry (80 + q)).poolReturn 9 a

/-- REMAINDER_TASK (R130, R402, R432): the oldest remainder or COPY_HOST entry of a die whose frame has ended is dropped
when it ended badly, punted, or handed to user type 0x0F00 as its four operands. -/
def execRemainderTask (die : Fin 2) (s : State) : Host.Outcome State Fault Refusal :=
  onLive s fun d =>
    let x := d.par die
    match x.rmd.find? fun e => (d.fr e.frame).ended with
    | none => d
    | some e =>
      let fr := d.fr e.frame
      let d1 := if d.b rRCK_OPEN_CTRL fRCK_OPEN_CTRL_RMD_USER && d.b rRCK_STATUS fRCK_STATUS_USER_ON then
          (d.taskCreate die {
            type := 0x0F00, ops := (List.range 4).map fun i => beAt (d.rmdBytes e) (8 * i) 8 }).1
        else if fr.bad ≠ 0 then d
        else d.punt die e
      let y := d1.par die
      let d2 := (d1.setPar die { y with rmd := y.rmd.erase e }).rmdReport die
      (d2.dropRef die e.frame).taskDone die 0x02

/-- INJECT_NOTE_TASK (R395, R408): the note has reached its die; its task ends. -/
def execInjectNoteTask (die : Fin 2) (s : State) : Host.Outcome State Fault Refusal :=
  onLive s fun d => d.taskDone die 0x03

/-- INJECT_LATE (R43, R51): the oldest inject of a column that has waited TCK_INJECT_WAIT ticks is dropped, and its
reckoner told. -/
def execInjectLate (col : Fin 16) (s : State) : Host.Outcome State Fault Refusal :=
  onDev s fun d => match d.path.injects.find? fun i => decide (i.col = col.val) with
    | none => d
    | some i =>
      if d.trk.tick < i.tick + d.lf rTCK_INJECT_WAIT fTCK_INJECT_WAIT_WAIT then d
      else
        let d1 := ({ d with path := { d.path with injects := d.path.injects.erase i } }).late 8
        let d2 := match i.task, i.buf with
          | some t, some a => d1.taskRaise (t / 16384 % 2) 0x03 [a]
          | _, _ => d1
        d2.bufGive i.buf

/-! ### DMA channels (R418 to R423) -/

/-- What a channel keeps beside its registers. -/
def Dev.chan (d : Dev) (n : Nat) : ChanSt := kvGet {} d.host.chans n

/-- Replace it. -/
def Dev.setChan (d : Dev) (n : Nat) (x : ChanSt) : Dev :=
  { d with host := { d.host with chans := kvSet {} n x d.host.chans } }

/-- STATE of a channel. -/
def Dev.chanState (d : Dev) (n : Nat) : Nat := d.f (rDMA_CH_STATUS n) fDMA_CH_STATUS_STATE

/-- Set it. -/
def Dev.setChanState (d : Dev) (n st : Nat) : Dev := d.sf (rDMA_CH_STATUS n) fDMA_CH_STATUS_STATE st

/-- A halt (R422). -/
def Dev.chanHalt (d : Dev) (n cause addr : Nat) (write onDesc : Bool) : Dev :=
  let a := rDMA_CH_STATUS n
  let d1 := ((((d.setChanState n 2).sf a fDMA_CH_STATUS_CAUSE cause).sb a fDMA_CH_STATUS_ERR_DIR write).sb a
    fDMA_CH_STATUS_ERR_DESC onDesc)
  ((d1.wrPair (rDMA_CH_ERR_LO n) (rDMA_CH_ERR_HI n) addr).irqTry n).raise eDMA_CHAN_HALT n

/-- A transfer the channel refuses before it issues anything (R418, R422): cause, address and direction. -/
def Dev.dmaBad (d : Dev) (ss src ds dst len : Nat) : Option (Nat × Nat × Bool) :=
  let out (sp a : Nat) : Bool := (decide (sp = 1) && !poolOk a len) ||
    (decide (sp = 2) && (decide (bits a 63 61 = 0) || decide (5 < bits a 63 61) || !d.hbmIn a len))
  if 2 < ss then some (7, src, false)
  else if 2 < ds then some (7, dst, true)
  else if ss = 0 ∧ ds = 0 then some (7, src, false)
  else if out ss src then some (5, src, false)
  else if out ds dst then some (5, dst, true)
  else none

/-- Does a transfer touch a frozen stack (R376)? -/
def Dev.dmaFrozen (d : Dev) (ss src ds dst : Nat) : Bool :=
  (decide (ss = 2) && d.frozen (bits src 60 59)) || (decide (ds = 2) && d.frozen (bits dst 60 59))

/-- Move bytes (R419): `data` is what a host source holds. -/
def Dev.dmaMove (d : Dev) (ss src ds dst len : Nat) (data : List Byte) : Dev :=
  let bs := match ss with
    | 0 => bytesAt data 0 len
    | 1 => d.poolRead src len
    | _ => d.hbmRead src len
  match ds with
  | 0 => { d with out := { d.out with hostMem := memWrite d.out.hostMem dst bs } }
  | 1 => d.poolWrite dst bs
  | _ => d.hbmWrite dst bs

/-- Does the channel belong to the journal (R418)? -/
def Dev.chanJrn (d : Dev) (n : Nat) : Bool :=
  decide (d.f rJRN_CTRL fJRN_CTRL_DRAIN = 1) && decide (d.f rJRN_DMA_CFG fJRN_DMA_CFG_CHANNEL = n)

/-- Source and destination of a direct transfer: spaces and addresses. -/
def Dev.direct (d : Dev) (n : Nat) : Nat × Nat × Nat × Nat :=
  (d.f (rDMA_CH_CTRL n) fDMA_CH_CTRL_SRC_SPACE, d.rdPair (rDMA_CH_SRC_LO n) (rDMA_CH_SRC_HI n),
   d.f (rDMA_CH_CTRL n) fDMA_CH_CTRL_DST_SPACE, d.rdPair (rDMA_CH_DST_LO n) (rDMA_CH_DST_HI n))

/-- The fields of DMA_CH_CTRL that a write sets: MODE 3 and any write while RUNNING are ignored (R423, R438). -/
def Dev.chanFields (d : Dev) (n v : Nat) : Dev :=
  if d.chanState n = 1 then d
  else
    let d1 := if bits v 29 28 = 3 then d else d.sf (rDMA_CH_CTRL n) fDMA_CH_CTRL_MODE (bits v 29 28)
    (d1.sf (rDMA_CH_CTRL n) fDMA_CH_CTRL_SRC_SPACE (bits v 26 24)).sf (rDMA_CH_CTRL n) fDMA_CH_CTRL_DST_SPACE (bits v 23 21)

/-- START (R418 to R423). -/
def Dev.chanStart (d : Dev) (n : Nat) : Dev :=
  if d.chanJrn n ∨ d.chanState n ≠ 0 then d.classA 0
  else
    let a := rDMA_CH_STATUS n
    let d1 := ((((d.setChan n { hops := 0, next := d.rdPair (rDMA_CH_DESC_LO n) (rDMA_CH_DESC_HI n) }).setChanState n 1).sf a
      fDMA_CH_STATUS_CAUSE 0).sf a fDMA_CH_STATUS_ERR_DIR 0).sf a fDMA_CH_STATUS_ERR_DESC 0
    let d2 := (d1.sf a fDMA_CH_STATUS_DESCS 0).wrPair (rDMA_CH_ERR_LO n) (rDMA_CH_ERR_HI n) 0
    if d2.f (rDMA_CH_CTRL n) fDMA_CH_CTRL_MODE ≠ 0 then d2
    else
      let t := d2.direct n
      let len := d2.rn (rDMA_CH_COUNT n)
      match d2.dmaBad t.1 t.2.1 t.2.2.1 t.2.2.2 len with
      | some (c, x, w) => d2.chanHalt n c x w false
      | none =>
        if len = 0 then
          (((d2.sb a fDMA_CH_STATUS_DONE true).sb a fDMA_CH_STATUS_ZERO true).setChanState n 0).irqTry n
        else d2

/-- DISABLE (R423): COUNT, DESCS and RING_HEAD are then undefined: free values. -/
def Dev.chanDisable (d : Dev) (n : Nat) : Dev :=
  ((((d.used 3).wn (rDMA_CH_COUNT n) (d.free (2 ^ 32))).wn (rDMA_CH_RING_HEAD n) (d.freeAt 1 (2 ^ 32))).sf (rDMA_CH_STATUS n)
    fDMA_CH_STATUS_DESCS (d.freeAt 2 65536)).setChanState n 0

/-- A write of DMA_CH_CTRL (R423): DISABLE wins over START. -/
def Dev.chanWrite (d : Dev) (n v : Nat) : Dev :=
  let d1 := d.chanFields n v
  if bits v 30 30 = 1 then d1.chanDisable n else if bits v 31 31 = 1 then d1.chanStart n else d1

/-- DMA_START: a write with START set. -/
def execDmaStart (n : Fin 64) (value : BitVec 32) (s : State) : Host.Outcome State Fault Refusal :=
  onDev s fun d => d.chanWrite n (putBits value.toNat 31 31 1)

/-- DMA_DISABLE: a write with DISABLE set. -/
def execDmaDisable (n : Fin 64) (value : BitVec 32) (s : State) : Host.Outcome State Fault Refusal :=
  onDev s fun d => d.chanWrite n (putBits value.toNat 30 30 1)

/-- Descriptors of a channel's ring. -/
def Dev.chanRing (d : Dev) (n : Nat) : Nat := 2 ^ d.f (rDMA_CH_RING_CFG n) fDMA_CH_RING_CFG_RING_SIZE_LOG2

/-- A write of DMA_CH_RING_TAIL (R420, R421). -/
def Dev.tailWrite (d : Dev) (n v : Nat) : Dev :=
  if d.chanRing n < (v + 2 ^ 32 - d.rn (rDMA_CH_RING_HEAD n)) % 2 ^ 32 then d.classA 0
  else
    let d1 := d.wn (rDMA_CH_RING_TAIL n) v
    if v = d.rn (rDMA_CH_RING_TAIL n) then d1 else d1.setChan n { d1.chan n with hops := 0 }

/-- DMA_RING_TAIL_WRITE. -/
def execDmaRingTailWrite (n : Fin 64) (value : BitVec 32) (s : State) : Host.Outcome State Fault Refusal :=
  onDev s fun d => d.tailWrite n value.toNat

/-- DMA_TRANSFER_DONE (R419): the direct transfer of a running channel completes. -/
def execDmaTransferDone (n : Fin 64) (data : List (BitVec 8)) (s : State) : Host.Outcome State Fault Refusal :=
  onDev s fun d =>
    let t := d.direct n
    if d.chanState n ≠ 1 ∨ d.f (rDMA_CH_CTRL n) fDMA_CH_CTRL_MODE ≠ 0 ∨ d.dmaFrozen t.1 t.2.1 t.2.2.1 t.2.2.2 then d
    else
      let d1 := (d.dmaMove t.1 t.2.1 t.2.2.1 t.2.2.2 (d.rn (rDMA_CH_COUNT n)) data).wn (rDMA_CH_COUNT n) 0
      ((d1.sb (rDMA_CH_STATUS n) fDMA_CH_STATUS_DONE true).setChanState n 0).irqTry n

/-- Address of the descriptor in progress or next (R420). -/
def Dev.descAddr (d : Dev) (n : Nat) : Nat :=
  if d.f (rDMA_CH_CTRL n) fDMA_CH_CTRL_MODE = 1 then (d.chan n).next
  else d.rdPair (rDMA_CH_DESC_LO n) (rDMA_CH_DESC_HI n) + 32 * (d.rn (rDMA_CH_RING_HEAD n) % d.chanRing n)

/-- Status written back to a descriptor. -/
def Dev.descStatus (d : Dev) (at_ st : Nat) : Dev :=
  { d with out := { d.out with hostMem := memWrite d.out.hostMem (at_ + 22) (beBytes 2 st) } }

/-- Is there a descriptor to process: a running chain, or a running ring whose head has not reached the tail? -/
def Dev.descDue (d : Dev) (n : Nat) : Bool :=
  decide (d.chanState n = 1) &&
  (decide (d.f (rDMA_CH_CTRL n) fDMA_CH_CTRL_MODE = 1) ||
   (decide (d.f (rDMA_CH_CTRL n) fDMA_CH_CTRL_MODE = 2) && decide (d.rn (rDMA_CH_RING_HEAD n) ≠ d.rn (rDMA_CH_RING_TAIL n))))

/-- The channel's hop limit (R421). -/
def Dev.hopLimit (d : Dev) (n : Nat) : Nat :=
  let l := d.f (rDMA_CH_HOP n) fDMA_CH_HOP_LIMIT
  if l = 0 then 65536 else l

/-- After a descriptor at `at_` (R420, R421): its interrupt, the chain's end, the next one, or the hop limit. -/
def Dev.descNext (d : Dev) (n at_ ctl next : Nat) : Dev :=
  let chain := decide (d.f (rDMA_CH_CTRL n) fDMA_CH_CTRL_MODE = 1)
  let x := d.chan n
  let d1 := (d.cntF (rDMA_CH_STATUS n) fDMA_CH_STATUS_DESCS).setChan n { hops := x.hops + 1, next := next }
  let d2 := if chain then d1 else d1.wn (rDMA_CH_RING_HEAD n) ((d.rn (rDMA_CH_RING_HEAD n) + 1) % 2 ^ 32)
  let d3 := d2.when (decide (bits ctl 14 14 = 1)) fun e => e.irqTry n
  let beyond := if chain then decide (bits ctl 15 15 = 1) else decide (d3.rn (rDMA_CH_RING_HEAD n) = d3.rn (rDMA_CH_RING_TAIL n))
  if beyond then if chain then (d3.sb (rDMA_CH_STATUS n) fDMA_CH_STATUS_DONE true).setChanState n 0 else d3
  else if d3.hopLimit n ≤ x.hops + 1 then d3.chanHalt n 6 at_ false false
  else d3

/-- DMA_DESCRIPTOR_DONE (R420, R421): the next descriptor of a chain or ring is carried out and written back. -/
def execDmaDescriptorDone (n : Fin 64) (desc data : List (BitVec 8)) (s : State) : Host.Outcome State Fault Refusal :=
  onDev s fun d =>
    if !d.descDue n then d
    else
      let at_ := d.descAddr n
      let len := beAt desc 16 4
      let ctl := beAt desc 20 2
      let ss := bits ctl 13 11
      let ds := bits ctl 10 8
      let src := beAt desc 0 8
      let dst := beAt desc 8 8
      if len = 0 then (d.descStatus at_ 2).descNext n at_ ctl (beAt desc 24 8)
      else match d.dmaBad ss src ds dst len with
        | some (c, x, w) => (d.descStatus at_ 3).chanHalt n c x w false
        | none =>
          if d.dmaFrozen ss src ds dst then d
          else ((d.dmaMove ss src ds dst len data).descStatus at_ 1).descNext n at_ ctl (beAt desc 24 8)

/-- A running channel is stopped by the bus (R422): what it had moved stands, and the descriptor in progress is written
back with ERROR unless the error lay on its own fetch. -/
def Dev.chanStop (d : Dev) (n cause addr : Nat) (write onDesc : Bool) (desc : List Byte) (moved : Nat) (data : List Byte) : Dev :=
  if d.chanState n ≠ 1 then d
  else if d.f (rDMA_CH_CTRL n) fDMA_CH_CTRL_MODE = 0 then
    let t := d.direct n
    let m := min moved (d.rn (rDMA_CH_COUNT n))
    let d1 := (d.dmaMove t.1 t.2.1 t.2.2.1 t.2.2.2 m data).wn (rDMA_CH_COUNT n) (d.rn (rDMA_CH_COUNT n) - m)
    d1.chanHalt n cause addr write false
  else if onDesc then d.chanHalt n cause addr write true
  else
    let ctl := beAt desc 20 2
    let m := min moved (beAt desc 16 4)
    let ok := (d.dmaBad (bits ctl 13 11) (beAt desc 0 8) (bits ctl 10 8) (beAt desc 8 8) m).isNone
    let d1 := if ok then d.dmaMove (bits ctl 13 11) (beAt desc 0 8) (bits ctl 10 8) (beAt desc 8 8) m data else d
    (d1.descStatus (d.descAddr n) 3).chanHalt n cause addr write false

/-- DMA_HALT (R422): BUS_ERR, WR_FLUSH or SELF_ADDR. -/
def execDmaHalt (n : Fin 64) (cause : HaltCause) (addr : BitVec 64) (write onDesc : Bool) (desc : List (BitVec 8))
    (moved : Nat) (data : List (BitVec 8)) (s : State) : Host.Outcome State Fault Refusal :=
  onDev s fun d => match cause with
    | .busErr => d.chanStop n 1 addr.toNat false onDesc desc moved data
    | .wrFlush => d.chanStop n 3 addr.toNat true onDesc desc moved data
    | .selfAddr => d.chanStop n 4 addr.toNat write onDesc desc 0 data

/-- CPL_TIMEOUT (R422). -/
def execCplTimeout (n : Fin 64) (addr : BitVec 64) (onDesc : Bool) (desc : List (BitVec 8)) (moved : Nat)
    (data : List (BitVec 8)) (s : State) : Host.Outcome State Fault Refusal :=
  onDev s fun d => d.chanStop n 2 addr.toNat false onDesc desc moved data

/-! ### Interrupts and resets of the interface (R415, R416) -/

/-- IRQ_HOLDOFF_END (R416). -/
def execIrqHoldoffEnd (s' : Fin 128) (s : State) : Host.Outcome State Fault Refusal :=
  onDev s fun d => if (kvGet ({} : IrqSt) d.irq s').waiting then d.irqTry s' else d

/-- Registers of the rings: DMA_CTRL, the event ring's, the command and reply rings', the punt rings' (R415, R438). -/
def ringReg (a : Nat) : Bool :=
  let o := a - 0xD00000
  decide (0xD00000 ≤ a) &&
  (decide (o = 0) || (decide (0x10 ≤ o) && decide (o < 0x24)) || (decide (0x1000 ≤ o) && decide (o < 0x2200)))

/-- The host interface is reset (R415): channels disabled, rings disabled and their registers and the MSI-X table at
reset, replies of dispatched commands discarded, scheduled commands and open batches discarded and counted. -/
def Dev.hostReset (d : Dev) : Dev :=
  let d1 := d.each (List.range 64) fun e n => if e.chanState n = 0 then e else e.chanDisable n
  let dead (c : CmdCtx) : CmdCtx := match c.src with
    | .ring _ => { c with dead := true }
    | .relay _ _ | .reckoner _ _ _ => c
  let tasks (x : RckDie) : RckDie := { x with
    tasks := x.tasks.map fun e => (e.1, e.2.map fun t => { t with cmd := t.cmd.map dead })
    held := x.held.map fun h => { h with cmd := h.cmd.map dead } }
  let own (c : CmdCtx) : Bool := match c.src with
    | .ring _ => true
    | .relay _ _ | .reckoner _ _ _ => false
  let gone := d1.host.store.filter own
  let open_ := d1.batches.filter fun b => b.2.commit.isNone
  let d2 := { d1 with
    regs := d1.regs.filter (fun e => !ringReg e.1), msix := [], evtDropped := 0
    rck := { d1.rck with die0 := tasks d1.rck.die0, die1 := tasks d1.rck.die1 }
    host := { d1.host with
      rings := [], turn := 0, puntFull := [], drainOff := true, store := d1.host.store.filter fun c => !own c
      relayed := d1.host.relayed.map fun (r : Relayed) => { r with ctx := dead r.ctx } } }
  let d3 := (d2.each gone fun e c => e.cmdBuf c).each open_ fun e b => e.setBatch b.1 none
  (d3.swapReport.sf rDMA_STATUS fDMA_STATUS_OUTSTANDING 0).cnt (rDMA_CNT_LO 7) (gone.length + open_.length)

/-- FUNCTION_LEVEL_RESET. -/
def execFunctionLevelReset (s : State) : Host.Outcome State Fault Refusal :=
  onDev s fun d => d.hostReset.sb rDMA_STATUS fDMA_STATUS_FLR_SEEN true

/-- PCIE_LINK_LOSS: a class A fault as well. -/
def execPcieLinkLoss (s : State) : Host.Outcome State Fault Refusal :=
  onDev s fun d =>
    let d1 := { d.hostReset with host := { d.hostReset.host with linkUp := false } }
    (((d1.sb rDMA_STATUS fDMA_STATUS_LINK_LOST true).sf rDMA_STATUS fDMA_STATUS_GEN 0).sf rDMA_STATUS fDMA_STATUS_WIDTH 0).classA 0

/-! ### Pools (R434, R435, R437) -/

/-- Sum of the owners' minima in a pool. -/
def Dev.minSum (d : Dev) (die p : Nat) : Nat := ((List.range 16).map fun o => d.poolMin die o p).sum

/-- A write of POOL_SPLIT (R434). -/
def Dev.splitWrite (d : Dev) (die v : Nat) : Dev :=
  let total := ((List.range 4).map (splitShare v)).sum
  if !(d.pool die).held.isEmpty ∨ 32 < total ∨ (List.range 4).any fun p => decide (splitCount v p < d.minSum die p) then
    d.sb (rPOOL_STATUS die) fPOOL_STATUS_SPLIT_ERR true
  else d.wn (rPOOL_SPLIT die) v

/-- POOL_SPLIT_WRITE. -/
def execPoolSplitWrite (die : Fin 2) (value : BitVec 32) (s : State) : Host.Outcome State Fault Refusal :=
  onDev s fun d => d.splitWrite die value.toNat

/-- A write of POOL_MIN_A or POOL_MIN_B (R435). -/
def Dev.minWrite (d : Dev) (die o : Nat) (b : Bool) (v : Nat) : Dev :=
  let d1 := d.wn (if b then rPOOL_MIN_B die o else rPOOL_MIN_A die o) v
  let p := if b then 2 else 0
  if splitCount (d.rn (rPOOL_SPLIT die)) p < d1.minSum die p ∨ splitCount (d.rn (rPOOL_SPLIT die)) (p + 1) < d1.minSum die (p + 1)
  then d.sb (rPOOL_STATUS die) fPOOL_STATUS_RESV_ERR true
  else d1

/-- POOL_MIN_WRITE. -/
def execPoolMinWrite (die : Fin 2) (owner : Fin 16) (b : Bool) (value : BitVec 32) (s : State) : Host.Outcome State Fault Refusal :=
  onDev s fun d => d.minWrite die owner b value.toNat

/-- POOL_BUFFER_RETURN (R437). -/
def execPoolBufferReturn (owner : Fin 16) (addr : BitVec 32) (s : State) : Host.Outcome State Fault Refusal :=
  onDev s fun d => d.poolReturn owner addr.toNat

/-- Pools report their free and held buffers after a split has taken effect (R434). -/
def Dev.poolTick (d : Dev) : Dev :=
  d.each [0, 1] fun e die => if e.poolCount die 0 = splitCount (e.rn (rPOOL_SPLIT die)) 0 ∧
      e.f (rPOOL_FREE_A die) fPOOL_FREE_A_HI = e.poolCount die 0 - (e.pool die).inUse 0 ∧
      e.f (rPOOL_FREE_A die) fPOOL_FREE_A_LO = e.poolCount die 1 - (e.pool die).inUse 1 ∧
      e.f (rPOOL_FREE_B die) fPOOL_FREE_B_HI = e.poolCount die 2 - (e.pool die).inUse 2 ∧
      e.f (rPOOL_FREE_B die) fPOOL_FREE_B_LO = e.poolCount die 3 - (e.pool die).inUse 3 then e
    else e.poolReport die 0

end Sys2Proof.Machine
end

