-- ==== Sys2Proof/Machine/Journal.lean ====
section
/-! DEFINITION. Machine/Journal.lean: the commands of the tally journal (R341 to R358). -/
namespace Sys2Proof.Machine

/-- JOURNAL_ROW_WRITE (R340, R341): staged records go to the ring, up to the end of its current row of 16. -/
def execJournalRowWrite (die : Fin 2) (s : State) : Host.Outcome State Fault Refusal :=
  onDev s fun d =>
    if (d.jrn.die die).staging.isEmpty then d
    else
      let d1 := (d.jrnStore die (16 - d.jrnWr die % 16)).pev (30 + die) 0x11
      if d1.f rJRN_CTRL fJRN_CTRL_DRAIN = 0 then d1 else d1.taskRaise die 0x1A []

/-- JOURNAL_ENABLE (R348): a write of JRN_CTRL with EN 1. -/
def execJournalEnable (value : BitVec 32) (s : State) : Host.Outcome State Fault Refusal :=
  onDev s fun d => if bits value.toNat 31 31 = 1 then d.jrnCtrlWrite value.toNat else d

/-- JOURNAL_DISABLE (R348): a write of JRN_CTRL with EN 0; an ACTIVE journal closes at the next deck boundary. -/
def execJournalDisable (value : BitVec 32) (s : State) : Host.Outcome State Fault Refusal :=
  onDev s fun d => if bits value.toNat 31 31 = 0 then d.jrnCtrlWrite value.toNat else d

/-- JRN_ROOT_TASK (R351): a die's root over the oldest closed set that has none; with both roots the sum task follows. -/
def execJrnRootTask (die : Fin 2) (s : State) : Host.Outcome State Fault Refusal :=
  onLive s fun d =>
    match d.jrn.closed.find? fun c => if die.val = 0 then c.root0.isNone else c.root1.isNone with
    | none => d
    | some c =>
      let d1 := d.setClosed c.deck fun x =>
        if die.val = 0 then { x with root0 := some (merkleRoot x.recs0) } else { x with root1 := some (merkleRoot x.recs1) }
      let d2 := (d1.taskDone die 0x18).pev (30 + die) 0x14
      if (if die.val = 0 then c.root1.isSome else c.root0.isSome) then d2.taskRaise 0 0x19 [c.deck] else d2

/-- JRN_SUM_TASK (R352, R353, R357): S(D) of the oldest set with both roots; sets whose children are settled are stored. -/
def execJrnSumTask (s : State) : Host.Outcome State Fault Refusal :=
  onLive s fun d =>
    let d1 := match d.jrn.closed.find? fun c => c.sum.isNone with
      | none => d
      | some c =>
        if c.root0.isSome && c.root1.isSome then
          let sum := deckSum d.jrn.prev c
          let e := d.setClosed c.deck fun x => { x with sum := some sum }
          ({ e with jrn := { e.jrn with prev := sum } }).wrPair rJRN_SUM_DECK_LO rJRN_SUM_DECK_HI c.deck
        else d
    (d1.jrnFinish d1.jrn.closed.length).taskDone 0 0x19

/-- DOMAIN_SUM_DEADLINE (R357): children whose sums have not come are recorded LATE. -/
def execDomainSumDeadline (s : State) : Host.Outcome State Fault Refusal :=
  onLive s fun d =>
    match d.jrn.closed.find? fun c => c.sum.isSome && !c.waiting.isEmpty &&
        decide (d.sumDeadline c.deck d.sumDepth < d.deck) with
    | none => d
    | some c =>
      let d1 := d.setClosed c.deck fun x => x.waiting.foldl (fun y k => ClosedSet_settle y k 2 []) x
      d1.jrnFinish d1.jrn.closed.length

/-- Where the next records to drain begin (R344): past the frames on their way, after those that were lost unsent. -/
def Dev.drainFrom (d : Dev) (die : Nat) : Nat :=
  match (d.jrn.draining.filter fun e => decide (e.2.1 = die)).getLast? with
  | some (_, _, first, n) => first + n
  | none => d.jrnRd die

/-- JRN_DRAIN_TASK (R344, R345): under DRAIN 1 whole rows go to the host ring of the journal's channel, and the drained
count follows; under DRAIN 2 one journal frame is queued for the drain port. -/
def execJrnDrainTask (die : Fin 2) (rows : Nat) (s : State) : Host.Outcome State Fault Refusal :=
  onLive s fun d =>
    let mode := d.f rJRN_CTRL fJRN_CTRL_DRAIN
    if mode = 1 then
      let ch := d.f rJRN_DMA_CFG fJRN_DMA_CFG_CHANNEL
      let rd := d.jrnRd die
      let n := 16 * min rows ((d.jrnWr die - rd) / 16)
      if n = 0 || d.host.drainOff || d.f (rDMA_CH_STATUS ch) fDMA_CH_STATUS_STATE = 2 then d.taskDone die 0x1A
      else
        let base := d.rdPair (rDMA_CH_DST_LO ch) (rDMA_CH_DST_HI ch)
        let size := d.rn (rDMA_CH_COUNT ch)
        let put (x : Dev) (r : List Byte) : Dev :=
          let at_ := if size = 0 then x.jrn.dmaPos else x.jrn.dmaPos % size
          { x with
            out := { x.out with hostMem := memWrite x.out.hostMem (base + at_) r }, jrn := { x.jrn with dmaPos := x.jrn.dmaPos + 64 } }
        let d1 := d.each (d.jrnRecs die rd n) put
        ((d1.wrPair (rJRN_RD_LO die) (rJRN_RD_HI die) (rd + n)).jrnJudge die).taskDone die 0x1A
    else if mode = 2 then
      let d0 := { d with jrn := { d.jrn with draining := d.jrn.draining.filter fun e => (d.frame e.1).isSome } }
      let first := d0.drainFrom die
      let p := d0.f rJRN_PORT_CFG fJRN_PORT_CFG_PORT
      let n := min (d0.f rJRN_PORT_CFG fJRN_PORT_CFG_RECS) (d0.jrnWr die - first)
      if n = 0 then d0.taskDone die 0x1A
      else
        let bytes := (d0.jrn.portAddr ++ zeros 12).take 12 ++ beBytes 2 (d0.f rJRN_PORT_ETYPE fJRN_PORT_ETYPE_ETYPE) ++ [1] ++
          beBytes 1 die ++ beBytes 2 d0.devNo ++ beBytes 2 n ++ beBytes 8 (2 * first + die) ++ (d0.jrnRecs die first n).flatten
        let t := d0.poolTake (dieOf p) 14 bytes.length
        match t.2 with
        | none => t.1.taskDone die 0x1A
        | some a =>
          let f := t.1.path.nextFrame
          let e := (t.1.poolWrite a bytes).sendOwn p 14 bytes (mdReset p) (some a)
          let e1 := if (e.frame f).isSome then
              { e with jrn := { e.jrn with draining := e.jrn.draining ++ [(f, die.val, first, n)] } }
            else e
          e1.taskDone die 0x1A
    else d.taskDone die 0x1A

/-- JOURNAL_RD_WRITE (R344): a host write of the pair JRN_RD of a die. -/
def execJournalRdWrite (die : Fin 2) (value : BitVec 64) (s : State) : Host.Outcome State Fault Refusal :=
  onDev s fun d => d.jrnRdWrite die value.toNat

/-- RULEY_SUM (R357): a child's sum; one that fails its checks marks the oldest set that waits for it BAD. -/
def execRuleySum (die : Fin 2) (s : State) : Host.Outcome State Fault Refusal :=
  onLive s fun d0 =>
    match d0.domTake die 0x0A with
    | none => d0
    | some (m, d) =>
      if m.body.length = 40 then d.jrnChildSum m.src (beAt m.body 0 6) (m.body.drop 8)
      else match d.jrn.closed.find? fun c => c.waiting.contains m.src with
        | none => d
        | some c =>
          let d1 := d.setClosed c.deck fun x => ClosedSet_settle x m.src 3 []
          d1.jrnFinish d1.jrn.closed.length

/-! ### Journal-family commands (R433) -/

/-- JRN_READ (R344): the latest signed sum entry and up to 64 records; JRN_RD does not move. -/
def execJrnRead (h : CmdHdr) (die : BitVec 8) (count : BitVec 16) (first : BitVec 64) (s : State) :
    Host.Outcome State Fault Refusal :=
  onDev s fun d =>
    let n := count.toNat
    let c := die.toNat
    let at_ := (first.toNat - c) / 2
    let wr := d.jrnWr c
    let there := decide (first.toNat % 2 = c) && decide (at_ + n ≤ wr) && decide (wr ≤ at_ + d.jrnSize c)
    if d.f rJRN_STATUS fJRN_STATUS_STATE = 0 then d.replySt h 0x0700 stNotReady
    else if 1 < c ∨ 64 < n ∨ (n ≠ 0 ∧ ¬ there) then d.replySt h 0x0700 stBadParam
    else d.reply h 0x0700 stOk 0 ((d.jrn.signed ++ zeros 256).take 256 ++ (d.jrnRecs c at_ n).flatten)

/-- JRN_SUM_READ (R354). -/
def execJrnSumRead (h : CmdHdr) (deck : BitVec 64) (s : State) : Host.Outcome State Fault Refusal :=
  onDev s fun d =>
    match d.jrn.sums.find? fun e => decide (beAt e.2 0 8 = deck.toNat) with
    | some e => d.reply h 0x0701 stOk 0 e.2
    | none => d.replySt h 0x0701 stBadParam

/-- JRN_CHILD_READ (R358): the deck's entries, oldest first. -/
def execJrnChildRead (h : CmdHdr) (deck : BitVec 64) (s : State) : Host.Outcome State Fault Refusal :=
  onDev s fun d =>
    let l := d.jrn.childs.filter fun e => decide (beAt e.2 0 8 = deck.toNat)
    let size := max 1 (d.rn rJRN_CHILD_SIZE)
    let wr := d.rn rJRN_CHILD_WR % size
    if l.isEmpty then d.replySt h 0x0702 stBadParam
    else d.reply h 0x0702 stOk 0 ((sortBy (fun e => (e.1 + size - wr) % size) l).flatMap (·.2))

/-- JRN_PORT_SET (R345): in force from the next deck boundary. -/
def execJrnPortSet (h : CmdHdr) (port : BitVec 16) (recs : BitVec 8) (dst src : BitVec 48) (s : State) :
    Host.Outcome State Fault Refusal :=
  onCmd s h 0x0703 fun d =>
    if 512 ≤ port.toNat ∨ recs.toNat = 0 ∨ 140 < recs.toNat then d.replySt h 0x0703 stBadParam
    else
      { d with jrn := { d.jrn with
        portNext := some (port.toNat, recs.toNat, beBytes 6 dst.toNat ++ beBytes 6 src.toNat) } }.replySt h 0x0703 stOk

end Sys2Proof.Machine
end

