-- ==== Sys2Proof/Machine/Fault.lean ====
section
/-! DEFINITION. Machine/Fault.lean: fault collection, column retirement, the safe state, fault injection and the counter
units' own commands (R475 to R504, R555). -/
namespace Sys2Proof.Machine

/-! ### The fault log (R478, R479) -/

/-- A fault code (R477). -/
def faultCode (block kind inst : Nat) : Nat := block * 2 ^ 24 + kind % 256 * 2 ^ 16 + inst % 65536

/-- The 64 bytes of a log entry (R478). -/
def logBytes (e : LogEntry) : List Byte :=
  beBytes 8 e.tick ++ beBytes 4 e.code ++ beBytes 1 e.cls ++
  beBytes 1 (e.injected.toNat * 128 + e.isOpen.toNat * 64 + e.marked.toNat * 32 + e.reported.toNat * 16 + e.cap) ++
  beBytes 2 e.joined ++ beBytes 8 e.endTick ++ beBytes 4 e.firstJoined ++ beBytes 4 e.seq ++ (e.detail ++ zeros 32).take 32

/-- An entry of a die's log. -/
def Dev.logAt (d : Dev) (die i : Nat) : Option LogEntry := kvGet none (d.flt.die die).log i

/-- Replace an entry. -/
def Dev.setLog (d : Dev) (die i : Nat) (e : Option LogEntry) : Dev :=
  let x := d.flt.die die
  { d with flt := d.flt.setDie die { x with log := kvSet none i e x.log } }

/-- Change an entry in use. -/
def Dev.modLog (d : Dev) (die i : Nat) (g : LogEntry → LogEntry) : Dev :=
  match d.logAt die i with
  | some e => d.setLog die i (some (g e))
  | none => d

/-- The first index not in a rising list, from `n` on. -/
def firstFree : List Nat → Nat → Nat
  | [], n => n
  | a :: l, n => if a = n then firstFree l (n + 1) else firstFree l n

/-- The entry a new fault takes (R479): a free one, the lowest (DESIGN CHOICE); for class C and above with none free, the
oldest class B entry that is not OPEN; 0xFFFF: none. -/
def FltDie.logPlace (x : FltDie) (cls : Nat) : Nat :=
  let used := x.log.map (·.1)
  if used.length < (if cls = 0xB then 960 else 1024) then firstFree used 0
  else if cls = 0xB then 0xFFFF
  else
    let old := x.log.filterMap fun e => e.2.bind fun y =>
      if y.cls = 0xB ∧ !y.isOpen then some (e.1, y.tick) else none
    match sortBy (fun e => e.2) old with
    | [] => 0xFFFF
    | e :: _ => e.1

/-- The record that a die's collector counts as open (R480): its own, or an open D or E record of the other die. -/
def Dev.fltRec (d : Dev) (die : Nat) : Option (Nat × HandRec) :=
  match (d.flt.die die).handling with
  | some h => some (die, h)
  | none => match (d.flt.die (1 - die)).handling with
    | some h => if 0xD ≤ h.cls then some (1 - die, h) else none
    | none => none

/-- FLT_D_STATUS, FLT_D_LOG and FLT_D_ARMED follow the collectors (R496). -/
def Dev.fltSync (d : Dev) : Dev :=
  d.each [0, 1] fun e die =>
    let x := e.flt.die die
    let r := rFLT_D_STATUS die
    let openAt := match x.handling with
      | some h => if h.idx = 0xFFFF then 0 else h.idx
      | none => 0
    let e1 := ((e.sb r fFLT_D_STATUS_HANDLING (e.fltRec die).isSome).sf r fFLT_D_STATUS_QUEUED (min 16 x.queue.length)).sf r
      fFLT_D_STATUS_OPEN_ENTRY openAt
    (e1.sf (rFLT_D_LOG die) fFLT_D_LOG_ENTRIES x.log.length).sf (rFLT_D_ARMED die) fFLT_D_ARMED_CHECKERS x.armed.length

/-- An FLT_ event for a fault (R555). -/
def Dev.fltEvent (d : Dev) (die ev code idx : Nat) : Dev :=
  d.raiseD ev die (code % 65536) (some (code * 2 ^ 32 + idx))

/-- A fault's entry is opened (R478, R479): its index, or 0xFFFF with DROPPED or LOST_HIGH and LOG_FULL; and its entry. -/
def Dev.logOpen (d : Dev) (die cls cap : Nat) (r : FaultRep) : Dev × Nat × LogEntry :=
  let x := d.flt.die die
  let seq := (x.seq + 1) % 2 ^ 32
  let code := faultCode r.block r.kind r.inst
  let e : LogEntry := {
    tick := r.tick, code := code, cls := cls, injected := r.injected || d.b rFLT_KMODE fFLT_KMODE_ACTIVE, isOpen := true,
    marked := false, reported := false, cap := cap, joined := 0, endTick := 0, firstJoined := 0, seq := seq,
    detail := if r.detail.isEmpty then beBytes 32 (Config.faultDetail code r.tick seq).toNat else r.detail }
  let i := x.logPlace cls
  if i = 0xFFFF then
    let c := d.cntF (rFLT_D_LOG die) (if cls = 0xB then fFLT_D_LOG_DROPPED else fFLT_D_LOG_LOST_HIGH)
    (c.fltEvent die eFLT_LOG_FULL code 0xFFFF, i, e)
  else (({ d with flt := d.flt.setDie die { x with seq := seq } }).setLog die i (some e), i, e)

/-! ### Classification (R475 to R481, R494) -/

/-- The class of a fault: its chapter's, or what R476 and R481 say of its block. -/
def Dev.faultClass (d : Dev) (r : FaultRep) : Nat :=
  if r.block = 25 then (if d.b rFLT_MODE fFLT_MODE_DIRECT then 0xE else 0xD)
  else if r.cls = 0xA then 0xA
  else if r.block = 26 then 0xE
  else if r.kind = 2 ∧ (r.block = 20 ∨ r.block = 21) then 0xC
  else if r.kind = 2 ∧ (r.block = 24 ∨ r.block = 13) then 0xD
  else r.cls

/-- Is the action of a class C fault's unit complete at detection (R480)? Not where a unit is retired or recovers. -/
def atOnce (block kind : Nat) : Bool :=
  !(decide (block = 23) || (decide (block = 12) && (decide (kind = 2) || decide (kind = 5))) || decide (kind = 8) ||
    decide (kind = 0x0B))

/-- The FAULT mark of a class C fault (R29, R337); of class D and E it is the seal's (R476). -/
def Dev.faultMark (d : Dev) (die cls idx : Nat) (code : Nat) (bytes : List Byte) : Dev :=
  if cls = 0xC ∧ d.jrnActive then
    (d.jrnMark die 1 cls code (bytes.take 16)).modLog die idx fun e => { e with marked := true }
  else d

/-- A class C fault is told: FLT_CONTAINED where it has an entry, and a FAULT message (R455, R555). -/
def Dev.tellC (d : Dev) (die idx code tick : Nat) (bytes : List Byte) : Dev :=
  let d1 := if idx = 0xFFFF then d else d.fltEvent die eFLT_CONTAINED code idx
  let d2 := d1.sendFault d1.devNo 0xC code tick bytes
  if d1.dom.parent.isSome then d2.modLog die idx fun e => { e with reported := true } else d2

/-- A fault of class D or E (R485, R491): GRAVE is latched by class E, and the safe state is due; in it already, the class
rises. -/
def Dev.safeFault (d : Dev) (x : SafeDue) : Dev :=
  let d1 := if x.cls = 0xE then d.sb rFLT_STATUS fFLT_STATUS_GRAVE true else d
  if d1.b rFLT_STATUS fFLT_STATUS_SAFE then
    let d2 := d1.sf rFLT_STATUS fFLT_STATUS_SAFE_CLASS (max (d1.f rFLT_STATUS fFLT_STATUS_SAFE_CLASS) x.cls)
    match d2.flt.safeDue with
    | some y => if x.quiet then d2 else d2.fltEvent y.die eFLT_SAFE y.code y.idx
    | none => d2
  else match d1.flt.safeDue with
    | some y => { d1 with flt := { d1.flt with safeDue := some { y with cls := max y.cls x.cls } } }
    | none => { d1 with flt := { d1.flt with safeDue := some x } }

/-- The collector takes a fault up: it handles the entry from tick `since` on, and tells of it (R476, R480, R481). -/
def Dev.takeUp (d : Dev) (die idx since : Nat) (e : LogEntry) : Dev :=
  let x := d.flt.die die
  let block := e.code / 2 ^ 24
  let h : HandRec := {
    idx := idx, cls := e.cls, code := e.code, since := since,
    atTick := decide (e.cls = 0xB) || (decide (e.cls = 0xC) && atOnce block (e.code / 65536 % 256)) }
  let d1 := { d with flt := d.flt.setDie die { x with handling := some h } }
  if e.cls = 0xB then (if idx = 0xFFFF then d1 else d1.fltEvent die eFLT_LOGGED e.code idx)
  else if e.cls = 0xC then d1.tellC die idx e.code e.tick (logBytes e)
  else d1

/-- A fault joins the open record under MERGE (R481). -/
def Dev.faultJoin (d : Dev) (die cls : Nat) (r : FaultRep) (t : Nat × HandRec) : Dev :=
  let code := faultCode r.block r.kind r.inst
  let h := t.2
  let d1 := d.modLog t.1 h.idx fun e => {
    e with joined := satAdd 65535 e.joined 1, firstJoined := if e.joined = 0 then code else e.firstJoined, cls := max e.cls cls }
  let bytes := match d1.logAt t.1 h.idx with
    | some e => logBytes e
    | none => beBytes 8 r.tick ++ beBytes 4 code ++ beBytes 1 cls ++ zeros 3
  let d2 := d1.faultMark die cls (if t.1 = die then h.idx else 0xFFFF) code bytes
  if h.cls < cls then
    let x := d2.flt.die t.1
    let up : HandRec := { h with cls := cls, code := code, since := d.trk.tick, atTick := decide (cls = 0xC) && atOnce r.block r.kind }
    let d3 := { d2 with flt := d2.flt.setDie t.1 { x with handling := some up } }
    if cls = 0xC then d3.tellC t.1 h.idx code r.tick bytes
    else d3.safeFault { code := code, cls := cls, die := die, idx := h.idx, tick := r.tick, bytes := bytes.take 16, quiet := false }
  else d2

/-- The agent's own action for a fault, whatever record is open (R475, R481): an uncorrectable error of the SHA-256 or
signing engine ends signing until reset (R476). -/
def Dev.agentActs (d : Dev) (r : FaultRep) : Dev :=
  if r.kind = 2 ∧ (r.block = 20 ∨ r.block = 21) ∧ r.cls ≠ 0xA then { d with jrn := { d.jrn with signBroken := true } } else d

/-- One fault is classified by its die's collector (R476 to R481, R494). -/
def Dev.classify (d0 : Dev) (die : Nat) (r : FaultRep) : Dev :=
  let d := d0.agentActs r
  let c0 := d.faultClass r
  let inj := r.injected
  let c1 := if inj ∧ c0 = 0xE then 0xD else c0
  let cap := if inj ∧ c0 = 0xE then 0xE else 0
  let direct := d.b rFLT_MODE fFLT_MODE_DIRECT
  let own := decide (r.block = 25)
  let busy := d.fltRec die
  let x := d.flt.die die
  let full := direct && busy.isSome && !own && decide (16 ≤ x.queue.length)
  let cls := if full ∧ c1 = 0xC then 0xD else c1
  let n (e : Dev) : Dev := e.cnt (rFLT_D_CNT_LO die (cls - 0xA))
  if cls ≤ 0xA then d.cnt (rFLT_D_CNT_LO die 0)
  else if full && decide (cls = 0xB) then (n d).cntF (rFLT_D_LOG die) fFLT_D_LOG_DROPPED
  else match busy, direct with
    | some t, false => ((n d).faultJoin die cls r t)
    | some _, true =>
      let l := (n d).logOpen die cls cap r
      let bytes := logBytes l.2.2
      let d1 := l.1.faultMark die cls l.2.1 l.2.2.code bytes
      let due : SafeDue := {
        code := l.2.2.code, cls := cls, die := die, idx := l.2.1, tick := r.tick, bytes := bytes.take 16, quiet := !own }
      let d2 := if 0xD ≤ cls then d1.safeFault due else d1
      let y := d2.flt.die die
      if own then
        let d3 := match y.handling with
          | some h => d2.modLog die h.idx fun e => { e with isOpen := false, endTick := d.trk.tick }
          | none => d2
        d3.takeUp die l.2.1 d.trk.tick l.2.2
      else if l.2.1 = 0xFFFF then
        if cls = 0xC then d2.tellC die 0xFFFF l.2.2.code r.tick bytes else d2
      else { d2 with flt := d2.flt.setDie die { y with queue := y.queue ++ [l.2.1] } }
    | none, _ =>
      let l := (n d).logOpen die cls cap r
      let bytes := logBytes l.2.2
      let d1 := l.1.faultMark die cls l.2.1 l.2.2.code bytes
      let due : SafeDue := {
        code := l.2.2.code, cls := cls, die := die, idx := l.2.1, tick := r.tick, bytes := bytes.take 16, quiet := false }
      let d2 := if 0xD ≤ cls then d1.safeFault due else d1
      d2.takeUp die l.2.1 d.trk.tick l.2.2

/-- Set bits among the low 64 of a pattern. -/
def ones64 (v : Nat) : Nat := ((List.range 64).filter fun i => v.testBit i).length

/-- A checker of a die: kind 1 ECC, 2 parity, 3 CRC; check width 1 to 64; class of an uncorrectable result; instance (R477,
R493, R496). -/
def checkerOf (die id : Nat) : Option (Nat × Nat × Nat × Nat) :=
  if id / 2048 ≤ 26 then
    (Config.checker die id).map fun c => (c.1 % 3 + 1, c.2.1 % 64 + 1, 0xA + c.2.2.1 % 5, c.2.2.2 % 65536)
  else none

/-- The report of a check whose check bits were inverted by a pattern (R493): kind by the checker, one inverted bit of an ECC
checker a corrected error. -/
def Dev.checkRep (d : Dev) (die id pattern : Nat) (injected : Bool) : Option FaultRep :=
  match checkerOf die id with
  | none => none
  | some (k, _, ue, inst) =>
    let r (cls kind : Nat) : FaultRep := {
      cls := cls, block := id / 2048, kind := kind, inst := inst, tick := d.trk.tick, injected := injected }
    if pattern = 0 then none
    else if k = 1 then (if ones64 pattern = 1 then some (r 0xB 1) else some (r ue 2))
    else if k = 2 then some (r ue 3) else some (r ue 4)

/-- An armed checker makes one of its checks (R493). -/
def Dev.armedCheck (d : Dev) (die id : Nat) : Dev × Option FaultRep :=
  let x := d.flt.die die
  match x.armed.find? fun a => decide (a.checker = id) with
  | none => (d, none)
  | some a =>
    let rest := x.armed.filter fun b => decide (b.checker ≠ id)
    let keep := if a.left ≤ 1 then rest else rest ++ [{ a with left := a.left - 1 }]
    let d1 := { d with flt := d.flt.setDie die { x with armed := keep } }
    (if a.left ≤ 1 then d1.raiseD eFLT_INJECT_DONE die id (some 0) else d1, d.checkRep die id a.pattern true)

/-- What is found becomes reports (R475, R493, R495). -/
def Dev.foundRep (d : Dev) (die : Nat) : Found → Dev × Option FaultRep
  | .fault cls block kind inst detail =>
    (d, some { cls := max 0xA (min 0xE cls), block := block % 27, kind := kind, inst := inst, tick := d.trk.tick, detail := detail })
  | .check c => d.armedCheck die c.toNat
  | .kWrite =>
    if d.b rFLT_K_CTRL fFLT_K_CTRL_ARM ∧ bits (d.rn rFLT_K_TARGET) 16 16 = die then
      let c := (d.rn rFLT_K_TARGET % 2 ^ 17, d.rn rFLT_K_ADDR, d.rdPair rFLT_K_SYN_LO rFLT_K_SYN_HI)
      let d1 := { d with flt := { d.flt with corrupted :=
        (d.flt.corrupted.filter fun (y : Nat × Nat × Nat) => decide ((y.1, y.2.1) ≠ (c.1, c.2.1))) ++ [c] } }
      ((d1.sb rFLT_K_CTRL fFLT_K_CTRL_ARM false).sb rFLT_K_CTRL fFLT_K_CTRL_DONE true, none)
    else (d, none)
  | .kRead c a =>
    match d.flt.corrupted.find? fun y => decide ((y.1, y.2.1) = (die * 2 ^ 16 + c.toNat, a.toNat)) with
    | none => (d, none)
    | some y =>
      let rep := d.checkRep die c.toNat y.2.2 true
      let fixed := match rep with
        | some r => decide (r.kind = 1)
        | none => true
      (if fixed then { d with flt := { d.flt with corrupted := d.flt.corrupted.filter fun z => decide (z ≠ y) } } else d, rep)

/-- FAULT_CLASSIFY (R475 to R481): the reports that wait at a die's collector, and what its agents find besides, are
classified: those of one tick in descending class, then ascending block and instance. -/
def execFaultClassify (die : Fin 2) (found : List Found) (s : State) : Host.Outcome State Fault Refusal :=
  onDev s fun d =>
    let r := found.foldl (fun (p : Dev × List FaultRep) f =>
      let y := p.1.foundRep die f
      (y.1, p.2 ++ y.2.toList)) (d, (d.flt.die die).inbox)
    let d1 := { r.1 with flt := r.1.flt.setDie die { r.1.flt.die die with inbox := [] } }
    let key (f : FaultRep) : Nat :=
      f.tick * 2 ^ 64 + (15 - min 15 (d1.faultClass f)) * 2 ^ 56 + f.block * 2 ^ 32 + f.inst % 2 ^ 32
    ((sortBy key r.2).foldl (fun e f => e.classify die f) d1).fltSync

/-- Handling of a die's open record of class B or C ends (R478, R480). -/
def Dev.fltEnd (d : Dev) (die : Nat) : Dev :=
  let x := d.flt.die die
  match x.handling with
  | none => d
  | some h =>
    if 0xD ≤ h.cls then d
    else
      (({ d with flt := d.flt.setDie die { x with handling := none } }).modLog die h.idx fun e =>
        { e with isOpen := false, endTick := d.trk.tick }).fltSync

/-- At a tick boundary handling ends of records complete at detection, and of class C records after 25,000 ticks (R480). -/
def Dev.fltTick (d : Dev) : Dev :=
  d.each [0, 1] fun e die => match (e.flt.die die).handling with
    | some h => e.when ((h.atTick && decide (h.since < e.trk.tick)) || decide (h.since + 25000 ≤ e.trk.tick)) fun y => y.fltEnd die
    | none => e

/-- Handling ends of a class C record whose unit, named by its fault code, is retired or recovered. -/
def Dev.unitDone (d : Dev) (die code : Nat) : Dev :=
  match (d.flt.die die).handling with
  | some h => d.when (decide (h.code = code)) fun e => e.fltEnd die
  | none => d

/-- FAULT_HANDLING_END (R480): the unit of a class C record is reported retired or recovered. -/
def execFaultHandlingEnd (die : Fin 2) (s : State) : Host.Outcome State Fault Refusal :=
  onDev s fun d => match (d.flt.die die).handling with
    | some h => d.when (decide (h.cls = 0xC)) fun e => e.fltEnd die
    | none => d

/-- FAULT_QUEUE_REPORT (R481): under DIRECT, once handling has ended, the next queued entry is taken up. -/
def execFaultQueueReport (die : Fin 2) (s : State) : Host.Outcome State Fault Refusal :=
  onDev s fun d =>
    let x := d.flt.die die
    if (d.fltRec die).isSome then d
    else match x.queue with
      | [] => d
      | i :: l =>
        let d1 := { d with flt := d.flt.setDie die { x with queue := l } }
        match d1.logAt die i with
        | none => d1.fltSync
        | some e =>
          let d2 := d1.takeUp die i e.tick e
          (if 0xD ≤ e.cls then d2.fltEvent die eFLT_SAFE e.code i else d2).fltSync

/-! ### Column retirement (R482 to R484) -/

/-- The sibling of a column (R483). -/
def sibling (c : Nat) : Nat := if c % 2 = 0 then c + 1 else c - 1

/-- COLUMN_HARD_FAULT (R482, R483): the column stops issuing; packets in its stages are dropped. -/
def execColumnHardFault (col : Fin 16) (kind : ColFault) (s : State) : Host.Outcome State Fault Refusal :=
  onDev s fun d =>
    let die := col.val / 8
    if d.colRetired col || d.flt.stoppedCols.contains col.val then d
    else
      let d0 := { d with flt := { d.flt with stoppedCols := d.flt.stoppedCols ++ [col.val] } }
      let y := d0.flw die
      let gone := ((y.parked.map (·.pkt)) ++ d0.path.recirc).filter fun k => decide (k.col = col.val)
      let d1 := d0.setFlw die { y with parked := y.parked.filter fun x => decide (x.pkt.col ≠ col.val) }
      let d2 := { d1 with path := { d1.path with recirc := d1.path.recirc.filter fun k => decide (k.col ≠ col.val) } }
      let d3 := d2.each gone fun e k => ((e.slotMove col 6).pcnt k.port 22).frameGc k.frame
      let x := d3.par die
      let cut := x.ctxs.filter fun c => decide (d3.column c.port = col.val)
      let d4 := (d3.setPar die { x with ctxs := x.ctxs.filter fun c => decide (d3.column c.port ≠ col.val) }).each cut fun e c =>
        (e.pcnt c.port 22).frameGc c.frame
      let sib := sibling col
      let kd := match kind with
        | .uncorrectable => 2
        | .parity => 3
        | .noIssue => 5
      d4.report die (if d.colRetired sib || d.flt.stoppedCols.contains sib then 0xD else 0xC) 23 kd col

/-- COLUMN_REMAP_DONE (R483): the sibling serves the retired column's ports, and handling of its fault ends. -/
def execColumnRemapDone (col : Fin 16) (s : State) : Host.Outcome State Fault Refusal :=
  onDev s fun d =>
    let sib := sibling col
    if d.flt.stoppedCols.contains col.val && !d.colRetired sib && !d.flt.stoppedCols.contains sib then
      let d1 := d.wn rFLT_COL_RETIRED (putBits (d.rn rFLT_COL_RETIRED) col col 1)
      let move (i : Inject) : Inject := if i.col = col.val then { i with col := sib } else i
      let d2 := {
        d1 with
        flt := { d1.flt with stoppedCols := d1.flt.stoppedCols.filter (· ≠ col.val) }
        path := { d1.path with injects := d1.path.injects.map move } }
      let die := col.val / 8
      ((d2.unitDone die (faultCode 23 2 col)).unitDone die (faultCode 23 3 col)).unitDone die (faultCode 23 5 col)
    else d

/-! ### The safe state (R485 to R491) -/

/-- Every transmitter of a range of lanes goes electrically idle (R485): ports and rail destinations. -/
def Dev.idleLanes (d : Dev) (a n : Nat) : Dev :=
  let e := d.each (d.port.ports.map (·.1)) fun e p =>
    if a ≤ p ∧ p < a + n then e.setPort p { e.portSt p with idle := true } else e
  e.each (List.range n) fun e i =>
    if e.f (rRAIL_DST_STATUS (a + i)) fRAIL_DST_STATUS_DSTATE = 1 then e.railIdleNow (a + i) 0 else e

/-- The FAULT message on the parent link, ahead of any other frame (R485, step 2). -/
def Dev.safeReport (d : Dev) (x : SafeDue) : Dev :=
  match d.dom.parent with
  | none => d
  | some (_, p) =>
    if !x.quiet && decide ((d.adj p).st = 2) && d.isUp p then
      let body := faultBody d.devNo x.cls x.code x.tick x.bytes
      let bs := d.ruleyBytes p 0x0B 0 0 d.devNo (d.dom.root.getD 0xFFFF) d.dom.seq 0 1 body
      let sent : SentFrame := { port := p, bytes := bs, stomped := false, stamp := d.now }
      let d1 := { d with out := { d.out with frames := d.out.frames ++ [sent] }, dom := { d.dom with seq := (d.dom.seq + 1) % 2 ^ 32 } }
      (d1.cnt (rDOM_CNT_LO 1)).modLog x.die x.idx fun e => { e with reported := true }
    else d

/-- Does the seal path work, and is there a run to seal (R486)? -/
def Dev.sealWorks (d : Dev) (x : SafeDue) : Bool :=
  let block := x.code / 2 ^ 24
  let st := d.f rJRN_STATUS fJRN_STATUS_STATE
  (decide (st = 2) || decide (st = 3)) && !([20, 21, 25, 26].contains block) && (List.range 4).all (fun k => !d.frozen k) &&
    (List.range 64).any fun k => decide (d.kState k ≠ 3)

/-- SAFE_STATE_ENTER (R485, R486): CD0 takes every die to the safe state. -/
def execSafeStateEnter (s : State) : Host.Outcome State Fault Refusal :=
  onDev s fun d =>
    match d.flt.safeDue with
    | none => d
    | some x =>
      if d.b rFLT_STATUS fFLT_STATUS_SAFE then d
      else
        let works := d.sealWorks x
        let d1 := ((d.safeReport x).idleLanes 0 512).wn rFLT_ALIVE 0
        let low (t : Nat × TrigSt) : Nat × TrigSt := (t.1, { t.2 with high := false })
        let d2 := {
          d1 with
          tim := { d1.tim with ppsHigh := false, trigs := d1.tim.trigs.map low }
          nrg := { d1.nrg with share0 := none, share1 := none, units := [], xoff := [] }
          flt := { d1.flt with aliveOn := false, sealDeck := if works then some d.deck else none } }
        let d3 := (d2.sb rNRG_STATUS fNRG_STATUS_THROTTLING false).sf rNRG_STATUS fNRG_STATUS_LEVEL 0
        let r := rFLT_STATUS
        let d4 := ((d3.sb r fFLT_STATUS_SAFE true).sf r fFLT_STATUS_SEAL (if works then 2 else 0)).sf r fFLT_STATUS_SAFE_CLASS x.cls
        let d5 := (d4.wn rFLT_SAFE_CODE x.code).wrPair rFLT_SAFE_TICK_LO rFLT_SAFE_TICK_HI d.trk.tick
        let d6 := d5.sf rOTP_BOOT_STATUS fOTP_BOOT_STATUS_PHASE 12
        let d7 := d6.when (!works && decide (d6.f rJRN_STATUS fJRN_STATUS_STATE = 2)) fun e => e.sf rJRN_STATUS fJRN_STATUS_STATE 0
        (if x.quiet then d7 else d7.fltEvent x.die eFLT_SAFE x.code x.idx).fltSync

/-- SUPERVISOR_SAFE_TIMEOUT (R485): a supervisor that has had no deck number from CD0 for 2 decks. -/
def execSupervisorSafeTimeout (die : Fin 3) (s : State) : Host.Outcome State Fault Refusal :=
  onDev s fun d =>
    let k := die.val + 1
    if 2 ≤ kvGet 0 d.flt.quietDecks k ∧ k ∉ d.flt.dieSafe then
      let d1 := { d with flt := { d.flt with dieSafe := d.flt.dieSafe ++ [k] } }
      if k = 1 then d1 else d1.idleLanes (256 * (k - 2)) 256
    else d

/-- FAULT_SEAL (R355, R486): the partial deck is sealed; SEAL reads 1 once the entry is stored and signed. -/
def execFaultSeal (s : State) : Host.Outcome State Fault Refusal :=
  onDev s fun d =>
    let r := rFLT_STATUS
    if d.b r fFLT_STATUS_SAFE ∧ d.f r fFLT_STATUS_SEAL = 2 then
      let begun := d.jrn.closed.any fun c => decide (bits c.flags 8 8 = 1)
      let d1 := if begun then d.jrnFinish d.jrn.closed.length
        else d.jrnSeal (d.f r fFLT_STATUS_SAFE_CLASS) (d.rn rFLT_SAFE_CODE)
      if d1.jrn.closed.isEmpty && !d1.jrn.signBroken then d1.sf r fFLT_STATUS_SEAL 1 else d1
    else d

/-- SEAL_ABANDONED (R486): the seal is not complete 10 decks after entry. -/
def execSealAbandoned (s : State) : Host.Outcome State Fault Refusal :=
  onDev s fun d => match d.flt.sealDeck with
    | some k =>
      if d.f rFLT_STATUS fFLT_STATUS_SEAL = 2 ∧ k + 10 ≤ d.deck then d.sf rFLT_STATUS fFLT_STATUS_SEAL 3 else d
    | none => d

/-- The whole device at reset (R490, R524): what the board does to it, the GRAVE latch, what has been sent, and for a
safe-state exit the trained PCIe link, stay. -/
def Dev.restart (d : Dev) (link : Bool) : Dev :=
  let b : BoardSt := {
    perst := d.board.perst, supplyHold := d.board.supplyHold, hiZ := d.board.hiZ, anyHot := d.board.anyHot,
    thermtrip := d.board.thermtrip, jtagIr := d.board.jtagIr, jtagOut := d.board.jtagOut, boundary := d.board.boundary,
    sampled := d.board.sampled }
  let x : Dev := { board := b, out := d.out, msgSeen := d.out.msgs.length, fresh := d.fresh, host := { linkUp := link && d.host.linkUp } }
  let x1 := x.sb rFLT_STATUS fFLT_STATUS_GRAVE (d.b rFLT_STATUS fFLT_STATUS_GRAVE)
  if link then
    (x1.sf rDMA_STATUS fDMA_STATUS_GEN (d.f rDMA_STATUS fDMA_STATUS_GEN)).sf rDMA_STATUS fDMA_STATUS_WIDTH
      (d.f rDMA_STATUS fDMA_STATUS_WIDTH)
  else x1

/-- A write of FLT_EXIT (R490). -/
def Dev.exitWrite (d : Dev) (v : Nat) : Dev :=
  if d.b rFLT_STATUS fFLT_STATUS_SAFE ∧ v % 65536 = 0x5AFE then d.restart true else d.classA 0

/-- SAFE_STATE_EXIT (R490). -/
def execSafeStateExit (value : BitVec 32) (s : State) : Host.Outcome State Fault Refusal :=
  onDev s fun d => d.exitWrite value.toNat

/-! ### K-series mode (R495) -/

/-- A write of FLT_KMODE (R495). -/
def Dev.kmodeWrite (d : Dev) (v : Nat) : Dev :=
  let d1 := if v % 2 = 1 then
      let ok := !d.b rFLT_MODE fFLT_MODE_KMODE_DIS && (List.range 512).all (fun p => decide (d.pState p = 0)) &&
        (List.range 128).all (fun g => decide (d.railState g = 0)) && decide (d.f rJRN_STATUS fJRN_STATUS_STATE = 0) &&
        !d.b rDOM_CTRL fDOM_CTRL_EN
      if ok then d.sb rFLT_KMODE fFLT_KMODE_ACTIVE true else d.classA 0
    else d
  if v / 2 % 2 = 1 then d1.sb rFLT_KMODE fFLT_KMODE_ACTIVE false else d1

/-- KMODE_ENTER (R495). -/
def execKmodeEnter (s : State) : Host.Outcome State Fault Refusal := onDev s fun d => d.kmodeWrite 1

/-- KMODE_EXIT (R495). -/
def execKmodeExit (s : State) : Host.Outcome State Fault Refusal := onDev s fun d => d.kmodeWrite 2

/-- A write of FLT_K_CTRL (R496): ARM only while the mode is active; DONE is cleared by 1. -/
def Dev.kCtrlWrite (d : Dev) (v : Nat) : Dev :=
  let d1 := if bits v 1 1 = 1 then d.sb rFLT_K_CTRL fFLT_K_CTRL_DONE false else d
  if d1.b rFLT_KMODE fFLT_KMODE_ACTIVE then d1.sb rFLT_K_CTRL fFLT_K_CTRL_ARM (decide (bits v 0 0 = 1)) else d1

/-- K_INJECT_ARM (R495). -/
def execKInjectArm (s : State) : Host.Outcome State Fault Refusal := onDev s fun d => d.kCtrlWrite 1

/-! ### Commands of the family 0x09 -/

/-- FLT_INJECT_ARM (0x0900, R493). -/
def execFltInjectArm (h : CmdHdr) (die : BitVec 8) (checker : BitVec 16) (pattern : BitVec 64) (count : BitVec 32) (s : State) :
    Host.Outcome State Fault Refusal :=
  onCmd s h 0x0900 fun d =>
    let op := 0x0900
    let k := die.toNat
    let id := checker.toNat
    if !d.b rFLT_CTRL fFLT_CTRL_INJ_EN || d.b rFLT_KMODE fFLT_KMODE_ACTIVE then d.replySt h op stDenied
    else match (if k < 2 then checkerOf k id else none) with
      | none => d.replySt h op stBadParam
      | some (_, w, _, _) =>
        if 2 ^ w ≤ pattern.toNat ∨ 65535 < count.toNat then d.replySt h op stBadParam
        else
          let x := d.flt.die k
          let rest := x.armed.filter fun a => decide (a.checker ≠ id)
          if count.toNat = 0 then
            (({ d with flt := d.flt.setDie k { x with armed := rest } }).fltSync).replySt h op stOk
          else if 16 ≤ rest.length then d.replySt h op stBusy
          else
            let a : Armed := { checker := id, pattern := pattern.toNat, left := count.toNat }
            (({ d with flt := d.flt.setDie k { x with armed := rest ++ [a] } }).fltSync).replySt h op stOk

/-- FLT_LOG_READ (0x0901, R479): up to `count` entries in use from an index on, in index order. -/
def execFltLogRead (h : CmdHdr) (die : BitVec 8) (first count : BitVec 16) (s : State) : Host.Outcome State Fault Refusal :=
  onDev s fun d =>
    let op := 0x0901
    if 2 ≤ die.toNat ∨ 32 < count.toNat ∨ 1024 ≤ first.toNat then d.replySt h op stBadParam
    else
      let l := ((d.flt.die die.toNat).log.filter fun e => decide (first.toNat ≤ e.1)).filterMap (·.2)
      d.reply h op stOk 0 ((l.take count.toNat).flatMap logBytes)

/-- FLT_LOG_CLEAR (0x0902, R479). -/
def execFltLogClear (h : CmdHdr) (die : BitVec 8) (s : State) : Host.Outcome State Fault Refusal :=
  onCmd s h 0x0902 fun d =>
    let op := 0x0902
    let k := die.toNat
    if 2 ≤ k then d.replySt h op stBadParam
    else
      let x := d.flt.die k
      let keep (e : Nat × Option LogEntry) : Bool := match e.2 with
        | some y => y.isOpen
        | none => false
      (({ d with flt := d.flt.setDie k { x with log := x.log.filter keep } }).fltSync).replySt h op stOk

/-! ### Counter units (R501, R504) -/

/-- COUNTER_OVERFLOW (R501): a counter that counts receives `n` events in a cycle and overflows. -/
def execCounterOverflow (u : Fin 32) (i : Fin 8) (n : Nat) (s : State) : Host.Outcome State Fault Refusal :=
  onDev s fun d =>
    let v := d.rn (rCNT_VAL_HI u i) % 65536 * 2 ^ 32 + d.rn (rCNT_VAL_LO u i)
    if d.cntOn u i ∧ 2 ^ 48 ≤ v + n then d.cntAdd u i n else d

/-- A write of CNT_OVF[j] (R501): cleared bits end the freeze their counters made. -/
def Dev.ovfWrite (d : Dev) (j v : Nat) : Dev :=
  let old := d.rn (rCNT_OVF j)
  let gone := Nat.land old v
  let d1 := d.wn (rCNT_OVF j) (old - gone)
  d1.each (List.range 32) fun e b =>
    let u := 4 * j + b / 8
    if gone.testBit b && (e.b (rCNT_CFG u (b % 8)) fCNT_CFG_FREEZE || decide (bits (e.rn (rCNT_OVF j)) (b / 8 * 8 + 7) (b / 8 * 8) = 0))
    then e.freezeUnit u false else e

/-- COUNTER_OVF_CLEAR (R501). -/
def execCounterOvfClear (j : Fin 8) (value : BitVec 32) (s : State) : Host.Outcome State Fault Refusal :=
  onDev s fun d => d.ovfWrite j value.toNat

/-- A write of CNT_CTRL (R499, R504): RUN from the next tick boundary; SNAP is ignored while one is pending. -/
def Dev.cntCtrlWrite (d : Dev) (v : Nat) : Dev :=
  let d1 := d.sb rCNT_CTRL fCNT_CTRL_RUN (decide (bits v 0 0 = 1))
  if bits v 1 1 = 1 then d1.sb rCNT_CTRL fCNT_CTRL_SNAP_PENDING true else d1

/-- SNAPSHOT_REQUEST (R504). -/
def execSnapshotRequest (s : State) : Host.Outcome State Fault Refusal :=
  onDev s fun d => d.sb rCNT_CTRL fCNT_CTRL_SNAP_PENDING true

end Sys2Proof.Machine
end

