-- ==== Sys2Proof/Machine/Boot.lean ====
section
/-! DEFINITION. Machine/Boot.lean: reset, start-up, microcode images, OTP banks, supplies, die links, thermal protection
and JTAG (R12 to R15, R396 to R401, R511 to R533, R540 to R553). -/
namespace Sys2Proof.Machine

/-! ### Die-to-die links (R12 to R15) -/

/-- A link direction: 2 × link + direction, link 0 CD0↔CD1, 1 CD0↔PD0, 2 CD1↔PD1. -/
def Dev.link (d : Dev) (k : Nat) : LinkDir := kvGet {} d.links k

/-- Replace it. -/
def Dev.setLink (d : Dev) (k : Nat) (x : LinkDir) : Dev := { d with links := kvSet {} k x d.links }

/-- The core die whose collector hears of a link direction's faults (R475): the die that receives on CD0↔CD1, else the
link's core die. -/
def linkDie (k : Nat) : Nat := if k < 2 then 1 - k else k / 2 - 1

/-- A lane of a link direction has failed: it is remapped to the redundant lane of its group of 32, or its module retires
(R14, R15). The fault is class C, class D for a second retired module of the direction. -/
def Dev.laneRepair (d : Dev) (k lane : Nat) : Dev × Nat :=
  let x := d.link k
  let m := lane / 64
  let g := lane / 32
  if x.retired.contains m || x.failed.contains lane then (d, 0)
  else
    let x1 := { x with failed := x.failed ++ [lane] }
    if x.redundant.contains g then
      (d.setLink k { x1 with retired := x1.retired ++ [m] }, if x.retired.isEmpty then 0xC else 0xD)
    else (d.setLink k { x1 with redundant := x1.redundant ++ [g] }, 0xC)

/-- Rail groups' tap-blind state follows the links (R109). -/
def Dev.blindAll (d : Dev) : Dev := d.each d.railGroups fun e g => e.railBlind g

/-- DIE_LINK_LANE_FAIL (R14, R15): the link direction stops, and the lane is remapped or its module retired. -/
def execDieLinkLaneFail (dir : Fin 6) (lane : Fin 1024) (s : State) : Host.Outcome State Fault Refusal :=
  onDev s fun d =>
    let r := d.laneRepair dir lane
    if r.2 = 0 then d
    else
      let d1 := (r.1.setLink dir { r.1.link dir with stopped := true }).blindAll
      d1.report (linkDie dir) r.2 24 0x0B lane

/-- DIE_LINK_RETRAIN_DONE (R14): the link direction carries flits again, and handling of its fault ends. -/
def execDieLinkRetrainDone (dir : Fin 6) (s : State) : Host.Outcome State Fault Refusal :=
  onDev s fun d =>
    let x := d.link dir
    if x.stopped then
      let d1 := (d.setLink dir { x with stopped := false }).blindAll
      match x.failed.reverse with
      | [] => d1
      | lane :: _ => d1.unitDone (linkDie dir) (faultCode 24 0x0B lane)
    else d

/-! ### Microcode images (R396, R399, R400, R401) -/

/-- Length of an image less its signature, by its own counts (R399). -/
def imageLen (l : List Byte) : Nat := 36 + 4 * beAt l 10 2 + 4 * beAt l 16 4

/-- Are an image's magic number and format version right? -/
def imageMagic (l : List Byte) : Bool := decide (beAt l 0 4 = 0x4E444F4C) && decide (beAt l 4 2 = 1)

/-- Does an image's CRC hold? -/
def imageCrc (l : List Byte) : Bool :=
  decide (imageLen l ≤ l.length) && decide (beAt l (imageLen l - 4) 4 = crc32c (l.take (imageLen l - 4)))

/-- An image's words and entries go into both dies' control stores and entry tables (R396, R401). -/
def Dev.imageLoad (d : Dev) (l : List Byte) (isOpen : Bool) : Dev :=
  let n := beAt l 10 2
  let base := beAt l 12 4
  let w := beAt l 16 4
  let cs := (List.range w).foldl (fun (m : List (Nat × BitVec 32)) i =>
    kvSet 0 ((base + i) % 32768) (BitVec.ofNat 32 (beAt l (32 + 4 * n + 4 * i) 4)) m) d.rck.cs
  let entries := (List.range n).foldl (fun (m : List (Nat × BitVec 32)) i =>
    let ty := beAt l (32 + 4 * i) 2
    let a := (base + beAt l (34 + 4 * i) 2) % 32768
    kvSet 0 (ty % 4096) (BitVec.ofNat 32 (2 ^ 31 + isOpen.toNat * 2 ^ 29 + a)) m) d.rck.entries
  let bad := d.rck.csBad.filter fun x => decide (x.2 < base) || decide (base + w ≤ x.2)
  { d with rck := { d.rck with cs := cs, entries := entries, csBad := bad } }

/-- Why a vendor image is refused (OTP_BOOT_STATUS.CAUSE), 0 when it is accepted (R516). -/
def Dev.vendorCause (d : Dev) (l : List Byte) : Nat :=
  let n := imageLen l
  if !imageMagic l then 1
  else if !imageCrc l then 2
  else if beAt l 8 2 ≠ 0 ∨ beAt l 6 2 ≠ 0x5120 then 5
  else if !Config.verify (bytesAt d.board.factory 32 64) (l.take n) (bytesAt l n 64) then 3
  else if beAt l 24 4 < beAt d.board.factory 24 4 then 4
  else 0

/-- A vendor image is loaded: words, entries, release, the restart address, which the image format of R399 does not place (a
free value), and the reckoners start (R381, R400). -/
def Dev.vendorLoad (d : Dev) (l : List Byte) : Dev :=
  let d1 := (d.imageLoad l false).sb rRCK_STATUS fRCK_STATUS_VENDOR_LOADED true
  let d2 := (d1.wn rRCK_VENDOR_VER (beAt l 24 4)).sf rRCK_IDLE_PC fRCK_IDLE_PC_PC (d1.free 32768)
  d2.used.each (List.range 128) fun e k => e.kRestart k

/-! ### The customer generation in use (R529, R530) -/

/-- State of a generation: 0 BLANK, 1 SPENT, 2 VALID, 3 CORRUPT (R530). -/
def genState (g : List Byte) : Nat :=
  if g.all (fun b => decide (b = 0)) then 0
  else if beAt g 0 2 ≠ 0x5A3C then 1
  else if beAt g 252 4 = crc32c (g.take 252) then 2 else 3

/-- The 256 bytes of a generation. -/
def OtpBanks.gen (o : OtpBanks) (k : Nat) : List Byte := memRead o.customer (256 * k) 256

/-- BOOT_SRC of the generation in use (R515): 3 is treated as 0. -/
def Dev.bootSrc (d : Dev) : Nat := let v := beAt d.board.gen 4 1 % 4; if v = 3 then 0 else v

/-- BIST_EN of the generation in use. -/
def Dev.bistEn (d : Dev) : Bool := decide (bits (beAt d.board.gen 4 1) 2 2 = 1)

/-! ### Steps of start-up (R511, R512) -/

/-- Has a step ended? -/
def Dev.stepDone (d : Dev) (k : Nat) : Bool := d.board.ended.contains k

/-- OTP_BOOT_STATUS.PHASE: of steps that run together the lowest is shown (DESIGN CHOICE). -/
def Dev.bootPhase (d : Dev) : Nat :=
  if d.b rOTP_BOOT_STATUS fOTP_BOOT_STATUS_COMMAND_READY then 9
  else if d.board.waitHost then 10
  else match [1, 2, 3, 4, 5, 6, 7, 8].find? fun k => !d.stepDone k with
    | some k => k - 1
    | none => 8

/-- PHASE follows start-up, unless that has stopped. -/
def Dev.bootSync (d : Dev) : Dev :=
  if d.board.stopped || d.b rFLT_STATUS fFLT_STATUS_SAFE then d
  else d.sf rOTP_BOOT_STATUS fOTP_BOOT_STATUS_PHASE d.bootPhase

/-- May a step run: reset and supplies released, the steps before it ended, start-up neither stopped nor past? -/
def Dev.mayStep (d : Dev) (k : Nat) (before : List Nat) : Bool :=
  !d.board.perst && !d.board.supplyHold && !d.board.stopped && !d.b rFLT_STATUS fFLT_STATUS_SAFE && !d.stepDone k &&
    before.all fun j => d.stepDone j

/-- A step ends: its duration is recorded (R512). -/
def Dev.stepEnd (d : Dev) (k us : Nat) : Dev :=
  ((({ d with board := { d.board with ended := d.board.ended ++ [k] } }).wn (rOTP_BOOT_TIME (k - 1)) us)).bootSync

/-- Start-up stops (R491, R521). -/
def Dev.bootStop (d : Dev) : Dev := { d with board := { d.board with stopped := true } }

/-- PERST_L_RELEASE (R511): with every supply valid start-up begins at step 1. -/
def execPerstLRelease (s : State) : Host.Outcome State Fault Refusal :=
  onDev s fun d =>
    if d.board.perst && !d.board.supplyHold then { d with board := { d.board with perst := false } } else d

/-- PERST_L_ASSERT (R524): for 1 µs or more: the whole device is reset; THERMTRIP_L is released while every sensor reads
below 100 °C (R553). -/
def execPerstLAssert (s : State) : Host.Outcome State Fault Refusal :=
  onDev s fun d =>
    let x := d.restart false
    { x with board := { x.board with perst := true, thermtrip := x.board.thermtrip && x.board.anyHot } }

/-- Step 1 reads and classifies the banks (R530, R533). -/
def Dev.otpSense (d : Dev) (o : OtpBanks) (us : Nat) : Dev :=
  let fac := memRead o.factory 0 768
  let key := zeros 32 ++ (memRead o.key 0 256).drop 32
  let facOk := decide (beAt fac 764 4 = crc32c (fac.take 764))
  let keyOk := decide (beAt key 252 4 = crc32c (bytesAt key 32 220))
  let st (k : Nat) : Nat := genState (o.gen k)
  let use := ([3, 2, 1, 0].find? fun k => decide (st k = 2))
  let corrupt := (List.range 4).any fun k => decide (st k = 3)
  let r := rOTP_STATUS
  let d1 := ((d.sb r fOTP_STATUS_SENSED true).sb r fOTP_STATUS_FACTORY_OK facOk).sb r fOTP_STATUS_KEY_OK keyOk
  let d2 := ((d1.sb r fOTP_STATUS_CUST_VALID use.isSome).sf r fOTP_STATUS_GEN (use.getD 0)).sf r fOTP_STATUS_GEN_STATE
    (st 0 + 4 * st 1 + 16 * st 2 + 64 * st 3)
  let gen := match use with
    | some k => o.gen k
    | none => []
  let b := beAt gen 13 1
  let d3 := (d2.sb rFLT_MODE fFLT_MODE_DIRECT (decide (bits b 0 0 = 1))).sb rFLT_MODE fFLT_MODE_KMODE_DIS (decide (bits b 1 1 = 1))
  let d4 := { d3 with board := { d3.board with factory := fac, key := key, gen := gen } }
  let d5 := d4.stepEnd 1 us
  if !facOk || !keyOk || corrupt then (d5.bootStop).report 0 0xE 26 4 0
  else if d5.b rFLT_STATUS fFLT_STATUS_GRAVE then
    (((d5.bootStop).sb rFLT_STATUS fFLT_STATUS_SAFE true).sf rFLT_STATUS fFLT_STATUS_SAFE_CLASS 0xE).sf rOTP_BOOT_STATUS
      fOTP_BOOT_STATUS_PHASE 12
  else d5

/-- OTP_SENSE (R511, R530): step 1. -/
def execOtpSense (us : BitVec 32) (s : State) : Host.Outcome State Fault Refusal :=
  onDev s fun d => if d.mayStep 1 [] then d.otpSense s.otp us.toNat else d

/-- PLL_LOCK (R36, R511): step 2: the tick counter starts at tick 0. -/
def execPllLock (us : BitVec 32) (s : State) : Host.Outcome State Fault Refusal :=
  onDev s fun d =>
    if d.mayStep 2 [1] then
      let d1 := { d with board := { d.board with clock := true }, trk := { d.trk with tick := 0 } }
      (d1.sb rTCK_STATUS fTCK_STATUS_RUNNING true).stepEnd 2 us.toNat
    else d

/-- PLL_LOCK_TIMEOUT (R521): class D; start-up stops. -/
def execPllLockTimeout (s : State) : Host.Outcome State Fault Refusal :=
  onDev s fun d => if d.mayStep 2 [1] then d.bootStop.report 0 0xD 0 5 0 else d

/-- DIE_LINK_TRAINING (R511, R521): step 3: failed lanes are repaired or their modules retired. -/
def execDieLinkTraining (us : BitVec 32) (bad : List (Fin 6 × Fin 1024)) (s : State) : Host.Outcome State Fault Refusal :=
  onDev s fun d =>
    if d.mayStep 3 [2] then
      let d1 := d.each bad fun e x =>
        let r := e.laneRepair x.1 x.2
        if r.2 = 0 then r.1 else r.1.report (linkDie x.1) r.2 24 0x0B x.2
      let d2 := d1.stepEnd 3 us.toNat
      if d.bootSrc = 1 then ({ d2 with board := { d2.board with waitHost := true } }).bootSync else d2
    else d

/-- HBM_TRAINING (R377): a controller has trained its stack, or has failed after three attempts. Step 4 ends with the last. -/
def execHbmTraining (stack : Fin 4) (ok : Bool) (us : BitVec 32) (s : State) : Host.Outcome State Fault Refusal :=
  onDev s fun d =>
    if d.mayStep 4 [3] && !d.board.trained.contains stack.val then
      let d1 := { d with board := { d.board with trained := d.board.trained ++ [stack.val] } }
      let d2 := if ok then d1
        else (d1.sf rMEM_STATUS fMEM_STATUS_FAILED (Nat.lor (d1.f rMEM_STATUS fMEM_STATUS_FAILED) (2 ^ stack.val))).raise
          eMEM_TRAIN_FAIL stack
      if d2.board.trained.length = 4 then d2.stepEnd 4 us.toNat else d2
    else d

/-- SERDES_CALIBRATION (R511, R521): step 5: a lane that does not converge is held powered down. -/
def execSerdesCalibration (us : BitVec 32) (bad : List (Fin 512)) (s : State) : Host.Outcome State Fault Refusal :=
  onDev s fun d =>
    if d.mayStep 5 [3] then
      let d1 := { d with port := { d.port with badLanes := bad.map fun (n : Fin 512) => n.val } }
      (d1.each bad fun e n => e.report (n.val / 256) 0xC 1 0x0B n).stepEnd 5 us.toNat
    else d

/-- A vendor image from a source is accepted or refused (R516, R517, R521). -/
def Dev.bootImage (d : Dev) (l : List Byte) (source us : Nat) : Dev :=
  let c := d.vendorCause l
  let r := rOTP_BOOT_STATUS
  if c = 0 then
    let d1 := (d.vendorLoad l).sf r fOTP_BOOT_STATUS_SOURCE source
    ({ d1 with board := { d1.board with waitHost := false } }).stepEnd 6 us
  else
    let d1 := d.sf r fOTP_BOOT_STATUS_CAUSE c
    if source = 2 then d1
    else if source = 0 ∧ beAt d.board.gen 16 4 ≠ 0 then { d1 with board := { d1.board with refused := 1 } }
    else if d.bootSrc = 2 then ({ d1 with board := { d1.board with refused := 2, waitHost := true } }).bootSync
    else ({ d1 with board := { d1.board with refused := 2 } }.bootStop).sf r fOTP_BOOT_STATUS_PHASE 11

/-- MICROCODE_LOAD (R515, R516): step 6 from the flash slot whose turn it is. -/
def execMicrocodeLoad (us : BitVec 32) (image : List Byte) (s : State) : Host.Outcome State Fault Refusal :=
  onDev s fun d =>
    if d.mayStep 6 [3] && !d.board.waitHost && decide (d.bootSrc ≠ 1) then d.bootImage image d.board.refused us.toNat else d

/-- A write of OTP_BOOT_CTRL (R517): LENGTH is stored; GO in WAIT_HOST loads the image from pool scratch. How long the load
takes is a free value of at most 40 ms. -/
def Dev.bootCtrlWrite (d : Dev) (v : Nat) : Dev :=
  let n := bits v 23 0
  let d1 := if n ≤ 8388608 then d.sf rOTP_BOOT_CTRL fOTP_BOOT_CTRL_LENGTH n else d
  if bits v 31 31 = 1 ∧ d1.mayStep 6 [3] ∧ d1.board.waitHost then
    d1.used.bootImage (d1.poolRead 0 (d1.f rOTP_BOOT_CTRL fOTP_BOOT_CTRL_LENGTH)) 2 (d1.free 40001)
  else d1

/-- HOST_BOOT_GO (R517). -/
def execHostBootGo (value : BitVec 32) (s : State) : Host.Outcome State Fault Refusal :=
  onDev s fun d => d.bootCtrlWrite value.toNat

/-- HBM_INITIALISATION (R518): step 7: every row is zero with a valid code. -/
def execHbmInitialisation (us : BitVec 32) (s : State) : Host.Outcome State Fault Refusal :=
  onDev s fun d =>
    if d.mayStep 7 [4] then ({ d with hbm := { d.hbm with mem := [] } }).stepEnd 7 us.toNat else d

/-- The domain settings of the generation in use (R529). -/
def Dev.custDom (d : Dev) : Dev :=
  let g := d.board.gen
  let d1 := (d.sf rDOM_ID fDOM_ID_DOMAIN (beAt g 8 2)).sf rDOM_ID fDOM_ID_DEVICE (bits (beAt g 10 2) 10 0)
  (d1.sb rDOM_CTRL fDOM_CTRL_ROOT_ELIG (decide (bits (beAt g 10 2) 15 15 = 1))).sf rDOM_ROOT_CFG fDOM_ROOT_CFG_ROOT_PRI
    (if g.isEmpty then 255 else beAt g 12 1)

/-- The power limit of the generation in use (R529, R461). -/
def Dev.custNrg (d : Dev) : Dev :=
  let w := beAt d.board.gen 14 2
  (d.sf rNRG_LIMIT fNRG_LIMIT_WATTS (if wattsOk w then w else 900)).when (decide (w ≠ 0) && !wattsOk w) fun e => e.classA

/-- The customer settings go into their registers (R519, R529); with no valid generation the values of R529. -/
def Dev.custSettings (d : Dev) : Dev :=
  (d.custDom.sf rJRN_CTRL fJRN_CTRL_POLICY (bits (beAt d.board.gen 13 1) 2 2)).custNrg

/-- The factory settings of R527 that registers and frames show. -/
def Dev.factorySettings (d : Dev) : Dev :=
  let f := d.board.factory
  let d1 := (d.wn rDOM_SERIAL_HI (beAt f 4 4)).wn rDOM_SERIAL_LO (beAt f 8 4)
  { d1.sf rTIM_ORG_ID fTIM_ORG_ID_ORG_ID (beAt f 21 3) with
    baseMac := beAt f 96 6
    cert := Config.certDer (bytesAt d.board.key 32 220) }

/-- KEY_MISMATCH (R348): the seal-key hash is not zero and differs from the public key's. -/
def Dev.keyMismatch (d : Dev) : Bool :=
  let h := bytesAt d.board.gen 32 16
  decide (ofBe h ≠ 0) && decide (h ≠ (sha256 (bytesAt d.board.key 32 64)).take 16)

/-- BRING_UP (R519): step 8: pool scratch and the fault logs are initialised with the other memories, which are empty so far.
Failure of the known-answer tests or of the key check is class E (R521). -/
def execBringUp (us : BitVec 32) (pass : Bool) (s : State) : Host.Outcome State Fault Refusal :=
  onDev s fun d =>
    if d.mayStep 8 [5, 6, 7] then
      let p0 := { d.host.pool0 with mem := [] }
      let p1 := { d.host.pool1 with mem := [] }
      let d0 := ({
        d with
        host := { d.host with pool0 := p0, pool1 := p1 }
        flt := { d.flt with die0 := { d.flt.die0 with log := [] }, die1 := { d.flt.die1 with log := [] } } }).fltSync
      let d1 := d0.factorySettings.custSettings
      let d2 := d1.sb rJRN_STATUS fJRN_STATUS_KEY_MISMATCH d1.keyMismatch
      if pass then
        let d3 := if bits (beAt d2.board.gen 4 1) 3 3 = 1 then
            let e := d2.memCommit
            if e.b rMEM_STATUS fMEM_STATUS_CLEARING then
              (e.sb rMEM_STATUS fMEM_STATUS_CLEARING false).each [0, 1] fun y die => y.sb (rFLW_STATUS die) fFLW_STATUS_READY true
            else e
          else d2
        let d4 := d3.stepEnd 8 us.toNat
        { d4 with board := { d4.board with readyDue := !d4.bistEn } }
      else ((d2.sb rOTP_STATUS fOTP_STATUS_KEY_OK false).bootStop).report 0 0xE 26 0x0A 0
    else d

/-- A failure found by BIST (R520): a unit that can be retired is, with a class C fault; any other is class D. -/
def Dev.bistFail (d : Dev) : BistFail → Dev
  | .column c =>
    if d.colRetired c then d
    else (d.wn rFLT_COL_RETIRED (putBits (d.rn rFLT_COL_RETIRED) c c 1)).report (c.val / 8)
      (if d.colRetired (sibling c) then 0xD else 0xC) 23 2 c
  | .reckoner k =>
    let die := k.val / 64
    if d.kState k = 3 then d
    else
      let a := if k.val % 64 < 32 then rRCK_D_RETIRED_LO die else rRCK_D_RETIRED_HI die
      let d1 := (d.setKState k 3).wn a (putBits (d.rn a) (k.val % 32) (k.val % 32) 1)
      ((d1.raiseD eRCK_RETIRED die k).report die (d1.retireClass die) 12 2 k).rckReport die
  | .module dir m =>
    let x := d.link dir
    if x.retired.contains m.val then d
    else (d.setLink dir { x with retired := x.retired ++ [m.val] }).report (linkDie dir) (if x.retired.isEmpty then 0xC else 0xD)
      24 0x0B (64 * m)
  | .other b => d.report 0 0xD b 2 0

/-- BIST (R511, R520): step 9, where the generation in use sets BIST_EN. -/
def execBist (us : BitVec 32) (fails : List BistFail) (s : State) : Host.Outcome State Fault Refusal :=
  onDev s fun d =>
    if d.mayStep 9 [8] && d.bistEn then
      let d1 := (d.sb rOTP_BOOT_STATUS fOTP_BOOT_STATUS_BIST_RUN true).each fails fun e f =>
        (e.bistFail f).sb rOTP_BOOT_STATUS fOTP_BOOT_STATUS_BIST_FAIL true
      let d2 := d1.stepEnd 9 us.toNat
      { d2 with board := { d2.board with readyDue := true } }
    else d

/-- COMMAND_READY at the first tick boundary after the last step, and what R522 lets follow it. -/
def Dev.readyTick (d : Dev) : Dev :=
  if d.board.readyDue && !d.b rFLT_STATUS fFLT_STATUS_SAFE then
    let b := { d.board with readyDue := false, domArmed := decide (bits (beAt d.board.gen 10 2) 14 14 = 1) }
    let d1 := ({ d with board := b }).sb rOTP_BOOT_STATUS fOTP_BOOT_STATUS_COMMAND_READY true
    let d2 := (d1.wrPair rOTP_READY_TICK_LO rOTP_READY_TICK_HI d.trk.tick).bootSync
    if bits (beAt d.board.gen 4 1) 4 4 = 1 then d2.jrnCtrlWrite (2 ^ 31 + d2.rn rJRN_CTRL % 2 ^ 31) else d2
  else d

/-- DOM_CTRL.EN of an armed domain, once host software has set a bit of DOM_PORT_EN (R522). -/
def Dev.domArm (d : Dev) : Dev :=
  if d.board.domArmed && (List.range 16).any (fun i => decide (d.rn (rDOM_PORT_EN i) ≠ 0)) then
    ({ d with board := { d.board with domArmed := false } }).domEnable (2 ^ 31 + d.rn rDOM_CTRL % 2 ^ 31)
  else d

/-! ### Supplies, clocks and temperature (R541 to R544, R553) -/

/-- A rail out of its limits (R542): before the end of step 2 reset is held; afterwards class D. -/
def Dev.supplyFault (d : Dev) (r : Nat) : Dev :=
  if d.stepDone 2 then d.report 0 0xD 24 0x09 r
  else
    let x := d.restart false
    { x with board := { x.board with supplyHold := true } }

/-- SUPPLY_UNDER_VOLTAGE (R542). -/
def execSupplyUnderVoltage (r : Fin 7) (s : State) : Host.Outcome State Fault Refusal := onDev s fun d => d.supplyFault r

/-- SUPPLY_OVER_VOLTAGE (R542). -/
def execSupplyOverVoltage (r : Fin 7) (s : State) : Host.Outcome State Fault Refusal := onDev s fun d => d.supplyFault r

/-- SUPPLY_VALID_RESTART (R542): the rail has been valid for 1 ms: the held reset ends, and start-up begins at step 1. -/
def execSupplyValidRestart (s : State) : Host.Outcome State Fault Refusal :=
  onDev s fun d =>
    if d.board.supplyHold then { d with board := { d.board with supplyHold := false, hiZ := false } } else d

/-- KEEPER_POWER_ON_RESET (R542): VDD_IO is below 1.0 V: every output is high-impedance, THERMTRIP_L released (R553). -/
def execKeeperPowerOnReset (s : State) : Host.Outcome State Fault Refusal :=
  onDev s fun d =>
    let x := d.restart false
    { x with board := { x.board with supplyHold := true, hiZ := true, thermtrip := false } }

/-- GRAVE_LATCH_CLEAR (R491, R543): VDD_IO has stayed below 0.3 V for 10 ms. -/
def execGraveLatchClear (s : State) : Host.Outcome State Fault Refusal :=
  onDev s fun d => if d.board.hiZ then d.sb rFLT_STATUS fFLT_STATUS_GRAVE false else d

/-- REFCLK_LOSS (R544): of REFCLK1, REFCLK2 or REFCLK3 after start-up: class D. -/
def execRefclkLoss (n : Fin 3) (s : State) : Host.Outcome State Fault Refusal :=
  onDev s fun d =>
    if d.b rOTP_BOOT_STATUS fOTP_BOOT_STATUS_COMMAND_READY then d.report 0 0xD 24 0x0B (n.val + 1) else d

/-- The core die whose collector hears of a sensor: 16 of CD0, 16 of CD1, 8 of PD0, 8 of PD1 (R475, R553). -/
def sensorDie (k : Nat) : Nat := if k < 16 then 0 else if k < 32 then 1 else if k < 40 then 0 else 1

/-- JUNCTION_SENSOR_SAMPLE (R553). -/
def execJunctionSensorSample (temps : Vector (BitVec 8) 48) (s : State) : Host.Outcome State Fault Refusal :=
  onDev s fun d =>
    let l := (List.range 48).zip (temps.toList.map (·.toNat))
    let fresh := l.filter fun x => decide (100 ≤ x.2) && !d.board.hot.contains x.1
    let hot := (d.board.hot.filter fun k => decide (95 ≤ (l.map (·.2)).getD k 0)) ++ fresh.map (·.1)
    let trip := l.filter fun x => decide (115 ≤ x.2)
    let b := {
      d.board with
      hot := hot
      anyHot := l.any fun x => decide (100 ≤ x.2)
      thermtrip := d.board.thermtrip || !trip.isEmpty }
    let d1 := ({ d with board := b }).each fresh fun e x => e.classA (sensorDie x.1)
    match trip with
    | [] => d1
    | x :: _ => if d.board.thermtrip then d1 else d1.report (sensorDie x.1) 0xD 24 0x09 0 [BitVec.ofNat 8 x.1, BitVec.ofNat 8 x.2]

/-- PCIE_LINK_UP (R412, R513, R514): the link has trained within the options of the generation in use. -/
def execPcieLinkUp (gen : Fin 7) (width : Fin 17) (s : State) : Host.Outcome State Fault Refusal :=
  onDev s fun d =>
    let o := beAt d.board.gen 5 1
    let cap := if bits o 2 0 = 0 ∨ bits o 2 0 = 7 then 6 else bits o 2 0
    let wide := if bits o 3 3 = 1 then [8] else [1, 2, 4, 8, 16]
    if d.stepDone 1 && !d.board.perst && !d.host.linkUp && decide (1 ≤ gen.val) && decide (gen.val ≤ cap) && wide.contains width.val
    then
      let d1 := { d with host := { d.host with linkUp := true } }
      (d1.sf rDMA_STATUS fDMA_STATUS_GEN gen).sf rDMA_STATUS fDMA_STATUS_WIDTH width
    else d

/-! ### OTP banks (R526 to R533) -/

/-- Bytes of a bank (R526). -/
def bankSize (b : Nat) : Nat := if b = 0 then 768 else if b = 1 then 256 else if b = 2 then 1024 else 0

/-- A byte of a bank as it may be read: the private key reads 0. -/
def OtpBanks.byte (o : OtpBanks) (b i : Nat) : Byte :=
  if bankSize b ≤ i then 0
  else if b = 0 then memByte o.factory i
  else if b = 1 then (if i < 32 then 0 else memByte o.key i)
  else memByte o.customer i

/-- OTP_READ (0x0B00): bytes of a bank; a range that touches the private key is DENIED (R528). -/
def execOtpRead (h : CmdHdr) (bank : BitVec 8) (offset count : BitVec 16) (s : State) : Host.Outcome State Fault Refusal :=
  onDev s fun d =>
    let op := 0x0B00
    if 2 < bank.toNat ∨ bankSize bank.toNat < offset.toNat + count.toNat then d.replySt h op stBadParam
    else if bank.toNat = 1 ∧ offset.toNat < 32 ∧ count.toNat ≠ 0 then d.replySt h op stDenied
    else d.reply h op stOk 0 ((List.range count.toNat).map fun i => s.otp.byte bank.toNat (offset.toNat + i))

/-- Bytes burned over old ones: bits are only set; bits listed do not burn. -/
def burnBytes (old new : List Byte) (first : Nat) (bad : List Nat) : List Byte :=
  ((List.range new.length).zip (old.zip new)).map fun x =>
    let m := ((List.range 8).filter fun j => !bad.contains (8 * (first + x.1) + j)).foldl (fun (a j : Nat) => a + 2 ^ j) 0
    x.2.1 ||| (x.2.2 &&& BitVec.ofNat 8 m)

/-- One generation is burned (R531): bytes 2 to 255, read back, then bytes 0 and 1, read back. Whether it took. -/
def OtpBanks.burn (o : OtpBanks) (k : Nat) (g : List Byte) (bad : List Nat) : OtpBanks × Bool :=
  let old := o.gen k
  let body := burnBytes (old.drop 2) (g.drop 2) 2 bad
  let o1 := { o with customer := memWrite o.customer (256 * k + 2) body }
  if body = g.drop 2 then
    let mark := burnBytes (old.take 2) (g.take 2) 0 bad
    ({ o1 with customer := memWrite o1.customer (256 * k) mark }, decide (mark = g.take 2))
  else (o1, false)

/-- Burn a generation into the lowest BLANK ones in turn until one takes (R531): the banks, the generation that took it, how
many were left SPENT, and whether power was lost. -/
def burnLoop (g : List Byte) (cut : Bool) : List Nat → List (List Nat) → OtpBanks → Nat → OtpBanks × Option Nat × Nat × Bool
  | [], _, o, n => (o, none, n, false)
  | k :: ks, bads, o, n =>
    let r := o.burn k g (bads.headD [])
    if cut && decide (bads.length ≤ 1) then (r.1, none, n, true)
    else if r.2 then (r.1, some k, n, false)
    else burnLoop g cut ks bads.tail r.1 (n + 1)

/-- Is a generation offered to OTP_BURN well formed (R529, R531)? -/
def burnOk (g : List Byte) : Bool :=
  let zero (a n : Nat) : Bool := (bytesAt g a n).all fun b => decide (b = 0)
  decide (genState g = 2) && zero 3 1 && zero 6 2 && zero 20 12 && zero 48 204

/-- OTP_BURN (0x0B01, R531, R532). -/
def execOtpBurn (h : CmdHdr) (gen : Vector (BitVec 8) 256) (fails : List (List (Fin 2048))) (cut : Bool) (s : State) :
    Host.Outcome State Fault Refusal :=
  let op := 0x0B01
  let r := rOTP_BURN_STATUS
  let g := gen.toList
  let d := s.dev
  let relayed := match h.src with
    | .relay _ _ => true
    | _ => false
  let blank := (List.range 4).filter fun k => decide (genState (s.otp.gen k) = 0)
  if d.b rFLT_STATUS fFLT_STATUS_SAFE then .next { s with dev := d.replySt h op stNotReady }
  else if !burnOk g then .next { s with dev := (d.sf r fOTP_BURN_STATUS_RESULT 3).replySt h op stBadParam }
  else if relayed || blank.isEmpty then .next { s with dev := (d.sf r fOTP_BURN_STATUS_RESULT 2).replySt h op stDenied }
  else
    let x := burnLoop g cut blank (fails.map fun (l : List (Fin 2048)) => l.map fun (i : Fin 2048) => i.val) s.otp 0
    let failed := blank.take x.2.2.1
    let last := match x.2.1 with
      | some k => k
      | none => (blank.take (x.2.2.1 + (if x.2.2.2 then 1 else 0))).getLastD 0
    let d1 := ((d.sf r fOTP_BURN_STATUS_SPENT_COUNT (min 3 x.2.2.1)).sf r fOTP_BURN_STATUS_GEN last).each failed fun e _ =>
      e.raise eOTP_BURN_FAIL 0xFFFF
    let d2 := if x.2.2.2 then d1.sb r fOTP_BURN_STATUS_BUSY true
      else match x.2.1 with
        | some k => ((d1.sf r fOTP_BURN_STATUS_RESULT 1).raise eOTP_BURN_DONE 0xFFFF).reply h op stOk 0 (beBytes 1 k)
        | none => (d1.sf r fOTP_BURN_STATUS_RESULT 2).replySt h op stDenied
    .next { s with dev := d2, otp := x.1 }

/-- A read of OTP_WIN_DATA (R533): 4 bytes at OFFSET, which advances by 4. -/
def Dev.winRead (d : Dev) (o : OtpBanks) : Dev :=
  let a := rOTP_WIN_SEL
  let b := d.f a fOTP_WIN_SEL_BANK
  let i := d.f a fOTP_WIN_SEL_OFFSET / 4 * 4
  let v := BitVec.ofNat 32 (ofBe ((List.range 4).map fun j => o.byte b (i + j)))
  ({ d with bus := { d.bus with rdata := v } }).sf a fOTP_WIN_SEL_OFFSET ((i + 4) % 1024)

/-- OTP_WINDOW_READ (R533). -/
def execOtpWindowRead (s : State) : Host.Outcome State Fault Refusal := onDev s fun d => d.winRead s.otp

/-! ### JTAG (R550) -/

/-- A JTAG instruction takes effect, with what its data register shifts out. -/
def Dev.jtag (d : Dev) (ir out : Nat) : Dev := { d with board := { d.board with jtagIr := ir, jtagOut := out } }

/-- BYPASS: the one-bit bypass register. -/
def execBypass (s : State) : Host.Outcome State Fault Refusal := onDev s fun d => d.jtag 0 0

/-- The identification code (R550): version 0x1 for stepping A1; a later stepping's is a free value. -/
def Dev.idcode (d : Dev) (o : OtpBanks) : Nat :=
  let ver := if memByte o.factory 2 = 0xA1 then 1 else d.free 16
  ver * 2 ^ 28 + 0x5120 * 2 ^ 12 + bits (ofBe (memRead o.factory 28 2)) 10 0 * 2 + 1

/-- IDCODE. -/
def execIdcode (s : State) : Host.Outcome State Fault Refusal := onDev s fun d => (d.jtag 1 (d.idcode s.otp)).used

/-- Balls with a boundary register cell (R537, R550): the LVCMOS and open-drain pins, but those of JTAG itself. -/
def boundaryBall (b : Nat) : Bool := (decide (9730 ≤ b) && decide (b ≤ 9764)) || (decide (9627 ≤ b) && decide (b ≤ 9658))

/-- SAMPLE/PRELOAD: only while PERST_L is asserted, else as BYPASS. -/
def execSamplePreload (pins load : List (Nat × Bool)) (s : State) : Host.Outcome State Fault Refusal :=
  onDev s fun d =>
    if d.board.perst then
      let d1 := d.jtag 2 0
      { d1 with board := { d1.board with
        boundary := load.filter fun x => boundaryBall x.1
        sampled := pins.filter fun x => boundaryBall x.1 } }
    else d.jtag 0 0

/-- EXTEST: only while PERST_L is asserted, else as BYPASS; the boundary register drives the pins and captures them. -/
def execExtest (pins : List (Nat × Bool)) (s : State) : Host.Outcome State Fault Refusal :=
  onDev s fun d =>
    if d.board.perst then
      let d1 := d.jtag 3 0
      { d1 with board := { d1.board with sampled := pins.filter fun x => boundaryBall x.1 } }
    else d.jtag 0 0

end Sys2Proof.Machine
end

