-- ==== Sys2Proof/Machine/Time.lean ====
section
/-! DEFINITION. Machine/Time.lean: the commands of time, PTP, pulses, triggers and captures (R302 to R333). -/
namespace Sys2Proof.Machine

/-! ### PTP messages (R315 to R323) -/

/-- PTP_FRAME_RECEIVE (R316): a recognised frame of the domain goes to the time queue; any other changes nothing here. -/
def execPtpFrameReceive (p : Fin 512) (bytes : List Byte) (dt : Nat) (s : State) : Host.Outcome State Fault Refusal :=
  onLive s fun d =>
    if d.isUp p && d.isPtp p bytes then d.timQueue p bytes (stampOf (d.nowT + dt)) (d.laneUnc p) else d

/-- TIME_TASK (R317): the oldest message of a die's time queue is processed; under STATE_SRC 2 the best master clock
algorithm sets port states (R313). -/
def execTimeTask (die : Fin 2) (dt : Nat) (bmca : List (Fin 512 × Fin 7)) (s : State) : Host.Outcome State Fault Refusal :=
  onLive s fun d =>
    match (if die.val = 0 then d.tim.q0 else d.tim.q1) with
    | [] => d
    | f :: l =>
      let d1 := { d with tim := if die.val = 0 then { d.tim with q0 := l } else { d.tim with q1 := l } }
      let d2 := if d1.pstate f.port = 0 then d1 else d1.ptpProcess f (d.nowT + dt)
      let d3 := if d2.lf rTIM_CTRL fTIM_CTRL_STATE_SRC = 2 then
          d2.each bmca fun e x => if e.ptpOn x.1 then e.setPstate x.1 x.2 else e
        else d2
      d3.taskDone die 0x10

/-- Does a port exchange messages as a monitor (R323)? -/
def Dev.monSends (d : Dev) (p : Nat) : Bool :=
  decide (d.pstate p = 4) && d.jevar p && d.lb rTIM_CTRL fTIM_CTRL_MON_EN

/-- A signed interval field of a port's configuration. -/
def Dev.logOf (d : Dev) (p : Nat) (fl : Fld) : Int := sext 4 (d.lf (rTIM_PORT_CFG p) fl)

/-- PTP_SYNC_SEND (R319): a MASTER or monitor port sends Sync: one-step with its own stamp, or two-step with a
Follow_Up. -/
def execPtpSyncSend (p : Fin 512) (dt : Nat) (s : State) : Host.Outcome State Fault Refusal :=
  onLive s fun d =>
    if d.isUp p && d.ptpOn p && (decide (d.pstate p = 2) || d.monSends p) then
      let x := d.timPort p
      let t := d.nowT + dt
      let log := d.logOf p fTIM_PORT_CFG_LOG_SYNC
      let corr := tsFrac t - x.asymmetry
      let d0 := d.setTimPort p { x with seqSync := (x.seqSync + 1) % 65536 }
      let d1 := if d.lb (rTIM_PORT_CFG p) fTIM_PORT_CFG_ONE_STEP_EN then
          d0.ptpSend p false true t (d.ptpMsg p 0 false corr x.seqSync log (tsBytes t))
        else
          (d0.ptpSend p false true t (d.ptpMsg p 0 true 0 x.seqSync log (zeros 10))).ptpSend p false false t
            (d.ptpMsg p 8 false corr x.seqSync log (tsBytes t))
      d1.cnt (rTIM_CNT_LO 1)
    else d

/-- PTP_DELAY_REQ_SEND (R321): a port that takes time end-to-end sends Delay_Req. -/
def execPtpDelayReqSend (p : Fin 512) (dt : Nat) (s : State) : Host.Outcome State Fault Refusal :=
  onLive s fun d =>
    if d.isUp p && d.ptpOn p && decide (d.f (rPRT_PARTNER p) fPRT_PARTNER_DELAY_MECH = 1) &&
        (decide (d.pstate p = 3) || decide (d.pstate p = 5) || d.monSends p) then
      let x := d.timPort p
      let t := d.nowT + dt
      let d0 := d.setTimPort p { x with seqReq := (x.seqReq + 1) % 65536, req := some (x.seqReq, t) }
      (d0.ptpSend p false true t (d.ptpMsg p 1 false (-x.asymmetry) x.seqReq 0x7F (zeros 10))).cnt (rTIM_CNT_LO 3)
    else d

/-- PTP_PDELAY_REQ_SEND (R318, R321): a peer-to-peer port, or one that is finding its partner's mechanism, sends
Pdelay_Req. -/
def execPtpPdelayReqSend (p : Fin 512) (dt : Nat) (s : State) : Host.Outcome State Fault Refusal :=
  onLive s fun d =>
    let x := d.timPort p
    let mech := d.f (rPRT_PARTNER p) fPRT_PARTNER_DELAY_MECH
    let probing := decide (mech = 0) && decide (d.lf (rTIM_PORT_CFG p) fTIM_PORT_CFG_DELAY = 0) && !d.jevar p &&
      decide (x.probes < 3)
    if d.isUp p && d.ptpOn p && (decide (mech = 2) || probing) then
      let t := d.nowT + dt
      let d0 := d.setTimPort p { x with
        seqReq := (x.seqReq + 1) % 65536, req := some (x.seqReq, t), presp := none,
        probes := if probing then x.probes + 1 else x.probes }
      (d0.ptpSend p true true t (d.ptpMsg p 2 false (-x.asymmetry) x.seqReq 0x7F (zeros 20))).timLayer p 0
    else d

/-- PTP_ANNOUNCE_SEND (R304, R315): a MASTER port sends Announce with the UTC offset and leap flags. -/
def execPtpAnnounceSend (p : Fin 512) (dt : Nat) (s : State) : Host.Outcome State Fault Refusal :=
  onLive s fun d =>
    if d.isUp p && d.ptpOn p && decide (d.pstate p = 2) then
      let x := d.timPort p
      let flags := 8 + (d.f rTIM_UTC fTIM_UTC_VALID) * 4 + (d.f rTIM_UTC fTIM_UTC_LEAP59) * 2 + d.f rTIM_UTC fTIM_UTC_LEAP61
      let body := zeros 10 ++ beBytes 2 (d.f rTIM_UTC fTIM_UTC_OFFSET) ++ zeros 1 ++
        beBytes 17 (Config.ptpAnnounce d.fresh).toNat
      let m := d.ptpMsg p 11 false 0 x.seqAnn (d.logOf p fTIM_PORT_CFG_LOG_ANNOUNCE) body
      ((d.setTimPort p { x with seqAnn := (x.seqAnn + 1) % 65536 }).ptpSend p false false (d.nowT + dt)
        (putAt m 7 (beBytes 1 flags))).used
    else d

/-! ### The servo (R311, R324 to R328) -/

/-- SERVO_OFFSET (R324, R327): the servo takes the oldest accepted offset; one of a port that is its source no more is left. -/
def execServoOffset (s : State) : Host.Outcome State Fault Refusal :=
  onDev s fun d =>
    match d.tim.waiting with
    | [] => d
    | (p, e, log) :: l =>
      let d1 := { d with tim := { d.tim with waiting := l } }
      if d1.srcValid && decide (d1.srcPort ≠ p) then d1 else d1.servo p e log

/-- EXCLUSION_REINSTATE (R326). -/
def execExclusionReinstate (p : Fin 512) (s : State) : Host.Outcome State Fault Refusal :=
  onDev s fun d =>
    if d.b (rTIM_PORT_STATE p) fTIM_PORT_STATE_EXCLUDED &&
        decide ((d.timPort p).exclDeck + d.lrn rTIM_EXCL_REINST ≤ d.deck) then
      d.sb (rTIM_PORT_STATE p) fTIM_PORT_STATE_EXCLUDED false
    else d

/-- Is the source lost (R324)? -/
def Dev.srcGone (d : Dev) : Bool :=
  let p := d.srcPort
  d.srcValid && !d.b rTIM_STATUS fTIM_STATUS_SRC_PPS &&
  (!d.isUp p || decide (4 * logTicks (d.timPort p).logSync ≤ d.trk.tick - (d.timPort p).lastSync) ||
   (decide (d.pstate p ≠ 3) && !d.monitorOk p))

/-- PTP_SOURCE_LOST (R324, R325, R328). -/
def execPtpSourceLost (s : State) : Host.Outcome State Fault Refusal :=
  onDev s fun d => if d.srcGone then d.sourceLost else d

/-- REF_INPUT_FAIL (R311): 0 REFCLK0, 1 TIMEREF_IN, 2 SyncE. -/
def execRefInputFail (input : Fin 3) (s : State) : Host.Outcome State Fault Refusal :=
  onDev s fun d =>
    if d.tim.refFail.contains input.val then d
    else { d with tim := { d.tim with refFail := sortBy id (input.val :: d.tim.refFail) } }

/-- The SyncE port (R312). -/
def Dev.syncePort (d : Dev) : Option Nat :=
  if d.lb rTIM_SYNCE fTIM_SYNCE_FOLLOW then
    (if d.srcValid && !d.b rTIM_STATUS fTIM_STATUS_SRC_PPS then some d.srcPort else none)
  else some (d.lf rTIM_SYNCE fTIM_SYNCE_PORT)

/-- Can a reference input serve: found good, and for SyncE measured on a port in UP? -/
def Dev.refOk (d : Dev) (i : Nat) : Bool :=
  !d.tim.refFail.contains i &&
  (decide (i ≠ 2) || (d.lb rTIM_SYNCE fTIM_SYNCE_EN && (match d.syncePort with
    | some p => d.isUp p
    | none => false)))

/-- The input in use becomes another (R311): TIM_REF_SWITCH. -/
def Dev.refUse (d : Dev) (i : Nat) : Dev :=
  if d.f rTIM_STATUS fTIM_STATUS_REF_ACTIVE = i then d
  else ((d.sf rTIM_STATUS fTIM_STATUS_REF_ACTIVE i).sb rTIM_STATUS fTIM_STATUS_SYNCE_IN_USE (decide (i = 2))).raise
    eTIM_REF_SWITCH 0xFFFF

/-- REF_SWITCH (R311): with AUTO set, the input in use having failed, the next of SyncE, TIMEREF_IN and REFCLK0. -/
def execRefSwitch (s : State) : Host.Outcome State Fault Refusal :=
  onDev s fun d =>
    if d.lb rTIM_REF fTIM_REF_AUTO && !d.refOk (d.f rTIM_STATUS fTIM_STATUS_REF_ACTIVE) then
      match [2, 1, 0].find? d.refOk with
      | some i => d.refUse i
      | none => d
    else d

/-! ### Pulses and triggers (R329, R330) -/

/-- PPS_OUT_RISE (R329): at a whole second of domain time; held low under GATE while TIME_LOCKED is clear. -/
def execPpsOutRise (s : State) : Host.Outcome State Fault Refusal :=
  onLive s fun d =>
    if decide (d.trk.tick % 100000000 = 0) && d.lb rTIM_PPS_OUT fTIM_PPS_OUT_EN &&
        (d.locked || !d.lb rTIM_PPS_OUT fTIM_PPS_OUT_GATE) then
      { d with tim := { d.tim with ppsHigh := true, ppsRise := d.trk.tick } }
    else d

/-- PPS_OUT_FALL (R329): WIDTH_US microseconds after the rise. -/
def execPpsOutFall (s : State) : Host.Outcome State Fault Refusal :=
  onLive s fun d =>
    if d.tim.ppsHigh && decide (d.tim.ppsRise + 100 * d.lf rTIM_PPS_WIDTH fTIM_PPS_WIDTH_WIDTH_US ≤ d.trk.tick) then
      { d with tim := { d.tim with ppsHigh := false } }
    else d

/-- The level of PPS_OUT: low while the output is off, or while TIME_LOCKED is clear under GATE. -/
def Dev.ppsPin (d : Dev) : Bool :=
  d.tim.ppsHigh && d.lb rTIM_PPS_OUT fTIM_PPS_OUT_EN && (d.locked || !d.lb rTIM_PPS_OUT fTIM_PPS_OUT_GATE)

/-- What a trigger keeps beside its registers. -/
def Dev.trig (d : Dev) (n : Nat) : TrigSt := kvGet {} d.tim.trigs n

/-- Replace it. -/
def Dev.setTrig (d : Dev) (n : Nat) (x : TrigSt) : Dev := { d with tim := { d.tim with trigs := kvSet {} n x d.tim.trigs } }

/-- The level of TIME_TRIG[n] (R330). -/
def Dev.trigPin (d : Dev) (n : Nat) : Bool :=
  let c := rTIM_TRIG_CFG n
  let gated := d.b c fTIM_TRIG_CFG_LOCK_GATE && !d.locked
  if gated then d.b c fTIM_TRIG_CFG_POL else ((d.trig n).high != d.b c fTIM_TRIG_CFG_POL)

/-- Start time of a trigger in ns. -/
def Dev.trigStart (d : Dev) (n : Nat) : Nat :=
  ((d.rn (rTIM_TRIG_SEC_HI n) % 65536) * 2 ^ 32 + d.rn (rTIM_TRIG_SEC_LO n)) * 1000000000 + d.rn (rTIM_TRIG_NS n)

/-- Time in ns of an edge of a trigger: edge 2k is the start of pulse k, edge 2k + 1 its end. -/
def Dev.trigEdge (d : Dev) (n k : Nat) : Nat :=
  d.trigStart n + k / 2 * d.rn (rTIM_TRIG_PERIOD n) + (if k % 2 = 1 then d.rn (rTIM_TRIG_WIDTH n) else 0)

/-- Pulses a trigger is to emit; none: without end. -/
def Dev.trigPulses (d : Dev) (n : Nat) : Option Nat :=
  if d.rn (rTIM_TRIG_PERIOD n) = 0 then some 1
  else if d.f (rTIM_TRIG_CFG n) fTIM_TRIG_CFG_COUNT = 0 then none else some (d.f (rTIM_TRIG_CFG n) fTIM_TRIG_CFG_COUNT)

/-- Edges of a trigger that lie before a time in ns. -/
def Dev.trigBefore (d : Dev) (n t : Nat) : Nat :=
  let p := d.rn (rTIM_TRIG_PERIOD n)
  let upTo (a : Nat) : Nat :=
    let m := if t ≤ a then 0 else if p = 0 then 1 else (t - a + p - 1) / p
    match d.trigPulses n with
    | some c => min c m
    | none => m
  upTo (d.trigStart n) + upTo (d.trigStart n + d.rn (rTIM_TRIG_WIDTH n))

/-- Missed edges are counted and told (R330). -/
def Dev.trigMiss (d : Dev) (k : Nat) : Dev :=
  if k = 0 then d else (d.cnt (rTIM_CNT_LO 12) k).raise eTIM_TRIG_MISSED 0xFFFF

/-- A trigger is enabled (R330): edges before `t` (ns) are missed. -/
def Dev.trigArm (d : Dev) (n t : Nat) : Dev :=
  let k := d.trigBefore n t
  (((d.wn (rTIM_TRIG_STATUS n) 0).setTrig n { next := k, high := false })).trigMiss k

/-- After a step (R330): edges passed over are missed, edges at times entered again are emitted again. -/
def Dev.trigStep (d : Dev) : Dev :=
  d.each (List.range 8) fun e n =>
    if e.b (rTIM_TRIG_CFG n) fTIM_TRIG_CFG_EN then
      let k := e.trigBefore n (10 * e.trk.tick)
      let x := e.trig n
      (e.setTrig n { x with next := k, high := x.high && decide (k % 2 = 1) }).trigMiss (k - x.next)
    else e

/-- Register of a trigger. -/
def trigAddr (n : Nat) : TrigReg → Nat
  | .cfg => rTIM_TRIG_CFG n
  | .secLo => rTIM_TRIG_SEC_LO n
  | .secHi => rTIM_TRIG_SEC_HI n
  | .ns => rTIM_TRIG_NS n
  | .period => rTIM_TRIG_PERIOD n
  | .width => rTIM_TRIG_WIDTH n
  | .adj => rTIM_TRIG_ADJ n

/-- Do a period and a width agree (R330)? -/
def trigShape (period width : Nat) : Bool :=
  if period = 0 then decide (10 ≤ width)
  else decide (20 ≤ period) && decide (period ≤ 4000000000) && decide (10 ≤ width) && decide (width + 10 ≤ period)

/-- May a trigger's register be written (R330)? -/
def Dev.trigOk (d : Dev) (n : Nat) (r : TrigReg) (v : Nat) : Bool :=
  match r with
  | .period => trigShape v (d.rn (rTIM_TRIG_WIDTH n))
  | .width => trigShape (d.rn (rTIM_TRIG_PERIOD n)) v
  | .ns => decide (v < 1000000000)
  | .cfg => decide (bits v 31 31 = 0) || trigShape (d.rn (rTIM_TRIG_PERIOD n)) (d.rn (rTIM_TRIG_WIDTH n))
  | .secLo | .secHi | .adj => true

/-- A write of a trigger's register (R330): in force from the next tick boundary; edges less than 2 ticks past it at
enabling are missed. -/
def Dev.trigWrite (d : Dev) (n : Nat) (r : TrigReg) (v : Nat) : Dev :=
  if d.trigOk n r v then
    let was := d.b (rTIM_TRIG_CFG n) fTIM_TRIG_CFG_EN
    let d1 := d.plainWrite (trigAddr n r) v
    let on := d1.b (rTIM_TRIG_CFG n) fTIM_TRIG_CFG_EN
    let at3 := 10 * (d.trk.tick + 3)
    if on && !was then d1.trigArm n at3
    else if on then d1.setTrig n { next := d1.trigBefore n (10 * (d.trk.tick + 1)), high := (d1.trig n).high }
    else d1.setTrig n {}
  else d.sb (rTIM_TRIG_CFG n) fTIM_TRIG_CFG_CFG_ERR true

/-- TIME_TRIGGER_WRITE (R330). -/
def execTimeTriggerWrite (n : Fin 8) (r : TrigReg) (value : BitVec 32) (s : State) : Host.Outcome State Fault Refusal :=
  onDev s fun d => d.trigWrite n r value.toNat

/-- TRIGGER_EDGE (R330): the trigger's next edge lies in this tick; EMITTED counts pulses whose start leaves the pin. -/
def execTriggerEdge (n : Fin 8) (s : State) : Host.Outcome State Fault Refusal :=
  onLive s fun d =>
    let x := d.trig n
    let left := match d.trigPulses n with
      | some c => decide (x.next < 2 * c)
      | none => true
    if d.b (rTIM_TRIG_CFG n) fTIM_TRIG_CFG_EN && left && decide (d.trigEdge n x.next / 10 = d.trk.tick) then
      let d1 := d.setTrig n { next := x.next + 1, high := decide (x.next % 2 = 0) }
      let out := d.locked || !d.b (rTIM_TRIG_CFG n) fTIM_TRIG_CFG_LOCK_GATE
      if x.next % 2 = 0 && out then d1.cnt32 (rTIM_TRIG_STATUS n) else d1
    else d

/-! ### Captures (R331, R333) -/

/-- What a capture input keeps beside its registers. -/
def Dev.capt (d : Dev) (n : Nat) : CaptSt := kvGet {} d.tim.capts n

/-- Replace it; DEPTH follows. -/
def Dev.setCapt (d : Dev) (n : Nat) (x : CaptSt) : Dev :=
  { d with tim := { d.tim with capts := kvSet {} n x d.tim.capts } }.sf (rTIM_CAPT_STATUS n) fTIM_CAPT_STATUS_DEPTH x.fifo.length

/-- An offset of PPS_IN from the nearest whole second (R314), taken by the servo unless it is an outlier (R326, R327). -/
def Dev.ppsOffset (d : Dev) (t : Nat) : Dev :=
  let sec : Nat := 65536 * 1000000000
  let e : Int := (t : Int) - (((t + sec / 2) / sec * sec : Nat) : Int)
  let x := d.timPort 0xFFFF
  if !d.lb rTIM_CTRL fTIM_CTRL_EN || (d.srcValid && !d.b rTIM_STATUS fTIM_STATUS_SRC_PPS) then d
  else if d.outlier e && !d.stepSized e then
    let d1 := (d.setTimPort 0xFFFF { x with outliers := x.outliers + 1 }).cnt (rTIM_CNT_LO 6)
    if 4 ≤ x.outliers + 1 then d1.timeUnlock else d1
  else
    let d1 := d.setTimPort 0xFFFF { x with outliers := 0 }
    { d1 with tim := { d1.tim with waiting := d1.tim.waiting ++ [(0xFFFF, e, 0)] } }

/-- CAPTURE_EDGE (R331): stamped into the input's FIFO, or merged, or dropped with OVF; journalled under JRN; a rise of
PPS_IN gives a root its phase (R314). -/
def execCaptureEdge (n : Fin 9) (falling : Bool) (dt : Nat) (s : State) : Host.Outcome State Fault Refusal :=
  onDev s fun d =>
    let c := rTIM_CAPT_CFG n
    let edge := d.lf c fTIM_CAPT_CFG_EDGE
    if d.lb c fTIM_CAPT_CFG_EN && (if falling then decide (2 ≤ edge) else decide (edge ≠ 2)) then
      let x := d.capt n
      let t := d.nowT + dt
      let u := uncAdd d.uDom 16
      let merged := match x.last with
        | some t0 => decide (t - t0 < 1310720) && decide (t0 ≤ t)
        | none => false
      if merged then (d.cnt (rTIM_CNT_LO 13)).sb (rTIM_CAPT_STATUS n) fTIM_CAPT_STATUS_OVF true
      else
        let d1 := if x.fifo.length < 64 then
            let e := d.setCapt n { fifo := x.fifo ++ [(stampOf t, u, falling)], last := some t }
            if x.fifo.isEmpty then e.raise eTIM_CAPT_EVT 0xFFFF else e
          else
            (((d.setCapt n { x with last := some t }).cnt (rTIM_CNT_LO 13)).sb (rTIM_CAPT_STATUS n) fTIM_CAPT_STATUS_OVF
              true).raise eTIM_CAPT_EVT 0xFFFF
        let d2 := if d1.lb c fTIM_CAPT_CFG_JRN && d1.jrnActive then
            if d1.jrnFull 0 then d1.jrnLost 0 11
            else (d1.jrnPut 0 { ts := stampOf t, unc := u, iport := 0xE000 + n, eport := 0xFFFF, type := 8,
                                reason := falling.toNat }).jrnJudge 0
          else d1
        if n.val = 8 && !falling && d2.lb rTIM_REF fTIM_REF_PPS_IN_PHASE && d2.isRoot && d2.tim.secSet then d2.ppsOffset t
        else d2
    else d

/-- A read of TIM_CAPT_SEC_LO takes the oldest entry and latches its other fields (R331, R333). -/
def Dev.captPop (d : Dev) (n : Nat) : Dev :=
  let x := d.capt n
  match x.fifo with
  | [] => { d with bus := { d.bus with rdata := 0 } }.wn (rTIM_CAPT_SEC_HI n) 0
  | (st, u, fall) :: l =>
    let sec := st / 2 ^ 48
    let d1 := d.setCapt n { x with fifo := l }
    let d2 := ((d1.wn (rTIM_CAPT_SEC_HI n) (2 ^ 31 + fall.toNat * 2 ^ 30 + sec / 2 ^ 32)).wn (rTIM_CAPT_NS n)
      (st / 2 ^ 16 % 2 ^ 32)).wn (rTIM_CAPT_FRAC n) (u * 65536 + st % 65536)
    { d2 with bus := { d2.bus with rdata := BitVec.ofNat 32 sec } }

/-- CAPTURE_FIFO_POP (R331, R333). -/
def execCaptureFifoPop (n : Fin 9) (s : State) : Host.Outcome State Fault Refusal :=
  onDev s fun d => d.captPop n

/-- A read of TIM_NOW_SEC_LO (R333): the four reads that follow describe one instant. -/
def Dev.nowLatch (d : Dev) : Dev :=
  let st := d.now
  let sec := st / 2 ^ 48
  let d1 := ((d.wn rTIM_NOW_SEC_HI (sec / 2 ^ 32)).wn rTIM_NOW_NS (st / 2 ^ 16 % 2 ^ 32)).wn rTIM_NOW_FRAC (st % 65536)
  { d1 with bus := { d1.bus with
    rdata := BitVec.ofNat 32 sec, rdHold := kvSet 0 rTIM_UNC (d1.rd rTIM_UNC) d1.bus.rdHold } }

/-- TIME_NOW_LATCH (R333). -/
def execTimeNowLatch (s : State) : Host.Outcome State Fault Refusal := onDev s Dev.nowLatch

/-! ### Time-family commands (R433) -/

/-- TIME_SET (R314): a root without a PTP source takes seconds and nanoseconds; the offset is removed under R34 and R35. -/
def execTimeSet (h : CmdHdr) (seconds : BitVec 48) (ns : BitVec 32) (s : State) : Host.Outcome State Fault Refusal :=
  onCmd s h 0x0600 fun d =>
    if !d.isRoot || (d.srcValid && !d.b rTIM_STATUS fTIM_STATUS_SRC_PPS) then d.replySt h 0x0600 stDenied
    else if 999999999 < ns.toNat then d.replySt h 0x0600 stBadParam
    else
      let t := (seconds.toNat * 1000000000 + ns.toNat) * 65536
      ({ d with tim := { d.tim with secSet := true } }.offsetRemove ((d.nowT : Int) - t) false).replySt h 0x0600 stOk

/-- TIME_READ (R433). -/
def execTimeRead (h : CmdHdr) (s : State) : Host.Outcome State Fault Refusal :=
  onDev s fun d =>
    d.reply h 0x0601 stOk 0 (beBytes 12 d.now ++ beBytes 2 d.uDom ++ beBytes 1 (d.f rTIM_STATUS fTIM_STATUS_SSTATE) ++
      beBytes 1 d.locked.toNat)

/-- TIME_PORT_STATE (R313): one state per port under STATE_SRC 1. -/
def execTimePortState (h : CmdHdr) (port : BitVec 16) (state : BitVec 8) (s : State) : Host.Outcome State Fault Refusal :=
  onCmd s h 0x0602 fun d =>
    if d.lf rTIM_CTRL fTIM_CTRL_STATE_SRC ≠ 1 then d.replySt h 0x0602 stDenied
    else if 512 ≤ port.toNat ∨ 6 < state.toNat then d.replySt h 0x0602 stBadParam
    else
      let d1 := if d.ptpOn port.toNat then (d.setPstate port.toNat state.toNat).timLayer port.toNat 0 else d
      d1.replySt h 0x0602 stOk

/-- Is the command a scheduled one (R332)? -/
def Dev.scheduledCmd (d : Dev) (h : CmdHdr) (opcode : Nat) : Bool :=
  match d.cmdTask h.src h.tag opcode with
  | some (_, _, t) => (match t.cmd with
    | some c => decide (c.deck ≠ 0)
    | none => false)
  | none => false

/-- A register's written value is in force at once (R332). -/
def Dev.inForce (d : Dev) (a : Nat) : Dev := { d with live := kvSet (resetOf a) a (kvGet (resetOf a) d.regs a) d.live }

/-- TIME_TRIG (R330, R332): a trigger output, or PPS_OUT as output 8, whose width is given in nanoseconds. -/
def execTimeTrig (h : CmdHdr) (output : BitVec 8) (en pol gate : Bool) (seconds : BitVec 48)
    (ns period width count : BitVec 32) (adj : BitVec 16) (s : State) : Host.Outcome State Fault Refusal :=
  onCmd s h 0x0603 fun d =>
    let n := output.toNat
    if n = 8 then
      let us := width.toNat / 1000
      if us = 0 ∨ 999999 < us then d.replySt h 0x0603 stBadParam
      else
        let d1 := ((d.sb rTIM_PPS_OUT fTIM_PPS_OUT_EN en).sb rTIM_PPS_OUT fTIM_PPS_OUT_GATE gate).sf rTIM_PPS_OUT
          fTIM_PPS_OUT_ADJ adj.toNat
        let d2 := d1.sf rTIM_PPS_WIDTH fTIM_PPS_WIDTH_WIDTH_US us
        (if d.scheduledCmd h 0x0603 then (d2.inForce rTIM_PPS_OUT).inForce rTIM_PPS_WIDTH else d2).replySt h 0x0603 stOk
    else if 8 < n ∨ 999999999 < ns.toNat ∨ 16777215 < count.toNat ∨ ¬ trigShape period.toNat width.toNat then
      d.replySt h 0x0603 stBadParam
    else
      let d1 := ((((d.wn (rTIM_TRIG_SEC_LO n) (seconds.toNat % 2 ^ 32)).wn (rTIM_TRIG_SEC_HI n) (seconds.toNat / 2 ^ 32)).wn
        (rTIM_TRIG_NS n) ns.toNat).wn (rTIM_TRIG_PERIOD n) period.toNat).wn (rTIM_TRIG_WIDTH n) width.toNat
      let d2 := (((d1.sb (rTIM_TRIG_CFG n) fTIM_TRIG_CFG_EN en).sb (rTIM_TRIG_CFG n) fTIM_TRIG_CFG_POL pol).sb
        (rTIM_TRIG_CFG n) fTIM_TRIG_CFG_LOCK_GATE gate).sf (rTIM_TRIG_CFG n) fTIM_TRIG_CFG_COUNT count.toNat
      let d3 := d2.wn (rTIM_TRIG_ADJ n) adj.toNat
      let t := if d.scheduledCmd h 0x0603 then 10 * d.trk.tick else 10 * (d.trk.tick + 3)
      (if en then d3.trigArm n t else d3.setTrig n {}).replySt h 0x0603 stOk

/-- TIME_ASYM (R322): in force from the next deck boundary. -/
def execTimeAsym (h : CmdHdr) (port const : BitVec 16) (asymUnc : BitVec 8) (coef : BitVec 32) (s : State) :
    Host.Outcome State Fault Refusal :=
  onCmd s h 0x0604 fun d =>
    let p := port.toNat
    if 512 ≤ p then d.replySt h 0x0604 stBadParam
    else
      let d1 := (d.sf (rTIM_PORT_ASYM p) fTIM_PORT_ASYM_CONST const.toNat).sf (rTIM_PORT_ASYM p) fTIM_PORT_ASYM_ASYM_UNC
        asymUnc.toNat
      let d2 := d1.wn (rTIM_PORT_COEF p) coef.toNat
      let d3 := if d.scheduledCmd h 0x0604 then
          d2.setTimPort p { d2.timPort p with asym := sext 16 const.toNat, coef := sext 32 coef.toNat }
        else d2
      d3.replySt h 0x0604 stOk

/-- TIME_UTC (R304). -/
def execTimeUtc (h : CmdHdr) (offset : BitVec 16) (fromPtp valid leap59 leap61 : Bool) (s : State) :
    Host.Outcome State Fault Refusal :=
  onCmd s h 0x0605 fun d =>
    let d1 := ((((d.sf rTIM_UTC fTIM_UTC_OFFSET offset.toNat).sb rTIM_UTC fTIM_UTC_FROM_PTP fromPtp).sb rTIM_UTC
      fTIM_UTC_VALID valid).sb rTIM_UTC fTIM_UTC_LEAP59 leap59).sb rTIM_UTC fTIM_UTC_LEAP61 leap61
    (if d.scheduledCmd h 0x0605 then d1.inForce rTIM_UTC else d1).replySt h 0x0605 stOk

/-! ### Boundaries -/

/-- Time actions of a tick boundary: port states, the source and the reference follow what has changed (R311: the input
is the one SEL names, while it serves or where AUTO is 0). -/
def Dev.timTick (d : Dev) : Dev :=
  let d1 := d.timFollow.rootSelf.sourceFollow
  let sel := d1.lf rTIM_REF fTIM_REF_SEL
  if d1.refOk sel || !d1.lb rTIM_REF fTIM_REF_AUTO then d1.refUse sel else d1

/-- Time actions of a deck boundary: asymmetries take effect (R322), the frequency correction joins its history (R328). -/
def Dev.timDeck (d : Dev) : Dev :=
  let ps := d.listedIdx (rTIM_PORT_ASYM 0) 16 512 ++ d.listedIdx (rTIM_PORT_COEF 0) 4 512 ++ d.tim.ports.map (·.1)
  let d1 := d.each ps fun e p =>
    if p < 512 then
      e.setTimPort p { e.timPort p with
        asym := sext 16 (e.f (rTIM_PORT_ASYM p) fTIM_PORT_ASYM_CONST), coef := sext 32 (e.rn (rTIM_PORT_COEF p)) }
    else e
  { d1 with tim := { d1.tim with freqHist := (d1.tim.freq :: d1.tim.freqHist).take 65535 } }

end Sys2Proof.Machine
end

