-- ==== Sys2Proof/Machine/Bus.lean ====
section
/-! DEFINITION. Machine/Bus.lean: host accesses to registers (R6 to R9, R413, R414, R513): which registers answer, the values
their fields take, the effects of their writes and reads, and pairs. -/
namespace Sys2Proof.Machine

/-! ### Finding a register -/

/-- Indices of an element at an offset from a register's first element, largest stride first. -/
def elemIdx : List (Nat × Nat) → Nat → List Nat
  | [], _ => []
  | (stride, count) :: ds, rest =>
    let i := min (rest / stride) (count - 1)
    i :: elemIdx ds (rest - i * stride)

/-- The register at an address: the address of its first element, and its indices. -/
def regKey (a : Nat) : Option (Nat × List Nat) :=
  (regAt a).map fun r => (a / 0x100000 * 0x100000 + r.off, elemIdx r.dims (a % 0x100000 - r.off))

/-- Low words of the 64-bit values held in two registers (R9), by the addresses of their first elements; a high word stands
4 above its low word. -/
def pairLows : Nat → List Nat
  | 0 => [rTCK_NUM_LO, rTCK_DECK_LO, rTCK_LAST_STEP_LO, rTCK_LATE_CNT_LO 0]
  | 2 => [rRAIL_GRP_FRAMES_LO 0]
  | 3 => [rPAR_CNT_LO 0 0]
  | 4 => [rTBL_COMMIT_LO 0, rTBL_CNT_LO 0 0, rTBL_T_HIT_LO 0 0, rTBL_T_MISS_LO 0 0]
  | 5 => [rFLW_CNT_LO 0 0, rFLW_RACE_CNT_LO 0 0]
  | 6 => [rBUF_CNT_LO 0 0]
  | 7 => [rSCH_CNT_LO 0 0]
  | 8 => [rLVL_CNT_LO 0 0]
  | 9 => [rTIM_CNT_LO 0]
  | 10 => [rJRN_RUN_DECK_LO, rJRN_SUM_DECK_LO, rJRN_SIGNED_LO, rJRN_WR_LO 0, rJRN_RD_LO 0, rJRN_CNT_LO 0 0]
  | 11 => [rMEM_S_CNT_LO 0 0]
  | 12 => [rRCK_OPEN_ID_LO, rRCK_D_RETIRED_LO 0, rRCK_D_CNT_LO 0 0]
  | 13 => [rDMA_EVT_BASE_LO, rDMA_CNT_LO 0, rDMA_CR_BASE_LO 0, rDMA_RR_BASE_LO 0, rDMA_PUNT_BASE_LO 0, rDMA_CH_SRC_LO 0,
      rDMA_CH_DST_LO 0, rDMA_CH_DESC_LO 0, rDMA_CH_ERR_LO 0]
  | 14 => [rPOOL_CNT_LO 0 0]
  | 15 => [rDOM_SERIAL_LO, rDOM_CNT_LO 0]
  | 16 => [rNRG_ROD_LO, rNRG_CNT_LO 0]
  | 17 => [rFLT_SAFE_TICK_LO, rFLT_D_CNT_LO 0 0, rFLT_K_SYN_LO]
  | 18 => [rCNT_CYC_LO 0, rCNT_VAL_LO 0 0, rCNT_RLD_LO 0 0, rCNT_SLOT_LO 0 0, rCNT_SNAP_TICK_LO, rCNT_PORT_LO 0 0,
      rCNT_DROP_LO 0 0 0]
  | 19 => [rOTP_READY_TICK_LO]
  | _ => []

/-- Is a register the low word of a pair? -/
def isLow (k : Nat) : Bool := (pairLows (k / 0x100000)).contains k

/-- Is a register the high word of a pair? -/
def isHigh (k : Nat) : Bool := (pairLows (k / 0x100000)).contains (k - 4)

/-- The low 12 bits of ring base addresses read 0. -/
def pageLows : List Nat := [rDMA_EVT_BASE_LO, rDMA_CR_BASE_LO 0, rDMA_RR_BASE_LO 0, rDMA_PUNT_BASE_LO 0]

/-- The IRQ_EN registers; each stands 4 above its EVT_STATUS (R416). -/
def irqEnables : List Nat :=
  [rTCK_LATE_IRQ_EN, rPRT_EVT_IRQ_EN, rRAIL_EVT_IRQ_EN, rTBL_EVT_IRQ_EN 0, rTBL_EVT_IRQ_EN 1, rFLW_EVT_IRQ_EN 0,
    rFLW_EVT_IRQ_EN 1, rFLW_RACE_EVT_IRQ_EN 0, rFLW_RACE_EVT_IRQ_EN 1, rBUF_EVT_IRQ_EN 0, rBUF_EVT_IRQ_EN 1,
    rSCH_EVT_IRQ_EN 0, rSCH_EVT_IRQ_EN 1, rLVL_EVT_IRQ_EN, rTIM_EVT_IRQ_EN, rJRN_EVT_IRQ_EN, rMEM_EVT_IRQ_EN, rRCK_EVT_IRQ_EN,
    rDMA_EVT_IRQ_EN, rPOOL_EVT_IRQ_EN, rDOM_EVT_IRQ_EN, rNRG_EVT_IRQ_EN, rFLT_EVT_IRQ_EN, rCNT_EVT_IRQ_EN, rOTP_EVT_IRQ_EN]

/-! ### Which registers answer -/

/-- Does BAR 0 answer at an address (R491, R513): all of it from COMMAND_READY; before that, once the link is up, the OTP_,
FLT_ and TCK_ blocks, the DMA channels after step 3, MEM_CTRL and MEM_PART after step 7; while GRAVE is set, FLT_ and OTP_. -/
def Dev.barOpen (d : Dev) (a : Nat) : Bool :=
  let b := a / 0x100000
  if !d.host.linkUp then false
  else if d.b rFLT_STATUS fFLT_STATUS_GRAVE then b = 17 || b = 19
  else d.b rOTP_BOOT_STATUS fOTP_BOOT_STATUS_COMMAND_READY || b = 0 || b = 17 || b = 19 ||
    (d.stepDone 3 && decide (rDMA_CH_SRC_LO 0 ≤ a) && decide (a ≤ rDMA_CH_ERR_HI 63)) ||
    (d.stepDone 7 && (decide (a = rMEM_CTRL) || decide (a = rMEM_PART_A) || decide (a = rMEM_PART_B)))

/-- Is a register of a port's frame absent (R91): the frame's lane lies inside another port, or names no port? -/
def Dev.portAbsent (d : Dev) (a : Nat) : Bool :=
  let o := a % 0x100000
  let p := o / 64
  decide (a / 0x100000 = 1) && decide (o < 0x8000) &&
    (d.insidePort p || (decide (a ≠ rPRT_CFG p) && decide (d.cfgMode p = 0)))

/-! ### Values that fields take -/

/-- A field takes a value from `lo` to `hi`. -/
def within (lo hi v : Nat) : Bool := decide (lo ≤ v) && decide (v ≤ hi)

/-- Fields of blocks 0 to 9 that take only some values: a write of another leaves the field as it was. -/
def fieldRules1 (k : Nat) : List (Fld × (Nat → Bool)) :=
  if k = rTCK_CTRL then [(fTCK_CTRL_SLEW_PPM, within 1 50)]
  else if k = rPRT_SCAN then [(fPRT_SCAN_CLK_DIV, within 63 255)]
  else if k = rFLW_CACHE_CFG 0 then [(fFLW_CACHE_CFG_STAY_MAX, within 0 8)]
  else if k = rFLW_CARRY_CFG 0 then [(fFLW_CARRY_CFG_HIGH_PCT, within 1 99)]
  else if k = rFLW_IPFIX_CFG 0 then [(fFLW_IPFIX_CFG_MAX_MSG, within 512 9000)]
  else if k = rFLW_PROF_A 0 0 then
    [(fFLW_PROF_A_KIND, within 0 5), (fFLW_PROF_A_LATE_ACT, within 0 2), (fFLW_PROF_A_LEARN, within 0 1),
      (fFLW_PROF_A_MISS_ACT, within 0 2), (fFLW_PROF_A_GAP_ACT, within 0 2), (fFLW_PROF_A_THR_ACT, within 0 2)]
  else if k = rFLW_LEARN_CFG 0 then [(fFLW_LEARN_CFG_DEADLINE, within 1 255)]
  else if k = rFLW_INS_CFG 0 then [(fFLW_INS_CFG_MAX_MOVES, within 1 8)]
  else if k = rFLW_REHASH_CFG 0 then [(fFLW_REHASH_CFG_PASSES, within 1 15)]
  else if k = rBUF_SPILL_CFG 0 then [(fBUF_SPILL_CFG_HEAD_CELLS, within 32 511)]
  else if k = rTIM_CTRL then [(fTIM_CTRL_PTP_DOMAIN, within 0 127), (fTIM_CTRL_STATE_SRC, within 0 2)]
  else if k = rTIM_GAIN then [(fTIM_GAIN_KP_LOG2, within 0 31), (fTIM_GAIN_KI_LOG2, within 0 31)]
  else if k = rTIM_LOCK then [(fTIM_LOCK_LOCK_N, within 1 255)]
  else if k = rTIM_REF then [(fTIM_REF_SEL, within 0 2)]
  else if k = rTIM_SYNCE then [(fTIM_SYNCE_BW, within 1 100)]
  else if k = rTIM_PPS_WIDTH then [(fTIM_PPS_WIDTH_WIDTH_US, within 1 999999)]
  else if k = rTIM_PORT_CFG 0 then [(fTIM_PORT_CFG_TRANSPORT, within 0 2), (fTIM_PORT_CFG_DELAY, within 0 2)]
  else if k = rTIM_CAPT_CFG 0 then [(fTIM_CAPT_CFG_EDGE, within 1 3)]
  else []

/-- Fields of blocks 10 to 19 that take only some values. -/
def fieldRules2 (k : Nat) : List (Fld × (Nat → Bool)) :=
  if k = rJRN_DOM_CFG then [(fJRN_DOM_CFG_WAIT_DECKS, within 1 255)]
  else if k = rJRN_PORT_CFG then [(fJRN_PORT_CFG_RECS, within 1 140)]
  else if k = rMEM_PART_A then [(fMEM_PART_A_FLOW, within 0 96)]
  else if k = rMEM_RH then [(fMEM_RH_THRESH, within 256 65535), (fMEM_RH_GAP_TICKS, within 1 65535)]
  else if k = rRCK_CTRL then [(fRCK_CTRL_TRACE_MODE, within 0 2)]
  else if k = rRCK_CMD_CFG then [(fRCK_CMD_CFG_DEADLINE, within 1 65535), (fRCK_CMD_CFG_BUDGET, within 1 65535)]
  else if k = rRCK_TRACE_CFG then [(fRCK_TRACE_CFG_RING_LOG2, within 10 24)]
  else if k = rRCK_D_RESV 0 then [(fRCK_D_RESV_ENTRIES, within 0 8192)]
  else if k = rRCK_TYPE_CFG 0 then [(fRCK_TYPE_CFG_DEADLINE, within 1 1048575), (fRCK_TYPE_CFG_BUDGET, within 1 1023)]
  else if k = rDMA_CPL_TIMEOUT then [(fDMA_CPL_TIMEOUT_US, within 50 50000)]
  else if k = rDMA_CMD_CFG then [(fDMA_CMD_CFG_RELAY_DECKS, within 1 65535), (fDMA_CMD_CFG_BATCH_TTL, within 1 65535)]
  else if k = rDMA_CR_CFG 0 then [(fDMA_CR_CFG_MAX_OUT, within 1 8191)]
  else if k = rDOM_ROOT_CFG then [(fDOM_ROOT_CFG_ROOT_HOLD_RODS, within 1 255)]
  else if k = rDOM_ETYPE then [(fDOM_ETYPE_ETYPE, within 0x600 65535)]
  else if k = rDOM_TIMER then [(fDOM_TIMER_FLOOD_HOPS, within 1 255), (fDOM_TIMER_MISS_RODS, within 21 255)]
  else if k = rNRG_CTRL then [(fNRG_CTRL_THR_MODE, within 0 2), (fNRG_CTRL_MARGIN_PCT, within 0 50)]
  else if k = rNRG_PLAN then [(fNRG_PLAN_RELEASE_RODS, within 1 255), (fNRG_PLAN_FORECAST_RODS, within 1 64)]
  else if k = rNRG_GATE then [(fNRG_GATE_IDLE_RODS, within 1 255)]
  else if k = rNRG_XCHK then [(fNRG_XCHK_RODS, within 1 255), (fNRG_XCHK_TOL_PCT, within 1 100)]
  else if k = rNRG_EVT_CFG then [(fNRG_EVT_CFG_OVER_RODS, within 1 65535)]
  else if k = rNRG_RING then [(fNRG_RING_RING_LOG2, within 10 24)]
  else []

/-- The fields of a register that take only some values (the register maps of the chapters). -/
def fieldRules (k : Nat) : List (Fld × (Nat → Bool)) :=
  if k / 0x100000 < 10 then fieldRules1 k else fieldRules2 k

/-- Fields that ignore writes while something is enabled: their old values stay. -/
def Dev.heldFields (d : Dev) (k : Nat) (i : Nat) : List Fld :=
  if k = rJRN_SUM_CFG then
    if d.f rJRN_STATUS fJRN_STATUS_STATE = 0 then [] else [fJRN_SUM_CFG_CHILD_LOG2, fJRN_SUM_CFG_SUM_LOG2]
  else if k = rRCK_TRACE_CFG then
    if d.lf rRCK_CTRL fRCK_CTRL_TRACE_MODE = 0 then [] else [fRCK_TRACE_CFG_RING_LOG2]
  else if k = rDMA_EVT_CFG then if d.b rDMA_CTRL fDMA_CTRL_EVT_EN then [fDMA_EVT_CFG_SIZE_LOG2] else []
  else if k = rDMA_CR_CFG 0 then
    if d.b (rDMA_CR_CFG i) fDMA_CR_CFG_EN then [fDMA_CR_CFG_SIZE_LOG2, fDMA_CR_CFG_SLOT_LOG2] else []
  else if k = rDMA_PUNT_CFG 0 then
    if d.b (rDMA_PUNT_CFG i) fDMA_PUNT_CFG_EN then [fDMA_PUNT_CFG_SIZE_LOG2, fDMA_PUNT_CFG_SLOT_LOG2] else []
  else if k = rNRG_RING then if d.b rNRG_CTRL fNRG_CTRL_EN then [fNRG_RING_RING_LOG2] else []
  else []

/-- Is a whole write ignored? -/
def Dev.writeHeld (d : Dev) (k i v : Nat) : Bool :=
  if k = rMEM_PART_A ∨ k = rMEM_PART_B then d.b rMEM_STATUS fMEM_STATUS_COMMITTED
  else if k = rTIM_LOCK then decide (bits v fTIM_LOCK_UNLOCK.hi fTIM_LOCK_UNLOCK.lo ≤ bits v fTIM_LOCK_LOCK.hi fTIM_LOCK_LOCK.lo)
  else if k = rDMA_CR_BASE_LO 0 ∨ k = rDMA_RR_BASE_LO 0 then d.b (rDMA_CR_CFG i) fDMA_CR_CFG_EN
  else if k = rDMA_CH_SRC_LO 0 ∨ k = rDMA_CH_DST_LO 0 ∨ k = rDMA_CH_DESC_LO 0 ∨ k = rDMA_CH_COUNT 0 then
    decide (d.chanState i = 1)
  else if k = rDOM_ID ∨ k = rDOM_ROOT_CFG ∨ k = rDOM_ETYPE ∨ k = rDOM_PORT_EN 0 then d.b rDOM_CTRL fDOM_CTRL_EN
  else if k = rFLT_K_TARGET ∨ k = rFLT_K_ADDR ∨ k = rFLT_K_SYN_LO then !d.b rFLT_KMODE fFLT_KMODE_ACTIVE
  else false

/-- The value written, with the fields that do not take theirs as they were. -/
def Dev.guarded (d : Dev) (k i a v : Nat) : Nat :=
  let keep (fl : Fld) (v : Nat) : Nat := putBits v fl.hi fl.lo (d.f a fl)
  let v1 := (fieldRules k).foldl (fun w r => if r.2 (bits v r.1.hi r.1.lo) then w else keep r.1 w) v
  let v2 := (d.heldFields k i).foldl (fun w fl => keep fl w) v1
  if pageLows.contains k then v2 / 4096 * 4096 else v2

/-! ### Effects of writes -/

/-- FLT_CHK_DESC follows FLT_CHK_SEL (R493, R496). -/
def Dev.chkDesc (d : Dev) : Dev :=
  let die := d.f rFLT_CHK_SEL fFLT_CHK_SEL_DIE
  let id := d.f rFLT_CHK_SEL fFLT_CHK_SEL_CHECKER
  let n := ((List.range 2048).filter fun j => (checkerOf die (id / 2048 * 2048 + j)).isSome).length
  let c := d.sf rFLT_CHK_DESC fFLT_CHK_DESC_COUNT (min n 2047)
  match checkerOf die id with
  | none => (((c.sb rFLT_CHK_DESC fFLT_CHK_DESC_EXISTS false).sf rFLT_CHK_DESC fFLT_CHK_DESC_KIND 0).sf rFLT_CHK_DESC
      fFLT_CHK_DESC_WIDTH 0).sf rFLT_CHK_DESC fFLT_CHK_DESC_UE_CLASS 0
  | some (kind, w, cls, _) => (((c.sb rFLT_CHK_DESC fFLT_CHK_DESC_EXISTS true).sf rFLT_CHK_DESC fFLT_CHK_DESC_KIND kind).sf
      rFLT_CHK_DESC fFLT_CHK_DESC_WIDTH w).sf rFLT_CHK_DESC fFLT_CHK_DESC_UE_CLASS cls

/-- Room in the sum and child rings: sets held back are stored (R354, R358). -/
def Dev.sumRead (d : Dev) : Dev :=
  let d1 := d.sumJudge
  if d1.b rFLT_STATUS fFLT_STATUS_SAFE then d1 else d1.jrnFinish d1.jrn.closed.length

/-- An IRQ_EN register, or the map of a block's source, has been written: sources held by a status bit are tried (R416). -/
def Dev.irqRetry (d : Dev) (src : Nat) : Dev :=
  d.each irqEnables fun e a => if 97 + a / 0x100000 = src then e.irqBlock (a - 4) a else e

/-- A trace ring takes a new size (R410): both counters of each die's ring return to 0. -/
def Dev.traceSize (d : Dev) (old : Nat) : Dev :=
  if d.f rRCK_TRACE_CFG fRCK_TRACE_CFG_RING_LOG2 = old then d
  else d.each [0, 1] fun e die =>
    ((e.wn (rRCK_D_TRACE_WR die) 0).wn (rRCK_D_TRACE_RD die) 0).setRckD die { e.rckD die with trace := [], full := false }

/-- Writes with effects of their own in blocks 1 to 9: the register's key, its indices and the value. -/
def Dev.special1 (d : Dev) (k i j v : Nat) : Option Dev :=
  if k = rPRT_CFG 0 then some (d.prtCfgWrite i v)
  else if k = rPRT_HEADROOM 0 then some (d.reserveWrite (.headroom (Fin.ofNat 512 i)) v)
  else if k = rPRT_WM 0 0 then some (d.wmWrite i j v)
  else if k = rPRT_PG_CTRL 0 then some (d.pgCtrlWrite i v)
  else if k = rRAIL_GRP_CFG 0 then some (d.railCfgWrite i v)
  else if k = rRAIL_GRP_CTRL 0 then some (if bits v 0 0 = 1 then d.selPrimary i else d)
  else if k = rRAIL_DST_CFG 0 then some (d.railDstWrite i v)
  else if k = rPAR_CTRL 0 then some (d.swapWrite i v)
  else if k = rBUF_LEVEL_POOL 0 then some (d.reserveWrite (.levelPool (Fin.ofNat 2 i)) v)
  else if k = rBUF_SPILL_TAIL 0 then some (d.reserveWrite (.spillTail (Fin.ofNat 2 i)) v)
  else if k = rBUF_Q_CFG 0 0 then some (d.reserveWrite (.queue (Fin.ofNat 2 i) (Fin.ofNat 4096 j)) v)
  else if k = rSCH_SMP_CFG 0 then some (d.schWrite (.smpCfg (Fin.ofNat 2 i)) v)
  else if k = rSCH_Q_CFG 0 0 then some (d.schWrite (.qCfg (Fin.ofNat 2 i) (Fin.ofNat 4096 j)) v)
  else if k = rSCH_Q_RATE 0 0 then some (d.schWrite (.qRate (Fin.ofNat 2 i) (Fin.ofNat 4096 j)) v)
  else if k = rSCH_Q_BURST 0 0 then some (d.schWrite (.qBurst (Fin.ofNat 2 i) (Fin.ofNat 4096 j)) v)
  else if k = rSCH_PORT_RATE 0 0 then some (d.schWrite (.portRate (Fin.ofNat 512 (256 * i + j))) v)
  else if k = rSCH_PORT_BURST 0 0 then some (d.schWrite (.portBurst (Fin.ofNat 512 (256 * i + j))) v)
  else if k = rLVL_GRP_CFG 0 then some (d.lvlGroupWrite i v)
  else if k = rLVL_Q_CFG 0 then some (d.lvlQueueWrite i v)
  else if k = rTIM_TRIG_CFG 0 then some (d.trigWrite i .cfg v)
  else if k = rTIM_TRIG_SEC_LO 0 then some (d.trigWrite i .secLo v)
  else if k = rTIM_TRIG_SEC_HI 0 then some (d.trigWrite i .secHi v)
  else if k = rTIM_TRIG_NS 0 then some (d.trigWrite i .ns v)
  else if k = rTIM_TRIG_PERIOD 0 then some (d.trigWrite i .period v)
  else if k = rTIM_TRIG_WIDTH 0 then some (d.trigWrite i .width v)
  else if k = rTIM_TRIG_ADJ 0 then some (d.trigWrite i .adj v)
  else none

/-- Writes with effects of their own in blocks 10 to 19. -/
def Dev.special2 (d : Dev) (k i j v : Nat) : Option Dev :=
  if k = rJRN_CTRL then
    let drain := d.f rJRN_CTRL fJRN_CTRL_DRAIN
    let e := d.jrnCtrlWrite v
    some (if e.f rJRN_CTRL fJRN_CTRL_DRAIN = drain then e else { e with host := { e.host with drainOff := false } })
  else if k = rJRN_SUM_RD ∨ k = rJRN_CHILD_RD then some (d.wn k v).sumRead
  else if k = rMEM_CTRL then some (d.memCtrlWrite v)
  else if k = rDMA_CR_PROD 0 then some (d.prodWrite i v)
  else if k = rDMA_RR_RD 0 then some (d.rrRdWrite i v)
  else if k = rDMA_CH_CTRL 0 then some (d.chanWrite i v)
  else if k = rDMA_CH_RING_TAIL 0 then some (d.tailWrite i v)
  else if k = rPOOL_SPLIT 0 then some (d.splitWrite i v)
  else if k = rPOOL_MIN_A 0 0 then some (d.minWrite i j false v)
  else if k = rPOOL_MIN_B 0 0 then some (d.minWrite i j true v)
  else if k = rDOM_CTRL then some (if bits v 31 31 = 1 then d.domEnable v else d.domDisable v)
  else if k = rNRG_LIMIT then some (d.limitWrite v)
  else if k = rFLT_EXIT then some (d.exitWrite v)
  else if k = rFLT_CHK_SEL then some (d.plainWrite k v).chkDesc
  else if k = rFLT_KMODE then some (d.kmodeWrite v)
  else if k = rFLT_K_CTRL then some (d.kCtrlWrite v)
  else if k = rCNT_CTRL then some (d.cntCtrlWrite v)
  else if k = rCNT_OVF 0 then some (d.ovfWrite i v)
  else if k = rOTP_BOOT_CTRL then some (d.bootCtrlWrite v)
  else none

/-- What follows a write of fields: a late-path or event source is tried again, a trace ring is emptied, a write that names
a slew outside 1 to 50 ppm is a class A fault (R56). -/
def Dev.afterWrite (d : Dev) (k i v oldTrace oldRing : Nat) : Dev :=
  if irqEnables.contains k then d.irqRetry (97 + k / 0x100000)
  else if k = rDMA_IRQ_MAP 0 then d.irqRetry i
  else if k = rRCK_TRACE_CFG then d.traceSize oldTrace
  else if k = rJRN_SUM_CFG then d.sumSizes
  else if k = rNRG_RING then
    if d.f rNRG_RING fNRG_RING_RING_LOG2 = oldRing then d
    else { (d.wn rNRG_RING_WR 0).wn rNRG_RING_RD 0 with nrg := { d.nrg with ring := [] } }
  else if k = rTCK_CTRL ∧ !within 1 50 (bits v 15 8) then d.classA 0
  else d

/-- The low word of a pair is written: both words are stored at once, the high word as it was written last before, or as it
stands where none is held (R9). -/
def Dev.pairWrite (d : Dev) (k i a v : Nat) : Dev :=
  let hi := match d.bus.wrHold.find? fun e => e.1 = a + 4 with
    | some e => e.2.toNat
    | none => d.rn (a + 4)
  let d1 := { d with bus := { d.bus with wrHold := d.bus.wrHold.filter fun e => e.1 ≠ a + 4 } }
  if k = rJRN_RD_LO 0 then d1.jrnRdWrite i (hi * 2 ^ 32 + v)
  else if d1.writeHeld k i v then d1
  else
    let hi1 := if k = rCNT_VAL_LO 0 0 ∨ k = rCNT_RLD_LO 0 0 then hi % 65536 else hi
    (d1.plainWrite a (d1.guarded k i a v)).plainWrite (a + 4) hi1

/-- A write of a register, 32 bits wide, with every effect the chapters give it (R6 to R9). -/
def Dev.regWriteNow (d : Dev) (a v : Nat) : Dev :=
  if d.portAbsent a then d
  else match regKey a with
    | none => d
    | some (k, idx) =>
      let i := idx.getD 0 0
      let j := idx.getD 1 0
      if isHigh k then
        { d with bus := { d.bus with wrHold := (a, BitVec.ofNat 32 v) :: d.bus.wrHold.filter fun e => e.1 ≠ a } }
      else if isLow k then d.pairWrite k i a v
      else match (if k / 0x100000 < 10 then d.special1 k i j v else d.special2 k i j v) with
        | some e => e
        | none =>
          if d.writeHeld k i v then d
          else (d.plainWrite a (d.guarded k i a v)).afterWrite k i v (d.f rRCK_TRACE_CFG fRCK_TRACE_CFG_RING_LOG2)
            (d.f rNRG_RING fNRG_RING_RING_LOG2)

/-- Is a block's reset under way (R525)? -/
def Dev.inReset (d : Dev) (block : Nat) : Bool := d.deferred.any fun x => match x with
  | .blockReset b _ _ => decide (b = block)
  | _ => false

/-- A write that reaches a register's block: held while the block is being reset (R525), else carried out. -/
def Dev.regWrite (d : Dev) (a v : Nat) : Dev :=
  if d.inReset (a / 0x100000) then d.defer (.heldWrite a v) else d.regWriteNow a v

/-! ### Effects of reads -/

/-- The data of a read. -/
def Dev.answer (d : Dev) (v : Word) : Dev := { d with bus := { d.bus with rdata := v } }

/-- Hold a register for the next read of it. -/
def Dev.hold (d : Dev) (a : Nat) : Dev := { d with bus := { d.bus with rdHold := kvSet 0 a (d.rd a) d.bus.rdHold } }

/-- A read of a register that a latch may hold once: the held copy, given up by the read. -/
def Dev.heldRead (d : Dev) (a : Nat) : Dev :=
  match d.bus.rdHold.find? fun e => e.1 = a with
  | some e => { d with bus := { d.bus with rdata := e.2, rdHold := d.bus.rdHold.filter fun x => x.1 ≠ a } }
  | none => d.answer (BitVec.ofNat 32 (d.plainRead a))

/-- A copy of the last snapshot (R504, R510): the cycle, programmable and slot counters of a unit stand 0x200 above the
unit's frame. -/
def snapCopy (a : Nat) : Bool :=
  let o := a % 0x100000
  decide (a / 0x100000 = 18) && decide (o < 0x8000) && decide (0x200 ≤ o % 0x400) &&
    match regKey (a - 0x200) with
    | none => false
    | some (k, _) => [rCNT_CYC_LO 0, rCNT_CYC_HI 0, rCNT_VAL_LO 0 0, rCNT_VAL_HI 0 0, rCNT_SLOT_LO 0 0, rCNT_SLOT_HI 0 0].contains k

/-- A read of a copy of the last snapshot, by the counter's own key (R504, R510). -/
def Dev.snapRead (d : Dev) (a k : Nat) : Dev :=
  if isHigh k then d.answer (kvGet 0 d.bus.rdHold a)
  else { d with bus := { d.bus with
    rdata := kvGet 0 d.snap (a - 0x200), rdHold := kvSet 0 (a + 4) (kvGet 0 d.snap (a - 0x200 + 4)) d.bus.rdHold } }

/-- A read of the register at an address by its key and indices, with every effect the chapters give it (R6, R9). -/
def Dev.keyRead (d : Dev) (o : OtpBanks) (a k i j : Nat) : Dev :=
  if k = rTIM_NOW_SEC_LO then d.nowLatch
  else if k = rTIM_CAPT_SEC_LO 0 then d.captPop i
  else if k = rMEM_QLOG_DATA 0 then d.qlogRead i
  else if k = rOTP_WIN_DATA then d.winRead o
  else if k = rRCK_ENTRY_DATA then d.answer (kvGet 0 d.rck.entries (d.f rRCK_ENTRY_SEL fRCK_ENTRY_SEL_INDEX))
  else if k = rSCH_Q_STATE 0 0 then d.answer ((d.schView i j).rd a)
  else if k = rFLT_CHK_DESC then d.chkDesc.answer (d.chkDesc.rd rFLT_CHK_DESC)
  else if k = rTIM_UNC ∨ k = rTCK_POS then d.heldRead a
  else if isHigh k then d.answer (kvGet 0 d.bus.rdHold a)
  else
    let d1 := if isLow k then d.hold (a + 4) else d
    let d2 := if k = rTCK_NUM_LO then d1.hold rTCK_POS else d1
    (d2.answer (BitVec.ofNat 32 (d2.plainRead a))).readEffect a

/-- A read of a register (R6, R9, R91). -/
def Dev.regRead (d : Dev) (o : OtpBanks) (a : Nat) : Dev :=
  if d.portAbsent a then d.answer 0
  else if snapCopy a then
    match regKey (a - 0x200) with
    | none => d
    | some x => d.snapRead a x.1
  else match regKey a with
    | none => d.answer 0
    | some x => d.keyRead o a x.1 (x.2.getD 0 0) (x.2.getD 1 0)

/-! ### Host accesses -/

/-- A host write of a BAR 0 address (R8, R413, R414, R513). -/
def Dev.hostWrite (d : Dev) (a width v : Nat) : Dev :=
  if !d.barOpen a then d
  else if width ≠ 32 ∨ a % 4 ≠ 0 then d.classA 0
  else d.regWrite a v

/-- The bytes of a register that a read of another place or width addresses (R8); bytes beyond the register are free values. -/
def Dev.narrow (d : Dev) (a width : Nat) : Dev :=
  let n := 8 * (a % 4)
  let v := d.bus.rdata.toNat / 2 ^ n
  if n + width ≤ 32 then d.answer (BitVec.ofNat 32 (v % 2 ^ width))
  else (d.answer (BitVec.ofNat 32 ((v + d.free (2 ^ 32) * 2 ^ (32 - n)) % 2 ^ width))).used

/-- A host read of a BAR 0 address (R8, R413, R414, R513). -/
def Dev.hostRead (d : Dev) (o : OtpBanks) (a width : Nat) : Dev :=
  if !d.barOpen a then d.answer 0
  else if width = 32 ∧ a % 4 = 0 then d.regRead o a
  else (d.regRead o (a / 4 * 4)).narrow a width

/-- A 32-bit write of BAR 2 (R413): the MSI-X table, entries of four words (log entry 7); an entry unmasked while its message
is pending sends it. -/
def Dev.msixWrite (d : Dev) (a v : Nat) : Dev :=
  if 0x8000 ≤ a ∨ !d.host.linkUp then d
  else
    let n := a / 16
    let e := kvGet ({} : MsixEntry) d.msix n
    let put (x : MsixEntry) : Dev := { d with msix := kvSet {} n x d.msix }
    match a / 4 % 4 with
    | 0 => put { e with addr := e.addr / 2 ^ 32 * 2 ^ 32 + v }
    | 1 => put { e with addr := v * 2 ^ 32 + e.addr % 2 ^ 32 }
    | 2 => put { e with data := v }
    | _ =>
      let m := decide (v % 2 = 1)
      let d1 := put { e with masked := m, pending := e.pending && m }
      if e.pending && !m then { d1 with out := { d1.out with msgs := d1.out.msgs ++ [n] } } else d1

/-- REGISTER_WRITE (R6, R8): a host write; one that is not 32 bits wide and aligned is ignored and is a class A fault. -/
def execRegisterWrite (bar2 : Bool) (addr width : Nat) (value : BitVec 32) (s : State) : Host.Outcome State Fault Refusal :=
  onDev s fun d =>
    if bar2 then if width ≠ 32 ∨ addr % 4 ≠ 0 then d else d.msixWrite addr value.toNat
    else d.hostWrite addr width value.toNat

/-- READ_CLEAR (R6, R8): a host read; an RC field returns its value and is cleared, whole. -/
def execReadClear (addr width : Nat) (s : State) : Host.Outcome State Fault Refusal :=
  onDev s fun d => d.hostRead s.otp addr width

/-- PAIR_LOW_READ_LATCH (R9): a read of the low word of a pair latches its high word. -/
def execPairLowReadLatch (addr : Nat) (s : State) : Host.Outcome State Fault Refusal :=
  onDev s fun d => d.hostRead s.otp addr 32

/-- PAIR_LOW_WRITE_COMMIT (R9): the high word of a pair written and held, then its low word, which commits both. -/
def execPairLowWriteCommit (addr : Nat) (high low : BitVec 32) (s : State) : Host.Outcome State Fault Refusal :=
  onDev s fun d => (d.hostWrite (addr + 4) 32 high.toNat).hostWrite addr 32 low.toNat

end Sys2Proof.Machine
end

