-- ==== Sys2Proof/Machine/DevCmd.lean ====
section
/-! DEFINITION. Machine/DevCmd.lean: changes that wait for a tick boundary, the reset of a block, and the commands of the
device, module, calibration and microcode families (R38, R73, R89, R401, R402, R433, R525). -/
namespace Sys2Proof.Machine

/-! ### Changes at a tick boundary (R38) -/

/-- A change of the ports, the rail, the parser or the flow store carried out at the tick boundary. -/
def Dev.applyPlain (d : Dev) : Deferred → Dev
  | .portEnable p => if d.b (rPRT_CFG p) fPRT_CFG_EN then d.portEnableNow p else d
  | .portReady p => if d.pState p = 1 then d.leaveWait p else d
  | .portDisable p => if d.b (rPRT_CFG p) fPRT_CFG_EN then d else d.portDisableNow p
  | .railEnable g =>
    if d.b (rRAIL_GRP_CFG g) fRAIL_GRP_CFG_EN then
      let d1 := (d.sf (rRAIL_GRP_STATUS g) fRAIL_GRP_STATUS_STATE 1).sb (rRAIL_GRP_STATUS g) fRAIL_GRP_STATUS_ON_ALT false
      let d2 := (d1.setRailG g { d1.railG g with calDone := [] }).railSetDelay g
      d2.calStart (d2.railSel g :: d2.railDsts g)
    else d
  | .railDisable g =>
    if d.b (rRAIL_GRP_CFG g) fRAIL_GRP_CFG_EN then d
    else
      let d1 := d.sf (rRAIL_GRP_STATUS g) fRAIL_GRP_STATUS_STATE 0
      let d2 := d1.each (d1.railDsts g) fun e n => if (e.railD n).retired then e else e.railIdleNow n 0
      (d2.railCount g).railBlind g
  | .railRemove n => (d.railIdleNow n 0).each d.railGroups Dev.railCount
  | .railIdle n => (d.railIdleNow n 3).each d.railGroups Dev.railCount
  | .railPrimary g => if d.b (rRAIL_GRP_STATUS g) fRAIL_GRP_STATUS_ON_ALT then d.railSwitch g else d
  | .parSwap die => d.bankSwitch die
  | .flwDual die h1 h2 => d.dualNow die h1 h2
  | .flwSingle die => d.singleNow die
  | .blockReset _ _ _ => d
  | .heldWrite a v => d.regWriteNow a v

/-! ### The reset of a block (R525) -/

/-- Core die of a counter unit (R497): the port dies and stacks go with the core die they are joined to, the CD0↔CD1 link and
the host interface with CD0. -/
def unitDie (u : Nat) : Nat :=
  if u < 16 then u / 8 else if u < 22 then u % 2 else if u < 26 then (u - 22) / 2 else if u < 28 then u - 26
  else if u < 30 then 0 else u - 30

/-- Core die whose reset clears a register: the die it is replicated for, the die of its port, lane, cage, group or unit, else
CD0. -/
def Dev.resetDie (d : Dev) (k : Nat) (idx : List Nat) : Nat :=
  let i := idx.getD 0 0
  let b := k / 0x100000
  if 3 ≤ b ∧ b ≤ 7 then i
  else if b = 1 then
    if k = rPRT_CAGE 0 ∨ k = rPRT_CAGE_STATE 0 then i / 128
    else if [rPRT_PG_CTRL 0, rPRT_PG_STATUS 0, rPRT_PG_MEMB01 0, rPRT_PG_MEMB23 0].contains k then
      d.f (rPRT_PG_CTRL i) fPRT_PG_CTRL_DIE
    else if idx.isEmpty then 0 else i / 256
  else if b = 2 then if idx.isEmpty then 0 else if k = rRAIL_DST_CFG 0 ∨ k = rRAIL_DST_STATUS 0 then i / 256 else i / 64
  else if b = 8 then if k = rLVL_CNT_LO 0 0 ∨ k = rLVL_CNT_HI 0 0 ∨ k = rLVL_DIE_STATUS 0 then i else 0
  else if b = 18 then if idx.isEmpty then 0 else unitDie i
  else 0

/-- Registers a block reset leaves as they are: what reports the block's memories, rings and continuing work, and what the
table of R525, R56 and R502 keep. -/
def resetKeeps : List Nat :=
  [rTCK_NUM_LO, rTCK_NUM_HI, rTCK_DECK_LO, rTCK_DECK_HI, rTCK_POS, rTCK_STATUS, rTCK_GRID] ++
  [rTBL_VERSION 0, rTBL_COMMIT_LO 0, rTBL_COMMIT_HI 0, rTBL_STATUS 0] ++
  [rFLW_STATUS 0, rFLW_REGION 0, rFLW_SEED_H1 0, rFLW_SEED_H2 0, rFLW_OLD_SEED_H1 0, rFLW_OLD_SEED_H2 0, rFLW_TAGS 0,
    rFLW_RETIRE 0, rFLW_RETIRE_PROG 0, rFLW_PC_RETIRED 0 0, rFLW_SPARE 0, rFLW_REHASH 0, rFLW_REHASH_PTR 0, rFLW_AGE_PTR 0] ++
  [rBUF_FREE 0, rBUF_RESV 0, rBUF_SHARED 0, rBUF_SPILL_STATUS 0, rBUF_MIR_SIZE 0, rBUF_MIR_WR 0, rBUF_MIR_RD 0, rBUF_Q_STAT 0 0] ++
  [rSCH_SMP_WR 0, rSCH_SMP_RD 0, rSCH_Q_STATE 0 0] ++
  [rLVL_Q_STATUS 0, rLVL_Q_DEPTH 0, rLVL_DIE_STATUS 0] ++
  [rTIM_ORG_ID] ++
  [rJRN_RUN_DECK_LO, rJRN_RUN_DECK_HI, rJRN_SUM_DECK_LO, rJRN_SUM_DECK_HI, rJRN_SIGNED_LO, rJRN_SIGNED_HI, rJRN_SUM_SIZE,
    rJRN_SUM_WR, rJRN_SUM_RD, rJRN_CHILD_SIZE, rJRN_CHILD_WR, rJRN_CHILD_RD, rJRN_SIZE 0, rJRN_WR_LO 0, rJRN_WR_HI 0,
    rJRN_RD_LO 0, rJRN_RD_HI 0, rJRN_RESV 0] ++
  [rDOM_SERIAL_LO, rDOM_SERIAL_HI, rDOM_STATUS, rDOM_TREE] ++
  [rNRG_ROD_LO, rNRG_ROD_HI, rNRG_RING_WR, rNRG_RING_RD] ++
  [rCNT_CYC_LO 0, rCNT_CYC_HI 0, rCNT_SLOT_LO 0 0, rCNT_SLOT_HI 0 0, rCNT_SNAP_TICK_LO, rCNT_SNAP_TICK_HI, rCNT_PORT_LO 0 0,
    rCNT_PORT_HI 0 0, rCNT_DROP_LO 0 0 0, rCNT_DROP_HI 0 0 0, rCNT_OVF 0]

/-- A block's registers on some dies return to their reset values, but those a reset leaves. -/
def Dev.regsClear (d : Dev) (block : Nat) (dies : List Nat) : Dev :=
  { d with regs := d.regs.filter fun e => decide (e.1 / 0x100000 ≠ block) || match regKey e.1 with
      | none => true
      | some (k, idx) => resetKeeps.contains k || !dies.contains (d.resetDie k idx) }

/-- PRT_: every port of the dies goes to DISABLED, its settings and its cages' states are cleared; cages are read anew by the
next scan. -/
def Dev.prtReset (d : Dev) (dies : List Nat) : Dev :=
  let ports := (d.listedIdx (rPRT_CFG 0) 0x40 512).filter fun p => dies.contains (p / 256)
  let d1 := d.each ports fun e p => if e.pState p = 0 then e else e.portDisableNow p
  let d2 := d1.regsClear 1 dies
  { d2 with port := { d2.port with
      ports := d2.port.ports.map fun e => if dies.contains (e.1 / 256) then (e.1, { e.2 with mode := 0, fec := 0, an := false }) else e
      cages := d2.port.cages.filter fun e => !dies.contains (e.1 / 128) } }

/-- RAIL_: every group of the dies to DISABLED, destinations electrically idle. -/
def Dev.railReset (d : Dev) (dies : List Nat) : Dev :=
  let gs := (List.range 128).filter fun g => dies.contains (g / 64) && d.b (rRAIL_GRP_CFG g) fRAIL_GRP_CFG_EN
  let d1 := d.each gs fun e g => (e.sb (rRAIL_GRP_CFG g) fRAIL_GRP_CFG_EN false).applyPlain (.railDisable g)
  let d2 := d1.regsClear 2 dies
  { d2 with rail := { d2.rail with
      groups := d2.rail.groups.filter fun e => !dies.contains (e.1 / 64)
      dsts := d2.rail.dsts.filter fun e => !dies.contains (e.1 / 256)
      newDelay := d2.rail.newDelay.filter fun e => !dies.contains (e.1 / 64) } }

/-- PAR_: both banks of a die hold profile 0 alone; the remainder queue is emptied and its frames dropped. The reset clears the
counters that would count them. -/
def Dev.parReset (d : Dev) (die : Nat) : Dev :=
  let x := d.par die
  let d1 := (d.setPar die { ({} : ParDie) with ctxs := x.ctxs, rodRmd := x.rodRmd }).each x.rmd fun e r => e.dropRef die r.frame
  (d1.regsClear 3 [die]).bufReport die

/-- TBL_: every table of a die is destroyed, insertions in progress ended first, and every profile cleared. -/
def Dev.tblReset (d : Dev) (die : Nat) : Dev :=
  let nos := (d.tbl.mem.tablesOf die).map (·.1)
  let d1 := d.each nos fun e no => (e.jobFinish die no).setTable die no none
  let m := d1.tbl.mem
  let m1 := { m with
    profiles := m.profiles.filter fun e => decide (e.1 / 3072 ≠ die)
    badProfiles := m.badProfiles.filter fun k => decide (k / 3072 ≠ die) }
  let t := { d1.tbl with
    mem := m1
    oldNodes := d1.tbl.oldNodes.filter fun x => decide (x.1 ≠ die)
    respace := d1.tbl.respace.filter fun x => decide (x.1 ≠ die)
    prevBind := d1.tbl.prevBind.filter fun x => decide (x.1 / 128 ≠ die) }
  ({ d1 with tbl := t }).regsClear 4 [die]

/-- A carry is folded into its record in the HBM (R190). -/
def Dev.carryStore (d : Dev) (die : Nat) (c : Carry) : Dev :=
  let x := d.flw die
  let b := locBucket c.loc
  let s := locSlot c.loc
  match (x.bucket b).slot s with
  | none => d
  | some y => d.setFlw die (x.setBucket b ((x.bucket b).setSlot s (some { y with
      body := recAdd y.body c.bytes c.packets, lastHit := c.lastHit })))

/-- FLW_: the cache of a die is written back and invalidated, carries folded, kill list and learn table cleared. -/
def Dev.flwReset (d : Dev) (die : Nat) : Dev :=
  let x := d.flw die
  let d1 := d.each (x.cache.flatMap (·.2)) fun e l =>
    let y := e.flw die
    let l1 := foldLine (y.carry l.loc) l
    let e1 := e.setFlw die { y with carries := y.carries.filter (·.loc ≠ l.loc) }
    if l1.dirty then e1.hbmStore die l1 else e1
  let d2 := d1.each (d1.flw die).carries fun e c => e.carryStore die c
  (d2.setFlw die { d2.flw die with
    cache := [], carries := [], kills := [], killsLive := [], learns := [], carryHigh := false, lagRaised := false,
    deckLate := [] }).regsClear 5 [die]

/-- SCH_: settings to their reset values; a sample ring that changes its size begins anew (R281). -/
def Dev.schReset (d : Dev) (die : Nat) : Dev :=
  let old := d.f (rSCH_SMP_CFG die) fSCH_SMP_CFG_RING_LOG2
  let d1 := d.regsClear 7 [die]
  if d1.f (rSCH_SMP_CFG die) fSCH_SMP_CFG_RING_LOG2 = old then d1
  else ((d1.wn (rSCH_SMP_WR die) 0).wn (rSCH_SMP_RD die) 0).setBuf die { d1.buf die with smpRing := [] }

/-- TIM_: the servo goes to ACQUIRING and TIME_LOCKED clears; what it has measured is cleared. -/
def Dev.timReset (d : Dev) : Dev :=
  let d1 := d.timeUnlock.regsClear 9 [0]
  let t := { d1.tim with
    ports := [], waiting := [], integ := 0, lockRow := 0, hold := none, trigs := [], capts := [] }
  ({ d1 with tim := t }).sf rTIM_STATUS fTIM_STATUS_SSTATE 1

/-- NRG_: settings reloaded from the generation in use; a ledger ring that changes its size begins anew (R281, R472). -/
def Dev.nrgReset (d : Dev) : Dev :=
  let old := d.f rNRG_RING fNRG_RING_RING_LOG2
  let d1 := (d.regsClear 16 [0]).custNrg
  if d1.f rNRG_RING fNRG_RING_RING_LOG2 = old then d1
  else { (d1.wn rNRG_RING_WR 0).wn rNRG_RING_RD 0 with nrg := { d1.nrg with ring := [] } }

/-- CNT_ (R502): programmable counters, reload values, configuration and OVF bits of the units on the dies. -/
def Dev.cntReset (d : Dev) (dies : List Nat) : Dev :=
  ((List.range 32).filter fun u => dies.contains (unitDie u)).foldl (fun e u =>
    let a := rCNT_OVF (u / 4)
    e.wn a (putBits (e.rn a) (8 * (u % 4) + 7) (8 * (u % 4)) 0)) (d.regsClear 18 dies)

/-- OTP_: status and event fields; COMMAND_READY and PHASE, which say what the device accepts, stay (DESIGN CHOICE). -/
def Dev.otpReset (d : Dev) : Dev :=
  let ready := d.b rOTP_BOOT_STATUS fOTP_BOOT_STATUS_COMMAND_READY
  let phase := d.f rOTP_BOOT_STATUS fOTP_BOOT_STATUS_PHASE
  ((d.regsClear 19 [0]).sb rOTP_BOOT_STATUS fOTP_BOOT_STATUS_COMMAND_READY ready).sf rOTP_BOOT_STATUS
    fOTP_BOOT_STATUS_PHASE phase

/-- A block is reset on some dies (R525). The blocks that refuse a reset are never reset. -/
def Dev.blockReset (d : Dev) (block : Nat) (dies : List Nat) : Dev :=
  match block with
  | 0 => (((d.regsClear 0 dies).sb rTCK_STATUS fTCK_STATUS_STEPPED false).sb rTCK_STATUS fTCK_STATUS_DIE_MISMATCH false).sb
      rTCK_GRID fTCK_GRID_GRID_LOST false
  | 1 => d.prtReset dies
  | 2 => d.railReset dies
  | 3 => d.each dies Dev.parReset
  | 4 => d.each dies Dev.tblReset
  | 5 => d.each dies Dev.flwReset
  | 6 => (d.regsClear 6 dies).each dies Dev.bufReport
  | 7 => d.each dies Dev.schReset
  | 8 => d.regsClear 8 dies
  | 9 => d.timReset
  | 10 => d.regsClear 10 [0]
  | 15 => ((d.domDisable (bits (d.rn rDOM_CTRL) 30 0)).regsClear 15 [0]).custDom
  | 16 => d.nrgReset
  | 18 => d.cntReset dies
  | 19 => d.otpReset
  | _ => d

/-- A change of R38 carried out at the tick boundary; a block reset is answered once it is complete. -/
def Dev.applyDeferred (d : Dev) (x : Deferred) : Dev :=
  match x with
  | .blockReset block mask reply =>
    let d1 := d.blockReset block (maskDies mask)
    match reply with
    | some (src, tag) => d1.replyLater src tag 0x0104 stOk 0 []
    | none => d1
  | y => d.applyPlain y

/-- Blocks held only on CD0 (R56, R333, R359, R458, R474, R496, R533). -/
def cd0Blocks : List Nat := [0, 9, 10, 15, 16, 17, 19]

/-- The status of a reset that is refused (R525). -/
def Dev.resetRefused (d : Dev) (block mask : Nat) : Option Nat :=
  let dies := maskDies mask
  if 19 < block ∨ dies.isEmpty ∨ (cd0Blocks.contains block ∧ !dies.contains 0) then some stBadParam
  else if [11, 12, 13, 14, 17].contains block then some stDenied
  else if block = 6 && (d.listedIdx (rPRT_CFG 0) 0x40 512).any fun p => dies.contains (p / 256) && decide (d.pState p ≠ 0) then
    some stDenied
  else if block = 8 && (List.range 1024).any fun g => decide (d.lvlState g ≠ 0) then some stDenied
  else if block = 10 && decide (d.f rJRN_STATUS fJRN_STATUS_STATE ≠ 0) then some stDenied
  else none

/-! ### Commands of the device family (R433) -/

/-- DEV_INFO: part, stepping, vendor release, device number, TIME_LOCKED, certificate length. -/
def execDevInfo (h : CmdHdr) (s : State) : Host.Outcome State Fault Refusal :=
  onDev s fun d => d.reply h 0x0100 stOk 0 (bytesAt d.board.factory 0 3 ++ beBytes 4 (d.rn rRCK_VENDOR_VER) ++
    beBytes 2 d.devNo ++ beBytes 1 d.locked.toNat ++ beBytes 2 d.cert.length)

/-- DEV_NOP. -/
def execDevNop (h : CmdHdr) (s : State) : Host.Outcome State Fault Refusal :=
  onDev s fun d => d.replySt h 0x0101 stOk

/-- A register read by an agent of the device: its value; the data of the last host read stay. -/
def Dev.agentRead (d : Dev) (o : OtpBanks) (a : Nat) : Dev × Word :=
  let d1 := d.regRead o a
  (d1.answer d.bus.rdata, d1.bus.rdata)

/-- DEV_REG_READ: `count` registers from a BAR 0 offset, each with the effects of its read. -/
def execDevRegRead (h : CmdHdr) (offset : BitVec 32) (count : BitVec 16) (s : State) : Host.Outcome State Fault Refusal :=
  onDev s fun d =>
    let n := count.toNat
    if offset.toNat % 4 ≠ 0 ∨ n = 0 ∨ 64 < n then d.replySt h 0x0102 stBadParam
    else
      let r := (List.range n).foldl (fun (x : Dev × List Byte) i =>
        let y := x.1.agentRead s.otp (offset.toNat + 4 * i)
        (y.1, x.2 ++ beBytes 4 y.2.toNat)) (d, [])
      r.1.reply h 0x0102 stOk 0 r.2

/-- The value a masked write puts on a register: its RW fields keep the bits outside the mask, and the other types see 0
there. -/
def Dev.masked (d : Dev) (a v mask : Nat) : Nat :=
  let keep := match regAt a with
    | none => 0
    | some r => r.fields.foldl (fun w f => match f.ty with
      | .rw => putBits w f.fld.hi f.fld.lo (bits (d.rn a) f.fld.hi f.fld.lo)
      | .ro | .rw1c | .rw1s | .wo | .rc => w) 0
  Nat.lor (Nat.land keep (2 ^ 32 - 1 - mask)) (Nat.land v mask)

/-- DEV_REG_WRITE: only the bits set in the mask change. -/
def execDevRegWrite (h : CmdHdr) (offset value mask : BitVec 32) (s : State) : Host.Outcome State Fault Refusal :=
  onCmd s h 0x0103 fun d =>
    let a := offset.toNat
    if a % 4 ≠ 0 then d.replySt h 0x0103 stBadParam
    else (d.regWrite a (d.masked a value.toNat mask.toNat)).replySt h 0x0103 stOk

/-- DEV_BLOCK_RESET (R525): refused at once, or carried out and answered at the next tick boundary. -/
def execDevBlockReset (h : CmdHdr) (block mask : BitVec 8) (s : State) : Host.Outcome State Fault Refusal :=
  onCmd s h 0x0104 fun d => match d.resetRefused block.toNat mask.toNat with
    | some st => d.replySt h 0x0104 st
    | none => d.defer (.blockReset block.toNat mask.toNat (some (h.src, h.tag)))

/-- DEV_INJECT (R395, R436): the frame goes into a pool buffer of owner 10 and from there to the pipeline. -/
def execDevInject (h : CmdHdr) (desc : Vector (BitVec 8) 16) (frame : List (BitVec 8)) (s : State) : Host.Outcome State Fault Refusal :=
  onCmd s h 0x0107 fun d =>
    let x := desc.toList
    let port := beAt x 2 2
    let len := beAt x 4 2
    if frame.length ≠ len ∨ len < 64 ∨ 16383 < len then d.replySt h 0x0107 stBadLength
    else if !d.portExists port ∨ 1 < beAt x 0 1 ∨ (beAt x 0 1 = 1 ∧ 15 < beAt x 7 1) then d.replySt h 0x0107 stBadParam
    else match d.poolTake (dieOf port) 10 len with
      | (d1, none) => d1.replySt h 0x0107 stBusy
      | (d1, some a) => ((d1.poolWrite a frame).inject a x none).replySt h 0x0107 stOk

/-- DEV_CERT_READ: bytes of the identity certificate (R528). -/
def execDevCertRead (h : CmdHdr) (offset count : BitVec 16) (s : State) : Host.Outcome State Fault Refusal :=
  onDev s fun d =>
    let n := count.toNat
    if n = 0 ∨ 1024 < n ∨ d.cert.length < offset.toNat + n then d.replySt h 0x0108 stBadParam
    else d.reply h 0x0108 stOk 0 (bytesAt d.cert offset.toNat n)

/-! ### Modules and calibration (R73, R89, R433) -/

/-- Are a module access's offset and count in range? -/
def modRange (offset count : Nat) : Bool := decide (1 ≤ count) && decide (count ≤ 128) && decide (offset + count ≤ 256)

/-- PRT_MOD_READ (R73): the bytes the module answers. -/
def execPrtModRead (h : CmdHdr) (cage _bank _page offset count : BitVec 8) (data : List (BitVec 8)) (s : State) :
    Host.Outcome State Fault Refusal :=
  onCmd s h 0x0200 fun d =>
    if !modRange offset.toNat count.toNat then d.replySt h 0x0200 stBadParam
    else if d.mstate cage.toNat = 0 then d.replySt h 0x0200 stNotReady
    else d.reply h 0x0200 stOk 0 ((data ++ zeros count.toNat).take count.toNat)

/-- PRT_MOD_WRITE (R73): bytes written to the module; DENIED in the control set of page 10h, its upper half, while a port on
the cage is enabled. -/
def execPrtModWrite (h : CmdHdr) (cage bank page offset count : BitVec 8) (data : List (BitVec 8)) (s : State) :
    Host.Outcome State Fault Refusal :=
  onCmd s h 0x0201 fun d =>
    let c := cage.toNat
    if data.length ≠ count.toNat then d.replySt h 0x0201 stBadLength
    else if !modRange offset.toNat count.toNat then d.replySt h 0x0201 stBadParam
    else if d.mstate c = 0 then d.replySt h 0x0201 stNotReady
    else if page.toNat = 0x10 ∧ 128 < offset.toNat + count.toNat ∧ !(d.cagePorts c).isEmpty then d.replySt h 0x0201 stDenied
    else
      let x := d.cage c
      (d.setCage c { x with modMem := memWrite x.modMem ((bank.toNat * 256 + page.toNat) * 256 + offset.toNat) data }).replySt h
        0x0201 stOk

/-- PRT_CAL_RUN (R89): calibration runs begin on the named lanes. -/
def execPrtCalRun (h : CmdHdr) (first count : BitVec 16) (s : State) : Host.Outcome State Fault Refusal :=
  onCmd s h 0x0202 fun d =>
    let lanes := (List.range (min count.toNat 512)).map (first.toNat + ·)
    if count.toNat = 0 ∨ 512 < first.toNat + count.toNat then d.replySt h 0x0202 stBadParam
    else if lanes.any fun n => d.port.calRunning.contains n then d.replySt h 0x0202 stBusy
    else (d.calStart lanes).replySt h 0x0202 stOk

/-! ### Microcode (R401, R402) -/

/-- Is an open image of the right length acceptable (R401)? -/
def openImageOk (l : List Byte) : Bool :=
  let n := beAt l 10 2
  let base := beAt l 12 4
  let w := beAt l 16 4
  imageMagic l && imageCrc l && decide (beAt l 8 2 = 1) && decide (0x6000 ≤ base) && decide (base + w ≤ 0x8000) &&
    decide (n ≤ 256) && (List.range n).all fun i => userType (beAt l (32 + 4 * i) 2) && decide (beAt l (34 + 4 * i) 2 < w)

/-- MC_OPEN_LOAD (R401): an open image is loaded from host memory: user entries are invalidated, then words and entries
written. -/
def execMcOpenLoad (h : CmdHdr) (_addr : BitVec 64) (len : BitVec 32) (image : List (BitVec 8)) (s : State) :
    Host.Outcome State Fault Refusal :=
  onCmd s h 0x0800 fun d =>
    if d.b rRCK_STATUS fRCK_STATUS_USER_ON || d.b rRCK_STATUS fRCK_STATUS_OPEN_BUSY then d.replySt h 0x0800 stBusy
    else if image.length ≠ len.toNat ∨ image.length < 36 ∨ image.length ≠ imageLen image then d.replySt h 0x0800 stBadLength
    else if !openImageOk image then d.replySt h 0x0800 stBadParam
    else
      let d1 := { d with rck := { d.rck with entries := d.rck.entries.filter fun e => decide (e.1 < 0xF00) } }.imageLoad image true
      let crc := beAt image (image.length - 4) 4
      let d2 := { d1 with rck := { d1.rck with openCrc := crc } }
      let d3 := (d2.wrPair rRCK_OPEN_ID_LO rRCK_OPEN_ID_HI (beAt image 24 8)).sb rRCK_STATUS fRCK_STATUS_OPEN_LOADED true
      d3.reply h 0x0800 stOk 0 (bytesAt image 24 8 ++ beBytes 4 crc)

/-- MC_OPEN_ENABLE (R401): USER_EN, in force from the next tick boundary. -/
def execMcOpenEnable (h : CmdHdr) (s : State) : Host.Outcome State Fault Refusal :=
  onCmd s h 0x0801 fun d =>
    if !d.b rRCK_STATUS fRCK_STATUS_OPEN_LOADED then d.replySt h 0x0801 stNotReady
    else (d.sb rRCK_OPEN_CTRL fRCK_OPEN_CTRL_USER_EN true).replySt h 0x0801 stOk

/-- MC_OPEN_DISABLE (R401). -/
def execMcOpenDisable (h : CmdHdr) (s : State) : Host.Outcome State Fault Refusal :=
  onCmd s h 0x0802 fun d => (d.sb rRCK_OPEN_CTRL fRCK_OPEN_CTRL_USER_EN false).replySt h 0x0802 stOk

/-- The command's own task gives up its context to the user task (R402): it ends with no reply. -/
def Dev.cmdHand (d : Dev) (die i : Nat) (t : Task) : Dev :=
  let d1 := match t.st with
    | .running k => (d.sb (rRCK_K_TASK k) fRCK_K_TASK_VALID false).setKState k 0
    | .waiting | .ready | .parked _ => d
  ((d1.cnt (rRCK_D_CNT_LO die 1)).taskFree die i).trace die 3 0 i t 0

/-- MC_CALL (R402): a task of a user type is created, which answers the command; it is held while the table has no room. -/
def execMcCall (h : CmdHdr) (die count : BitVec 8) (type : BitVec 16) (operands : List (BitVec 64)) (s : State) :
    Host.Outcome State Fault Refusal :=
  onCmd s h 0x0803 fun d =>
    let ty := type.toNat
    let ops := ((operands.take count.toNat).map (fun (x : BitVec 64) => x.toNat) ++ [0, 0, 0, 0]).take 4
    if 1 < die.toNat ∨ 4 < count.toNat ∨ !userType ty then d.replySt h 0x0803 stBadParam
    else if operands.length ≠ count.toNat then d.replySt h 0x0803 stBadLength
    else if !d.b rRCK_STATUS fRCK_STATUS_USER_ON || !d.entryValid ty then d.replySt h 0x0803 stNotReady
    else
      let own := d.cmdTask h.src h.tag 0x0803
      let ctx : CmdCtx := match own with
        | some (_, _, { cmd := some c, .. }) => c
        | _ => { src := h.src, tag := h.tag, flags := h.noReply.toNat * 16, opcode := 0x0803, batch := 0, params := [] }
      let d1 := match own with
        | some (x, i, t) => d.cmdHand x i t
        | none => d
      let x := die.toNat
      if d1.taskRoom x false then (d1.taskCreate x { type := ty, ops := ops, cmd := some ctx }).1
      else (d1.cnt (rRCK_D_CNT_LO x 7)).setRckD x { d1.rckD x with
        held := (d1.rckD x).held ++ [({ type := ty, ops := ops, cmd := some ctx } : TaskReq)] }

end Sys2Proof.Machine
end

