-- ==== Sys2Proof/Machine/Blk.lean ====
section
/-! DEFINITION. Machine/Blk.lean: the BLK microword: requests to block agents (R392, R397). -/
namespace Sys2Proof.Machine

/-- A register named to a block's agent: an address outside the block's window names none (DESIGN CHOICE). -/
def inBlock (block a : Nat) : Bool := decide (a / 0x100000 = block) && decide (a % 4 = 0)

/-- What the SHA-256 engine makes of a state and bytes: the compression of whole blocks of 64; the spec states no digest for
other lengths: a free value. -/
def Dev.hashOut (d : Dev) (st l : List Byte) : Dev × List Byte :=
  if l.length % 64 = 0 then
    (d, (shaBlocks (l.length / 64) ((List.range 8).map fun i => beAt st (4 * i) 4) l).flatMap (beBytes 4))
  else d.freeBytes 32

/-- The answer of a block agent: the parameter block as it is written back, and the effect of the request. -/
def Dev.blkAnswer (d : Dev) (o : OtpBanks) (block fn : Nat) (pb : List Byte) : Dev × List Byte :=
  let a := beAt pb 0 4
  if block < 20 ∧ fn = 0 then
    if inBlock block a then
      let r := d.agentRead o a
      (r.1, putAt pb 4 (beBytes 4 r.2.toNat))
    else (d, putAt pb 4 (zeros 4))
  else if block < 20 ∧ fn = 1 then ((if inBlock block a then d.regWrite a (beAt pb 4 4) else d), pb)
  else if block = 20 then
    let r := d.hashOut (bytesAt pb 32 32) (d.poolRead a (beAt pb 4 2))
    (r.1, putAt pb 32 r.2)
  else d.freeBytes 64

/-- Does open microcode breach R397 with a request? -/
def Dev.blkBreach (d : Dev) (block fn : Nat) : Bool :=
  if block < 20 then
    decide (1 < fn) || (decide (fn = 1) && decide (bits (d.f rRCK_OPEN_CTRL fRCK_OPEN_CTRL_BLK_WR) block block = 0))
  else decide (block = 21)

/-- BLK (R392): a request to a block agent, answered under a tag; a command submitted through block 22 runs as its own
command task. -/
def execBlk (w : Micro) (s : State) : Host.Outcome State Fault Refusal :=
  onDev s fun d => d.seq w 0x36 fun e =>
    let k := w.k.val
    let block := w.imm.toNat / 2048
    let fn := w.imm.toNat % 2048
    let sc := (e.ga w).toNat
    let pb := e.scratch k sc 64
    let a := beAt pb 0 4
    if 22 < block ∨ (20 ≤ block ∧ fn ≠ 0) then e.faultBack w 0x36 1
    else if sc % 8 ≠ 0 ∨ 4096 < sc + 64 then e.faultBack w 0x36 3
    else if openPc (e.pc k - 1) && e.blkBreach block fn then e.faultBack w 0x36 5
    else if (block = 20 ∧ !poolOk a (beAt pb 4 2)) ∨ (block = 22 ∧ !poolOk a 32) then e.faultBack w 0x36 3
    else if block = 22 then
      let r := e.takeTag k .command
      let p := e.poolRead a (32 + cpLen (e.poolRead a 32))
      (r.1.cmdAccept (k / 64) (ctxOf (.reckoner k r.2 a) p 0 none) p none).setG k w.d.val (r64 r.2)
    else
      let y := e.blkAnswer s.otp block fn pb
      let r := y.1.takeTag k (.block sc y.2)
      r.1.setG k w.d.val (r64 r.2)

end Sys2Proof.Machine
end

