-- ==== Sys2Proof/Machine/Ticks.lean ====
section
/-! DEFINITION. Machine/Ticks.lean: the boundaries of tick, rod and deck, steps and slews, the transmit grid, late deck sums,
the sideband and the die supervisors (R16, R26, R33 to R41, R48 to R54). -/
namespace Sys2Proof.Machine

/-! ### The tick that ends: cycles and slots (R498, R500, R505, R506) -/

/-- What the empty slots of a column count as (R506): a bubble, held for FLOW_PORT, or starved; the slots of a tick that no
item has taken are all classed by the state at its end (DESIGN CHOICE, log entry 60). -/
def Dev.emptySlots (d : Dev) (c : Nat) : List Nat × Nat :=
  let die := c / 8
  let mine := (d.par die).ctxs.filter fun x => decide (d.column x.port = c)
  let stuck := mine.any fun x => x.res.isSome && (mine.takeWhile (· ≠ x)).any fun y => decide (y.port = x.port) && y.res.isNone
  let held := d.lb (rFLW_CTRL die) fFLW_CTRL_EN && d.flowHold die && mine.any fun x => x.res.any (·.flowEn)
  if d.b rFLT_STATUS fFLT_STATUS_SAFE || d.nrg.gated.contains c then ([2], 0x12)
  else if stuck then ([1, 5], 0x11) else if held then ([3, 8], 0x13) else ([2], 0x12)

/-- A column in service accounts the rest of its 16 slots (R505). -/
def Dev.columnSlots (d : Dev) (c : Nat) : Dev :=
  let n := 16 - d.slotsOf c
  if d.colRetired c || n = 0 then d
  else
    let k := d.emptySlots c
    (d.each k.1 fun e i => e.slotCnt c i n).pev c k.2 n

/-- The accounts of the tick that ends: 16 cycles of every unit, the slots, and the events that are counted by cycles. -/
def Dev.tickCount (d : Dev) : Dev :=
  let d1 := d.each (List.range 32) fun e u => (e.cnt (rCNT_CYC_LO u) 16).pev u 0x00 16
  let d2 := { (d1.each (List.range 16) Dev.columnSlots) with path := { (d1.each (List.range 16) Dev.columnSlots).path with slots := [] } }
  let d3 := d2.each [0, 1] fun e die =>
    let wait := e.f (rRCK_D_RECK die) fRCK_D_RECK_WAITING
    let x := e.rckD die
    let e1 := e.setRckD die { x with busy := x.busy + (64 - wait) }
    let e2 := if wait = 0 then e1 else e1.pev (20 + die) 0x11 (16 * wait)
    let e3 := if wait = 0 ∧ e.f (rRCK_D_TASKS die) fRCK_D_TASKS_READY ≠ 0 then e2.pev (20 + die) 0x12 16 else e2
    if e3.flowHold die then e3.pev (16 + die) 0x17 16 else e3
  let n := ([0, 1].filter fun k => (d3.link k).stopped).length
  let d4 := if n = 0 then d3 else d3.pev 28 0x13 (16 * n)
  let m := d4.out.msgs.length
  let d5 := { (d4.pev 29 0x13 (m - d4.msgSeen)) with msgSeen := m }
  d5.each unnumbered fun e x => e.pevFree x.1 x.2

/-- SNAPSHOT_TAKE (R504): the cycle, programmable and slot counters of every unit. -/
def Dev.snapTake (d : Dev) : Dev :=
  if d.b rCNT_CTRL fCNT_CTRL_SNAP_PENDING then
    let d1 := { d with snap := d.regs.filter fun e => snapCopy (e.1 + 0x200) && decide (e.1 % 0x400 < 0x200) }
    ((d1.wrPair rCNT_SNAP_TICK_LO rCNT_SNAP_TICK_HI d.trk.tick).sb rCNT_CTRL fCNT_CTRL_SNAP_PENDING false).raise eCNT_SNAP_DONE
      0xFFFF
  else d

/-! ### The tick that begins -/

/-- The tick, deck and position registers (R56). -/
def Dev.tickRegs (d : Dev) : Dev :=
  let d1 := d.wrPair rTCK_NUM_LO rTCK_NUM_HI d.trk.tick
  let d2 := (d1.wn rTCK_DECK_LO d.deck).wn rTCK_DECK_HI (d.deck / 2 ^ 32 % 2 ^ 16)
  (d2.sf rTCK_POS fTCK_POS_TICK_IN_ROD (d.trk.tick % 1000)).sf rTCK_POS fTCK_POS_ROD_IN_DECK (d.rod % 100)

/-- The tick number increments, unless a step has set the number of this tick (R33, R35, R39). -/
def Dev.tickNext (d : Dev) : Dev :=
  if d.trk.stepped then { d with trk := { d.trk with stepped := false } }.tickRegs
  else
    let n := d.trk.tick + 1
    { d with trk := { d.trk with
      tick := n, rodDue := decide (n % 1000 = 0), deckDue := decide (n % 100000 = 0) } }.tickRegs

/-- A write of L to an enabled level group takes effect: the boundary is its new tc (R289). -/
def Dev.lvlChange (d : Dev) : Dev :=
  d.each (d.listedIdx (rLVL_GRP_CFG 0) 16 1024) fun e g =>
    let a := rLVL_GRP_CFG g
    let old := e.lf a fLVL_GRP_CFG_L
    if e.lb a fLVL_GRP_CFG_EN && decide (old ≠ e.f a fLVL_GRP_CFG_L) then
      (e.sf (rLVL_GRP_STATUS g) fLVL_GRP_STATUS_L_PREV old).wn (rLVL_GRP_CHG g) (e.trk.tick % 2 ^ 32)
    else e

/-- User tasks may run from the boundary at which USER_EN is in force and an open image is loaded (R401). -/
def Dev.userTick (d : Dev) : Dev :=
  d.sb rRCK_STATUS fRCK_STATUS_USER_ON
    (d.b rRCK_OPEN_CTRL fRCK_OPEN_CTRL_USER_EN && d.b rRCK_STATUS fRCK_STATUS_OPEN_LOADED)

/-- WRED_AVERAGE_UPDATE (R250): avg + (depth − avg) × 2^-w, in 1/256 cell, rounded down. A queue without a WRED profile has no
w: its average is a free value. -/
def Dev.wredTick (d : Dev) (die : Nat) : Dev :=
  let b := d.buf die
  let upd (k q : Nat) (x : QueueSt) : QueueSt :=
    let p := d.lf (rBUF_Q_CFG die q) fBUF_Q_CFG_WRED
    if p = 0 then { x with avg := d.freeAt k (2 ^ 26) }
    else
      let w := d.lf (rBUF_WRED_W die p) fBUF_WRED_W_W
      { x with avg := ((x.avg : Int) + ((256 * x.depth : Nat) - (x.avg : Int)) / (2 ^ w : Nat)).toNat }
  let qs := (b.queues.zip (List.range b.queues.length)).map fun e => (e.1.1, upd e.2 e.1.1 e.1.2)
  (d.setBuf die { b with queues := qs.filter fun e => decide (e.2 ≠ {}) }).used b.queues.length

/-- FC_FILL_EVAL and XOFF_SEND (R75, R76): a priority's fill against its watermarks. -/
def Dev.fcEval (d : Dev) (p q : Nat) : Dev :=
  let x := d.portSt p
  let paused := decide (bits x.xoffSent q q = 1)
  let xoff := d.lf (rPRT_WM p q) fPRT_WM_XOFF_CELLS
  let xon := d.lf (rPRT_WM p q) fPRT_WM_XON_CELLS
  if !d.fcOn p q then d
  else if paused then
    if xoff = 0 || decide (d.fill p q ≤ xon) then
      (d.setPort p { x with xoffSent := putBits x.xoffSent q q 0 }).sendFc p q 0
    else d
  else if xoff ≠ 0 && decide (xoff ≤ d.fill p q) then
    (d.setPort p { x with xoffSent := putBits x.xoffSent q q 1 }).sendFc p q (d.lf (rPRT_FC p) fPRT_FC_XOFF_QUANTA)
  else d

/-- The fill of every port that is UP is evaluated; PAUSED_RX tells whether a received pause still stops a priority. -/
def Dev.fcTick (d : Dev) : Dev :=
  d.each ((d.port.ports.map (·.1)).filter d.isUp) fun e p => (e.each (List.range 8) fun y q => y.fcEval p q).pausedRx p

/-- MOD_PRESENT of a port follows its cage (R69). -/
def Dev.presentTick (d : Dev) (p : Nat) : Dev :=
  d.sb (rPRT_STATUS p) fPRT_STATUS_MOD_PRESENT
    (decide (d.cfgMode p ≠ 0) && (d.cageOf p).any fun c => d.b (rPRT_CAGE_STATE c) fPRT_CAGE_STATE_PRESENT)

/-- A tap-blind rail group counts its ticks (R109). -/
def Dev.blindTick (d : Dev) (g : Nat) : Dev :=
  (d.railBlind g).when ((d.railBlind g).b (rRAIL_GRP_STATUS g) fRAIL_GRP_STATUS_TAP_BLIND) fun x => x.cnt32 (rRAIL_GRP_BLIND g)

/-- WTR_RUNNING of a protection group: a revertive group has a lower member in UP (R87). -/
def Dev.wtrTick (d : Dev) (g : Nat) : Dev :=
  d.sb (rPRT_PG_STATUS g) fPRT_PG_STATUS_WTR_RUNNING
    (d.b (rPRT_PG_CTRL g) fPRT_PG_CTRL_EN && d.b (rPRT_PG_CTRL g) fPRT_PG_CTRL_REVERTIVE && (d.pgMembers g).any fun m =>
      decide (m.1 < d.f (rPRT_PG_STATUS g) fPRT_PG_STATUS_ACTIVE_IDX) && d.isUp m.2)

/-- MOD_PRESENT of every configured port; TAP_BLIND of every rail group and its count of blind ticks (R109); WTR_RUNNING of every
protection group: a revertive group waits while a member below the active one is UP (R87, R91). -/
def Dev.portTick (d : Dev) : Dev :=
  let d1 := d.each (d.listedIdx (rPRT_CFG 0) 0x40 512) Dev.presentTick
  let d2 := d1.each d1.railGroups Dev.blindTick
  d2.each (d2.listedIdx (rPRT_PG_CTRL 0) 16 128) Dev.wtrTick

/-- A port is off-grid until its grid is established, if it is anchored at all (R54). -/
def Dev.gridTick (d : Dev) : Dev :=
  d.each (d.port.ports.map (·.1)) fun e p =>
    let on := e.isUp p && e.anchored p
    e.sb (rPRT_STATUS p) fPRT_STATUS_OFF_GRID (on && (!(e.portSt p).gridSet || e.b (rPRT_STATUS p) fPRT_STATUS_OFF_GRID))

/-! ### Level groups (R288, R298, R299) -/

/-- LVL_SUSPEND (R298): the release time of every queued copy of the group is this boundary; each counts as flushed. -/
def Dev.lvlFlush (d : Dev) (g : Nat) : Dev :=
  d.each [0, 1] fun e die =>
    let b := e.buf die
    let mine (c : Copy) : Bool := c.lvl.any fun l => decide (l.group = g)
    let n := ((b.levels.flatMap (·.2)).filter mine).length
    let at_ (c : Copy) : Copy := if mine c then { c with lvl := c.lvl.map fun l => { l with r := e.nowT } } else c
    let e1 := e.setBuf die { b with levels := b.levels.map fun x => (x.1, x.2.map at_) }
    if n = 0 then e1 else e1.cnt (rLVL_CNT_LO die 9) n

/-- The state of a level group at a tick boundary (R288). EN set again while DRAINING is as from DISABLED, and EN cleared
while ARMED leaves nothing to drain (DEDUCED, log entry 61). -/
def Dev.lvlGroupTick (d : Dev) (g : Nat) : Dev :=
  let en := d.lb (rLVL_GRP_CFG g) fLVL_GRP_CFG_EN
  let ok := d.locked || d.lb (rLVL_GRP_CFG g) fLVL_GRP_CFG_UNLOCKED_OK
  let st := d.lvlState g
  if en then
    if st = 0 ∨ st = 4 then d.setLvlState g (if ok then 2 else 1)
    else if st = 1 ∧ ok then d.setLvlState g 2
    else if st = 2 ∧ !ok then ((d.setLvlState g 3).lvlFlush g).raise eLVL_SUSPEND g
    else if st = 3 ∧ ok then (d.setLvlState g 2).raise eLVL_RESUME g
    else d
  else if st = 1 then d.setLvlState g 0
  else if st = 2 ∨ st = 3 then (d.setLvlState g 4).lvlDrained g
  else d.lvlDrained g

/-- The figures of a level queue: its state, and whether its destination is off-grid (R54, R299). -/
def Dev.lvlQTick (d : Dev) (i : Nat) : Dev :=
  let dest := d.f (rLVL_Q_CFG i) fLVL_Q_CFG_DEST
  let p := if d.b (rLVL_Q_CFG i) fLVL_Q_CFG_PG then d.pgActive dest else dest
  (d.lvlQState i).sb (rLVL_Q_STATUS i) fLVL_Q_STATUS_OFF_GRID
    (d.lb (rLVL_Q_CFG i) fLVL_Q_CFG_EN && d.b (rPRT_STATUS p) fPRT_STATUS_OFF_GRID)

/-- Level groups and queues at a tick boundary. -/
def Dev.lvlTick (d : Dev) : Dev :=
  let gs := (d.listedIdx (rLVL_GRP_CFG 0) 16 1024 ++ d.listedIdx (rLVL_GRP_STATUS 0) 16 1024).eraseDups
  let qs := (d.listedIdx (rLVL_Q_CFG 0) 16 1024 ++ d.listedIdx (rLVL_Q_STATUS 0) 16 1024).eraseDups
  (d.each gs Dev.lvlGroupTick).each qs Dev.lvlQTick

/-! ### Conditions of tasks (R388, R389) -/

/-- One boundary less to pass: `deck` tells the kind. -/
def Cond.pass (deck : Bool) : Cond → Cond
  | .tick n => if deck then .tick n else .tick (n - 1)
  | .deck n => if deck then .deck (n - 1) else .deck n
  | c => c

/-- The waits of reckoners and the parked tasks see a boundary. -/
def Dev.condPass (d : Dev) (deck : Bool) : Dev :=
  let d1 := { d with rck := { d.rck with recks := d.rck.recks.map fun (e : Nat × Reck) => (e.1, { e.2 with wait := e.2.wait.map (Cond.pass deck) }) } }
  d1.each [0, 1] fun e die =>
    let x := e.rckD die
    e.setRckD die { x with tasks := x.tasks.map fun (t : Nat × Option Task) => (t.1, t.2.map fun y => match y.st with
      | .parked c => { y with st := .parked (c.pass deck) }
      | _ => y) }

/-! ### The tick boundary (R39, R40) -/

/-- Changes of R38 take effect: those of the last tick's making, then table memory, bindings and kill flags (R40). -/
def Dev.tickChanges (d : Dev) : Dev :=
  let d1 := d.lvlChange
  let d2 := { d1 with live := d1.regs, deferred := [] }
  let d3 := d2.each d.deferred Dev.applyDeferred
  let d4 := d3.commitDue
  let d5 := { d4 with live := d4.regs, tbl := { d4.tbl with live := d4.tbl.mem } }
  d5.each [0, 1] fun e die => e.setFlw die { e.flw die with killsLive := (e.flw die).kills }

/-- The tick actions of the data path and the planes above it; the safe state stops them (R485). -/
def Dev.tickWork (d : Dev) : Dev :=
  let d1 := (d.refillPass 0).refillPass 1
  let d2 := (d1.wredTick 0).wredTick 1
  d2.fcTick.lvlTick.domApply.domArm

/-- All tick actions, in the order of R40. -/
def Dev.tickActions (d : Dev) : Dev :=
  let d1 := d.tickCount.tickNext.tickChanges.snapTake
  let d2 := (d1.each (List.range 32) fun e u => e.pev u 0x01).userTick.readyTick
  let d3 := ((d2.timTick).portTick.gridTick.taskRetry 0).taskRetry 1
  let d4 := d3.when (!d3.b rFLT_STATUS fFLT_STATUS_SAFE) Dev.tickWork
  let d5 := (((d4.fltTick.poolTick.condPass false).jrnJudge 0).jrnJudge 1).jrnMarking
  { d5 with live := d5.regs }

/-- A step that is due and may be made at this boundary (R35). -/
def Dev.stepMay (d : Dev) : Bool := d.trk.stepDue.isSome && !d.locked && d.lb rTCK_CTRL fTCK_CTRL_STEP_EN

/-- May the next tick begin: the clock runs, the actions of the last boundary have been made, and no step is due first? -/
def Dev.tickMay (d : Dev) : Bool := d.board.clock && !d.trk.rodDue && !d.trk.deckDue && !d.stepMay

/-- A slew begins (R34). -/
def Dev.slewTo (d : Dev) (e : Int) : Dev :=
  { d with trk := { d.trk with slewLeft := e } }.sb rTCK_STATUS fTCK_STATUS_SLEWING (decide (e ≠ 0))

/-- An offset whose step is not allowed any more is slewed (R34, R35). -/
def Dev.stepDrop (d : Dev) : Dev :=
  match d.trk.stepDue with
  | none => d
  | some e =>
    (({ d with trk := { d.trk with stepDue := none } }.slewTo e).when (decide (d.f rTIM_STATUS fTIM_STATUS_SSTATE ≠ 0)) fun x =>
      x.sb rTCK_STATUS fTCK_STATUS_DOMAIN true).gridRefresh

/-- TICK_BOUNDARY (R39, R40): the start of the next tick. A tick after which rod or deck actions or a step are due begins
once they have been made (log entry 62). -/
def execTickBoundary (s : State) : Host.Outcome State Fault Refusal :=
  onDev s fun d => if d.tickMay then d.stepDrop.tickActions else d

/-! ### The rod boundary (R39) -/

/-- Lag of a die's ageing sweep in rods (R230): `n` buckets a pass of `per` decks, `due` in 1/(100 × per) bucket. -/
def sweepLagOf (n per due done : Nat) : Nat :=
  let next := (done + 1) * (100 * per)
  if n = 0 ∨ due < next then 0 else (due - next) / n + 1

/-- The sweep's schedule advances by a rod, and its lag is told (R227, R230). -/
def Dev.sweepRod (d : Dev) (die : Nat) : Dev :=
  let x := d.flw die
  let n := d.buckets die
  let on := d.lb (rFLW_AGE_CFG die) fFLW_AGE_CFG_EN && d.b (rFLW_STATUS die) fFLW_STATUS_READY && decide (n ≠ 0)
  if !on then (d.setFlw die { x with sweepDue := 0, sweepDone := 0 }).sf (rFLW_AGE_STATUS die) fFLW_AGE_STATUS_LAG_RODS 0
  else
    let p := d.lf (rFLW_AGE_CFG die) fFLW_AGE_CFG_PERIOD_DECKS
    let per := if p = 0 then 4194304 else p
    let due := (if per = x.sweepPer then x.sweepDue else x.sweepDue * per / max 1 x.sweepPer) + n
    let lag := sweepLagOf n per due x.sweepDone
    let d1 := (d.setFlw die { x with
        sweepPer := per, sweepDue := due, lagRaised := x.lagRaised || decide (100 ≤ lag) }).sf (rFLW_AGE_STATUS die)
      fFLW_AGE_STATUS_LAG_RODS (min (2 ^ 24 - 1) lag)
    let d2 := if lag = 0 then d1 else (d1.late 10).cnt (rFLW_RACE_CNT_LO die 12)
    if 100 ≤ lag && !x.lagRaised then d2.raiseD eFLW_RACE_SWEEP_LAG_EVT die 0xFFFF else d2

/-- What is counted by the rod begins anew (R131, R215, R258), and occupancy is reported (R408). -/
def Dev.rodReset (d : Dev) (die : Nat) : Dev :=
  let d1 := d.setFlw die { d.flw die with rodLearn := 0 }
  let d2 := d1.setPar die { d1.par die with rodRmd := 0 }
  let d3 := d2.setBuf die { d2.buf die with mirRod := [] }
  let x := d3.rckD die
  (d3.setRckD die { x with busy := 0 }).sf (rRCK_D_OCC die) fRCK_D_OCC_PCT (min 100 (x.busy / 640))

/-- All rod actions. -/
def Dev.rodActions (d : Dev) (e : RodEnergy) : Dev :=
  let live := !d.b rFLT_STATUS fFLT_STATUS_SAFE
  let d1 := (d.when live fun x => ((x.coarseStep 0).coarseStep 1).sweepRod 0 |>.sweepRod 1).rodReset 0
  let ready := d.b rOTP_BOOT_STATUS fOTP_BOOT_STATUS_COMMAND_READY
  let d2 := ((d1.rodReset 1).uDomRod.refRod).when ready fun x => x.nrgClose e
  d2.when (live && ready) Dev.nrgApply

/-- ROD_BOUNDARY (R39): `e` is what the closed rod used. -/
def execRodBoundary (e : RodEnergy) (s : State) : Host.Outcome State Fault Refusal :=
  onDev s fun d =>
    if d.trk.rodDue then { (d.rodActions e) with trk := { (d.rodActions e).trk with rodDue := false } } else d

/-! ### The deck boundary (R39) -/

/-- The runs of late decks of a die's pseudo-channels (R52, R232). -/
def Dev.lagDeck (d : Dev) (die : Nat) : Dev :=
  let late := (d.flw die).deckLate
  let run := d.listedIdx (rFLW_PC_LAGRUN die 0) 4 128
  let d1 := d.each (run ++ late).eraseDups fun e pc =>
    let a := rFLW_PC_LAGRUN die pc
    if late.contains pc then
      let e1 := e.cntF a fFLW_PC_LAGRUN_DECKS
      if e1.f a fFLW_PC_LAGRUN_DECKS = 100 then e1.report die 0xC 5 6 (die * 128 + pc) else e1
    else e.sf a fFLW_PC_LAGRUN_DECKS 0
  d1.setFlw die { d1.flw die with deckLate := [] }

/-- The follower check (R37): a die whose number differs loads CD0's, DIE_MISMATCH sets and a class C fault names the die; a die
that has had no number counts its decks (R485). -/
def Dev.followers (d : Dev) (quiet differs : List (Fin 4)) : Dev :=
  let d1 := d.each [1, 2, 3] fun e k =>
    let n := if quiet.any (·.val = k) then kvGet 0 e.flt.quietDecks k + 1 else 0
    { e with flt := { e.flt with quietDecks := kvSet 0 k n e.flt.quietDecks } }
  d1.each [1, 2, 3] fun e k =>
    if differs.any (·.val = k) && !quiet.any (·.val = k) then
      (e.sb rTCK_STATUS fTCK_STATUS_DIE_MISMATCH true).report (k % 2) 0xC 0 0x0A k
    else e

/-- Is a fault of class D or E open on either die? -/
def Dev.graveOpen (d : Dev) : Bool :=
  [0, 1].any fun die => (d.flt.die die).handling.any (fun h => decide (0xD ≤ h.cls)) || d.flt.safeDue.isSome

/-- The ALIVE pair (R488): started at the first deck boundary after COMMAND_READY, inverted at each one from then on while no
class D or E fault is open and the collector's check has passed; a failed check is a fault of the collector. -/
def Dev.aliveDeck (d : Dev) (check : Bool) : Dev :=
  let d1 := d.when (!check) fun e => e.report 0 0xD 25 0x03 0
  if d.b rFLT_STATUS fFLT_STATUS_SAFE || d.graveOpen || !check then d1
  else if d.flt.aliveOn then
    let p := d1.b rFLT_ALIVE fFLT_ALIVE_P
    (d1.sb rFLT_ALIVE fFLT_ALIVE_P !p).sb rFLT_ALIVE fFLT_ALIVE_N p
  else if d.b rOTP_BOOT_STATUS fOTP_BOOT_STATUS_COMMAND_READY &&
      decide (d.rdPair rOTP_READY_TICK_LO rOTP_READY_TICK_HI < d.trk.tick) then
    let d2 := { d1 with flt := { d1.flt with aliveOn := true } }
    ((d2.sb rFLT_ALIVE fFLT_ALIVE_P true).sb rFLT_ALIVE fFLT_ALIVE_N false).sb rFLT_ALIVE fFLT_ALIVE_RUNNING true
  else d1

/-- All deck actions. -/
def Dev.deckActions (d : Dev) (quiet differs : List (Fin 4)) (check : Bool) (ecc : List Nat) : Dev :=
  let live := !d.b rFLT_STATUS fFLT_STATUS_SAFE
  let d1 := (d.when live Dev.jrnDeck).aliveDeck check
  let d2 := ((d1.when live Dev.schedRelease).followers quiet differs)
  let d3 := ((d2.lagDeck 0).lagDeck 1).nfDeck.hbmLag.eccDeck ecc
  let d4 := (d3.setScrub 0 fun x => (x.1 + 1, x.2 + 1)).setScrub 1 fun x => (x.1 + 1, x.2 + 1)
  d4.timDeck.calApply.railCalApply.condPass true

/-- DECK_BOUNDARY (R39): `quiet` are the dies that got no deck number, `differs` those whose number differs, `check` the result
of the collector's own check, `ecc` the corrections the stacks made on-die in the deck (R360). -/
def execDeckBoundary (quiet differs : List (Fin 4)) (check : Bool) (ecc : List Nat) (s : State) :
    Host.Outcome State Fault Refusal :=
  onDev s fun d =>
    if d.trk.deckDue && !d.trk.rodDue then
      let e := d.deckActions quiet differs check ecc
      { e with trk := { e.trk with deckDue := false } }
    else d

/-! ### Steps and slews (R34, R35, R41) -/

/-- The step of an offset `e` = device time − domain time: to the nearest whole tick, a half tick away from zero (R35). -/
def stepSize (e : Int) : Int :=
  let n : Nat := (e.natAbs + 327680) / 655360
  if e > 0 then -(n : Int) else n

/-- Release times of the copies of groups with UNLOCKED_OK move with the step, and so do the times until which ports are
busy (R298). -/
def Dev.lvlStep (d : Dev) (s : Int) : Dev :=
  let move (t : Nat) (k : Int) : Nat := ((t : Int) + s * k).toNat
  d.each [0, 1] fun e die =>
    let b := e.buf die
    let ok (l : LvlInfo) : Bool := e.lb (rLVL_GRP_CFG l.group) fLVL_GRP_CFG_UNLOCKED_OK
    let mv (c : Copy) : Copy := { c with lvl := c.lvl.map fun l => if ok l then { l with r := move l.r 655360 } else l }
    e.setBuf die { b with
      levels := b.levels.map fun x => (x.1, x.2.map mv),
      lvlFree := b.lvlFree.map fun x => (x.1, move x.2 16384000) }

/-- Packets issued and not yet admitted have met a step (R298). -/
def Dev.staleMark (d : Dev) : Dev :=
  let mk (k : Pkt) : Pkt := { k with stale := true }
  let d1 := { d with path := { d.path with recirc := d.path.recirc.map mk } }
  d1.each [0, 1] fun e die =>
    let x := e.flw die
    let b := e.buf die
    (e.setFlw die { x with parked := x.parked.map fun p => { p with pkt := mk p.pkt } }).setBuf die { b with
      repl := b.repl.map fun r => { r with pkt := mk r.pkt } }

/-- The step itself (R35, R41): `e` is the offset. -/
def Dev.stepBy (d : Dev) (e : Int) : Dev :=
  let s := stepSize e
  let rest := e + s * 655360
  let old := d.trk.tick
  let n := ((old : Int) + 1 + s).toNat
  let skipped := n / 100000 - old / 100000
  let fwd := decide (0 < s)
  let d0 := { d with trk := { d.trk with stepDue := none } }
  let d1 := if s = 0 then d0
    else
      let d2 := { d0 with trk := { d0.trk with
        tick := n, stepped := true, stepDeck := some (n / 100000),
        rodDue := if fwd then decide (n / 1000 ≠ old / 1000) else decide (n % 1000 = 0),
        deckDue := if fwd then decide (n / 100000 ≠ old / 100000) else decide (n % 100000 = 0) } }
      let d3 := (d2.sb rTCK_STATUS fTCK_STATUS_STEPPED true).wrPair rTCK_LAST_STEP_LO rTCK_LAST_STEP_HI
        (BitVec.ofInt 64 s).toNat
      let d4 := (if fwd then d3.wn rTCK_SKIPPED (min (2 ^ 32 - 1) skipped) else d3).late 9
      let d5 := if d4.jrnActive then
          { d4 with jrn := { d4.jrn with flags := putBits d4.jrn.flags 7 7 1 } }.jrnMark 0 4 0xFFFF
            (if fwd then min (2 ^ 32 - 1) skipped else 0) (beBytes 8 (BitVec.ofInt 64 s).toNat)
        else d4
      let d6 := d5.each (d5.port.ports.map (·.1)) fun x p =>
        if x.anchored p then (x.setPort p { x.portSt p with gridSet := false }).sb (rPRT_STATUS p) fPRT_STATUS_OFF_GRID true
        else x
      (d6.lvlStep s).staleMark.trigStep.jrnMarking
  ((d1.when (decide (d.f rTIM_STATUS fTIM_STATUS_SSTATE ≠ 0)) fun x => x.sb rTCK_STATUS fTCK_STATUS_DOMAIN true).gridRefresh).slewTo rest

/-- TICK_STEP (R35, R36, R41): at the boundary at which the next tick begins, before its other actions: the tick that
TICK_BOUNDARY then begins carries the new number. -/
def execTickStep (s : State) : Host.Outcome State Fault Refusal :=
  onDev s fun d =>
    match d.trk.stepDue with
    | none => d
    | some e =>
      if d.board.clock && !d.trk.rodDue && !d.trk.deckDue && d.stepMay then (d.stepBy e).tickRegs else d

/-- SLEW_DONE (R34). -/
def execSlewDone (s : State) : Host.Outcome State Fault Refusal :=
  onDev s fun d => if d.b rTCK_STATUS fTCK_STATUS_SLEWING then d.slewTo 0 else d

/-! ### The transmit grid (R53, R54) -/

/-- GRID_CHECK (R53, R54): `errors` in 1/1,024 ns; a port not listed has none. -/
def execGridCheck (errors : List (Fin 512 × Nat)) (s : State) : Host.Outcome State Fault Refusal :=
  onDev s fun d =>
    if d.trk.tick % 32 = 0 && d.b rTCK_GRID fTCK_GRID_GRID_VALID then
      d.each (d.port.ports.map (·.1)) fun e p =>
        if !(e.isUp p && e.anchored p) then e
        else if !(e.portSt p).gridSet then
          (e.setPort p { e.portSt p with gridSet := true }).sb (rPRT_STATUS p) fPRT_STATUS_OFF_GRID false
        else if errors.any fun x => decide (x.1.val = p) && decide (102 < x.2) then
          (e.late 11).sb (rPRT_STATUS p) fPRT_STATUS_OFF_GRID true
        else e.sb (rPRT_STATUS p) fPRT_STATUS_OFF_GRID false
    else d

/-! ### Late deck sums (R49, R352) -/

/-- SEAL_LATE (R49, R51, R352): the sum of the oldest closed deck is not formed by the end of the deck after it. -/
def execSealLate (s : State) : Host.Outcome State Fault Refusal :=
  onLive s fun d =>
    match d.jrn.closed.find? fun c => c.sum.isNone && decide (c.deck + 1 < d.deck) && decide (bits c.flags 3 3 = 0) with
    | none => d
    | some c =>
      let d1 := d.setClosed c.deck fun x => { x with flags := putBits x.flags 3 3 1 }
      ((d1.late 5).jrnMark 0 3 0xFFFF (c.deck % 2 ^ 32)).raise eJRN_SEAL_LATE 0xFFFF

/-! ### Sidebands and die supervisors (R16, R26) -/

/-- A supervisor carries out an errand (R26): dies 0 and 1 are CD0 and CD1, dies 2 and 3 PD0 and PD1, which report to the
collector of their core die (R475). -/
def Dev.supervise (d : Dev) (die : Nat) : SupCmd → Dev
  | .write addr value => d.regWrite addr value.toNat
  | .reset block mask =>
    if (d.resetRefused block mask).isSome then d else { d with deferred := d.deferred ++ [.blockReset block mask none] }
  | .fault cls block kind inst => if cls ≤ 0xA then d.classA (die % 2) else d.report (die % 2) cls block kind inst

/-- Rank of a message in the order of R16. -/
def sbRank : SbMsg → Nat
  | .timeAlign _ => 0
  | .fault .. => 1
  | .supervisor _ => 2

/-- The die a sideband message reaches: direction 1 is toward CD0, or from a port die to its core die. -/
def sbEnd (link dir : Nat) : Nat :=
  if link = 0 then 1 - dir else if link = 1 then (if dir = 0 then 2 else 0) else (if dir = 0 then 3 else 1)

/-- A message is served. A fault report between the core dies has been classified where it arose, and has its effect on CD0
with that (FAULT_CLASSIFY). -/
def Dev.sbServe (d : Dev) (link dir : Nat) : SbMsg → Dev
  | .timeAlign skew => d.sf rTCK_SKEW fTCK_SKEW_MAX (min 255 (max skew (d.f rTCK_SKEW fTCK_SKEW_MAX)))
  | .fault cls block kind inst =>
    if link = 0 ∨ dir = 0 then d else d.supervise (sbEnd link dir) (.fault cls block kind inst)
  | .supervisor c => d.supervise (sbEnd link dir) c

/-- SIDEBAND_MESSAGE (R16): the messages waiting at one end of a sideband, served in the order time alignment, fault reports,
supervisor commands. -/
def execSidebandMessage (link : Fin 3) (dir : Fin 2) (msgs : List SbMsg) (s : State) : Host.Outcome State Fault Refusal :=
  onDev s fun d =>
    d.each (msgs.filter (fun m => decide (sbRank m = 0)) ++ msgs.filter (fun m => decide (sbRank m = 1)) ++
      msgs.filter fun m => decide (sbRank m = 2)) fun e m => e.sbServe link dir m

/-- SUPERVISOR_COMMAND (R26). -/
def execSupervisorCommand (die : Fin 4) (cmd : SupCmd) (s : State) : Host.Outcome State Fault Refusal :=
  onDev s fun d => d.supervise die cmd

end Sys2Proof.Machine
end

