-- ==== Sys2Proof/Machine/Dispatch.lean ====
section
/-! DEFINITION. Machine/Dispatch.lean: one arm per command, each the call of its meaning. -/
namespace Sys2Proof.Machine

/-- The effect of a command on everything but the queue. -/
def exec (i : Instr) (s : State) : Host.Outcome State Fault Refusal :=
  match i with
  | .registerWrite bar2 addr width value => Sys2Proof.Machine.execRegisterWrite bar2 addr width value s
  | .readClear addr width => Sys2Proof.Machine.execReadClear addr width s
  | .pairLowReadLatch addr => Sys2Proof.Machine.execPairLowReadLatch addr s
  | .pairLowWriteCommit addr high low => Sys2Proof.Machine.execPairLowWriteCommit addr high low s
  | .tickBoundary => Sys2Proof.Machine.execTickBoundary s
  | .rodBoundary e => Sys2Proof.Machine.execRodBoundary e s
  | .deckBoundary quiet differs selfCheck ecc => Sys2Proof.Machine.execDeckBoundary quiet differs selfCheck ecc s
  | .hbmCalendarFrame acts => Sys2Proof.Machine.execHbmCalendarFrame acts s
  | .ppsOutRise => Sys2Proof.Machine.execPpsOutRise s
  | .ppsOutFall => Sys2Proof.Machine.execPpsOutFall s
  | .tickStep => Sys2Proof.Machine.execTickStep s
  | .slewDone => Sys2Proof.Machine.execSlewDone s
  | .gridCheck errors => Sys2Proof.Machine.execGridCheck errors s
  | .injectLate col => Sys2Proof.Machine.execInjectLate col s
  | .nonflowLate die cls stack pc => Sys2Proof.Machine.execNonflowLate die cls stack pc s
  | .planLate => Sys2Proof.Machine.execPlanLate s
  | .sealLate => Sys2Proof.Machine.execSealLate s
  | .cmdLate die => Sys2Proof.Machine.execCmdLate die s
  | .dieLinkLaneFail dir lane => Sys2Proof.Machine.execDieLinkLaneFail dir lane s
  | .dieLinkRetrainDone dir => Sys2Proof.Machine.execDieLinkRetrainDone dir s
  | .sidebandMessage link dir msgs => Sys2Proof.Machine.execSidebandMessage link dir msgs s
  | .supervisorCommand die cmd => Sys2Proof.Machine.execSupervisorCommand die cmd s
  | .frameChunkArrive p first last len bytes frac => Sys2Proof.Machine.execFrameChunkArrive p first last len bytes frac s
  | .packetIssue p again ecc => Sys2Proof.Machine.execPacketIssue p again ecc s
  | .injectIssue col again => Sys2Proof.Machine.execInjectIssue col again s
  | .flowDataReturn die n => Sys2Proof.Machine.execFlowDataReturn die n s
  | .parkedResume col again ecc => Sys2Proof.Machine.execParkedResume col again ecc s
  | .flowLate col => Sys2Proof.Machine.execFlowLate col s
  | .replicationTakeUp die => Sys2Proof.Machine.execReplicationTakeUp die s
  | .frameEnd p => Sys2Proof.Machine.execFrameEnd p s
  | .copyDequeue p dt => Sys2Proof.Machine.execCopyDequeue p dt s
  | .copyTransmitEnd p => Sys2Proof.Machine.execCopyTransmitEnd p s
  | .shaperWheelRefill die n => Sys2Proof.Machine.execShaperWheelRefill die n s
  | .levelCopyDequeue p busy alignR alignT => Sys2Proof.Machine.execLevelCopyDequeue p busy alignR alignT s
  | .levelReleaseGate p => Sys2Proof.Machine.execLevelReleaseGate p s
  | .journalRowWrite die => Sys2Proof.Machine.execJournalRowWrite die s
  | .portCreate p value => Sys2Proof.Machine.execPortCreate p value s
  | .portEnable p value => Sys2Proof.Machine.execPortEnable p value s
  | .portDisable p value => Sys2Proof.Machine.execPortDisable p value s
  | .portRemove p value => Sys2Proof.Machine.execPortRemove p value s
  | .signalDetect p => Sys2Proof.Machine.execSignalDetect p s
  | .autonegResolved p partner rsAble rsAsk eee => Sys2Proof.Machine.execAutonegResolved p partner rsAble rsAsk eee s
  | .linkTrainingDone p => Sys2Proof.Machine.execLinkTrainingDone p s
  | .trainFail p => Sys2Proof.Machine.execTrainFail p s
  | .lockAcquired p => Sys2Proof.Machine.execLockAcquired p s
  | .lockTimeout p => Sys2Proof.Machine.execLockTimeout p s
  | .lossOfSignal p cause => Sys2Proof.Machine.execLossOfSignal p cause s
  | .faultSetsReceived p remote => Sys2Proof.Machine.execFaultSetsReceived p remote s
  | .faultSetsCleared p => Sys2Proof.Machine.execFaultSetsCleared p s
  | .mgmtLayerTimeout p => Sys2Proof.Machine.execMgmtLayerTimeout p s
  | .cageScan lines => Sys2Proof.Machine.execCageScan lines s
  | .moduleReady c => Sys2Proof.Machine.execModuleReady c s
  | .moduleInitTimeout c => Sys2Proof.Machine.execModuleInitTimeout c s
  | .modFlag c flags => Sys2Proof.Machine.execModFlag c flags s
  | .watermarkWrite p q value => Sys2Proof.Machine.execWatermarkWrite p q value s
  | .xoffRefresh p q => Sys2Proof.Machine.execXoffRefresh p q s
  | .pauseFrameReceive p pfc vec quanta => Sys2Proof.Machine.execPauseFrameReceive p pfc vec quanta s
  | .pauseExpire p q => Sys2Proof.Machine.execPauseExpire p q s
  | .pfcWdTrip p q => Sys2Proof.Machine.execPfcWdTrip p q s
  | .pfcWdRestore p q => Sys2Proof.Machine.execPfcWdRestore p q s
  | .shedProposal p tx rx => Sys2Proof.Machine.execShedProposal p tx rx s
  | .shedStep p => Sys2Proof.Machine.execShedStep p s
  | .wakeProposal p tx => Sys2Proof.Machine.execWakeProposal p tx s
  | .laneRestore p => Sys2Proof.Machine.execLaneRestore p s
  | .lpiEnter p idle => Sys2Proof.Machine.execLpiEnter p idle s
  | .pgEnable g value => Sys2Proof.Machine.execPgEnable g value s
  | .pgSwitch g => Sys2Proof.Machine.execPgSwitch g s
  | .pgRevert g => Sys2Proof.Machine.execPgRevert g s
  | .laneCalTrigger n temp => Sys2Proof.Machine.execLaneCalTrigger n temp s
  | .laneCalDone n rx tx converged => Sys2Proof.Machine.execLaneCalDone n rx tx converged s
  | .railGroupEnable g value => Sys2Proof.Machine.execRailGroupEnable g value s
  | .railGroupDisable g value => Sys2Proof.Machine.execRailGroupDisable g value s
  | .railDstConfigWrite n value => Sys2Proof.Machine.execRailDstConfigWrite n value s
  | .railDstStart n => Sys2Proof.Machine.execRailDstStart n s
  | .railActive g => Sys2Proof.Machine.execRailActive g s
  | .railSrcLoss g => Sys2Proof.Machine.execRailSrcLoss g s
  | .railAltSwitch g => Sys2Proof.Machine.execRailAltSwitch g s
  | .railSrcReturn g => Sys2Proof.Machine.execRailSrcReturn g s
  | .selPrimary g => Sys2Proof.Machine.execSelPrimary g s
  | .railDstRetired n => Sys2Proof.Machine.execRailDstRetired n s
  | .railFifoAdjustDone n => Sys2Proof.Machine.execRailFifoAdjustDone n s
  | .parserSwap die value => Sys2Proof.Machine.execParserSwap die value s
  | .emMoveStep die table => Sys2Proof.Machine.execEmMoveStep die table s
  | .tcamRowMove die table => Sys2Proof.Machine.execTcamRowMove die table s
  | .tcamRespacingSweep die table => Sys2Proof.Machine.execTcamRespacingSweep die table s
  | .lpmNodeFree die table => Sys2Proof.Machine.execLpmNodeFree die table s
  | .tableScrubStep die tcam find passEnd => Sys2Proof.Machine.execTableScrubStep die tcam find passEnd s
  | .versionRetire => Sys2Proof.Machine.execVersionRetire s
  | .flowWritebackDone die pc => Sys2Proof.Machine.execFlowWritebackDone die pc s
  | .killEntryRelease die entry => Sys2Proof.Machine.execKillEntryRelease die entry s
  | .ipfixPeriodicExport die locator => Sys2Proof.Machine.execIpfixPeriodicExport die locator s
  | .ipfixTemplateResend die => Sys2Proof.Machine.execIpfixTemplateResend die s
  | .learnTask die => Sys2Proof.Machine.execLearnTask die s
  | .flowPlaceCommit die op => Sys2Proof.Machine.execFlowPlaceCommit die op s
  | .learnHoldExpire die entry => Sys2Proof.Machine.execLearnHoldExpire die entry s
  | .moveLockCopy die op => Sys2Proof.Machine.execMoveLockCopy die op s
  | .moveSwitch die op => Sys2Proof.Machine.execMoveSwitch die op s
  | .ageSweepVisit die => Sys2Proof.Machine.execAgeSweepVisit die s
  | .compareAndDelete die => Sys2Proof.Machine.execCompareAndDelete die s
  | .retireRowCopy die => Sys2Proof.Machine.execRetireRowCopy die s
  | .rehashMigrateStep die => Sys2Proof.Machine.execRehashMigrateStep die s
  | .flowCacheFlush die => Sys2Proof.Machine.execFlowCacheFlush die s
  | .reserveWrite r value => Sys2Proof.Machine.execReserveWrite r value s
  | .auditPass die leaked used beyond => Sys2Proof.Machine.execAuditPass die leaked used beyond s
  | .spillRowWrite die q => Sys2Proof.Machine.execSpillRowWrite die q s
  | .spillRowReadback die q => Sys2Proof.Machine.execSpillRowReadback die q s
  | .shaperConfigWrite r value => Sys2Proof.Machine.execShaperConfigWrite r value s
  | .queueSamplePeriod die => Sys2Proof.Machine.execQueueSamplePeriod die s
  | .levelGroupCfgWrite g value => Sys2Proof.Machine.execLevelGroupCfgWrite g value s
  | .levelQueueCfgWrite n value => Sys2Proof.Machine.execLevelQueueCfgWrite n value s
  | .ptpFrameReceive p bytes dt => Sys2Proof.Machine.execPtpFrameReceive p bytes dt s
  | .timeTask die dt bmca => Sys2Proof.Machine.execTimeTask die dt bmca s
  | .ptpSyncSend p dt => Sys2Proof.Machine.execPtpSyncSend p dt s
  | .ptpDelayReqSend p dt => Sys2Proof.Machine.execPtpDelayReqSend p dt s
  | .ptpPdelayReqSend p dt => Sys2Proof.Machine.execPtpPdelayReqSend p dt s
  | .ptpAnnounceSend p dt => Sys2Proof.Machine.execPtpAnnounceSend p dt s
  | .servoOffset => Sys2Proof.Machine.execServoOffset s
  | .exclusionReinstate p => Sys2Proof.Machine.execExclusionReinstate p s
  | .ptpSourceLost => Sys2Proof.Machine.execPtpSourceLost s
  | .refInputFail input => Sys2Proof.Machine.execRefInputFail input s
  | .refSwitch => Sys2Proof.Machine.execRefSwitch s
  | .timeTriggerWrite n r value => Sys2Proof.Machine.execTimeTriggerWrite n r value s
  | .triggerEdge n => Sys2Proof.Machine.execTriggerEdge n s
  | .captureEdge n falling dt => Sys2Proof.Machine.execCaptureEdge n falling dt s
  | .captureFifoPop n => Sys2Proof.Machine.execCaptureFifoPop n s
  | .timeNowLatch => Sys2Proof.Machine.execTimeNowLatch s
  | .journalEnable value => Sys2Proof.Machine.execJournalEnable value s
  | .journalDisable value => Sys2Proof.Machine.execJournalDisable value s
  | .jrnRootTask die => Sys2Proof.Machine.execJrnRootTask die s
  | .jrnSumTask => Sys2Proof.Machine.execJrnSumTask s
  | .domainSumDeadline => Sys2Proof.Machine.execDomainSumDeadline s
  | .jrnDrainTask die rows => Sys2Proof.Machine.execJrnDrainTask die rows s
  | .journalRdWrite die value => Sys2Proof.Machine.execJournalRdWrite die value s
  | .faultSeal => Sys2Proof.Machine.execFaultSeal s
  | .memCommit value => Sys2Proof.Machine.execMemCommit value s
  | .hbmRegionClearDone => Sys2Proof.Machine.execHbmRegionClearDone s
  | .hbmScrubRead stack err => Sys2Proof.Machine.execHbmScrubRead stack err s
  | .hbmTempRead stack temp => Sys2Proof.Machine.execHbmTempRead stack temp s
  | .targetedRefresh stack pc row => Sys2Proof.Machine.execTargetedRefresh stack pc row s
  | .rhIntervalEnd stack => Sys2Proof.Machine.execRhIntervalEnd stack s
  | .hbmFreeze stack kind pc row burst cls req tag syndrome => Sys2Proof.Machine.execHbmFreeze stack kind pc row burst cls req tag syndrome s
  | .hbmRuntimeLaneRepair stack => Sys2Proof.Machine.execHbmRuntimeLaneRepair stack s
  | .qlogDataRead stack => Sys2Proof.Machine.execQlogDataRead stack s
  | .nop w => Sys2Proof.Machine.execNop w s
  | .add w => Sys2Proof.Machine.execAdd w s
  | .sub w => Sys2Proof.Machine.execSub w s
  | .and w => Sys2Proof.Machine.execAnd w s
  | .or w => Sys2Proof.Machine.execOr w s
  | .xor w => Sys2Proof.Machine.execXor w s
  | .shl w => Sys2Proof.Machine.execShl w s
  | .shr w => Sys2Proof.Machine.execShr w s
  | .sar w => Sys2Proof.Machine.execSar w s
  | .mul w => Sys2Proof.Machine.execMul w s
  | .sltu w => Sys2Proof.Machine.execSltu w s
  | .seq w => Sys2Proof.Machine.execSeq w s
  | .minu w => Sys2Proof.Machine.execMinu w s
  | .maxu w => Sys2Proof.Machine.execMaxu w s
  | .ffs w => Sys2Proof.Machine.execFfs w s
  | .popc w => Sys2Proof.Machine.execPopc w s
  | .addi w => Sys2Proof.Machine.execAddi w s
  | .andi w => Sys2Proof.Machine.execAndi w s
  | .ori w => Sys2Proof.Machine.execOri w s
  | .xori w => Sys2Proof.Machine.execXori w s
  | .shli w => Sys2Proof.Machine.execShli w s
  | .shri w => Sys2Proof.Machine.execShri w s
  | .sari w => Sys2Proof.Machine.execSari w s
  | .shin w => Sys2Proof.Machine.execShin w s
  | .sltui w => Sys2Proof.Machine.execSltui w s
  | .seqi w => Sys2Proof.Machine.execSeqi w s
  | .bfx w => Sys2Proof.Machine.execBfx w s
  | .bfi w => Sys2Proof.Machine.execBfi w s
  | .bswap w => Sys2Proof.Machine.execBswap w s
  | .crc w => Sys2Proof.Machine.execCrc w s
  | .rand w => Sys2Proof.Machine.execRand w s
  | .jmp w => Sys2Proof.Machine.execJmp w s
  | .bz w => Sys2Proof.Machine.execBz w s
  | .bnz w => Sys2Proof.Machine.execBnz w s
  | .call w => Sys2Proof.Machine.execCall w s
  | .ret w => Sys2Proof.Machine.execRet w s
  | .jmpt w => Sys2Proof.Machine.execJmpt w s
  | .get w => Sys2Proof.Machine.execGet w s
  | .wait w => Sys2Proof.Machine.execWait w s
  | .park w => Sys2Proof.Machine.execPark w s
  | .done w => Sys2Proof.Machine.execDone w s
  | .task w => Sys2Proof.Machine.execTask w s
  | .post w => Sys2Proof.Machine.execPost w s
  | .reply w => Sys2Proof.Machine.execReply w s
  | .evt w => Sys2Proof.Machine.execEvt w s
  | .ld w => Sys2Proof.Machine.execLd w s
  | .st w => Sys2Proof.Machine.execSt w s
  | .ldp w => Sys2Proof.Machine.execLdp w s
  | .stp w => Sys2Proof.Machine.execStp w s
  | .hrd w => Sys2Proof.Machine.execHrd w s
  | .hwr w => Sys2Proof.Machine.execHwr w s
  | .blk w => Sys2Proof.Machine.execBlk w s
  | .inj w => Sys2Proof.Machine.execInj w s
  | .time w => Sys2Proof.Machine.execTime w s
  | .fault w => Sys2Proof.Machine.execFault w s
  | .dispatchGrant die => Sys2Proof.Machine.execDispatchGrant die s
  | .waitConditionMet k => Sys2Proof.Machine.execWaitConditionMet k s
  | .parkConditionMet die n => Sys2Proof.Machine.execParkConditionMet die n s
  | .operandArrive tag value => Sys2Proof.Machine.execOperandArrive tag value s
  | .memoryTagComplete k tag => Sys2Proof.Machine.execMemoryTagComplete k tag s
  | .blockAnswer k tag => Sys2Proof.Machine.execBlockAnswer k tag s
  | .taskLate die n => Sys2Proof.Machine.execTaskLate die n s
  | .reckonerHardFault k hang => Sys2Proof.Machine.execReckonerHardFault k hang s
  | .csRepair die addr => Sys2Proof.Machine.execCsRepair die addr s
  | .csScrubPass die finds => Sys2Proof.Machine.execCsScrubPass die finds s
  | .remainderTask die => Sys2Proof.Machine.execRemainderTask die s
  | .injectNoteTask die => Sys2Proof.Machine.execInjectNoteTask die s
  | .flowEngineTask die what => Sys2Proof.Machine.execFlowEngineTask die what s
  | .exportTask die => Sys2Proof.Machine.execExportTask die s
  | .energyPlanTask demand => Sys2Proof.Machine.execEnergyPlanTask demand s
  | .columnGate col => Sys2Proof.Machine.execColumnGate col s
  | .nrgLimitRegWrite value => Sys2Proof.Machine.execNrgLimitRegWrite value s
  | .commandFetch r slot => Sys2Proof.Machine.execCommandFetch r slot s
  | .crProdWrite r value => Sys2Proof.Machine.execCrProdWrite r value s
  | .relayTimeout => Sys2Proof.Machine.execRelayTimeout s
  | .batchExpired batch => Sys2Proof.Machine.execBatchExpired batch s
  | .functionLevelReset => Sys2Proof.Machine.execFunctionLevelReset s
  | .pcieLinkLoss => Sys2Proof.Machine.execPcieLinkLoss s
  | .irqHoldoffEnd source => Sys2Proof.Machine.execIrqHoldoffEnd source s
  | .dmaStart n value => Sys2Proof.Machine.execDmaStart n value s
  | .dmaDisable n value => Sys2Proof.Machine.execDmaDisable n value s
  | .dmaRingTailWrite n value => Sys2Proof.Machine.execDmaRingTailWrite n value s
  | .dmaTransferDone n data => Sys2Proof.Machine.execDmaTransferDone n data s
  | .dmaDescriptorDone n desc data => Sys2Proof.Machine.execDmaDescriptorDone n desc data s
  | .dmaHalt n cause addr write onDesc desc moved data => Sys2Proof.Machine.execDmaHalt n cause addr write onDesc desc moved data s
  | .cplTimeout n addr onDesc desc moved data => Sys2Proof.Machine.execCplTimeout n addr onDesc desc moved data s
  | .poolSplitWrite die value => Sys2Proof.Machine.execPoolSplitWrite die value s
  | .poolMinWrite die owner b value => Sys2Proof.Machine.execPoolMinWrite die owner b value s
  | .poolBufferReturn owner addr => Sys2Proof.Machine.execPoolBufferReturn owner addr s
  | .devInfo h => Sys2Proof.Machine.execDevInfo h s
  | .devNop h => Sys2Proof.Machine.execDevNop h s
  | .devRegRead h offset count => Sys2Proof.Machine.execDevRegRead h offset count s
  | .devRegWrite h offset value mask => Sys2Proof.Machine.execDevRegWrite h offset value mask s
  | .devBlockReset h block mask => Sys2Proof.Machine.execDevBlockReset h block mask s
  | .devBatchCommit h batch => Sys2Proof.Machine.execDevBatchCommit h batch s
  | .devBatchAbort h batch => Sys2Proof.Machine.execDevBatchAbort h batch s
  | .devInject h desc frame => Sys2Proof.Machine.execDevInject h desc frame s
  | .devCertRead h offset count => Sys2Proof.Machine.execDevCertRead h offset count s
  | .prtModRead h cage bank page offset count data => Sys2Proof.Machine.execPrtModRead h cage bank page offset count data s
  | .prtModWrite h cage bank page offset count data => Sys2Proof.Machine.execPrtModWrite h cage bank page offset count data s
  | .prtCalRun h first count => Sys2Proof.Machine.execPrtCalRun h first count s
  | .tblCreate h table desc => Sys2Proof.Machine.execTblCreate h table desc s
  | .tblDestroy h table => Sys2Proof.Machine.execTblDestroy h table s
  | .tblBind h table dir stage slot segs companion => Sys2Proof.Machine.execTblBind h table dir stage slot segs companion s
  | .tblUnbind h table => Sys2Proof.Machine.execTblUnbind h table s
  | .tblInsert h table flags plen prio result key mask => Sys2Proof.Machine.execTblInsert h table flags plen prio result key mask s
  | .tblDelete h table mask plen handle key => Sys2Proof.Machine.execTblDelete h table mask plen handle key s
  | .tblRead h table mask plen handle key => Sys2Proof.Machine.execTblRead h table mask plen handle key s
  | .tcamStep h table die start count key => Sys2Proof.Machine.execTcamStep h table die start count key s
  | .tblProfileWrite h mask dir stage slot profile entry => Sys2Proof.Machine.execTblProfileWrite h mask dir stage slot profile entry s
  | .tblParseWrite h mask kind index entry => Sys2Proof.Machine.execTblParseWrite h mask kind index entry s
  | .tblParseSwap h mask => Sys2Proof.Machine.execTblParseSwap h mask s
  | .flowInsert h die profile flags key bytes => Sys2Proof.Machine.execFlowInsert h die profile flags key bytes s
  | .flowDelete h die profile key => Sys2Proof.Machine.execFlowDelete h die profile key s
  | .flowRead h die profile key => Sys2Proof.Machine.execFlowRead h die profile key s
  | .flowWrite h die profile key mask bytes => Sys2Proof.Machine.execFlowWrite h die profile key mask bytes s
  | .flowKill h die profile key => Sys2Proof.Machine.execFlowKill h die profile key s
  | .flowUnkill h die profile key => Sys2Proof.Machine.execFlowUnkill h die profile key s
  | .flowKindWrite h mask kind index offset count bytes => Sys2Proof.Machine.execFlowKindWrite h mask kind index offset count bytes s
  | .flowRetirePc h die channel => Sys2Proof.Machine.execFlowRetirePc h die channel s
  | .flowRehash h die => Sys2Proof.Machine.execFlowRehash h die s
  | .qShape h port queue set => Sys2Proof.Machine.execQShape h port queue set s
  | .qFlush h port queue => Sys2Proof.Machine.execQFlush h port queue s
  | .mcWrite h group pruneSrc jrn copyId ports pgs => Sys2Proof.Machine.execMcWrite h group pruneSrc jrn copyId ports pgs s
  | .mcRead h group => Sys2Proof.Machine.execMcRead h group s
  | .lvlGroupWrite h group l lateMax en unlockedOk grid lateAct => Sys2Proof.Machine.execLvlGroupWrite h group l lateMax en unlockedOk grid lateAct s
  | .lvlQueueWrite h queue group dest maxCells en pg => Sys2Proof.Machine.execLvlQueueWrite h queue group dest maxCells en pg s
  | .lvlRankWrite h first count ranks => Sys2Proof.Machine.execLvlRankWrite h first count ranks s
  | .timeSet h seconds ns => Sys2Proof.Machine.execTimeSet h seconds ns s
  | .timeRead h => Sys2Proof.Machine.execTimeRead h s
  | .timePortState h port state => Sys2Proof.Machine.execTimePortState h port state s
  | .timeTrig h output en pol gate seconds ns period width count adj => Sys2Proof.Machine.execTimeTrig h output en pol gate seconds ns period width count adj s
  | .timeAsym h port const asymUnc coef => Sys2Proof.Machine.execTimeAsym h port const asymUnc coef s
  | .timeUtc h offset fromPtp valid leap59 leap61 => Sys2Proof.Machine.execTimeUtc h offset fromPtp valid leap59 leap61 s
  | .jrnRead h die count first => Sys2Proof.Machine.execJrnRead h die count first s
  | .jrnSumRead h deck => Sys2Proof.Machine.execJrnSumRead h deck s
  | .jrnChildRead h deck => Sys2Proof.Machine.execJrnChildRead h deck s
  | .jrnPortSet h port recs dst src => Sys2Proof.Machine.execJrnPortSet h port recs dst src s
  | .mcOpenLoad h addr len image => Sys2Proof.Machine.execMcOpenLoad h addr len image s
  | .mcOpenEnable h => Sys2Proof.Machine.execMcOpenEnable h s
  | .mcOpenDisable h => Sys2Proof.Machine.execMcOpenDisable h s
  | .mcCall h die count type operands => Sys2Proof.Machine.execMcCall h die count type operands s
  | .fltInjectArm h die checker pattern count => Sys2Proof.Machine.execFltInjectArm h die checker pattern count s
  | .fltLogRead h die first count => Sys2Proof.Machine.execFltLogRead h die first count s
  | .fltLogClear h die => Sys2Proof.Machine.execFltLogClear h die s
  | .nrgLimit h watts => Sys2Proof.Machine.execNrgLimit h watts s
  | .nrgRead h rods => Sys2Proof.Machine.execNrgRead h rods s
  | .otpRead h bank offset count => Sys2Proof.Machine.execOtpRead h bank offset count s
  | .otpBurn h gen fails cut => Sys2Proof.Machine.execOtpBurn h gen fails cut s
  | .domStatus h => Sys2Proof.Machine.execDomStatus h s
  | .domNeigh h first count => Sys2Proof.Machine.execDomNeigh h first count s
  | .domainEnable value => Sys2Proof.Machine.execDomainEnable value s
  | .domainDisable value => Sys2Proof.Machine.execDomainDisable value s
  | .ruleyFrameReceive p bytes => Sys2Proof.Machine.execRuleyFrameReceive p bytes s
  | .reassemblyTimeout die => Sys2Proof.Machine.execReassemblyTimeout die s
  | .hello die => Sys2Proof.Machine.execHello die s
  | .helloResend p => Sys2Proof.Machine.execHelloResend p s
  | .keepalive => Sys2Proof.Machine.execKeepalive s
  | .adjacencyLost p => Sys2Proof.Machine.execAdjacencyLost p s
  | .rootTakeover => Sys2Proof.Machine.execRootTakeover s
  | .adoptReq die => Sys2Proof.Machine.execAdoptReq die s
  | .adoptAck die => Sys2Proof.Machine.execAdoptAck die s
  | .adoptNak die => Sys2Proof.Machine.execAdoptNak die s
  | .adoptTimeout => Sys2Proof.Machine.execAdoptTimeout s
  | .leave die => Sys2Proof.Machine.execLeave die s
  | .move die => Sys2Proof.Machine.execMove die s
  | .joinNak die => Sys2Proof.Machine.execJoinNak die s
  | .ruleyCmd die => Sys2Proof.Machine.execRuleyCmd die s
  | .ruleyReply die => Sys2Proof.Machine.execRuleyReply die s
  | .ruleySum die => Sys2Proof.Machine.execRuleySum die s
  | .ruleyFault die => Sys2Proof.Machine.execRuleyFault die s
  | .shedReq p rod lanes tx rx => Sys2Proof.Machine.execShedReq p rod lanes tx rx s
  | .shedAck p rod => Sys2Proof.Machine.execShedAck p rod s
  | .shedNak p rod => Sys2Proof.Machine.execShedNak p rod s
  | .wakeReq p rod => Sys2Proof.Machine.execWakeReq p rod s
  | .faultClassify die found => Sys2Proof.Machine.execFaultClassify die found s
  | .faultHandlingEnd die => Sys2Proof.Machine.execFaultHandlingEnd die s
  | .faultQueueReport die => Sys2Proof.Machine.execFaultQueueReport die s
  | .columnHardFault col kind => Sys2Proof.Machine.execColumnHardFault col kind s
  | .columnRemapDone col => Sys2Proof.Machine.execColumnRemapDone col s
  | .safeStateEnter => Sys2Proof.Machine.execSafeStateEnter s
  | .supervisorSafeTimeout die => Sys2Proof.Machine.execSupervisorSafeTimeout die s
  | .sealAbandoned => Sys2Proof.Machine.execSealAbandoned s
  | .safeStateExit value => Sys2Proof.Machine.execSafeStateExit value s
  | .kmodeEnter => Sys2Proof.Machine.execKmodeEnter s
  | .kmodeExit => Sys2Proof.Machine.execKmodeExit s
  | .kInjectArm => Sys2Proof.Machine.execKInjectArm s
  | .counterOverflow u c n => Sys2Proof.Machine.execCounterOverflow u c n s
  | .counterOvfClear j value => Sys2Proof.Machine.execCounterOvfClear j value s
  | .snapshotRequest => Sys2Proof.Machine.execSnapshotRequest s
  | .perstLRelease => Sys2Proof.Machine.execPerstLRelease s
  | .perstLAssert => Sys2Proof.Machine.execPerstLAssert s
  | .otpSense us => Sys2Proof.Machine.execOtpSense us s
  | .pllLock us => Sys2Proof.Machine.execPllLock us s
  | .pllLockTimeout => Sys2Proof.Machine.execPllLockTimeout s
  | .dieLinkTraining us bad => Sys2Proof.Machine.execDieLinkTraining us bad s
  | .hbmTraining stack ok us => Sys2Proof.Machine.execHbmTraining stack ok us s
  | .serdesCalibration us bad => Sys2Proof.Machine.execSerdesCalibration us bad s
  | .microcodeLoad us image => Sys2Proof.Machine.execMicrocodeLoad us image s
  | .hostBootGo value => Sys2Proof.Machine.execHostBootGo value s
  | .hbmInitialisation us => Sys2Proof.Machine.execHbmInitialisation us s
  | .bringUp us pass => Sys2Proof.Machine.execBringUp us pass s
  | .bist us fails => Sys2Proof.Machine.execBist us fails s
  | .supplyUnderVoltage r => Sys2Proof.Machine.execSupplyUnderVoltage r s
  | .supplyOverVoltage r => Sys2Proof.Machine.execSupplyOverVoltage r s
  | .keeperPowerOnReset => Sys2Proof.Machine.execKeeperPowerOnReset s
  | .graveLatchClear => Sys2Proof.Machine.execGraveLatchClear s
  | .refclkLoss n => Sys2Proof.Machine.execRefclkLoss n s
  | .junctionSensorSample temps => Sys2Proof.Machine.execJunctionSensorSample temps s
  | .otpWindowRead => Sys2Proof.Machine.execOtpWindowRead s
  | .bypass => Sys2Proof.Machine.execBypass s
  | .idcode => Sys2Proof.Machine.execIdcode s
  | .samplePreload pins load => Sys2Proof.Machine.execSamplePreload pins load s
  | .extest pins => Sys2Proof.Machine.execExtest pins s
  | .pcieLinkUp gen width => Sys2Proof.Machine.execPcieLinkUp gen width s
  | .supplyValidRestart => Sys2Proof.Machine.execSupplyValidRestart s
  | .dmaRrRdWrite r value => Sys2Proof.Machine.execDmaRrRdWrite r value s

end Sys2Proof.Machine
end

