-- ==== Sys2Proof/Safety.lean ====
section
/-! DEFINITION. Safety.lean: the terms the claims are stated in: steps and runs, what it means that a command has its effect,
answers or changes nothing, and which parts of the device it may change. -/
namespace Sys2Proof.Machine

/-- A step that answers a next state. -/
def stepsTo (s t : State) : Prop := step s = .next t

/-- The states a machine runs through, in any number of steps. -/
inductive Runs : State → State → Prop where
  | refl (s : State) : Runs s s
  | tail {s t u : State} : Runs s t → stepsTo t u → Runs s u

/-- The command answers a next state in which `P` holds of the device; the OTP banks and the queue are as before. -/
def Completes (i : Instr) (s : State) (P : Dev → Prop) : Prop := ∃ e, exec i s = .next { s with dev := e } ∧ P e

/-- The command answers the state as it was: its event cannot occur there. -/
def NoEffect (i : Instr) (s : State) : Prop := exec i s = .next s

/-- The command has an effect of which `P` holds and then sends its reply (R424 to R426): status, flags and result. -/
def Answers (i : Instr) (s : State) (h : CmdHdr) (opcode status flags : Nat) (result : List Byte) (P : Dev → Prop) : Prop :=
  ∃ e, exec i s = .next { s with dev := e.reply h opcode status flags result } ∧ P e

/-- The command does nothing but answer a status. -/
def Rejects (i : Instr) (s : State) (h : CmdHdr) (opcode status : Nat) : Prop :=
  exec i s = .next { s with dev := s.dev.replySt h opcode status }

/-- A fault waits, last, at a core die's collector (R475), stamped with the current tick. -/
def Reported (d e : Dev) (die cls block kind inst : Nat) (detail : List Byte := []) : Prop :=
  (e.flt.die die).inbox = (d.flt.die die).inbox ++
    [{ cls := cls, block := block, kind := kind, inst := inst, tick := d.trk.tick, detail := detail }]

/-- A 64-bit counter pair has counted `n` more, saturating (R497). -/
def Counted (d e : Dev) (lo n : Nat) : Prop := e.rdPair lo (lo + 4) = satAdd (2 ^ 64 - 1) (d.rdPair lo (lo + 4)) n

/-- Late path `i` has been taken (R50): its status bit is set, its counter has counted. -/
def TookLate (d e : Dev) (i : Nat) : Prop :=
  bits (e.rn rTCK_LATE_STATUS) i i = 1 ∧ Counted d e (rTCK_LATE_CNT_LO i) 1

/-- The device is not in the safe state (R485). -/
abbrev Live (s : State) : Prop := s.dev.b rFLT_STATUS fFLT_STATUS_SAFE = false

/-- The parts of the device's state, one for each field of `Dev`. -/
inductive Part where
  | regs | live | bus | snap | trk | links | flt | board | irq | msix | evtDropped | out | jrn | port | rail | path | tbl
  | nrg | hbm | rck | dom | tim | host | deferred | baseMac | cert | treePorts | msgSeen | fresh
deriving DecidableEq, Repr

/-- The parts an event may change (R463, R465): registers, interrupts and what is sent. -/
def Part.event : List Part := [.regs, .irq, .msix, .evtDropped, .out]

/-- The parts that a command with a reply, or a reckoner that ends a task, may change: those of an event, and those a frame of
the device and a task pass through. -/
def Part.answer : List Part := Part.event ++ [.jrn, .path, .nrg, .rck, .dom, .host, .fresh]

/-- Every part. -/
def Part.all : List Part := [
  .regs, .live, .bus, .snap, .trk, .links, .flt, .board, .irq, .msix, .evtDropped, .out, .jrn, .port, .rail, .path, .tbl,
  .nrg, .hbm, .rck, .dom, .tim, .host, .deferred, .baseMac, .cert, .treePorts, .msgSeen, .fresh]

/-- The frame of a command: the parts of the device it may change. -/
def Instr.frame (i : Instr) : List Part :=
  match i with
  | .linkTrainingDone .. | .lockTimeout .. | .watermarkWrite .. | .lpiEnter .. | .levelGroupCfgWrite ..
  | .levelQueueCfgWrite .. | .exclusionReinstate .. | .journalEnable .. | .journalDisable .. | .hbmRegionClearDone
  | .nrgLimitRegWrite .. | .poolSplitWrite .. | .poolMinWrite .. | .sealAbandoned | .kmodeEnter | .kmodeExit
  | .kInjectArm | .counterOvfClear .. | .snapshotRequest | .graveLatchClear => [.regs]
  | .perstLRelease | .bypass | .samplePreload .. | .extest .. | .supplyValidRestart => [.board]
  | .ppsOutRise | .ppsOutFall | .refInputFail .. => [.tim]
  | .memoryTagComplete .. | .blockAnswer .. => [.rck]
  | .selPrimary .. => [.deferred]
  | .lpmNodeFree .. => [.tbl]
  | .rhIntervalEnd .. => [.hbm]
  | .refclkLoss .. => [.flt]
  | .signalDetect .. | .pauseFrameReceive .. | .pauseExpire .. => [.regs, .port]
  | .railGroupEnable .. | .railGroupDisable .. | .parserSwap .. => [.regs, .deferred]
  | .killEntryRelease .. | .learnHoldExpire .. | .shaperConfigWrite .. => [.regs, .path]
  | .timeNowLatch | .qlogDataRead .. | .otpWindowRead => [.regs, .bus]
  | .hbmRuntimeLaneRepair .. | .faultHandlingEnd .. => [.regs, .flt]
  | .dmaRingTailWrite .. | .pcieLinkUp .. => [.regs, .host]
  | .domainEnable .. | .reassemblyTimeout .. => [.regs, .dom]
  | .slewDone => [.regs, .trk]
  | .xoffRefresh .. => [.regs, .out]
  | .laneCalTrigger .. => [.port, .nrg]
  | .railFifoAdjustDone .. => [.regs, .rail]
  | .triggerEdge .. => [.regs, .tim]
  | .targetedRefresh .. => [.regs, .hbm]
  | .waitConditionMet .. => [.regs, .rck]
  | .csScrubPass .. => [.flt, .rck]
  | .columnGate .. => [.regs, .nrg]
  | .pllLockTimeout => [.flt, .board]
  | .idcode => [.board, .fresh]
  | .otpSense .. | .junctionSensorSample .. => [.regs, .flt, .board]
  | .railDstStart .. => [.regs, .rail, .fresh]
  | .tcamRespacingSweep .. => [.regs, .tbl, .nrg]
  | .ageSweepVisit .. => [.regs, .path, .nrg]
  | .captureFifoPop .. => [.regs, .bus, .tim]
  | .memCommit .. => [.regs, .path, .hbm]
  | .irqHoldoffEnd .. => [.irq, .msix, .out]
  | .columnRemapDone .. => [.regs, .flt, .path]
  | .supervisorSafeTimeout .. => [.regs, .flt, .port]
  | .pllLock .. => [.regs, .trk, .board]
  | .hbmInitialisation .. => [.regs, .board, .hbm]
  | .readClear .. | .pairLowReadLatch .. => [.regs, .bus, .tim, .fresh]
  | .microcodeLoad .. | .hostBootGo .. => [.regs, .board, .rck, .fresh]
  | .railDstConfigWrite .. => [.regs, .port, .rail, .deferred]
  | .dieLinkTraining .. => [.regs, .links, .flt, .board]
  | .serdesCalibration .. => [.regs, .flt, .board, .port]
  | .moduleInitTimeout .. | .modFlag .. | .pfcWdRestore .. | .pgEnable .. | .reserveWrite .. | .refSwitch
  | .crProdWrite .. | .counterOverflow .. | .dmaRrRdWrite .. => Part.event
  | .dieLinkLaneFail .. | .dieLinkRetrainDone .. => [.regs, .links, .flt, .jrn, .rail]
  | .gridCheck .. => [.regs, .irq, .msix, .out, .port]
  | .planLate => [.regs, .irq, .msix, .out, .nrg]
  | .autonegResolved .. | .mgmtLayerTimeout .. | .pfcWdTrip .. | .shedStep .. | .laneRestore .. | .pgSwitch ..
  | .pgRevert .. => Part.event ++ [.port]
  | .ptpSyncSend .. | .ptpDelayReqSend .. | .ptpSourceLost | .timeTriggerWrite .. => Part.event ++ [.tim]
  | .flowDataReturn .. | .shaperWheelRefill .. | .flowWritebackDone .. => Part.event ++ [.path]
  | .nonflowLate .. | .hbmTempRead .. => Part.event ++ [.hbm]
  | .sealLate | .journalRdWrite .. => Part.event ++ [.jrn]
  | .parkConditionMet .. | .operandArrive .. => Part.event ++ [.rck]
  | .batchExpired .. | .poolBufferReturn .. => Part.event ++ [.host]
  | .hbmTraining .. => Part.event ++ [.board]
  | .portCreate .. | .portEnable .. | .portDisable .. | .portRemove .. | .trainFail .. =>
    Part.event ++ [.port, .deferred]
  | .frameChunkArrive .. | .spillRowWrite .. | .spillRowReadback .. | .queueSamplePeriod .. =>
    Part.event ++ [.path, .nrg]
  | .dispatchGrant .. | .injectNoteTask .. => Part.event ++ [.rck, .fresh]
  | .dmaStart .. | .dmaDisable .. => Part.event ++ [.host, .fresh]
  | .hbmCalendarFrame .. => Part.event ++ [.flt, .hbm]
  | .ptpPdelayReqSend .. => Part.event ++ [.port, .tim]
  | .ptpAnnounceSend .. => Part.event ++ [.tim, .fresh]
  | .csRepair .. => Part.event ++ [.flt, .rck]
  | .journalRowWrite .. | .jrnRootTask .. => Part.event ++ [.jrn, .rck, .fresh]
  | .railActive .. | .railAltSwitch .. => Part.event ++ [.jrn, .rail, .fresh]
  | .ipfixPeriodicExport .. | .compareAndDelete .. => Part.event ++ [.path, .rck, .fresh]
  | .functionLevelReset | .pcieLinkLoss => Part.event ++ [.rck, .host, .fresh]
  | .moduleReady .. => Part.event ++ [.port, .rail, .fresh]
  | .railSrcLoss .. => Part.event ++ [.jrn, .port, .rail]
  | .railDstRetired .. => Part.event ++ [.flt, .rail, .deferred]
  | .tableScrubStep .. => Part.event ++ [.flt, .tbl, .nrg]
  | .ptpFrameReceive .. => Part.event ++ [.rck, .tim, .fresh]
  | .captureEdge .. => Part.event ++ [.jrn, .port, .tim]
  | .hbmScrubRead .. => Part.event ++ [.flt, .nrg, .hbm]
  | .hbmFreeze .. => Part.event ++ [.flt, .board, .hbm]
  | .reckonerHardFault .. => Part.event ++ [.flt, .rck, .fresh]
  | .energyPlanTask .. => Part.event ++ [.nrg, .rck, .fresh]
  | .dmaTransferDone .. => [.regs, .irq, .msix, .out, .jrn, .path, .hbm, .host]
  | .adoptAck .. => Part.event ++ [.rck, .dom, .fresh]
  | .columnHardFault .. => Part.event ++ [.flt, .path, .host]
  | .bringUp .. => [.regs, .flt, .board, .path, .hbm, .host, .baseMac, .cert]
  | .dmaDescriptorDone .. | .dmaHalt .. | .cplTimeout .. => Part.event ++ [.jrn, .path, .hbm, .host]
  | .shedAck .. | .shedNak .. | .wakeReq .. => Part.event ++ [.port, .rck, .dom, .fresh]
  | .injectLate .. | .remainderTask .. => Part.event ++ [.path, .rck, .host, .fresh]
  | .copyTransmitEnd .. | .levelReleaseGate .. => Part.event ++ [.jrn, .port, .path, .host]
  | .lossOfSignal .. | .faultSetsReceived .. => Part.event ++ [.jrn, .port, .rail, .path]
  | .levelCopyDequeue .. => Part.event ++ [.jrn, .path, .nrg, .host]
  | .railSrcReturn .. => Part.event ++ [.jrn, .port, .rail, .fresh]
  | .auditPass .. => Part.event ++ [.flt, .path, .nrg, .host]
  | .servoOffset => Part.event ++ [.trk, .jrn, .port, .tim]
  | .bist .. => Part.event ++ [.links, .flt, .board, .rck]
  | .replicationTakeUp .. | .ipfixTemplateResend .. => Part.event ++ [.jrn, .path, .nrg, .host, .fresh]
  | .tickStep => Part.event ++ [.trk, .jrn, .port, .path, .tim]
  | .copyDequeue .. => Part.event ++ [.jrn, .port, .path, .nrg, .host]
  | .laneCalDone .. => Part.event ++ [.flt, .port, .rail, .deferred, .fresh]
  | .timeTask .. => Part.event ++ [.jrn, .port, .rck, .tim, .fresh]
  | .safeStateEnter => Part.event ++ [.flt, .port, .nrg, .dom, .tim]
  | .domainSumDeadline | .domainDisable .. | .helloResend .. | .keepalive | .adoptTimeout =>
    Part.event ++ [.jrn, .path, .nrg, .dom, .host, .fresh]
  | .injectIssue .. | .flowLate .. | .jrnDrainTask .. | .exportTask .. =>
    Part.event ++ [.jrn, .path, .nrg, .rck, .host, .fresh]
  | .cageScan .. => Part.event ++ [.jrn, .port, .rail, .path, .deferred, .fresh]
  | .cmdLate .. | .flowPlaceCommit .. | .moveLockCopy .. | .moveSwitch .. | .retireRowCopy .. | .flowCacheFlush ..
  | .jrnSumTask | .faultSeal | .taskLate .. | .commandFetch .. | .relayTimeout | .devInfo .. | .devNop ..
  | .devBatchCommit .. | .devBatchAbort .. | .devInject .. | .devCertRead .. | .prtModRead .. | .tblRead ..
  | .tcamStep .. | .tblParseWrite .. | .flowDelete .. | .flowRead .. | .flowWrite .. | .flowKill ..
  | .flowUnkill .. | .flowRetirePc .. | .qFlush .. | .mcRead .. | .lvlGroupWrite .. | .lvlQueueWrite ..
  | .lvlRankWrite .. | .timeRead .. | .jrnRead .. | .jrnSumRead .. | .jrnChildRead .. | .jrnPortSet ..
  | .mcOpenLoad .. | .mcOpenEnable .. | .mcOpenDisable .. | .mcCall .. | .fltLogRead .. | .nrgLimit ..
  | .nrgRead .. | .otpRead .. | .otpBurn .. | .domStatus .. | .domNeigh .. | .ruleyFrameReceive .. | .adoptNak ..
  | .move .. | .joinNak .. | .ruleyCmd .. | .ruleyReply .. | .ruleySum .. | .ruleyFault .. => Part.answer
  | .lockAcquired .. | .faultSetsCleared .. | .shedProposal .. | .wakeProposal .. =>
    Part.event ++ [.jrn, .port, .path, .nrg, .dom, .host, .fresh]
  | .packetIssue .. | .parkedResume .. => Part.event ++ [.flt, .jrn, .path, .nrg, .rck, .host, .fresh]
  | .faultClassify .. | .faultQueueReport .. => Part.event ++ [.flt, .jrn, .path, .nrg, .dom, .host, .fresh]
  | .nop .. | .add .. | .sub .. | .and .. | .or .. | .xor .. | .shl .. | .shr .. | .sar .. | .mul .. | .sltu ..
  | .seq .. | .minu .. | .maxu .. | .ffs .. | .popc .. | .addi .. | .andi .. | .ori .. | .xori .. | .shli ..
  | .shri .. | .sari .. | .shin .. | .sltui .. | .seqi .. | .bfx .. | .bfi .. | .bswap .. | .crc .. | .rand ..
  | .jmp .. | .bz .. | .bnz .. | .call .. | .ret .. | .jmpt .. | .get .. | .wait .. | .park .. | .done ..
  | .task .. | .post .. | .reply .. | .evt .. | .ld .. | .st .. | .ldp .. | .stp .. | .hrd .. | .inj .. | .time ..
  | .fault .. | .fltInjectArm .. | .fltLogClear .. => Part.answer ++ [.flt]
  | .emMoveStep .. | .tcamRowMove .. | .versionRetire | .learnTask .. | .tblCreate .. | .tblDestroy ..
  | .tblBind .. | .tblUnbind .. | .tblInsert .. | .tblDelete .. | .tblProfileWrite .. | .flowInsert ..
  | .flowKindWrite .. | .qShape .. | .mcWrite .. => Part.answer ++ [.tbl]
  | .rehashMigrateStep .. | .flowEngineTask .. | .devBlockReset .. | .flowRehash .. => Part.answer ++ [.deferred]
  | .prtModWrite .. | .prtCalRun .. | .shedReq .. => Part.answer ++ [.port]
  | .frameEnd .. | .timeAsym .. => Part.answer ++ [.tim]
  | .timeUtc .. => Part.answer ++ [.live]
  | .adjacencyLost .. | .rootTakeover =>
    Part.event ++ [.jrn, .port, .path, .nrg, .dom, .tim, .host, .treePorts, .fresh]
  | .rodBoundary .. => Part.event ++ [.trk, .jrn, .port, .path, .nrg, .hbm, .rck, .tim, .fresh]
  | .hwr .. => Part.answer ++ [.flt, .hbm]
  | .devRegRead .. => Part.answer ++ [.bus, .tim]
  | .tblParseSwap .. => Part.answer ++ [.tbl, .deferred]
  | .timePortState .. => Part.answer ++ [.port, .tim]
  | .timeTrig .. => Part.answer ++ [.live, .tim]
  | .hello .. | .adoptReq .. | .leave .. => Part.answer ++ [.port, .tim, .treePorts]
  | .timeSet .. => Part.answer ++ [.trk, .port, .tim]
  | .deckBoundary .. => Part.answer ++ [.trk, .flt, .port, .rail, .tbl, .hbm, .tim]
  | .safeStateExit .. | .perstLAssert | .supplyUnderVoltage .. | .supplyOverVoltage .. | .keeperPowerOnReset =>
    [.regs, .live, .bus, .snap, .trk, .links, .flt, .board, .irq, .msix, .evtDropped, .jrn, .port, .rail, .path, .tbl, .nrg, .hbm, .rck, .dom, .tim, .host, .deferred, .baseMac, .cert, .treePorts, .msgSeen]
  | .registerWrite .. | .pairLowWriteCommit .. | .tickBoundary | .sidebandMessage .. | .supervisorCommand ..
  | .blk .. | .devRegWrite .. => Part.all

/-- Is a part of two devices the same? -/
def Part.same : Part → Dev → Dev → Prop
  | .regs, d, e => e.regs = d.regs
  | .live, d, e => e.live = d.live
  | .bus, d, e => e.bus = d.bus
  | .snap, d, e => e.snap = d.snap
  | .trk, d, e => e.trk = d.trk
  | .links, d, e => e.links = d.links
  | .flt, d, e => e.flt = d.flt
  | .board, d, e => e.board = d.board
  | .irq, d, e => e.irq = d.irq
  | .msix, d, e => e.msix = d.msix
  | .evtDropped, d, e => e.evtDropped = d.evtDropped
  | .out, d, e => e.out = d.out
  | .jrn, d, e => e.jrn = d.jrn
  | .port, d, e => e.port = d.port
  | .rail, d, e => e.rail = d.rail
  | .path, d, e => e.path = d.path
  | .tbl, d, e => e.tbl = d.tbl
  | .nrg, d, e => e.nrg = d.nrg
  | .hbm, d, e => e.hbm = d.hbm
  | .rck, d, e => e.rck = d.rck
  | .dom, d, e => e.dom = d.dom
  | .tim, d, e => e.tim = d.tim
  | .host, d, e => e.host = d.host
  | .deferred, d, e => e.deferred = d.deferred
  | .baseMac, d, e => e.baseMac = d.baseMac
  | .cert, d, e => e.cert = d.cert
  | .treePorts, d, e => e.treePorts = d.treePorts
  | .msgSeen, d, e => e.msgSeen = d.msgSeen
  | .fresh, d, e => e.fresh = d.fresh

/-- Two devices are the same but for the listed parts. -/
def SameBut (ps : List Part) (d e : Dev) : Prop := ∀ p, p ∉ ps → p.same d e

/-- Whenever the command answers a next state, the queue and every part of the device outside the list are as they were. -/
def FrameIs (ps : List Part) (i : Instr) : Prop :=
  ∀ s t, exec i s = .next t → t.pending = s.pending ∧ SameBut ps s.dev t.dev

/-! ### Terms for the reckoner machine -/

/-- A reckoner may execute its word (R381, R396): it runs or starts, and the word is sound on its die. -/
abbrev Fetches (s : State) (w : Micro) : Prop :=
  (s.dev.kState w.k.val = 1 ∨ s.dev.kState w.k.val = 4) ∧ w.ecc.val = 0 ∧ (w.k.val / 64, s.dev.pc w.k.val) ∉ s.dev.rck.csBad

/-- An address follows the word (R398). -/
abbrev HasNext (s : State) (w : Micro) : Prop := s.dev.pc w.k.val ≠ 0x7FFF

/-- The microword writes a value to `G[D]`, unless D is G0, and goes on at PC + 1 (R381, R384); every other general register,
and every part of the device but the registers and the reckoners, is as before. -/
def WritesG (i : Instr) (s : State) (w : Micro) (v : BitVec 64) : Prop :=
  Completes i s fun e =>
    e.g w.k w.d = (if w.d.val = 0 then 0 else v) ∧ (∀ r : Nat, r ≠ w.d.val → e.g w.k r = s.dev.g w.k r) ∧
    e.pc w.k = s.dev.pc w.k + 1 ∧ e.kState w.k = 1 ∧ e.scratch w.k 0 4096 = s.dev.scratch w.k 0 4096 ∧ SameBut [.regs, .rck] s.dev e

/-- The microword goes on at an address and changes no general register, nor any part of the device but the registers. -/
def GoesTo (i : Instr) (s : State) (w : Micro) (a : Nat) : Prop :=
  Completes i s fun e =>
    e.pc w.k = a ∧ e.kState w.k = 1 ∧ (∀ r : Nat, e.g w.k r = s.dev.g w.k r) ∧ SameBut [.regs] s.dev e

/-- A micro-fault has been taken (R398): cause, reckoner, address and microword are latched, it is counted, and the reckoner
starts again with its registers cleared, its scratch kept, no tags and no task (R381). -/
def MicroFaulted (d e : Dev) (k pc word cause : Nat) : Prop :=
  e.f rRCK_MF_INFO fRCK_MF_INFO_CAUSE = cause ∧ e.b rRCK_MF_INFO fRCK_MF_INFO_OPEN = decide (0x6000 ≤ pc) ∧
  e.f rRCK_MF_INFO fRCK_MF_INFO_RECKONER = k ∧ e.f rRCK_MF_INFO fRCK_MF_INFO_PC = pc ∧ e.rn rRCK_MF_WORD = word ∧
  Counted d e (rRCK_D_CNT_LO (k / 64) 6) 1 ∧ e.kState k = 4 ∧ e.pc k = d.rn rRCK_IDLE_PC % 2 ^ 15 ∧
  e.b (rRCK_K_TASK k) fRCK_K_TASK_VALID = false ∧ (∀ r : Nat, e.g k r = 0) ∧ (e.reck k).tags = [] ∧
  (e.reck k).scratch = (d.reck k).scratch ∧
  (pc < 0x6000 → Reported d e (k / 64) 0xC 12 0x0C k) ∧
  (0x6000 ≤ pc → Counted d e (rFLT_D_CNT_LO (k / 64) 0) 1 ∧ e.flt = d.flt)

/-- The OTP banks in form (R526): canonical, and nothing beyond their sizes. -/
def OtpInForm (o : OtpBanks) : Prop :=
  kvWf (fun _ => (0 : Byte)) o.factory ∧ kvWf (fun _ => (0 : Byte)) o.key ∧ kvWf (fun _ => (0 : Byte)) o.customer ∧
  (∀ i, 768 ≤ i → memByte o.factory i = 0) ∧ (∀ i, 256 ≤ i → memByte o.key i = 0) ∧ (∀ i, 1024 ≤ i → memByte o.customer i = 0)

end Sys2Proof.Machine
end

