-- ==== Sys2Proof/WellFormed.lean ====
section
/-! DEFINITION. WellFormed.lean: which commands can be sent at all: operands that the spec's formats and units can hold. The
widths of register values and parameters are in their types; here are the bounds that a type does not give. -/
namespace Sys2Proof

/-- A host access of BAR 0 or BAR 2 (R8, R412, R413): 8, 16, 32 or 64 bits at an address of the 32 MiB window. -/
def busOk (a width : Nat) : Bool := decide (a < 0x2000000) && [8, 16, 32, 64].contains width

/-- A time within a tick, in 2^-16 ns: below 10 ns (R1, R33). -/
def fracOk (dt : Nat) : Bool := decide (dt < 655360)

/-- A rod's energies (R459, R460): seven supplies, 16 accounts, four classes. -/
def energyOk (e : RodEnergy) : Bool :=
  decide (e.sensors.length = 7) && decide (e.accounts.length = 16) && decide (e.classes.length = 4)

/-- A class a block agent may report: A to E (R476). -/
def clsOk (c : Nat) : Bool := decide (0xA ≤ c) && decide (c ≤ 0xE)

/-- A supervisor's errand (R26): a register of BAR 0, a block of R414, a fault class. -/
def supOk : SupCmd → Bool
  | .write a _ => busOk a 32
  | .reset b m => decide (b < 256) && decide (m < 256)
  | .fault c b k i => clsOk c && decide (b < 27) && decide (k < 256) && decide (i < 65536)

/-- A sideband message (R16). -/
def sbOk : SbMsg → Bool
  | .timeAlign _ => true
  | .fault c b k i => supOk (.fault c b k i)
  | .supervisor c => supOk c

/-- A key of a flow, or of a table in a deletion, a read or a step: at most 40 bytes (R180, R433). -/
def keyOk (k : List (BitVec 8)) : Bool := decide (k.length ≤ 40)

/-- A DMA descriptor: 32 bytes (R420). -/
def descOk (d : List (BitVec 8)) : Bool := decide (d.length = 32)

/-- Is a command's operand list one that can be sent? -/
def Instr.wf : Instr → Bool
  | .registerWrite _ a w _ => busOk a w
  | .readClear a w => busOk a w
  | .pairLowReadLatch a => busOk a 32
  | .pairLowWriteCommit a _ _ => busOk a 32
  | .rodBoundary e => energyOk e
  | .deckBoundary q f _ ecc => q.Nodup && f.Nodup && decide (ecc.length = 4)
  | .hbmCalendarFrame acts => decide (acts.length ≤ 1536)
  | .gridCheck errors => (errors.map (·.1)).Nodup
  | .sidebandMessage _ _ msgs => msgs.all sbOk
  | .supervisorCommand _ c => supOk c
  | .frameChunkArrive _ first _ len bytes frac => fracOk frac && decide (bytes.length ≤ 64) && (!first || decide (0 < len))
  | .copyDequeue _ dt => fracOk dt
  | .cageScan lines => (lines.map (·.cage)).Nodup
  | .pauseFrameReceive _ pfc _ quanta => decide (quanta.length = (if pfc then 8 else 1)) && quanta.all fun q => decide (q < 65536)
  | .laneCalDone _ rx tx _ => decide (rx < 65536) && decide (tx < 65536)
  | .auditPass _ leaked used _ => leaked.Nodup && decide (used ≤ 393216)
  | .ptpFrameReceive _ _ dt => fracOk dt
  | .timeTask _ dt b => fracOk dt && (b.map (·.1)).Nodup
  | .ptpSyncSend _ dt => fracOk dt
  | .ptpDelayReqSend _ dt => fracOk dt
  | .ptpPdelayReqSend _ dt => fracOk dt
  | .ptpAnnounceSend _ dt => fracOk dt
  | .captureEdge _ _ dt => fracOk dt
  | .jrnDrainTask _ rows => decide (1 ≤ rows)
  | .csScrubPass _ finds => (finds.map (·.1)).Nodup
  | .commandFetch _ slot => slot.all fun b => [64, 128, 256, 512, 1024, 2048, 4096].contains b.length
  | .dmaDescriptorDone _ desc _ => descOk desc
  | .dmaHalt _ _ _ _ _ desc _ _ => desc.isEmpty || descOk desc
  | .cplTimeout _ _ _ desc _ _ => desc.isEmpty || descOk desc
  | .tblCreate _ _ desc => decide (desc.length = 32)
  | .tblBind _ _ _ _ _ segs _ => decide (segs.length = 32)
  | .tblInsert _ _ _ _ _ result key mask => decide (result.length = 8) && decide (key.length ≤ 80) && decide (mask.length ≤ 80)
  | .tblDelete _ _ _ _ _ key => keyOk key
  | .tblRead _ _ _ _ _ key => keyOk key
  | .tcamStep _ _ _ _ _ key => decide (key.length ≤ 80)
  | .tblProfileWrite _ _ _ _ _ _ entry => decide (entry.length = 48)
  | .flowInsert _ _ _ _ key b => keyOk key && decide (b.length = 24)
  | .flowDelete _ _ _ key => keyOk key
  | .flowRead _ _ _ key => keyOk key
  | .flowWrite _ _ _ key _ b => keyOk key && decide (b.length = 24)
  | .flowKill _ _ _ key => keyOk key
  | .flowUnkill _ _ _ key => keyOk key
  | .lvlRankWrite _ _ count ranks => decide (ranks.length = count.toNat)
  | .mcCall _ _ count _ operands => decide (operands.length = count.toNat)
  | .counterOverflow _ _ n => decide (1 ≤ n)
  | .serdesCalibration _ bad => bad.Nodup
  | .tickBoundary | .ppsOutRise | .ppsOutFall | .tickStep | .slewDone | .injectLate _ | .nonflowLate _ _ _ _
  | .planLate | .sealLate | .cmdLate _ | .dieLinkLaneFail _ _ | .dieLinkRetrainDone _ | .packetIssue _ _ _
  | .injectIssue _ _ | .flowDataReturn _ _ | .parkedResume _ _ _ | .flowLate _ | .replicationTakeUp _ | .frameEnd _
  | .copyTransmitEnd _ | .shaperWheelRefill _ _ | .levelCopyDequeue _ _ _ _ | .levelReleaseGate _
  | .journalRowWrite _ | .portCreate _ _ | .portEnable _ _ | .portDisable _ _ | .portRemove _ _ | .signalDetect _
  | .autonegResolved _ _ _ _ _ | .linkTrainingDone _ | .trainFail _ | .lockAcquired _ | .lockTimeout _
  | .lossOfSignal _ _ | .faultSetsReceived _ _ | .faultSetsCleared _ | .mgmtLayerTimeout _ | .moduleReady _
  | .moduleInitTimeout _ | .modFlag _ _ | .watermarkWrite _ _ _ | .xoffRefresh _ _ | .pauseExpire _ _
  | .pfcWdTrip _ _ | .pfcWdRestore _ _ | .shedProposal _ _ _ | .shedStep _ | .wakeProposal _ _ | .laneRestore _
  | .lpiEnter _ _ | .pgEnable _ _ | .pgSwitch _ | .pgRevert _ | .laneCalTrigger _ _ | .railGroupEnable _ _
  | .railGroupDisable _ _ | .railDstConfigWrite _ _ | .railDstStart _ | .railActive _ | .railSrcLoss _
  | .railAltSwitch _ | .railSrcReturn _ | .selPrimary _ | .railDstRetired _ | .railFifoAdjustDone _ | .parserSwap _ _
  | .emMoveStep _ _ | .tcamRowMove _ _ | .tcamRespacingSweep _ _ | .lpmNodeFree _ _ | .tableScrubStep _ _ _ _
  | .versionRetire | .flowWritebackDone _ _ | .killEntryRelease _ _ | .ipfixPeriodicExport _ _
  | .ipfixTemplateResend _ | .learnTask _ | .flowPlaceCommit _ _ | .learnHoldExpire _ _ | .moveLockCopy _ _
  | .moveSwitch _ _ | .ageSweepVisit _ | .compareAndDelete _ | .retireRowCopy _ | .rehashMigrateStep _
  | .flowCacheFlush _ | .reserveWrite _ _ | .spillRowWrite _ _ | .spillRowReadback _ _ | .shaperConfigWrite _ _
  | .queueSamplePeriod _ | .levelGroupCfgWrite _ _ | .levelQueueCfgWrite _ _ | .servoOffset | .exclusionReinstate _
  | .ptpSourceLost | .refInputFail _ | .refSwitch | .timeTriggerWrite _ _ _ | .triggerEdge _ | .captureFifoPop _
  | .timeNowLatch | .journalEnable _ | .journalDisable _ | .jrnRootTask _ | .jrnSumTask | .domainSumDeadline
  | .journalRdWrite _ _ | .faultSeal | .memCommit _ | .hbmRegionClearDone | .hbmScrubRead _ _ | .hbmTempRead _ _
  | .targetedRefresh _ _ _ | .rhIntervalEnd _ | .hbmFreeze _ _ _ _ _ _ _ _ _ | .hbmRuntimeLaneRepair _
  | .qlogDataRead _ | .nop _ | .add _ | .sub _ | .and _ | .or _ | .xor _ | .shl _ | .shr _ | .sar _ | .mul _
  | .sltu _ | .seq _ | .minu _ | .maxu _ | .ffs _ | .popc _ | .addi _ | .andi _ | .ori _ | .xori _ | .shli _
  | .shri _ | .sari _ | .shin _ | .sltui _ | .seqi _ | .bfx _ | .bfi _ | .bswap _ | .crc _ | .rand _ | .jmp _ | .bz _
  | .bnz _ | .call _ | .ret _ | .jmpt _ | .get _ | .wait _ | .park _ | .done _ | .task _ | .post _ | .reply _
  | .evt _ | .ld _ | .st _ | .ldp _ | .stp _ | .hrd _ | .hwr _ | .blk _ | .inj _ | .time _ | .fault _
  | .dispatchGrant _ | .waitConditionMet _ | .parkConditionMet _ _ | .operandArrive _ _ | .memoryTagComplete _ _
  | .blockAnswer _ _ | .taskLate _ _ | .reckonerHardFault _ _ | .csRepair _ _ | .remainderTask _ | .injectNoteTask _
  | .flowEngineTask _ _ | .exportTask _ | .energyPlanTask _ | .columnGate _ | .nrgLimitRegWrite _ | .crProdWrite _ _
  | .relayTimeout | .batchExpired _ | .functionLevelReset | .pcieLinkLoss | .irqHoldoffEnd _ | .dmaStart _ _
  | .dmaDisable _ _ | .dmaRingTailWrite _ _ | .dmaTransferDone _ _ | .poolSplitWrite _ _ | .poolMinWrite _ _ _ _
  | .poolBufferReturn _ _ | .devInfo _ | .devNop _ | .devRegRead _ _ _ | .devRegWrite _ _ _ _ | .devBlockReset _ _ _
  | .devBatchCommit _ _ | .devBatchAbort _ _ | .devInject _ _ _ | .devCertRead _ _ _ | .prtModRead _ _ _ _ _ _ _
  | .prtModWrite _ _ _ _ _ _ _ | .prtCalRun _ _ _ | .tblDestroy _ _ | .tblUnbind _ _ | .tblParseWrite _ _ _ _ _
  | .tblParseSwap _ _ | .flowKindWrite _ _ _ _ _ _ _ | .flowRetirePc _ _ _ | .flowRehash _ _ | .qShape _ _ _ _
  | .qFlush _ _ _ | .mcWrite _ _ _ _ _ _ _ | .mcRead _ _ | .lvlGroupWrite _ _ _ _ _ _ _ _
  | .lvlQueueWrite _ _ _ _ _ _ _ | .timeSet _ _ _ | .timeRead _ | .timePortState _ _ _
  | .timeTrig _ _ _ _ _ _ _ _ _ _ _ | .timeAsym _ _ _ _ _ | .timeUtc _ _ _ _ _ _ | .jrnRead _ _ _ _ | .jrnSumRead _ _
  | .jrnChildRead _ _ | .jrnPortSet _ _ _ _ _ | .mcOpenLoad _ _ _ _ | .mcOpenEnable _ | .mcOpenDisable _
  | .fltInjectArm _ _ _ _ _ | .fltLogRead _ _ _ _ | .fltLogClear _ _ | .nrgLimit _ _ | .nrgRead _ _
  | .otpRead _ _ _ _ | .otpBurn _ _ _ _ | .domStatus _ | .domNeigh _ _ _ | .domainEnable _ | .domainDisable _
  | .ruleyFrameReceive _ _ | .reassemblyTimeout _ | .hello _ | .helloResend _ | .keepalive | .adjacencyLost _
  | .rootTakeover | .adoptReq _ | .adoptAck _ | .adoptNak _ | .adoptTimeout | .leave _ | .move _ | .joinNak _
  | .ruleyCmd _ | .ruleyReply _ | .ruleySum _ | .ruleyFault _ | .shedReq _ _ _ _ _ | .shedAck _ _ | .shedNak _ _
  | .wakeReq _ _ | .faultClassify _ _ | .faultHandlingEnd _ | .faultQueueReport _ | .columnHardFault _ _
  | .columnRemapDone _ | .safeStateEnter | .supervisorSafeTimeout _ | .sealAbandoned | .safeStateExit _ | .kmodeEnter
  | .kmodeExit | .kInjectArm | .counterOvfClear _ _ | .snapshotRequest | .perstLRelease | .perstLAssert | .otpSense _
  | .pllLock _ | .pllLockTimeout | .dieLinkTraining _ _ | .hbmTraining _ _ _ | .microcodeLoad _ _ | .hostBootGo _
  | .hbmInitialisation _ | .bringUp _ _ | .bist _ _ | .supplyUnderVoltage _ | .supplyOverVoltage _
  | .keeperPowerOnReset | .graveLatchClear | .refclkLoss _ | .junctionSensorSample _ | .otpWindowRead | .bypass
  | .idcode | .samplePreload _ _ | .extest _ | .pcieLinkUp _ _ | .supplyValidRestart | .dmaRrRdWrite _ _ => true

end Sys2Proof
end

