-- ==== Sys2Proof/Certificates/Slice0/Obligations.lean ====
section
/-! DEFINITION. Certificates/Slice0/Obligations.lean: the statements for the provers. -/
open Sys2Proof Sys2Proof.Machine

/-- One step takes the oldest waiting command. That the block idles on an empty queue is the model's choice (log entry 1). -/
def Obligations.StepRunsFront : Prop :=
  (∀ (s : State) (c : Instr) (rest : List Instr),
    step { s with pending := c :: rest } = exec c { s with pending := rest }) ∧
  (∀ s : State, s.pending = [] → step s = .next s)

/-- The commands that wait are served first in, first out, and nothing a command does changes them. -/
def Obligations.QueueIsFifo : Prop :=
  ∀ (s t : State) (c : Instr) (rest : List Instr), s.pending = c :: rest → stepsTo s t → t.pending = rest

/-- R511, R512, R524, R526: reset. The factory and key banks' contents are the model's choice (log entry 3). -/
def Obligations.ResetState : Prop :=
  State.reset.dev.regs = [] ∧ (∀ a, State.reset.dev.rd a = resetOf a) ∧ State.reset.pending = [] ∧
  State.reset.dev.board.perst = true ∧ State.reset.dev.board.ended = [] ∧ State.reset.dev.board.clock = false ∧
  (∀ i, memByte State.reset.otp.customer i = 0) ∧ (∀ k, k < 4 → genState (State.reset.otp.gen k) = 0) ∧
  (∀ k l, State.reset.dev.mayStep k l = false) ∧
  State.reset.dev.f rTCK_CTRL fTCK_CTRL_SLEW_PPM = 50 ∧ State.reset.dev.f rNRG_LIMIT fNRG_LIMIT_WATTS = 900 ∧
  State.reset.dev.f rOTP_BOOT_STATUS fOTP_BOOT_STATUS_PHASE = 0 ∧ State.reset.dev.rn rFLT_STATUS = 0 ∧
  OtpInForm State.reset.otp

/-- R526: "No bit can return to 0". R531: the customer bank is written by OTP_BURN alone. -/
def Obligations.OtpBitsOnlyBurn : Prop :=
  (∀ s t, stepsTo s t → t.otp.factory = s.otp.factory ∧ t.otp.key = s.otp.key ∧
    (∀ i, memByte s.otp.customer i &&& memByte t.otp.customer i = memByte s.otp.customer i) ∧
    (t.otp.customer ≠ s.otp.customer → ∃ h gen fails cut rest, s.pending = Instr.otpBurn h gen fails cut :: rest)) ∧
  (∀ s t, Runs s t → t.otp.factory = s.otp.factory ∧ t.otp.key = s.otp.key ∧
    ∀ i, memByte s.otp.customer i &&& memByte t.otp.customer i = memByte s.otp.customer i)

/-- The banks' canonical form and sizes are kept by every step (R526). -/
def Obligations.OtpBanksInForm : Prop :=
  ∀ s t, OtpInForm s.otp → stepsTo s t → OtpInForm t.otp

/-- R415, R424, R426: the reply that `Answers` speaks of. -/
def Obligations.ReplyWritten : Prop :=
  (∀ (d : Dev) (h : CmdHdr) (r opcode status flags : Nat) (result : List Byte), r < 32 → h.src = .ring r →
    d.cmdTask h.src h.tag opcode = none → d.b (rDMA_CR_CFG r) fDMA_CR_CFG_EN = true → (h.noReply = false ∨ status ≠ 0) →
    let e := d.reply h opcode status flags result
    let size := 2 ^ d.f (rDMA_CR_CFG r) fDMA_CR_CFG_SIZE_LOG2
    let slot := 2 ^ d.f (rDMA_CR_CFG r) fDMA_CR_CFG_SLOT_LOG2
    let wr := d.rn (rDMA_RR_WR r)
    let at_ := d.rdPair (rDMA_RR_BASE_LO r) (rDMA_RR_BASE_HI r) + slot * (wr % size)
    let bytes := replyRec h.tag (if slot - 16 < result.length then stPartial else status) result.length
      ((if wr / size % 2 = 0 then 128 else 0) + flags) r d.trk.tick (result.take (slot - 16))
    e.rn (rDMA_RR_WR r) = (wr + 1) % 2 ^ 32 ∧
    (∀ a, memByte e.out.hostMem a =
      if at_ ≤ a ∧ a < at_ + bytes.length then bytes.getD (a - at_) 0 else memByte d.out.hostMem a)) ∧
  (∀ (d : Dev) (h : CmdHdr) (r opcode status flags : Nat) (result : List Byte), h.src = .ring r →
    d.cmdTask h.src h.tag opcode = none → d.b (rDMA_CR_CFG r) fDMA_CR_CFG_EN = false →
    d.reply h opcode status flags result = d) ∧
  (∀ (d : Dev) (h : CmdHdr) (r opcode flags : Nat) (result : List Byte), h.src = .ring r → h.noReply = true →
    d.cmdTask h.src h.tag opcode = none → (d.reply h opcode stOk flags result).out.hostMem = d.out.hostMem)

/-- R485, R487: work that the safe state stops. -/
def Obligations.SafeStateStops : Prop :=
  ∀ s : State, s.dev.b rFLT_STATUS fFLT_STATUS_SAFE = true →
    (∀ p f l n b fr, NoEffect (.frameChunkArrive p f l n b fr) s) ∧ (∀ p a e, NoEffect (.packetIssue p a e) s) ∧
    (∀ c a, NoEffect (.injectIssue c a) s) ∧ (∀ k n, NoEffect (.flowDataReturn k n) s) ∧
    (∀ c a e, NoEffect (.parkedResume c a e) s) ∧ (∀ c, NoEffect (.flowLate c) s) ∧
    (∀ k, NoEffect (.replicationTakeUp k) s) ∧ (∀ p, NoEffect (.frameEnd p) s) ∧ (∀ p t, NoEffect (.copyDequeue p t) s) ∧
    (∀ p, NoEffect (.copyTransmitEnd p) s) ∧ (∀ k n, NoEffect (.shaperWheelRefill k n) s) ∧
    (∀ p b r t, NoEffect (.levelCopyDequeue p b r t) s) ∧ (∀ p, NoEffect (.levelReleaseGate p) s) ∧
    (∀ k, NoEffect (.queueSamplePeriod k) s) ∧ (∀ k q, NoEffect (.spillRowWrite k q) s) ∧
    (∀ k q, NoEffect (.spillRowReadback k q) s) ∧ (∀ k, NoEffect (.learnTask k) s) ∧ (∀ k o, NoEffect (.flowPlaceCommit k o) s) ∧
    (∀ k o, NoEffect (.moveLockCopy k o) s) ∧ (∀ k o, NoEffect (.moveSwitch k o) s) ∧ (∀ k, NoEffect (.ageSweepVisit k) s) ∧
    (∀ k, NoEffect (.compareAndDelete k) s) ∧ (∀ k, NoEffect (.retireRowCopy k) s) ∧ (∀ k, NoEffect (.rehashMigrateStep k) s) ∧
    NoEffect .sealLate s ∧ NoEffect .planLate s ∧ (∀ k, NoEffect (.jrnRootTask k) s) ∧ NoEffect .jrnSumTask s ∧
    NoEffect .ppsOutRise s ∧ NoEffect .ppsOutFall s ∧ (∀ n, NoEffect (.triggerEdge n) s) ∧
    (∀ p b t, NoEffect (.ptpFrameReceive p b t) s) ∧ (∀ p t, NoEffect (.ptpSyncSend p t) s) ∧
    (∀ p b, NoEffect (.ruleyFrameReceive p b) s) ∧ (∀ l, NoEffect (.energyPlanTask l) s) ∧
    (∀ c, NoEffect (.columnGate c) s) ∧
    (∀ h offset value mask, Rejects (.devRegWrite h offset value mask) s h 0x0103 stNotReady) ∧
    (∀ h block mask, Rejects (.devBlockReset h block mask) s h 0x0104 stNotReady) ∧
    (∀ h batch, Rejects (.devBatchCommit h batch) s h 0x0105 stNotReady) ∧
    (∀ h batch, Rejects (.devBatchAbort h batch) s h 0x0106 stNotReady) ∧
    (∀ h desc frame, Rejects (.devInject h desc frame) s h 0x0107 stNotReady) ∧
    (∀ h cage bank page offset count data, Rejects (.prtModRead h cage bank page offset count data) s h 0x0200 stNotReady) ∧
    (∀ h cage bank page offset count data, Rejects (.prtModWrite h cage bank page offset count data) s h 0x0201 stNotReady) ∧
    (∀ h first count, Rejects (.prtCalRun h first count) s h 0x0202 stNotReady) ∧
    (∀ h table desc, Rejects (.tblCreate h table desc) s h 0x0300 stNotReady) ∧
    (∀ h table, Rejects (.tblDestroy h table) s h 0x0301 stNotReady) ∧
    (∀ h table dir stage slot segs companion, Rejects (.tblBind h table dir stage slot segs companion) s h 0x0302 stNotReady) ∧
    (∀ h table, Rejects (.tblUnbind h table) s h 0x0303 stNotReady) ∧
    (∀ h table flags plen prio result key mask, Rejects (.tblInsert h table flags plen prio result key mask) s h 0x0304 stNotReady) ∧
    (∀ h table mask plen handle key, Rejects (.tblDelete h table mask plen handle key) s h 0x0305 stNotReady) ∧
    (∀ h table mask plen handle key, Rejects (.tblRead h table mask plen handle key) s h 0x0306 stNotReady) ∧
    (∀ h table die start count key, Rejects (.tcamStep h table die start count key) s h 0x0307 stNotReady) ∧
    (∀ h mask dir stage slot profile entry, Rejects (.tblProfileWrite h mask dir stage slot profile entry) s h 0x0308 stNotReady) ∧
    (∀ h mask kind index entry, Rejects (.tblParseWrite h mask kind index entry) s h 0x0309 stNotReady) ∧
    (∀ h mask, Rejects (.tblParseSwap h mask) s h 0x030A stNotReady) ∧
    (∀ h die profile flags key bytes, Rejects (.flowInsert h die profile flags key bytes) s h 0x0400 stNotReady) ∧
    (∀ h die profile key, Rejects (.flowDelete h die profile key) s h 0x0401 stNotReady) ∧
    (∀ h die profile key, Rejects (.flowRead h die profile key) s h 0x0402 stNotReady) ∧
    (∀ h die profile key mask bytes, Rejects (.flowWrite h die profile key mask bytes) s h 0x0403 stNotReady) ∧
    (∀ h die profile key, Rejects (.flowKill h die profile key) s h 0x0404 stNotReady) ∧
    (∀ h die profile key, Rejects (.flowUnkill h die profile key) s h 0x0405 stNotReady) ∧
    (∀ h mask kind index offset count bytes, Rejects (.flowKindWrite h mask kind index offset count bytes) s h 0x0406 stNotReady) ∧
    (∀ h die channel, Rejects (.flowRetirePc h die channel) s h 0x0407 stNotReady) ∧
    (∀ h die, Rejects (.flowRehash h die) s h 0x0408 stNotReady) ∧
    (∀ h port queue set, Rejects (.qShape h port queue set) s h 0x0500 stNotReady) ∧
    (∀ h port queue, Rejects (.qFlush h port queue) s h 0x0501 stNotReady) ∧
    (∀ h group pruneSrc jrn copyId ports pgs, Rejects (.mcWrite h group pruneSrc jrn copyId ports pgs) s h 0x0502 stNotReady) ∧
    (∀ h group, Rejects (.mcRead h group) s h 0x0503 stNotReady) ∧
    (∀ h group l lateMax en unlockedOk grid lateAct, Rejects (.lvlGroupWrite h group l lateMax en unlockedOk grid lateAct) s h 0x0504 stNotReady) ∧
    (∀ h queue group dest maxCells en pg, Rejects (.lvlQueueWrite h queue group dest maxCells en pg) s h 0x0505 stNotReady) ∧
    (∀ h first count ranks, Rejects (.lvlRankWrite h first count ranks) s h 0x0506 stNotReady) ∧
    (∀ h seconds ns, Rejects (.timeSet h seconds ns) s h 0x0600 stNotReady) ∧
    (∀ h port state, Rejects (.timePortState h port state) s h 0x0602 stNotReady) ∧
    (∀ h output en pol gate seconds ns period width count adj, Rejects (.timeTrig h output en pol gate seconds ns period width count adj) s h 0x0603 stNotReady) ∧
    (∀ h port const asymUnc coef, Rejects (.timeAsym h port const asymUnc coef) s h 0x0604 stNotReady) ∧
    (∀ h offset fromPtp valid leap59 leap61, Rejects (.timeUtc h offset fromPtp valid leap59 leap61) s h 0x0605 stNotReady) ∧
    (∀ h port recs dst src, Rejects (.jrnPortSet h port recs dst src) s h 0x0703 stNotReady) ∧
    (∀ h addr len image, Rejects (.mcOpenLoad h addr len image) s h 0x0800 stNotReady) ∧
    (∀ h, Rejects (.mcOpenEnable h) s h 0x0801 stNotReady) ∧ (∀ h, Rejects (.mcOpenDisable h) s h 0x0802 stNotReady) ∧
    (∀ h die count type operands, Rejects (.mcCall h die count type operands) s h 0x0803 stNotReady) ∧
    (∀ h die checker pattern count, Rejects (.fltInjectArm h die checker pattern count) s h 0x0900 stNotReady) ∧
    (∀ h die, Rejects (.fltLogClear h die) s h 0x0902 stNotReady) ∧
    (∀ h watts, Rejects (.nrgLimit h watts) s h 0x0A00 stNotReady) ∧
    (∀ h rods, Rejects (.nrgRead h rods) s h 0x0A01 stNotReady) ∧ (∀ h, Rejects (.domStatus h) s h 0x0C00 stNotReady) ∧
    (∀ h first count, Rejects (.domNeigh h first count) s h 0x0C01 stNotReady)

/-- R6: field types, over the whole register map; what reserved bits do is of R7. -/
def Obligations.RegisterFieldTypes : Prop :=
  ∀ (a old v : Nat) (r : RDesc), regAt a = some r →
    (∀ f ∈ r.fields, ∀ k, f.fld.lo ≤ k → k ≤ f.fld.hi →
      (r.merge old v).testBit k = (match f.ty with
        | .rw => v.testBit k
        | .rw1c => old.testBit k && !v.testBit k
        | .rw1s => old.testBit k || v.testBit k
        | .ro | .wo | .rc => old.testBit k) ∧
      (r.fields.foldl readValue old).testBit k = (match f.ty with
        | .wo => false
        | .rw | .rw1c | .rw1s | .ro | .rc => old.testBit k) ∧
      (r.fields.foldl readClear old).testBit k = (match f.ty with
        | .rc => false
        | .rw | .rw1c | .rw1s | .ro | .wo => old.testBit k)) ∧
    (∀ k, (∀ f ∈ r.fields, k < f.fld.lo ∨ f.fld.hi < k) →
      (r.merge old v).testBit k = old.testBit k ∧ (r.fields.foldl readClear old).testBit k = old.testBit k)

/-- R8: accesses of other widths; R413, R513: addresses that do not answer. -/
def Obligations.NarrowAccess : Prop :=
  (∀ s a w v, s.dev.barOpen a = true → w ≠ 32 ∨ a % 4 ≠ 0 → Completes (.registerWrite false a w v) s fun e =>
    e.rdPair (rFLT_D_CNT_LO 0 0) (rFLT_D_CNT_LO 0 0 + 4) =
      satAdd (2 ^ 64 - 1) (s.dev.rdPair (rFLT_D_CNT_LO 0 0) (rFLT_D_CNT_LO 0 0 + 4)) 1 ∧
    (∀ b, b ≠ rFLT_D_CNT_LO 0 0 → b ≠ rFLT_D_CNT_LO 0 0 + 4 → e.rd b = s.dev.rd b) ∧
    SameBut [.regs] s.dev e) ∧
  (∀ s a w v, s.dev.barOpen a = false → NoEffect (.registerWrite false a w v) s) ∧
  (∀ s a w, s.dev.barOpen a = false → Completes (.readClear a w) s fun e =>
    e = { s.dev with bus := { s.dev.bus with rdata := 0 } }) ∧
  (∀ s a w, w ≤ 16 → w + 8 * (a % 4) ≤ 32 → ∀ t, exec (.readClear (a / 4 * 4) 32) s = .next t → s.dev.barOpen a = true →
    s.dev.barOpen (a / 4 * 4) = true → Completes (.readClear a w) s fun e =>
      e.bus.rdata.toNat = t.dev.bus.rdata.toNat / 2 ^ (8 * (a % 4)) % 2 ^ w ∧ e.regs = t.dev.regs)

/-- R6, R7: accesses to ordinary registers; R38: a write is in force from the next tick boundary. -/
def Obligations.OrdinaryRegisters : Prop :=
  (∀ s a v k idx r, s.dev.barOpen a = true → a % 4 = 0 → s.dev.inReset (a / 0x100000) = false → s.dev.portAbsent a = false →
    regKey a = some (k, idx) → regAt a = some r → isHigh k = false → isLow k = false →
    (∀ i j w, s.dev.special1 k i j w = none) → (∀ i j w, s.dev.special2 k i j w = none) → fieldRules k = [] →
    (∀ i w, s.dev.writeHeld k i w = false ∧ s.dev.heldFields k i = []) → pageLows.contains k = false →
    irqEnables.contains k = false → k ≠ rDMA_IRQ_MAP 0 → k ≠ rRCK_TRACE_CFG → k ≠ rTCK_CTRL →
    Completes (.registerWrite false a 32 v) s fun e =>
      e.rn a = r.merge (s.dev.rn a) v.toNat % 2 ^ 32 ∧ (∀ b, b ≠ a → e.rd b = s.dev.rd b) ∧ SameBut [.regs] s.dev e) ∧
  (∀ s a k idx r, s.dev.barOpen a = true → a % 4 = 0 → s.dev.portAbsent a = false → snapCopy a = false →
    regKey a = some (k, idx) → regAt a = some r → isHigh k = false → isLow k = false →
    k ∉ [rTIM_NOW_SEC_LO, rTIM_CAPT_SEC_LO 0, rMEM_QLOG_DATA 0, rOTP_WIN_DATA, rRCK_ENTRY_DATA, rFLT_CHK_DESC, rTIM_UNC,
      rTCK_POS, rTCK_NUM_LO] →
    Completes (.readClear a 32) s fun e =>
      e.bus.rdata.toNat = r.fields.foldl readValue (s.dev.rn a) % 2 ^ 32 ∧
      e.rn a = r.fields.foldl readClear (s.dev.rn a) % 2 ^ 32 ∧ (∀ b, b ≠ a → e.rd b = s.dev.rd b) ∧
      SameBut [.regs, .bus] s.dev e)

/-- R9: "Reading LO latches HI" and the writes of pairs. -/
def Obligations.RegisterPairs : Prop :=
  (∀ s a k idx r, s.dev.barOpen a = true → a % 4 = 0 → s.dev.portAbsent a = false → snapCopy a = false →
    regKey a = some (k, idx) → regAt a = some r → isLow k = true → isHigh k = false →
    k ∉ [rTIM_CAPT_SEC_LO 0, rMEM_QLOG_DATA 0, rTIM_NOW_SEC_LO, rTCK_NUM_LO] →
    Completes (.pairLowReadLatch a) s fun e =>
      e.bus.rdata.toNat = r.fields.foldl readValue (s.dev.rn a) % 2 ^ 32 ∧ kvGet 0 e.bus.rdHold (a + 4) = s.dev.rd (a + 4)) ∧
  (∀ s n, n < 64 → s.dev.barOpen (rDMA_CH_SRC_HI n) = true → Completes (.readClear (rDMA_CH_SRC_HI n) 32) s fun e =>
    e.bus.rdata = kvGet 0 s.dev.bus.rdHold (rDMA_CH_SRC_HI n) ∧ e.regs = s.dev.regs) ∧
  (∀ s n hi v, n < 64 → s.dev.barOpen (rDMA_CH_SRC_HI n) = true → s.dev.inReset 13 = false →
    exec (.registerWrite false (rDMA_CH_SRC_HI n) 32 hi) s = .next { s with dev := v } →
    v.regs = s.dev.regs ∧ SameBut [.bus] s.dev v) ∧
  (∀ s n hi lo, n < 64 → s.dev.barOpen (rDMA_CH_SRC_LO n) = true → s.dev.barOpen (rDMA_CH_SRC_HI n) = true →
    s.dev.inReset 13 = false → s.dev.chanState n ≠ 1 →
    Completes (.pairLowWriteCommit (rDMA_CH_SRC_LO n) hi lo) s fun e =>
      e.rdPair (rDMA_CH_SRC_LO n) (rDMA_CH_SRC_HI n) = hi.toNat * 2 ^ 32 + lo.toNat ∧
      (∀ b, b ≠ rDMA_CH_SRC_LO n → b ≠ rDMA_CH_SRC_HI n → e.rd b = s.dev.rd b))

/-- R33, R39, R40: the next tick begins once the actions of the last are made (the order of the three is the model's reading,
log entry 62). -/
def Obligations.ClockBoundaries : Prop :=
  (∀ s, s.dev.board.clock = true → s.dev.trk.rodDue = false → s.dev.trk.deckDue = false → s.dev.trk.stepDue = none →
    s.dev.trk.stepped = false → s.dev.deferred = [] → Completes .tickBoundary s fun e =>
      e.trk.tick = s.dev.trk.tick + 1 ∧ e.trk.rodDue = decide ((s.dev.trk.tick + 1) % 1000 = 0) ∧
      e.trk.deckDue = decide ((s.dev.trk.tick + 1) % 100000 = 0) ∧ e.live = e.regs) ∧
  (∀ s, s.dev.board.clock = false ∨ s.dev.trk.rodDue = true ∨ s.dev.trk.deckDue = true → NoEffect .tickBoundary s) ∧
  (∀ s e, s.dev.trk.rodDue = true → Completes (.rodBoundary e) s fun d =>
    d.trk.rodDue = false ∧ d.trk.tick = s.dev.trk.tick ∧ d.trk.deckDue = s.dev.trk.deckDue) ∧
  (∀ s e, s.dev.trk.rodDue = false → NoEffect (.rodBoundary e) s) ∧
  (∀ s q df c ecc, s.dev.trk.deckDue = true → s.dev.trk.rodDue = false → Completes (.deckBoundary q df c ecc) s fun d =>
    d.trk.deckDue = false ∧ d.trk.tick = s.dev.trk.tick) ∧
  (∀ s q df c ecc, s.dev.trk.deckDue = false ∨ s.dev.trk.rodDue = true → NoEffect (.deckBoundary q df c ecc) s)

/-- R34, R35, R329, R53: steps, slews, PPS_OUT and the grid. -/
def Obligations.StepsSlewsPulses : Prop :=
  (∀ s o, s.dev.trk.stepDue = some o → s.dev.board.clock = true → s.dev.trk.rodDue = false → s.dev.trk.deckDue = false →
    s.dev.locked = false → s.dev.lb rTCK_CTRL fTCK_CTRL_STEP_EN = true → Completes .tickStep s fun e =>
      e.trk.stepDue = none ∧
      (s.dev.f rTIM_STATUS fTIM_STATUS_SSTATE ≠ 0 → e.b rTCK_STATUS fTCK_STATUS_DOMAIN = true) ∧ e.trk.slewLeft = o + stepSize o * 655360 ∧
      (stepSize o ≠ 0 → e.trk.tick = ((s.dev.trk.tick : Int) + 1 + stepSize o).toNat ∧ e.trk.stepped = true) ∧
      (stepSize o = 0 → e.trk.tick = s.dev.trk.tick)) ∧
  (∀ s, s.dev.trk.stepDue = none ∨ s.dev.locked = true → NoEffect .tickStep s) ∧
  (∀ s, s.dev.b rTCK_STATUS fTCK_STATUS_SLEWING = true → Completes .slewDone s fun e =>
    e.trk = { s.dev.trk with slewLeft := 0 } ∧ e.b rTCK_STATUS fTCK_STATUS_SLEWING = false ∧
    (∀ a, a ≠ rTCK_STATUS → e.rd a = s.dev.rd a)) ∧
  (∀ s, s.dev.b rFLT_STATUS fFLT_STATUS_SAFE = false → s.dev.trk.tick % 100000000 = 0 →
    s.dev.lb rTIM_PPS_OUT fTIM_PPS_OUT_EN = true → (s.dev.locked = true ∨ s.dev.lb rTIM_PPS_OUT fTIM_PPS_OUT_GATE = false) →
    Completes .ppsOutRise s fun e =>
      e = { s.dev with tim := { s.dev.tim with ppsHigh := true, ppsRise := s.dev.trk.tick } }) ∧
  (∀ s, s.dev.b rFLT_STATUS fFLT_STATUS_SAFE = false → s.dev.tim.ppsHigh = true →
    s.dev.tim.ppsRise + 100 * s.dev.lf rTIM_PPS_WIDTH fTIM_PPS_WIDTH_WIDTH_US ≤ s.dev.trk.tick → Completes .ppsOutFall s fun e =>
      e = { s.dev with tim := { s.dev.tim with ppsHigh := false } } ∧ e.ppsPin = false) ∧
  (∀ s p x errors, s.dev.port.ports = [(p, x)] → s.dev.trk.tick % 32 = 0 → s.dev.b rTCK_GRID fTCK_GRID_GRID_VALID = true →
    s.dev.isUp p = true → s.dev.anchored p = true → (s.dev.portSt p).gridSet = false →
    Completes (.gridCheck errors) s fun e =>
      (e.portSt p).gridSet = true ∧ e.b (rPRT_STATUS p) fPRT_STATUS_OFF_GRID = false ∧
      (∀ a, a ≠ rPRT_STATUS p → e.rd a = s.dev.rd a)) ∧
  (∀ s errors, s.dev.trk.tick % 32 ≠ 0 → NoEffect (.gridCheck errors) s)

/-- R48 to R51: the late paths that are commands of their own. -/
def Obligations.LatePaths : Prop :=
  (∀ s (col : Fin 16) i, s.dev.path.injects.find? (fun x => decide (x.col = col.val)) = some i →
    i.tick + s.dev.lf rTCK_INJECT_WAIT fTCK_INJECT_WAIT_WAIT ≤ s.dev.trk.tick → Completes (.injectLate col) s fun e =>
      TookLate s.dev e 8 ∧ e.path.injects = s.dev.path.injects.erase i) ∧
  (∀ s (col : Fin 16) i, s.dev.path.injects.find? (fun x => decide (x.col = col.val)) = some i →
    s.dev.trk.tick < i.tick + s.dev.lf rTCK_INJECT_WAIT fTCK_INJECT_WAIT_WAIT → NoEffect (.injectLate col) s) ∧
  (∀ s die cls stack pc, Completes (.nonflowLate die cls stack pc) s fun e =>
    TookLate s.dev e 2 ∧ e.rn (rMEM_NFLATE die cls) = satAdd (2 ^ 32 - 1) (s.dev.rn (rMEM_NFLATE die cls)) 1 ∧
    (stack.val * 64 + pc.val) ∈ e.hbm.nfDeck) ∧
  (∀ s, Live s → s.dev.trk.rodDue = true → s.dev.nrg.due = true → s.dev.nrg.next = none → Completes .planLate s fun e =>
    e.nrg.next = some { s.dev.nrg.plan with late := true, limitChg := false } ∧ TookLate s.dev e 6) ∧
  (∀ s, s.dev.trk.rodDue = false ∨ s.dev.nrg.due = false ∨ s.dev.nrg.next.isSome = true → NoEffect .planLate s) ∧
  (∀ s c, Live s → s.dev.jrn.closed.find? (fun c => c.sum.isNone && decide (c.deck + 1 < s.dev.deck) &&
      decide (bits c.flags 3 3 = 0)) = some c → Completes .sealLate s fun e =>
    TookLate s.dev e 5 ∧ ∀ x ∈ e.jrn.closed, x.deck = c.deck → bits x.flags 3 3 = 1) ∧
  (∀ s die h c, (s.dev.rckD die).held.find? (fun h => h.cmd.any fun c => decide (c.deck ≠ 0) && decide (c.deck < s.dev.deck)) = some h →
    h.cmd = some c → Completes (.cmdLate die) s fun e => TookLate s.dev e 7)

/-- R14, R15, R16, R26: die-to-die links, sideband, supervisors. -/
def Obligations.LinksAndSupervisors : Prop :=
  (∀ s dir lane, (s.dev.link dir).retired.contains (lane.val / 64) = false → (s.dev.link dir).failed.contains lane.val = false →
    (s.dev.link dir).redundant.contains (lane.val / 32) = false → Completes (.dieLinkLaneFail dir lane) s fun e =>
      e.link dir = { s.dev.link dir with
        stopped := true, failed := (s.dev.link dir).failed ++ [lane.val]
        redundant := (s.dev.link dir).redundant ++ [lane.val / 32] } ∧
      Reported s.dev e (linkDie dir) 0xC 24 0x0B lane) ∧
  (∀ s dir lane, (s.dev.link dir).retired.contains (lane.val / 64) = false → (s.dev.link dir).failed.contains lane.val = false →
    (s.dev.link dir).redundant.contains (lane.val / 32) = true → Completes (.dieLinkLaneFail dir lane) s fun e =>
      (e.link dir).retired = (s.dev.link dir).retired ++ [lane.val / 64] ∧ (e.link dir).stopped = true ∧
      Reported s.dev e (linkDie dir) (if (s.dev.link dir).retired.isEmpty then 0xC else 0xD) 24 0x0B lane) ∧
  (∀ s dir lane, (s.dev.link dir).failed.contains lane.val = true → NoEffect (.dieLinkLaneFail dir lane) s) ∧
  (∀ s dir, (s.dev.link dir).stopped = true → Completes (.dieLinkRetrainDone dir) s fun e =>
    e.link dir = { s.dev.link dir with stopped := false }) ∧
  (∀ s dir, (s.dev.link dir).stopped = false → NoEffect (.dieLinkRetrainDone dir) s) ∧
  (∀ s l dir skew, Completes (.sidebandMessage l dir [.timeAlign skew]) s fun e =>
    e.f rTCK_SKEW fTCK_SKEW_MAX = min 255 (max skew (s.dev.f rTCK_SKEW fTCK_SKEW_MAX)) ∧
    (∀ a, a ≠ rTCK_SKEW → e.rd a = s.dev.rd a) ∧ SameBut [.regs] s.dev e) ∧
  (∀ s l dir msgs, exec (.sidebandMessage l dir msgs) s = exec (.sidebandMessage l dir
    (msgs.filter (fun m => decide (sbRank m = 0)) ++ msgs.filter (fun m => decide (sbRank m = 1)) ++
      msgs.filter fun m => decide (sbRank m = 2))) s) ∧
  (∀ s die cls block kind inst, 0xA < cls → Completes (.supervisorCommand die (.fault cls block kind inst)) s fun e =>
    Reported s.dev e (die.val % 2) cls block kind inst ∧ SameBut [.flt] s.dev e) ∧
  (∀ s die cls block kind inst, cls ≤ 0xA → Completes (.supervisorCommand die (.fault cls block kind inst)) s fun e =>
    Counted s.dev e (rFLT_D_CNT_LO (die.val % 2) 0) 1 ∧ SameBut [.regs] s.dev e) ∧
  (∀ s die block mask, s.dev.resetRefused block mask = none → Completes (.supervisorCommand die (.reset block mask)) s fun e =>
    e = { s.dev with deferred := s.dev.deferred ++ [.blockReset block mask none] })

/-- R23, R111, R140, R254, R267, R273, R291, R299, R305: frames on their way. -/
def Obligations.FramesArriveAndLeave : Prop :=
  (∀ s (p : Fin 512) last len bytes frac, Live s → s.dev.isUp p = true → s.dev.colStopped p = false → s.dev.upStopped p = false →
    Completes (.frameChunkArrive p true last len bytes frac) s fun e =>
      e.rxOf p = some s.dev.path.nextFrame ∧ e.path.nextFrame = s.dev.path.nextFrame + 1 ∧
      (e.fr s.dev.path.nextFrame).bytes = bytes ∧ (e.fr s.dev.path.nextFrame).total = len ∧
      (e.fr s.dev.path.nextFrame).port = p ∧ (e.fr s.dev.path.nextFrame).ts = stampOf (s.dev.nowT + frac)) ∧
  (∀ s (p : Fin 512) last len bytes frac f, Live s → s.dev.isUp p = true → s.dev.rxOf p = some f → (s.dev.fr f).last = false →
    Completes (.frameChunkArrive p false last len bytes frac) s fun e =>
      (e.fr f).bytes = (s.dev.fr f).bytes ++ bytes ∧ (e.fr f).last = last ∧ e.rxOf p = some f) ∧
  (∀ s (p : Fin 512) first last len bytes frac, s.dev.isUp p = false → NoEffect (.frameChunkArrive p first last len bytes frac) s) ∧
  (∀ s (p : Fin 512) f, Live s → s.dev.rxOf p = some f → (s.dev.fr f).last = true →
    Completes (.frameEnd p) s fun e => e.rxOf p = none) ∧
  (∀ s (p : Fin 512) dt q pg d1 cls n c c1 ce, Live s → s.dev.txOf p = none → s.dev.colStopped p = false → s.dev.running = true →
    s.dev.servedBy p = some (q, pg) → s.dev.earliest (s.dev.lvlOfPort q pg) = none →
    s.dev.choose q p pg dt = (d1, .take cls n) → d1.headOf q n = some c → d1.isUp p = true → d1.queueTripped q p n = false →
    (((d1.popHead q n).pev (18 + dieOf q) 0x14).egress p c).2 = .send c1 ce →
    Completes (.copyDequeue p dt) s fun e => ∃ t, e.txOf p = some t ∧ t.copy = { c1 with jrn := false } ∧ t.port = p ∧
      t.cls = cls ∧ t.ce = ce ∧ t.stamp = stampOf (s.dev.nowT + dt) ∧ (e.portSt p).sending = some c1.pkt.frame) ∧
  (∀ s (p : Fin 512) t, Live s → s.dev.txOf p = some t → (s.dev.fr t.copy.pkt.frame).ended = true →
    Completes (.copyTransmitEnd p) s fun e => e.txOf p = none ∧ (e.portSt p).sending = none ∧
      (s.dev.isUp p = true → e.out.frames = s.dev.out.frames ++ [{
        port := p, bytes := (s.dev.sentBytes t).1,
        stomped := decide ((s.dev.fr t.copy.pkt.frame).bad ≠ 0) || t.abort, stamp := t.stamp }])) ∧
  (∀ s (p : Fin 512) t l, Live s → kvGet [] s.dev.path.gate p = t :: l → s.dev.txOf p = none →
    stampTime t.stamp < s.dev.nowT + 655360 → s.dev.isUp p = true →
    Completes (.levelReleaseGate p) s fun e =>
      e.txOf p = some t ∧ kvGet [] e.path.gate p = l ∧ (e.portSt p).sending = some t.copy.pkt.frame) ∧
  (∀ s (die : Fin 2) x l, Live s → (s.dev.buf die).repl = x :: l →
    Completes (.replicationTakeUp die) s fun e => (e.buf die).repl = l) ∧
  (∀ s (die : Fin 2) (n : Fin 4352), Live s → n.val < 4096 → ((s.dev.buf die).dueShapers s.dev.trk.tick).contains n.val = true →
    Completes (.shaperWheelRefill die n) s fun e =>
      (e.queue die n).shaper = (s.dev.qShaperRefill die n (s.dev.queue die n).shaper).place s.dev.trk.tick) ∧
  (∀ s (die : Fin 2) (n : Fin 4352), Live s → ((s.dev.buf die).dueShapers s.dev.trk.tick).contains n.val = false →
    NoEffect (.shaperWheelRefill die n) s) ∧
  (∀ s (p : Fin 512) busy alignR alignT q pg c l c1 ce, Live s → s.dev.servedBy p = some (q, pg) →
    s.dev.earliest (s.dev.lvlOfPort q pg) = some c → c.lvl = some l → s.dev.mayStart p c = true → s.dev.isUp p = true →
    (s.dev.departure p c busy alignR alignT).1 < fine (s.dev.nowT + 2621440) →
    (s.dev.departure p c busy alignR alignT).1 ≤ (s.dev.departure p c busy alignR alignT).2 →
    (((s.dev.lvlTake c).lvlQState l.queue).egress p c).2 = .send c1 ce →
    Completes (.levelCopyDequeue p busy alignR alignT) s fun e =>
      e.lvlCopies l.queue = (s.dev.lvlCopies l.queue).erase c ∧
      ∃ t, kvGet [] e.path.gate p = kvGet [] s.dev.path.gate p ++ [t] ∧ t.copy = { c1 with jrn := false } ∧ t.cls = 1 ∧
        t.late = false ∧ t.stamp = stampOf ((s.dev.departure p c busy alignR alignT).1 / 25))

/-- R182, R187, R188, R192, R199: data returned to the flow stage. -/
def Obligations.FlowDataReturns : Prop :=
  (∀ s (die : Fin 2) n l, Live s → (s.dev.flw die).lookups[n]? = some l → l.tag = true → l.fill = none →
    (s.dev.hbmFind die l.fk).1 = none →
    Completes (.flowDataReturn die n) s fun e =>
      (∀ m ∈ (e.flw die).lookups, m.fk ≠ l.fk) ∧
      (e.flw die).parked = (s.dev.flw die).parked.map fun p => if p.fk = l.fk && p.ready = .waiting then { p with ready := .noRecord } else p) ∧
  (∀ s (die : Fin 2) n l b sl y e1, Live s → (s.dev.flw die).lookups[n]? = some l → l.tag = true → l.fill = none →
    s.dev.hbmFind die l.fk = (some (b, sl, y), false) → s.dev.cacheFill die l.fk (slotLine die b sl y) = some e1 →
    Completes (.flowDataReturn die n) s fun e =>
      (∀ m ∈ (e.flw die).lookups, m.fk ≠ l.fk) ∧ ∀ p ∈ (e.flw die).parked, p.fk = l.fk → p.ready ≠ .waiting) ∧
  (∀ s (die : Fin 2) n l, (s.dev.flw die).lookups[n]? = some l → l.tag = false → NoEffect (.flowDataReturn die n) s) ∧
  (∀ s (col : Fin 16) again x, Live s →
    (s.dev.flw (col.val / 8)).parked.find? (fun x => decide (x.pkt.col = col.val) && decide (x.ready ≠ .waiting)) = some x →
    Completes (.parkedResume col again true) s fun e =>
      (e.flw (col.val / 8)).parked = (s.dev.flw (col.val / 8)).parked.erase x ∧ Reported s.dev e (col.val / 8) 0xC 5 2 0)

/-- R42, R43, R111, R128, R132, R188, R189, R231: issue from a column, and from the park. -/
def Obligations.ColumnsIssue : Prop :=
  (∀ s (p : Fin 512) again ecc c res part, Live s → s.dev.slotsOf (s.dev.column p) < 16 → s.dev.colStopped p = false →
    s.dev.running = true → s.dev.path.recirc.find? (fun k => decide (k.col = s.dev.column p)) = none →
    (s.dev.par (dieOf p)).ctxs.find? (fun c => decide (c.port = p.val)) = some c → c.res = some res →
    ((s.dev.fr c.frame).last && !(s.dev.fr c.frame).ended) = false → s.dev.taken p (s.dev.fr c.frame) = false →
    (res.flowEn && s.dev.lb (rFLW_CTRL (dieOf p)) fFLW_CTRL_EN && s.dev.flowHold (dieOf p)) = false →
    courseOf (((s.dev.par (dieOf p)).bank c.bank).profile res.profile) res = .stages part →
    Completes (.packetIssue p again ecc) s fun e =>
      (e.par (dieOf p)).ctxs = (s.dev.par (dieOf p)).ctxs.erase c ∧
      e.slotsOf (s.dev.column p) = s.dev.slotsOf (s.dev.column p) + 1) ∧
  (∀ s (p : Fin 512) ecc k, Live s → s.dev.slotsOf (s.dev.column p) < 16 → s.dev.colStopped p = false →
    s.dev.running = true → s.dev.path.recirc.find? (fun k => decide (k.col = s.dev.column p)) = some k →
    Completes (.packetIssue p false ecc) s fun e =>
      e.path.recirc = s.dev.path.recirc.erase k ∧ e.slotsOf (s.dev.column p) = s.dev.slotsOf (s.dev.column p) + 1) ∧
  (∀ s (p : Fin 512) again ecc, 16 ≤ s.dev.slotsOf (s.dev.column p) → NoEffect (.packetIssue p again ecc) s) ∧
  (∀ s (col : Fin 16) again i, Live s → s.dev.slotsOf col < 16 → s.dev.colRetired col = false →
    s.dev.flt.stoppedCols.contains col.val = false → s.dev.running = true → s.dev.slotWanted col = false →
    s.dev.path.injects.find? (fun i => decide (i.col = col.val)) = some i →
    Completes (.injectIssue col again) s fun e =>
      e.path.injects = s.dev.path.injects.erase i ∧ e.path.nextFrame = s.dev.path.nextFrame + 1) ∧
  (∀ s (col : Fin 16) again x, Live s →
    (s.dev.flw (col.val / 8)).parked.find? (fun x => decide (x.pkt.col = col.val) && decide (x.ready ≠ .waiting)) = some x →
    Completes (.parkedResume col again false) s fun e =>
      (e.flw (col.val / 8)).parked = (s.dev.flw (col.val / 8)).parked.erase x) ∧
  (∀ s (col : Fin 16) x, Live s →
    (s.dev.flw (col.val / 8)).parked.find? (fun x =>
      decide (x.pkt.col = col.val) && decide (x.ready = .waiting) && decide (x.tick + 48 ≤ s.dev.trk.tick)) = some x →
    Completes (.flowLate col) s fun e =>
      (e.flw (col.val / 8)).parked = (s.dev.flw (col.val / 8)).parked.erase x)

/-- R57, R59, R60, R91: writes of PRT_CFG. -/
def Obligations.PortConfiguration : Prop :=
  (∀ s (p : Fin 512) v, s.dev.insidePort p = false → bits v.toNat 30 27 ≠ 0 → bits v.toNat 31 31 = 0 →
    bits (s.dev.rn (rPRT_CFG p)) 31 31 = 0 → Completes (.portCreate p v) s fun e =>
      e.cfgMode p = bits v.toNat 30 27 ∧ e.b (rPRT_CFG p) fPRT_CFG_EN = false ∧ SameBut [.regs] s.dev e) ∧
  (∀ s (p : Fin 512) v, s.dev.insidePort p = false → bits (s.dev.rn (rPRT_CFG p)) 31 31 = 0 →
    s.dev.b rFLT_KMODE fFLT_KMODE_ACTIVE = false →
    s.dev.enCheck p (prtCfgMerge (s.dev.rn (rPRT_CFG p)) (putBits v.toNat 31 31 1)) = true → Completes (.portEnable p v) s fun e =>
      e.deferred = s.dev.deferred ++ [.portEnable p] ∧ e.b (rPRT_CFG p) fPRT_CFG_EN = true) ∧
  (∀ s (p : Fin 512) v, s.dev.insidePort p = false → bits (s.dev.rn (rPRT_CFG p)) 31 31 = 0 →
    s.dev.b rFLT_KMODE fFLT_KMODE_ACTIVE = false →
    s.dev.enCheck p (prtCfgMerge (s.dev.rn (rPRT_CFG p)) (putBits v.toNat 31 31 1)) = false → Completes (.portEnable p v) s fun e =>
      e.b (rPRT_CFG p) fPRT_CFG_EN = false ∧ e.b (rPRT_STATUS p) fPRT_STATUS_CFG_ERR = true ∧ SameBut [.regs] s.dev e) ∧
  (∀ s (p : Fin 512) v, s.dev.insidePort p = false → bits (s.dev.rn (rPRT_CFG p)) 31 31 = 1 → Completes (.portDisable p v) s fun e =>
      e.deferred = s.dev.deferred ++ [.portDisable p] ∧ e.b (rPRT_CFG p) fPRT_CFG_EN = false ∧ e.cfgMode p = s.dev.cfgMode p ∧
      SameBut [.regs, .deferred] s.dev e) ∧
  (∀ s (p : Fin 512) v, s.dev.insidePort p = false → bits (s.dev.rn (rPRT_CFG p)) 31 31 = 0 → Completes (.portRemove p v) s fun e =>
      e.cfgMode p = 0 ∧ e.b (rPRT_CFG p) fPRT_CFG_EN = false ∧ SameBut [.regs] s.dev e) ∧
  (∀ s (p : Fin 512) v, s.dev.insidePort p = true →
    NoEffect (.portCreate p v) s ∧ NoEffect (.portEnable p v) s ∧ NoEffect (.portDisable p v) s ∧ NoEffect (.portRemove p v) s)

/-- R62 to R65, R67, R79: the states of a port. -/
def Obligations.PortStates : Prop :=
  (∀ s (p : Fin 512), s.dev.pState p = 1 → s.dev.cageOf p = none → Completes (.signalDetect p) s fun e =>
    e.pState p = (if s.dev.anApplies p then 2 else 3) ∧
    (s.dev.anApplies p = false → (e.portSt p).mode = s.dev.cfgMode p ∧ (e.portSt p).fec = s.dev.forcedFec p)) ∧
  (∀ s (p : Fin 512) partner rsAble rsAsk eee m, s.dev.pState p = 2 → anResolve (s.dev.cfgMode p) partner = some m →
    Completes (.autonegResolved p partner rsAble rsAsk eee) s fun e =>
      e.pState p = 3 ∧ (e.portSt p).mode = m ∧ (e.portSt p).an = true ∧ (e.portSt p).eee = eee ∧ (e.portSt p).layers = 1) ∧
  (∀ s (p : Fin 512) partner rsAble rsAsk eee, s.dev.pState p = 2 → anResolve (s.dev.cfgMode p) partner = none →
    (s.dev.portSt p).noCommon = true → NoEffect (.autonegResolved p partner rsAble rsAsk eee) s) ∧
  (∀ s (p : Fin 512), s.dev.pState p = 3 →
    (Completes (.linkTrainingDone p) s fun e => e.pState p = 4 ∧ SameBut [.regs] s.dev e) ∧
    (Completes (.trainFail p) s fun e => e.pState p = if s.dev.anApplies p then 2 else 1)) ∧
  (∀ s (p : Fin 512), s.dev.pState p = 4 →
    (Completes (.lockAcquired p) s fun e => e.pState p = 5 ∧ (e.portSt p).upTick = s.dev.trk.tick ∧ (e.portSt p).stops = [] ∧
      ∀ n ∈ lanesOf p (s.dev.portSt p).mode, n ∈ e.port.cdr) ∧
    (Completes (.lockTimeout p) s fun e => e.pState p = 3 ∧ SameBut [.regs] s.dev e)) ∧
  (∀ s (p : Fin 512) cause, s.dev.pState p = 5 ∨ s.dev.pState p = 6 → Completes (.lossOfSignal p cause) s fun e => e.pState p = 4) ∧
  (∀ s (p : Fin 512) remote, s.dev.pState p = 5 → Completes (.faultSetsReceived p remote) s fun e =>
    e.pState p = 6 ∧ (e.portSt p).stops = [] ∧ (e.portSt p).layers = 0 ∧
    e.b (rPRT_STATUS p) (if remote then fPRT_STATUS_REMOTE_FAULT else fPRT_STATUS_LOCAL_FAULT) = true) ∧
  (∀ s (p : Fin 512), s.dev.pState p = 6 → Completes (.faultSetsCleared p) s fun e =>
    e.pState p = 5 ∧ (e.portSt p).upTick = s.dev.trk.tick) ∧
  (∀ s (p : Fin 512), s.dev.pState p = 5 → (s.dev.portSt p).layers = 1 → (s.dev.portSt p).upTick + 10000 ≤ s.dev.trk.tick →
    Completes (.mgmtLayerTimeout p) s fun e => (e.portSt p).layers = 2 ∧
      e.b (rPRT_PARTNER p) fPRT_PARTNER_JEVAR = false ∧ e.f (rPRT_PARTNER p) fPRT_PARTNER_PARTNER_DEV = 0xFFFF) ∧
  (∀ s (p : Fin 512) cause remote, s.dev.pState p = 0 → NoEffect (.signalDetect p) s ∧ NoEffect (.linkTrainingDone p) s ∧
    NoEffect (.trainFail p) s ∧ NoEffect (.lockAcquired p) s ∧ NoEffect (.lockTimeout p) s ∧ NoEffect (.lossOfSignal p cause) s ∧
    NoEffect (.faultSetsReceived p remote) s ∧ NoEffect (.faultSetsCleared p) s ∧ NoEffect (.mgmtLayerTimeout p) s)

/-- R68 to R70, R73: cages and modules. -/
def Obligations.Modules : Prop :=
  (∀ s (c : Fin 256) (l : CageLine), s.dev.b rPRT_SCAN fPRT_SCAN_EN = true → (l.cage : Nat) = c →
    (s.dev.listedIdx (rPRT_CAGE 0) 8 256).filter (fun k => s.dev.b (rPRT_CAGE k) fPRT_CAGE_VALID &&
      decide (k < 64 * min 4 (s.dev.f rPRT_SCAN fPRT_SCAN_CHAINS))) = [c.val] →
    Completes (.cageScan [l]) s fun e => (e.cage c).rawPresent = true ∧
      ((s.dev.cage c).rawPresent = true → e.b (rPRT_CAGE_STATE c) fPRT_CAGE_STATE_PRESENT = true) ∧
      ((s.dev.cage c).rawPresent = false → e.b (rPRT_CAGE_STATE c) fPRT_CAGE_STATE_PRESENT =
        s.dev.b (rPRT_CAGE_STATE c) fPRT_CAGE_STATE_PRESENT ∧ e.mstate c = s.dev.mstate c)) ∧
  (∀ s lines, s.dev.b rPRT_SCAN fPRT_SCAN_EN = false → NoEffect (.cageScan lines) s) ∧
  (∀ s (c : Fin 256), s.dev.mstate c = 3 →
    (Completes (.moduleReady c) s fun e => e.mstate c = 4 ∧ (e.cage c).arriving = false) ∧
    (Completes (.moduleInitTimeout c) s fun e => e.mstate c = 5)) ∧
  (∀ s (c : Fin 256), s.dev.mstate c = 4 → NoEffect (.moduleReady c) s ∧ NoEffect (.moduleInitTimeout c) s) ∧
  (∀ s (c : Fin 256) flags, s.dev.b (rPRT_CAGE_STATE c) fPRT_CAGE_STATE_PRESENT = true → s.dev.b (rPRT_CAGE_STATE c) fPRT_CAGE_STATE_INT = true →
    Completes (.modFlag c flags) s fun e => e = s.dev.raise ePRT_MOD_FLAG c (some (flags % 2 ^ 64))) ∧
  (∀ s (c : Fin 256) flags, s.dev.b (rPRT_CAGE_STATE c) fPRT_CAGE_STATE_PRESENT = false → NoEffect (.modFlag c flags) s)

/-- R75 to R77, R79, R80, R91: flow control. -/
def Obligations.FlowControl : Prop :=
  (∀ s (p : Fin 512) (q : Fin 8) v, s.dev.cfgMode p ≠ 0 → s.dev.insidePort p = false →
    (bits v.toNat 31 16 = 0 ∨ bits v.toNat 15 0 < bits v.toNat 31 16) →
    Completes (.watermarkWrite p q v) s fun e => e.rn (rPRT_WM p q) = v.toNat ∧ SameBut [.regs] s.dev e) ∧
  (∀ s (p : Fin 512) (q : Fin 8) v, s.dev.cfgMode p ≠ 0 → s.dev.insidePort p = false → bits v.toNat 31 16 ≠ 0 →
    bits v.toNat 31 16 ≤ bits v.toNat 15 0 →
    Completes (.watermarkWrite p q v) s fun e => e.rn (rPRT_WM p q) = s.dev.rn (rPRT_WM p q) ∧
      e.b (rPRT_STATUS p) fPRT_STATUS_CFG_ERR = true ∧ SameBut [.regs] s.dev e) ∧
  (∀ s (p : Fin 512) (q : Fin 8), s.dev.isUp p = true → bits (s.dev.portSt p).xoffSent q q = 1 →
    Completes (.xoffRefresh p q) s fun e => ∃ x, e.out.frames = s.dev.out.frames ++ [x] ∧ x.port = p.val ∧ x.stomped = false ∧
      x.bytes = s.dev.fcFrame p (s.dev.lf (rPRT_CFG p) fPRT_CFG_FC_MODE = 2) (2 ^ q.val)
        (s.dev.lf (rPRT_FC p) fPRT_FC_XOFF_QUANTA)) ∧
  (∀ s (p : Fin 512) (q : Fin 8), s.dev.isUp p = false → NoEffect (.xoffRefresh p q) s) ∧
  (∀ s (p : Fin 512) vec n, s.dev.isUp p = true → s.dev.lf (rPRT_CFG p) fPRT_CFG_FC_MODE = 1 → n ≠ 0 →
    s.dev.wdTripped p 0 = false → (s.dev.portSt p).stops = [] →
    Completes (.pauseFrameReceive p false vec [n]) s fun e =>
      (e.portSt p).stops = [(0, s.dev.trk.tick + 1, s.dev.trk.tick + 1 + quantaTicks (s.dev.portSt p).mode n)] ∧
      e.b (rPRT_STATUS p) fPRT_STATUS_PAUSED_RX = true) ∧
  (∀ s (p : Fin 512) pfc vec quanta, s.dev.isUp p = false → NoEffect (.pauseFrameReceive p pfc vec quanta) s) ∧
  (∀ s (p : Fin 512) (q : Fin 8) a b, (s.dev.portSt p).stops = [(q.val, a, b)] → b ≤ s.dev.trk.tick →
    Completes (.pauseExpire p q) s fun e => (e.portSt p).stops = [] ∧ e.b (rPRT_STATUS p) fPRT_STATUS_PAUSED_RX = false) ∧
  (∀ s (p : Fin 512) (q : Fin 8), (s.dev.portSt p).stops = [] → NoEffect (.pauseExpire p q) s) ∧
  (∀ s (p : Fin 512) (q : Fin 8) t, (s.dev.portSt p).stopSince.find? (fun o => o.1 = q.val) = some (q.val, t) →
    s.dev.lf (rPRT_PFC_WD p) fPRT_PFC_WD_WD_MS ≠ 0 →
    t + s.dev.lf (rPRT_PFC_WD p) fPRT_PFC_WD_WD_MS * 100000 ≤ s.dev.trk.tick → s.dev.wdTripped p q = false →
    Completes (.pfcWdTrip p q) s fun e => e.wdTripped p q = true ∧
      (e.portSt p).stops = (s.dev.portSt p).stops.filter fun o => decide (o.1 ≠ q.val)) ∧
  (∀ s (p : Fin 512) (q : Fin 8), s.dev.wdTripped p q = true →
    kvGet 0 (s.dev.portSt p).lastXoff q + max 1 (s.dev.lf (rPRT_PFC_WD p) fPRT_PFC_WD_RESTORE_MS * 100000) ≤ s.dev.trk.tick →
    Completes (.pfcWdRestore p q) s fun e => e.wdTripped p q = false) ∧
  (∀ s (p : Fin 512) (q : Fin 8), s.dev.wdTripped p q = false → NoEffect (.pfcWdRestore p q) s)

/-- R81 to R84, R456: fewer lanes and all of them. -/
def Obligations.LanesShedAndWake : Prop :=
  (∀ s (p : Fin 512) tx rx, s.dev.shedOk p = true → s.dev.lf (rPRT_SHED p) fPRT_SHED_WINDOW_RODS ≠ 0 →
    tx < s.dev.lf (rPRT_SHED p) fPRT_SHED_SHED_PCT → rx < s.dev.lf (rPRT_SHED p) fPRT_SHED_SHED_PCT →
    (s.dev.portSt p).shedBlocked ≤ s.dev.rod → (s.dev.portSt p).shedAsked = none → (s.dev.portSt p).shedRod = none →
    Completes (.shedProposal p tx rx) s fun e => ∃ r, (e.portSt p).shedAsked = some r ∧ s.dev.trk.tick + 2000 ≤ r * 1000 ∧
      r * 1000 < s.dev.trk.tick + 3000) ∧
  (∀ s (p : Fin 512) tx rx, s.dev.shedOk p = false → NoEffect (.shedProposal p tx rx) s) ∧
  (∀ s (p : Fin 512) r n, (s.dev.portSt p).shedRod = some r → s.dev.rod = r →
    s.dev.f (rPRT_STATUS p) fPRT_STATUS_ACTIVE_LANES_LOG2 = n + 1 →
    Completes (.shedStep p) s fun e => (e.portSt p).shedRod = none ∧ e.f (rPRT_STATUS p) fPRT_STATUS_ACTIVE_LANES_LOG2 = n) ∧
  (∀ s (p : Fin 512) tx, s.dev.isUp p = true →
    s.dev.f (rPRT_STATUS p) fPRT_STATUS_ACTIVE_LANES_LOG2 < log2Lanes (modeLanes (s.dev.portSt p).mode) →
    (s.dev.portSt p).wakeRod = none → s.dev.lf (rPRT_SHED p) fPRT_SHED_WAKE_PCT < tx →
    Completes (.wakeProposal p tx) s fun e => (e.portSt p).wakeRod = some s.dev.wakeAt) ∧
  (∀ s (p : Fin 512) r, (s.dev.portSt p).wakeRod = some r → s.dev.rod = r →
    Completes (.laneRestore p) s fun e => (e.portSt p).wakeRod = none ∧ (e.portSt p).shedRod = none ∧
      e.f (rPRT_STATUS p) fPRT_STATUS_ACTIVE_LANES_LOG2 = log2Lanes (modeLanes (s.dev.portSt p).mode)) ∧
  (∀ s (p : Fin 512) rod lanes tx rx, s.dev.shedOk p = true → tx < s.dev.lf (rPRT_SHED p) fPRT_SHED_SHED_PCT →
    rx < s.dev.lf (rPRT_SHED p) fPRT_SHED_SHED_PCT → s.dev.rod < rod →
    lanes * 2 = 2 ^ s.dev.f (rPRT_STATUS p) fPRT_STATUS_ACTIVE_LANES_LOG2 → s.dev.domQ (dieOf p) = [] →
    Completes (.shedReq p rod lanes tx rx) s fun e => (e.portSt p).shedRod = some rod ∧ (e.portSt p).shedAsked = none) ∧
  (∀ s (p : Fin 512) rod, (s.dev.portSt p).shedAsked = some rod →
    (Completes (.shedAck p rod) s fun e => (e.portSt p).shedRod = some rod ∧ (e.portSt p).shedAsked = none) ∧
    (Completes (.shedNak p rod) s fun e => (e.portSt p).shedAsked = none ∧
      s.dev.rod ≤ (e.portSt p).shedBlocked)) ∧
  (∀ s (p : Fin 512) rod, Completes (.wakeReq p rod) s fun e => (e.portSt p).wakeRod = some rod) ∧
  (∀ s (p : Fin 512) idle, s.dev.isUp p = true → s.dev.lb (rPRT_CFG p) fPRT_CFG_EEE_EN = true → (s.dev.portSt p).eee = true →
    (s.dev.portSt p).mode ∈ [1, 2, 4] → s.dev.levelMember p = false → s.dev.pgOf p = none → s.dev.railOfPort p = [] →
    s.dev.anchored p = false → s.dev.lf (rPRT_EEE p) fPRT_EEE_IDLE_TICKS ≠ 0 → s.dev.lf (rPRT_EEE p) fPRT_EEE_IDLE_TICKS ≤ idle →
    (s.dev.portSt p).sending = none →
    Completes (.lpiEnter p idle) s fun e => e.b (rPRT_STATUS p) fPRT_STATUS_LPI_TX = true ∧ SameBut [.regs] s.dev e) ∧
  (∀ s (p : Fin 512) idle, idle < s.dev.lf (rPRT_EEE p) fPRT_EEE_IDLE_TICKS → NoEffect (.lpiEnter p idle) s)

/-- R85 to R87, R89, R90: protection groups and medium-boundary calibration. -/
def Obligations.ProtectionAndCalibration : Prop :=
  (∀ s (g : Fin 128) v, bits (s.dev.rn (rPRT_PG_CTRL g)) 31 31 = 0 → s.dev.b (rPRT_PG_STATUS g) fPRT_PG_STATUS_CFG_ERR = false →
    s.dev.pgCheck g (putBits (putBits v.toNat 31 31 1) 27 24 0) = true →
    Completes (.pgEnable g v) s fun e => e.b (rPRT_PG_CTRL g) fPRT_PG_CTRL_EN = true ∧
      e.rn (rPRT_PG_CTRL g) = putBits (putBits v.toNat 31 31 1) 27 24 0) ∧
  (∀ s (g : Fin 128) v, bits (s.dev.rn (rPRT_PG_CTRL g)) 31 31 = 0 →
    s.dev.pgCheck g (putBits (putBits v.toNat 31 31 1) 27 24 0) = false →
    Completes (.pgEnable g v) s fun e => e.b (rPRT_PG_CTRL g) fPRT_PG_CTRL_EN = false ∧
      e.b (rPRT_PG_STATUS g) fPRT_PG_STATUS_CFG_ERR = true ∧ SameBut [.regs] s.dev e) ∧
  (∀ s (g : Fin 128) t m, (s.dev.pgSt g).switchAt = some t → t ≤ s.dev.trk.tick →
    (s.dev.pgMembers g).find? (fun m => s.dev.isUp m.2) = some m →
    Completes (.pgSwitch g) s fun e => e.f (rPRT_PG_STATUS g) fPRT_PG_STATUS_ACTIVE_IDX = m.1 ∧ (e.pgSt g).switchAt = none) ∧
  (∀ s (g : Fin 128), (s.dev.pgSt g).switchAt = none → NoEffect (.pgSwitch g) s) ∧
  (∀ s (g : Fin 128) m, s.dev.lb (rPRT_PG_CTRL g) fPRT_PG_CTRL_EN = true → s.dev.lb (rPRT_PG_CTRL g) fPRT_PG_CTRL_REVERTIVE = true →
    (s.dev.pgMembers g).find? (fun m => decide (m.1 < s.dev.f (rPRT_PG_STATUS g) fPRT_PG_STATUS_ACTIVE_IDX) && s.dev.isUp m.2 &&
      decide ((s.dev.portSt m.2).upTick + s.dev.lf (rPRT_PG_CTRL g) fPRT_PG_CTRL_WTR_DECKS * 100000 ≤ s.dev.trk.tick)) = some m →
    Completes (.pgRevert g) s fun e => e.f (rPRT_PG_STATUS g) fPRT_PG_STATUS_ACTIVE_IDX = m.1) ∧
  (∀ s (g : Fin 128), s.dev.lb (rPRT_PG_CTRL g) fPRT_PG_CTRL_REVERTIVE = false → NoEffect (.pgRevert g) s) ∧
  (∀ s (n : Fin 512) temp, s.dev.calDue n temp = true → (s.dev.nrgTake 9).2 = true →
    Completes (.laneCalTrigger n temp) s fun e => n.val ∈ e.port.calRunning ∧ kvGet 0 e.port.calTick n = s.dev.trk.tick ∧
      kvGet 0 e.port.calTemp n = temp + 1 ∧ SameBut [.port, .nrg] s.dev e) ∧
  (∀ s (n : Fin 512) rx tx, n.val ∈ s.dev.port.calRunning → Completes (.laneCalDone n rx tx true) s fun e =>
    n.val ∉ e.port.calRunning ∧
    e.port.calNew = s.dev.port.calNew.filter (fun x => decide (x.1 ≠ n.val)) ++ [(n.val, rx % 65536, tx % 65536)]) ∧
  (∀ s (n : Fin 512) rx tx, n.val ∈ s.dev.port.calRunning → Completes (.laneCalDone n rx tx false) s fun e =>
    n.val ∉ e.port.calRunning ∧ e.port.calNew = s.dev.port.calNew) ∧
  (∀ s (n : Fin 512) rx tx c, n.val ∉ s.dev.port.calRunning → NoEffect (.laneCalDone n rx tx c) s) ∧
  (∀ s (n : Fin 512) temp, s.dev.calDue n temp = false ∨ (s.dev.nrgTake 9).2 = false → NoEffect (.laneCalTrigger n temp) s)

/-- R92 to R97, R101 to R105: the rail. -/
def Obligations.RailGroups : Prop :=
  (∀ s (g : Fin 128) v, bits (s.dev.rn (rRAIL_GRP_CFG g)) 31 31 = 0 →
    s.dev.railCheck g (railCfgMerge (s.dev.rn (rRAIL_GRP_CFG g)) (putBits v.toNat 31 31 1)) = true →
    Completes (.railGroupEnable g v) s fun e => e.b (rRAIL_GRP_CFG g) fRAIL_GRP_CFG_EN = true ∧
      e.deferred = s.dev.deferred ++ [.railEnable g] ∧ SameBut [.regs, .deferred] s.dev e) ∧
  (∀ s (g : Fin 128) v, bits (s.dev.rn (rRAIL_GRP_CFG g)) 31 31 = 0 →
    s.dev.railCheck g (railCfgMerge (s.dev.rn (rRAIL_GRP_CFG g)) (putBits v.toNat 31 31 1)) = false →
    Completes (.railGroupEnable g v) s fun e => e.b (rRAIL_GRP_CFG g) fRAIL_GRP_CFG_EN = false ∧
      e.b (rRAIL_GRP_STATUS g) fRAIL_GRP_STATUS_CFG_ERR = true ∧ SameBut [.regs] s.dev e) ∧
  (∀ s (g : Fin 128) v, bits (s.dev.rn (rRAIL_GRP_CFG g)) 31 31 = 1 →
    Completes (.railGroupDisable g v) s fun e => e.b (rRAIL_GRP_CFG g) fRAIL_GRP_CFG_EN = false ∧
      e.deferred = s.dev.deferred ++ [.railDisable g] ∧ SameBut [.regs, .deferred] s.dev e) ∧
  (∀ s (n : Fin 512) v, bits v.toNat 31 31 = 1 → s.dev.railDstOk (bits v.toNat 6 0) n = true → s.dev.railDest n = false →
    Completes (.railDstConfigWrite n v) s fun e => e.railDest n = true ∧ (e.railD n).starting = true ∧
      e.f (rRAIL_DST_CFG n) fRAIL_DST_CFG_GROUP = bits v.toNat 6 0 ∧ SameBut [.regs, .rail] s.dev e) ∧
  (∀ s (n : Fin 512) v, bits v.toNat 31 31 = 1 → s.dev.railDstOk (bits v.toNat 6 0) n = false →
    Completes (.railDstConfigWrite n v) s fun e => e.rn (rRAIL_DST_CFG n) = s.dev.rn (rRAIL_DST_CFG n) ∧
      e.b (rRAIL_DST_STATUS n) fRAIL_DST_STATUS_CFG_ERR = true ∧ SameBut [.regs] s.dev e) ∧
  (∀ s (n : Fin 512), s.dev.railDest n = true → (s.dev.railD n).starting = true → (s.dev.railD n).retired = false →
    s.dev.railState (s.dev.f (rRAIL_DST_CFG n) fRAIL_DST_CFG_GROUP) = 2 →
    Completes (.railDstStart n) s fun e => e.f (rRAIL_DST_STATUS n) fRAIL_DST_STATUS_DSTATE = (if s.dev.railHeld n then 2 else 1) ∧
      (e.railD n).starting = false) ∧
  (∀ s (n : Fin 512), (s.dev.railD n).starting = false → NoEffect (.railDstStart n) s) ∧
  (∀ s (g : Fin 128), s.dev.railReady g = true → Completes (.railActive g) s fun e => e.railState g = 2) ∧
  (∀ s (g : Fin 128), s.dev.railReady g = false → NoEffect (.railActive g) s) ∧
  (∀ s (g : Fin 128), s.dev.railState g = 2 → Completes (.railSrcLoss g) s fun e => e.railState g = 3 ∧
    e.b (rRAIL_GRP_STATUS g) fRAIL_GRP_STATUS_SRC_LOSS_EVT = true ∧ s.dev.railSel g ∉ e.port.cdr) ∧
  (∀ s (g : Fin 128), s.dev.railState g = 3 → s.dev.b (rRAIL_GRP_CFG g) fRAIL_GRP_CFG_ALT_EN = true →
    s.dev.railOther g ∈ s.dev.port.cdr → Completes (.railAltSwitch g) s fun e => e.railState g = 2 ∧
      e.b (rRAIL_GRP_STATUS g) fRAIL_GRP_STATUS_ON_ALT = !s.dev.b (rRAIL_GRP_STATUS g) fRAIL_GRP_STATUS_ON_ALT) ∧
  (∀ s (g : Fin 128), s.dev.railState g = 3 → s.dev.b (rRAIL_GRP_CFG g) fRAIL_GRP_CFG_ALT_EN = false →
    Completes (.railSrcReturn g) s fun e => e.railState g = 2 ∧ s.dev.railSel g ∈ e.port.cdr) ∧
  (∀ s (g : Fin 128), s.dev.railState g ≠ 3 → NoEffect (.railAltSwitch g) s ∧ NoEffect (.railSrcReturn g) s) ∧
  (∀ s (g : Fin 128), s.dev.b (rRAIL_GRP_STATUS g) fRAIL_GRP_STATUS_ON_ALT = true → s.dev.railOther g ∈ s.dev.port.cdr →
    Completes (.selPrimary g) s fun e => e = { s.dev with deferred := s.dev.deferred ++ [.railPrimary g] }) ∧
  (∀ s (g : Fin 128), s.dev.railOther g ∉ s.dev.port.cdr → NoEffect (.selPrimary g) s) ∧
  (∀ s (n : Fin 512), s.dev.railDest n = true → (s.dev.railD n).retired = false → Completes (.railDstRetired n) s fun e =>
    (e.railD n).retired = true ∧ e.f (rRAIL_DST_STATUS n) fRAIL_DST_STATUS_DSTATE = 3 ∧
    e.deferred = s.dev.deferred ++ [.railIdle n] ∧ Reported s.dev e (n.val / 256) 0xC 2 8 n) ∧
  (∀ s (n : Fin 512) pos x, (s.dev.railD n).target = some (pos, x) → pos < 4096 → Completes (.railFifoAdjustDone n) s fun e =>
    e.f (rRAIL_DST_STATUS n) fRAIL_DST_STATUS_FIFO_POS = pos ∧ e.b (rRAIL_DST_STATUS n) fRAIL_DST_STATUS_ADJUSTING = false ∧
    (e.railD n).target = none) ∧
  (∀ s (n : Fin 512), (s.dev.railD n).target = none → NoEffect (.railFifoAdjustDone n) s)

/-- R133, R151, R155, R160, R163, R165, R170: the table engine. -/
def Obligations.ParserAndTableEngine : Prop :=
  (∀ s (die : Fin 2) v, bits v.toNat 0 0 = 1 → s.dev.b (rPAR_STATUS die) fPAR_STATUS_OLD_BANK_BUSY = false →
    .parSwap die.val ∉ s.dev.deferred → Completes (.parserSwap die v) s fun e =>
      e.deferred = s.dev.deferred ++ [.parSwap die] ∧ e.b (rPAR_STATUS die) fPAR_STATUS_SWAP_PENDING = true ∧
      SameBut [.regs, .deferred] s.dev e) ∧
  (∀ s (die : Fin 2) v, bits v.toNat 0 0 = 1 → s.dev.b (rPAR_STATUS die) fPAR_STATUS_OLD_BANK_BUSY = true →
    Completes (.parserSwap die v) s fun e => e.b (rPAR_STATUS die) fPAR_STATUS_SWAP_REFUSED = true ∧ SameBut [.regs] s.dev e) ∧
  (∀ s (die : Fin 2) v, bits v.toNat 0 0 = 0 → NoEffect (.parserSwap die v) s) ∧
  (∀ s (die : Fin 2) (tn : Fin 128) t j m x l, s.dev.tbl.mem.table die tn = some t → s.dev.jobOf die tn = some j →
    j.moves = m :: x :: l →
    (t.type = 1 → Completes (.emMoveStep die tn) s fun e => e.tbl.mem.table die tn = some (t.moved [m]) ∧
      { j with moves := x :: l } ∈ e.tbl.jobs) ∧
    (t.type = 4 → Completes (.tcamRowMove die tn) s fun e => e.tbl.mem.table die tn = some (t.moved [m]) ∧
      { j with moves := x :: l } ∈ e.tbl.jobs)) ∧
  (∀ s (die : Fin 2) (tn : Fin 128) t j m, s.dev.tbl.mem.table die tn = some t → s.dev.jobOf die tn = some j → j.moves = [m] →
    t.type = 1 → Completes (.emMoveStep die tn) s fun e => j ∉ e.tbl.jobs ∧ ∃ t1, e.tbl.mem.table die tn = some t1 ∧
      t1.entries = ({ t.moved [m] with entries := (t.moved [m]).entries ++ [j.entry] } : Table).unmark.entries) ∧
  (∀ s (die : Fin 2) (tn : Fin 128), s.dev.jobOf die tn = none → NoEffect (.emMoveStep die tn) s ∧ NoEffect (.tcamRowMove die tn) s) ∧
  (∀ s (die : Fin 2) (tn : Fin 128) t h, (die.val, tn.val) ∈ s.dev.tbl.respace → s.dev.lb (rTBL_CTRL die) fTBL_CTRL_RESPACE_EN = true →
    kvGet none s.dev.nrg.units 10 = none → s.dev.tbl.mem.table die tn = some t → t.holes = some h →
    Completes (.tcamRespacingSweep die tn) s fun e => (die.val, tn.val) ∉ e.tbl.respace ∧
      ∃ t1, e.tbl.mem.table die tn = some t1 ∧ t1.entries.map (·.place) = respaced t.rows h t.entries.length) ∧
  (∀ s (die : Fin 2) (tn : Fin 128), Completes (.lpmNodeFree die tn) s fun e =>
    (∀ x ∈ e.tbl.oldNodes, x ∈ s.dev.tbl.oldNodes ∧ (x.1 = die.val → x.2.1 = tn.val → s.dev.trk.tick < x.2.2 + 2)) ∧ SameBut [.tbl] s.dev e) ∧
  (∀ s (die : Fin 2) tcam no, s.dev.scrubOn die tcam = true → kvGet none s.dev.nrg.units 7 = none →
    Completes (.tableScrubStep die tcam (.corrected no) false) s fun e => Reported s.dev e die 0xB 4 1 no ∧ e.tbl = s.dev.tbl) ∧
  (∀ s (die : Fin 2) tcam no place t, s.dev.scrubOn die tcam = true → kvGet none s.dev.nrg.units 7 = none →
    s.dev.tbl.mem.table die no = some t →
    Completes (.tableScrubStep die tcam (.entry no place) false) s fun e => Reported s.dev e die 0xC 4 2 no ∧
      ∃ t1, e.tbl.mem.table die no = some t1 ∧ ∀ x ∈ t1.entries, x.place = place → x.poisoned = true) ∧
  (∀ s (die : Fin 2) tcam find pe, s.dev.scrubOn die tcam = false → NoEffect (.tableScrubStep die tcam find pe) s) ∧
  (∀ s, s.dev.prevHeld = true → s.dev.tbl.commitTick + 8 ≤ s.dev.trk.tick → s.dev.verInIngress (s.dev.verPrev 0) = false →
    s.dev.batches = [] → Completes .versionRetire s fun e => e.prevHeld = false ∧ e.tbl.prevBind = [] ∧ e.tbl.live = e.tbl.mem) ∧
  (∀ s, s.dev.prevHeld = false → NoEffect .versionRetire s)

/-- R115: the choice among a state's transitions. -/
def Obligations.TransitionsByIndex : Prop :=
  (∀ (b : ParBank) (sel base count i : Nat),
    base ≤ i → i < base + count →
    ebit (b.transition i) 9 7 = true → Nat.land sel (beAt (b.transition i) 4 4) = beAt (b.transition i) 0 4 →
    (∀ j, base ≤ j → j < i →
      ¬ (ebit (b.transition j) 9 7 = true ∧ Nat.land sel (beAt (b.transition j) 4 4) = beAt (b.transition j) 0 4)) →
    findTrans b sel base count = some (b.transition i)) ∧
  (∀ (b : ParBank) (sel base count : Nat),
    findTrans b sel base count = none ↔
      ∀ i, base ≤ i → i < base + count →
        ¬ (ebit (b.transition i) 9 7 = true ∧ Nat.land sel (beAt (b.transition i) 4 4) = beAt (b.transition i) 0 4)) ∧
  (∀ (b : ParBank) (e data : List Byte) (h i : Nat),
    ebit e 0 5 = false → eb e 17 ≠ 0 → beAt e 26 2 ≤ i → i < beAt e 26 2 + beAt e 28 2 →
    ebit (b.transition i) 9 7 = true →
    Nat.land (Nat.land (beAt data (h + eb e 16) (eb e 17)) (beAt e 20 4)) (beAt (b.transition i) 4 4) = beAt (b.transition i) 0 4 →
    (∀ j, beAt e 26 2 ≤ j → j < i → ¬ (ebit (b.transition j) 9 7 = true ∧
      Nat.land (Nat.land (beAt data (h + eb e 16) (eb e 17)) (beAt e 20 4)) (beAt (b.transition j) 4 4) = beAt (b.transition j) 0 4)) →
    nextState b e data h = if ebit (b.transition i) 9 0 then none else some (eb (b.transition i) 8))

/-- R195, R199, R210, R215 to R217, R219, R227, R228: the flow engine at work. -/
def Obligations.FlowEngineWork : Prop :=
  (∀ s (die : Fin 2) pc, Live s → Completes (.flowWritebackDone die pc) s fun e =>
    (e.flw die).wbs = (s.dev.flw die).wbs.erase pc ∧ (e.flw die).lookups = (s.dev.flw die).lookups) ∧
  (∀ s (die : Fin 2) n x, Live s → (s.dev.flw die).kills[n]? = some x → (∀ l ∈ (s.dev.flw die).lookups, l.fk.key ≠ x.key) →
    x.stored + 50 ≤ s.dev.trk.tick →
    Completes (.killEntryRelease die n) s fun e => (e.flw die).kills = (s.dev.flw die).kills.erase x) ∧
  (∀ s (die : Fin 2) n x, (s.dev.flw die).kills[n]? = some x → s.dev.trk.tick < x.stored + 50 → NoEffect (.killEntryRelease die n) s) ∧
  (∀ s (die : Fin 2) loc y body hit l, Live s → ((s.dev.flw die).bucket (locBucket loc.toNat)).slot (locSlot loc.toNat) = some y →
    s.dev.recSeen die (s.dev.recFk die y.body) = some (body, hit, l) → (s.dev.flw die).exports.length < 65536 →
    s.dev.lf (rFLW_IPFIX_CFG die) fFLW_IPFIX_CFG_ACTIVE_DECKS ≠ 0 → (s.dev.deck + 2 ^ 32 - beAt body 60 4) % 2 ^ 32 ≠ 0 →
    (s.dev.deck + 2 ^ 32 - beAt body 60 4) % 2 ^ 32 % s.dev.lf (rFLW_IPFIX_CFG die) fFLW_IPFIX_CFG_ACTIVE_DECKS = 0 →
    s.dev.exported die body = true →
    Completes (.ipfixPeriodicExport die loc) s fun e => (e.flw die).exports =
      (s.dev.flw die).exports ++ [{ profile := recProfile body, body := body, lastHit := hit }]) ∧
  (∀ s (die : Fin 2) p, Live s → s.dev.lb (rFLW_CTRL die) fFLW_CTRL_EXPORT_EN = true → s.dev.deck % 1000 = 0 →
    (List.range 16).filter (fun p => s.dev.lb (rFLW_PROF_B die p) fFLW_PROF_B_EXPORT ||
      decide (s.dev.lf (rFLW_PROF_A die p) fFLW_PROF_A_KIND = 3)) = [p] →
    Completes (.ipfixTemplateResend die) s fun e => ∃ n body, e = (s.dev.used n).ipfixSend die 2 (beBytes 2 (256 + p) ++ body)) ∧
  (∀ s (die : Fin 2), s.dev.deck % 1000 ≠ 0 → NoEffect (.ipfixTemplateResend die) s) ∧
  (∀ s (die : Fin 2), Live s → (s.dev.flw die).exports ≠ [] → kvGet none s.dev.nrg.units 3 = none →
    Completes (.exportTask die) s fun e => ∃ n, 0 < n ∧ (e.flw die).exports = (s.dev.flw die).exports.drop n) ∧
  (∀ s (die : Fin 2) x y, Live s → (s.dev.flw die).learns.find? (fun e => !e.started) = some x → (s.dev.flw die).ops.length < 4096 →
    s.dev.opOn die x.fk = none → (s.dev.hbmFind die (s.dev.fkey die x.fk.profile x.fk.key)).1 = some y →
    Completes (.learnTask die) s fun e => ∀ z ∈ (e.flw die).learns, learnIs (s.dev.fkey die x.fk.profile x.fk.key) z = false) ∧
  (∀ s (die : Fin 2) n o b sl second, Live s → (s.dev.flw die).ops[n]? = some o → o.moves = [] → o.dest = some (b, sl, second) →
    Completes (.flowPlaceCommit die n) s fun e => o ∉ (e.flw die).ops ∧ ∃ y, ((e.flw die).bucket b).slot sl = some y ∧
      y.fp = fingerprint o.fk ∧ y.second = second ∧ y.valid = true) ∧
  (∀ s (die : Fin 2) n x r, Live s → (s.dev.flw die).learns[n]? = some x → x.hold = some r → r ≤ s.dev.rod →
    Completes (.learnHoldExpire die n) s fun e => (e.flw die).learns = (s.dev.flw die).learns.eraseIdx n) ∧
  (∀ s (die : Fin 2), Live s → s.dev.lb (rFLW_AGE_CFG die) fFLW_AGE_CFG_EN = true → s.dev.buckets die ≠ 0 →
    s.dev.b (rFLW_STATUS die) fFLW_STATUS_READY = true → kvGet none s.dev.nrg.units 5 = none →
    Completes (.ageSweepVisit die) s fun e => (e.flw die).sweepDone = (s.dev.flw die).sweepDone + 1) ∧
  (∀ s (die : Fin 2), s.dev.lb (rFLW_AGE_CFG die) fFLW_AGE_CFG_EN = false → NoEffect (.ageSweepVisit die) s) ∧
  (∀ s (die : Fin 2) loc hit l, Live s → (s.dev.flw die).cads = (loc, hit) :: l →
    Completes (.compareAndDelete die) s fun e => (e.flw die).cads = l ∧
      (((s.dev.flw die).bucket (locBucket loc)).slot (locSlot loc) = none → Counted s.dev e (rFLW_RACE_CNT_LO die 9) 1 ∧
        (e.flw die).buckets = (s.dev.flw die).buckets))

/-- R221, R224, R225, R234, R237, R238: moves, retirement, rehash. -/
def Obligations.FlowMovesAndRehash : Prop :=
  (∀ s (die : Fin 2) n o m l d1, Live s → (s.dev.flw die).ops[n]? = some o → o.moving = none → o.moves = m :: l →
    s.dev.moveCopy die m = some d1 →
    Completes (.moveLockCopy die n) s fun e => { o with moving := some s.dev.trk.tick } ∈ (e.flw die).ops) ∧
  (∀ s (die : Fin 2) n o t m l y, Live s → (s.dev.flw die).ops[n]? = some o → o.moving = some t → o.moves = m :: l →
    o.moveOnly = false → ((s.dev.flw die).bucket m.2.2.1).slot m.2.2.2 = some y → (m.1, m.2.1) ≠ (m.2.2.1, m.2.2.2) →
    Completes (.moveSwitch die n) s fun e => { o with moves := l, moving := none } ∈ (e.flw die).ops ∧
      ((e.flw die).bucket m.1).slot m.2.1 = none) ∧
  (∀ s (die : Fin 2) n, (s.dev.flw die).ops[n]? = none → NoEffect (.moveLockCopy die n) s ∧ NoEffect (.moveSwitch die n) s ∧
    NoEffect (.flowPlaceCommit die n) s) ∧
  (∀ s (die : Fin 2) j, Live s → (s.dev.flw die).retire = some j → j.row + 1 < j.rows →
    Completes (.retireRowCopy die) s fun e => (e.flw die).retire = some { j with row := j.row + 1 }) ∧
  (∀ s (die : Fin 2) j, Live s → (s.dev.flw die).retire = some j → j.rows ≤ j.row + 1 →
    Completes (.retireRowCopy die) s fun e => (e.flw die).retire = none) ∧
  (∀ s (die : Fin 2), (s.dev.flw die).retire = none → NoEffect (.retireRowCopy die) s) ∧
  (∀ s (die : Fin 2), Live s → (s.dev.flw die).rehashOn = true → s.dev.flwDual die = true →
    s.dev.lf (rFLW_REHASH_CFG die) fFLW_REHASH_CFG_RATE ≠ 0 →
    s.dev.f (rFLW_REHASH_PTR die) fFLW_REHASH_PTR_BUCKET + 1 < s.dev.buckets die →
    Completes (.rehashMigrateStep die) s fun e =>
      e.f (rFLW_REHASH_PTR die) fFLW_REHASH_PTR_BUCKET =
        (s.dev.f (rFLW_REHASH_PTR die) fFLW_REHASH_PTR_BUCKET + 1) % 2 ^ 27) ∧
  (∀ s (die : Fin 2), (s.dev.flw die).rehashOn = false → NoEffect (.rehashMigrateStep die) s) ∧
  (∀ s (die : Fin 2) n, (s.dev.flw die).flushSet = some n → n + 1 < 16384 →
    (s.dev.flw die).wbs.length + ((s.dev.flw die).set n).countP (fun l => s.dev.needsWb die l) ≤ 12288 →
    Completes (.flowCacheFlush die) s fun e => (e.flw die).flushSet = some (n + 1) ∧ (e.flw die).set n = []) ∧
  (∀ s (die : Fin 2), (s.dev.flw die).flushSet = none → NoEffect (.flowCacheFlush die) s) ∧
  (∀ s (die : Fin 2) j, Live s → (s.dev.flw die).retire = some j → j.row + 1 < j.rows →
    Completes (.flowEngineTask die 2) s fun e => (e.flw die).retire = some { j with row := j.row + 1 })

/-- R243, R259 to R264, R276, R279, R280, R284, R285, R289: settings and periodic work of the buffer and the levels. -/
def Obligations.BufferAndLevelSettings : Prop :=
  (∀ s r v, s.dev.deepRefused r v.toNat = false →
    (∀ die ∈ resvDies r, resvIn (s.dev.plainWrite (resvAddr r) v.toNat).regs s.dev.treePorts die ≤ 294912) →
    Completes (.reserveWrite r v) s fun e => e = s.dev.plainWrite (resvAddr r) v.toNat) ∧
  (∀ s (die : Fin 2) v, 294912 < resvIn (s.dev.plainWrite (rBUF_LEVEL_POOL die) v.toNat).regs s.dev.treePorts die →
    Completes (.reserveWrite (.levelPool die) v) s fun e => e.rn (rBUF_LEVEL_POOL die) = s.dev.rn (rBUF_LEVEL_POOL die) ∧
      e.b (rBUF_STATUS die) fBUF_STATUS_RESV_ERR = true) ∧
  (∀ s (die : Fin 2), s.dev.lb (rBUF_AUDIT_CFG die) fBUF_AUDIT_CFG_EN = true → s.dev.lf (rBUF_AUDIT_CFG die) fBUF_AUDIT_CFG_PERIOD_DECKS ≠ 0 →
    (s.dev.buf die).auditTick + s.dev.lf (rBUF_AUDIT_CFG die) fBUF_AUDIT_CFG_PERIOD_DECKS * 100000 ≤ s.dev.trk.tick →
    kvGet none s.dev.nrg.units 8 = none →
    (Completes (.auditPass die [] 0 []) s fun e => (e.buf die).auditTick = s.dev.trk.tick ∧ (e.buf die).auditSeen = [] ∧
      SameBut [.path] s.dev e) ∧
    (∀ n, 0 < n → Completes (.auditPass die [] n []) s fun e => (e.buf die).auditTick = s.dev.trk.tick ∧ Reported s.dev e die 0xC 6 2 0)) ∧
  (∀ s (die : Fin 2) leaked used beyond, s.dev.lb (rBUF_AUDIT_CFG die) fBUF_AUDIT_CFG_EN = false →
    NoEffect (.auditPass die leaked used beyond) s) ∧
  (∀ s (die : Fin 2) (q : Fin 4096), Live s → (s.dev.queue die q).spilled = true → 4 ≤ (s.dev.queue die q).tailCells →
    ((s.dev.buf die).queues.map (·.2.rows)).sum < s.dev.spillRows → (s.dev.buf die).queues.any (fun e => s.dev.readbackDue die e.2) = false →
    kvGet none s.dev.nrg.units 0 = none →
    Completes (.spillRowWrite die q) s fun e => (e.queue die q).tailCells = (s.dev.queue die q).tailCells - 4 ∧
      (e.queue die q).rows = (s.dev.queue die q).rows + 1) ∧
  (∀ s (die : Fin 2) (q : Fin 4096), (s.dev.queue die q).spilled = false → NoEffect (.spillRowWrite die q) s ∧
    NoEffect (.spillRowReadback die q) s) ∧
  (∀ s (die : Fin 2) (q : Fin 4096) n, Live s → s.dev.readbackDue die (s.dev.queue die q) = true → (s.dev.queue die q).rows = n + 2 →
    kvGet none s.dev.nrg.units 0 = none →
    Completes (.spillRowReadback die q) s fun e => (e.queue die q).rows = n + 1 ∧ (e.queue die q).spilled = true) ∧
  (∀ s r v, s.dev.schCheck r v.toNat = .ok → (∀ die, r ≠ .smpCfg die) →
    Completes (.shaperConfigWrite r v) s fun e => e = s.dev.plainWrite (schAddr r) v.toNat) ∧
  (∀ s r v, s.dev.schCheck r v.toNat = .ignored → NoEffect (.shaperConfigWrite r v) s) ∧
  (∀ s r v a, s.dev.schCheck r v.toNat = .err a → Completes (.shaperConfigWrite r v) s fun e =>
    e.b (rSCH_STATUS (schDie r)) fSCH_STATUS_CFG_ERR = true ∧ SameBut [.regs] s.dev e) ∧
  (∀ s (die : Fin 2) n, Live s → s.dev.lf (rSCH_SMP_CFG die) fSCH_SMP_CFG_PERIOD_RODS ≠ 0 →
    s.dev.rod % s.dev.lf (rSCH_SMP_CFG die) fSCH_SMP_CFG_PERIOD_RODS = 0 → s.dev.committed = true → kvGet none s.dev.nrg.units 4 = none →
    ((List.range 4096).filter fun q => s.dev.lb (rSCH_Q_CFG die q) fSCH_Q_CFG_SMP).length = n →
    (s.dev.rn (rSCH_SMP_WR die) + 2 ^ 32 - s.dev.rn (rSCH_SMP_RD die)) % 2 ^ 32 + n ≤
      2 ^ s.dev.f (rSCH_SMP_CFG die) fSCH_SMP_CFG_RING_LOG2 →
    Completes (.queueSamplePeriod die) s fun e => e.rn (rSCH_SMP_WR die) = (s.dev.rn (rSCH_SMP_WR die) + n) % 2 ^ 32 ∧
      ∀ q < 4096, s.dev.lb (rSCH_Q_CFG die q) fSCH_Q_CFG_SMP = true → (e.queue die q).maxSojourn = 0 ∧
        (e.queue die q).bytesDeq = 0 ∧ (e.queue die q).refused = 0) ∧
  (∀ s (die : Fin 2), s.dev.lf (rSCH_SMP_CFG die) fSCH_SMP_CFG_PERIOD_RODS = 0 → NoEffect (.queueSamplePeriod die) s) ∧
  (∀ s (g : Fin 1024) v, 60 ≤ bits v.toNat 16 0 → bits v.toNat 16 0 ≤ 100000 → bits v.toNat 28 27 < 2 →
    s.dev.b (rLVL_GRP_CFG g) fLVL_GRP_CFG_EN = false →
    Completes (.levelGroupCfgWrite g v) s fun e => e.f (rLVL_GRP_STATUS g) fLVL_GRP_STATUS_L_PREV = bits v.toNat 16 0 ∧
      SameBut [.regs] s.dev e) ∧
  (∀ s (g : Fin 1024) v, bits v.toNat 16 0 < 60 ∨ 100000 < bits v.toNat 16 0 →
    Completes (.levelGroupCfgWrite g v) s fun e => e.b (rLVL_GRP_STATUS g) fLVL_GRP_STATUS_CFG_ERR = true ∧
      e.rn (rLVL_GRP_CFG g) = s.dev.rn (rLVL_GRP_CFG g)) ∧
  (∀ s (n : Fin 1024) v, s.dev.lvlQueueOk n v.toNat = true → Completes (.levelQueueCfgWrite n v) s fun e =>
    e = s.dev.plainWrite (rLVL_Q_CFG n) v.toNat) ∧
  (∀ s (n : Fin 1024) v, s.dev.lvlQueueOk n v.toNat = false → Completes (.levelQueueCfgWrite n v) s fun e =>
    e.b rLVL_STATUS fLVL_STATUS_CFG_ERR = true ∧ e.rn (rLVL_Q_CFG n) = s.dev.rn (rLVL_Q_CFG n) ∧ SameBut [.regs] s.dev e)

/-- R412, R513, R514, R526, R528, R533, R544, R550, R553: the four JTAG instructions, and events at the board. The identification code and the list of balls with boundary cells are the model's
reading (log entry 70). -/
def Obligations.JtagAndBoard : Prop :=
  (∀ s, Completes .bypass s fun e => e = { s.dev with board := { s.dev.board with jtagIr := 0, jtagOut := 0 } }) ∧
  (∀ s, memByte s.otp.factory 2 = 0xA1 → Completes .idcode s fun e =>
    e.board.jtagIr = 1 ∧ e.board.jtagOut =
      0x1 * 2 ^ 28 + 0x5120 * 2 ^ 12 + bits (ofBe (memRead s.otp.factory 28 2)) 10 0 * 2 + 1 ∧ e.regs = s.dev.regs) ∧
  (∀ s pins load, s.dev.board.perst = true → Completes (.samplePreload pins load) s fun e =>
    e = { s.dev with board := { s.dev.board with
      jtagIr := 2, jtagOut := 0, boundary := load.filter fun x => boundaryBall x.1
      sampled := pins.filter fun x => boundaryBall x.1 } }) ∧
  (∀ s pins, s.dev.board.perst = true → Completes (.extest pins) s fun e =>
    e = { s.dev with board := { s.dev.board with
      jtagIr := 3, jtagOut := 0, sampled := pins.filter fun x => boundaryBall x.1 } }) ∧
  (∀ s pins load, s.dev.board.perst = false →
    exec (.samplePreload pins load) s = exec .bypass s ∧ exec (.extest pins) s = exec .bypass s) ∧
  (∀ s n, s.dev.b rOTP_BOOT_STATUS fOTP_BOOT_STATUS_COMMAND_READY = true → Completes (.refclkLoss n) s fun e =>
    Reported s.dev e 0 0xD 24 0x0B (n.val + 1) ∧ e.regs = s.dev.regs ∧ e.trk = s.dev.trk) ∧
  (∀ s temps, (∀ t ∈ temps.toList, t.toNat < 100) → Completes (.junctionSensorSample temps) s fun e =>
    e.flt = s.dev.flt ∧ e.regs = s.dev.regs ∧ e.board.anyHot = false ∧ e.board.thermtrip = s.dev.board.thermtrip ∧
    (∀ k ∈ e.board.hot, k ∈ s.dev.board.hot)) ∧
  (∀ s temps, (∃ t ∈ temps.toList, 115 ≤ t.toNat) → Completes (.junctionSensorSample temps) s fun e =>
    e.board.thermtrip = true ∧ e.board.anyHot = true) ∧
  (∀ s gen width, s.dev.stepDone 1 = true → s.dev.board.perst = false → s.dev.host.linkUp = false → 1 ≤ gen.val →
    gen.val ≤ (if bits (beAt s.dev.board.gen 5 1) 2 0 = 0 ∨ bits (beAt s.dev.board.gen 5 1) 2 0 = 7 then 6
      else bits (beAt s.dev.board.gen 5 1) 2 0) →
    width.val ∈ (if bits (beAt s.dev.board.gen 5 1) 3 3 = 1 then [8] else [1, 2, 4, 8, 16]) →
    Completes (.pcieLinkUp gen width) s fun e =>
      e.host = { s.dev.host with linkUp := true } ∧ e.f rDMA_STATUS fDMA_STATUS_WIDTH = width.val ∧
      e.f rDMA_STATUS fDMA_STATUS_GEN = gen.val) ∧
  (∀ s, s.dev.board.perst = true → ∀ gen width, NoEffect (.pcieLinkUp gen width) s) ∧
  (∀ s, Completes .otpWindowRead s fun e =>
    e.bus.rdata.toNat = ofBe ((List.range 4).map fun j =>
      s.otp.byte (s.dev.f rOTP_WIN_SEL fOTP_WIN_SEL_BANK) (s.dev.f rOTP_WIN_SEL fOTP_WIN_SEL_OFFSET / 4 * 4 + j)) ∧
    e.f rOTP_WIN_SEL fOTP_WIN_SEL_OFFSET = (s.dev.f rOTP_WIN_SEL fOTP_WIN_SEL_OFFSET / 4 * 4 + 4) % 1024 ∧
    (∀ a, a ≠ rOTP_WIN_SEL → e.rn a = s.dev.rn a)) ∧
  (∀ o k, k < 32 → OtpBanks.byte o 1 k = 0)

/-- R316 to R321: PTP messages. -/
def Obligations.PtpMessages : Prop :=
  (∀ s (p : Fin 512) bytes dt, Live s → s.dev.isUp p = true → s.dev.isPtp p bytes = true → dieOf p = 0 → s.dev.tim.q0.length < 1024 →
    Completes (.ptpFrameReceive p bytes dt) s fun e => e.tim.q0 = s.dev.tim.q0 ++
      [{ port := p, bytes := bytes, ts := stampOf (s.dev.nowT + dt), unc := s.dev.laneUnc p }]) ∧
  (∀ s (p : Fin 512) bytes dt, s.dev.isPtp p bytes = false → NoEffect (.ptpFrameReceive p bytes dt) s) ∧
  (∀ s f l dt bmca, Live s → s.dev.tim.q0 = f :: l → Completes (.timeTask 0 dt bmca) s fun e => e.tim.q0 = l) ∧
  (∀ s (p : Fin 512) dt, Live s → s.dev.isUp p = true → s.dev.ptpOn p = true → s.dev.pstate p = 2 →
    Completes (.ptpSyncSend p dt) s fun e =>
      (e.timPort p).seqSync = ((s.dev.timPort p).seqSync + 1) % 65536 ∧
      (∃ l, e.out.frames = s.dev.out.frames ++ l ∧ (∀ x ∈ l, x.port = p.val ∧ x.stomped = false) ∧
        l.length = if s.dev.lb (rTIM_PORT_CFG p) fTIM_PORT_CFG_ONE_STEP_EN then 1 else 2)) ∧
  (∀ s (p : Fin 512) dt, Live s → s.dev.isUp p = true → s.dev.ptpOn p = true →
    s.dev.f (rPRT_PARTNER p) fPRT_PARTNER_DELAY_MECH = 1 → s.dev.pstate p = 3 ∨ s.dev.pstate p = 5 →
    Completes (.ptpDelayReqSend p dt) s fun e =>
      (e.timPort p).req = some ((s.dev.timPort p).seqReq, s.dev.nowT + dt) ∧
      (∃ x, e.out.frames = s.dev.out.frames ++ [x] ∧ x.port = p.val)) ∧
  (∀ s (p : Fin 512) dt, Live s → s.dev.isUp p = true → s.dev.ptpOn p = true →
    s.dev.f (rPRT_PARTNER p) fPRT_PARTNER_DELAY_MECH = 2 → Completes (.ptpPdelayReqSend p dt) s fun e =>
      ∃ x, e.out.frames = s.dev.out.frames ++ [x] ∧ x.port = p.val) ∧
  (∀ s (p : Fin 512) dt, Live s → s.dev.isUp p = true → s.dev.ptpOn p = true → s.dev.pstate p = 2 →
    Completes (.ptpAnnounceSend p dt) s fun e =>
      (e.timPort p).seqAnn = ((s.dev.timPort p).seqAnn + 1) % 65536 ∧
      (∃ x, e.out.frames = s.dev.out.frames ++ [x] ∧ x.port = p.val)) ∧
  (∀ s (p : Fin 512) dt, s.dev.isUp p = false →
    NoEffect (.ptpSyncSend p dt) s ∧ NoEffect (.ptpDelayReqSend p dt) s ∧ NoEffect (.ptpPdelayReqSend p dt) s ∧
    NoEffect (.ptpAnnounceSend p dt) s)

/-- R311, R324 to R328, R333: the servo, its sources, the reference inputs and the time latch. -/
def Obligations.TimeSources : Prop :=
  (∀ s p o log l, s.dev.tim.waiting = (p, o, log) :: l → Completes .servoOffset s fun e =>
    e.tim.waiting = l ∧
    e.rn rTIM_OFFSET = wrapBits 32 (max (-(2 ^ 31)) (min (2 ^ 31 - 1) (o / 256))) % 2 ^ 32) ∧
  (∀ s, s.dev.tim.waiting = [] → NoEffect .servoOffset s) ∧
  (∀ s (p : Fin 512), s.dev.b (rTIM_PORT_STATE p) fTIM_PORT_STATE_EXCLUDED = true →
    (s.dev.timPort p).exclDeck + s.dev.lrn rTIM_EXCL_REINST ≤ s.dev.deck → Completes (.exclusionReinstate p) s fun e =>
      e.b (rTIM_PORT_STATE p) fTIM_PORT_STATE_EXCLUDED = false ∧ (∀ a, a ≠ rTIM_PORT_STATE p → e.rd a = s.dev.rd a) ∧
      e.pstate p = s.dev.pstate p ∧ SameBut [.regs] s.dev e) ∧
  (∀ s, s.dev.srcGone = true → s.dev.bestMonitor = none → Completes .ptpSourceLost s fun e =>
    e.f rTIM_STATUS fTIM_STATUS_SSTATE = 3 ∧ e.b rTIM_STATUS fTIM_STATUS_SRC_VALID = false ∧
    e.tim.hold = some (s.dev.uDom, s.dev.trk.tick) ∧ e.tim.waiting = []) ∧
  (∀ s, s.dev.srcGone = false → NoEffect .ptpSourceLost s) ∧
  (∀ s (i : Fin 3), s.dev.tim.refFail.contains i.val = false → Completes (.refInputFail i) s fun e =>
    i.val ∈ e.tim.refFail ∧ (∀ j ∈ s.dev.tim.refFail, j ∈ e.tim.refFail) ∧ SameBut [.tim] s.dev e) ∧
  (∀ s i, s.dev.lb rTIM_REF fTIM_REF_AUTO = true → s.dev.refOk (s.dev.f rTIM_STATUS fTIM_STATUS_REF_ACTIVE) = false →
    [2, 1, 0].find? s.dev.refOk = some i → Completes .refSwitch s fun e =>
      e.f rTIM_STATUS fTIM_STATUS_REF_ACTIVE = i ∧ e.b rTIM_STATUS fTIM_STATUS_SYNCE_IN_USE = decide (i = 2)) ∧
  (∀ s, s.dev.lb rTIM_REF fTIM_REF_AUTO = false → NoEffect .refSwitch s) ∧
  (∀ s, Completes .timeNowLatch s fun e =>
    e.bus.rdata = BitVec.ofNat 32 (s.dev.now / 2 ^ 48) ∧ e.rn rTIM_NOW_SEC_HI = s.dev.now / 2 ^ 48 / 2 ^ 32 % 2 ^ 32 ∧
    e.rn rTIM_NOW_NS = s.dev.now / 2 ^ 16 % 2 ^ 32 ∧ e.rn rTIM_NOW_FRAC = s.dev.now % 65536 ∧
    kvGet 0 e.bus.rdHold rTIM_UNC = s.dev.rd rTIM_UNC)

/-- R330, R331, R333: triggers and captures. -/
def Obligations.TriggersCaptures : Prop :=
  (∀ s (n : Fin 8) r v, s.dev.trigOk n r v.toNat = false → Completes (.timeTriggerWrite n r v) s fun e =>
    e.b (rTIM_TRIG_CFG n) fTIM_TRIG_CFG_CFG_ERR = true ∧ (∀ a, a ≠ rTIM_TRIG_CFG n → e.rd a = s.dev.rd a) ∧
    SameBut [.regs] s.dev e) ∧
  (∀ s (n : Fin 8) r v, r = .secLo ∨ r = .period ∨ r = .width → s.dev.trigOk n r v.toNat = true →
    s.dev.b (rTIM_TRIG_CFG n) fTIM_TRIG_CFG_EN = false → Completes (.timeTriggerWrite n r v) s fun e =>
      e.rn (trigAddr n r) = v.toNat ∧ (∀ a, a ≠ trigAddr n r → e.rd a = s.dev.rd a) ∧ SameBut [.regs, .tim] s.dev e) ∧
  (∀ s (n : Fin 8), Live s → s.dev.b (rTIM_TRIG_CFG n) fTIM_TRIG_CFG_EN = true →
    (∀ c, s.dev.trigPulses n = some c → (s.dev.trig n).next < 2 * c) →
    s.dev.trigEdge n (s.dev.trig n).next / 10 = s.dev.trk.tick → Completes (.triggerEdge n) s fun e =>
      e.trig n = { s.dev.trig n with next := (s.dev.trig n).next + 1, high := decide ((s.dev.trig n).next % 2 = 0) } ∧
      (∀ a, a ≠ rTIM_TRIG_STATUS n → e.rd a = s.dev.rd a) ∧ SameBut [.regs, .tim] s.dev e) ∧
  (∀ s (n : Fin 8), s.dev.b (rTIM_TRIG_CFG n) fTIM_TRIG_CFG_EN = false → NoEffect (.triggerEdge n) s) ∧
  (∀ s (n : Fin 9) dt, n.val ≠ 8 → s.dev.lb (rTIM_CAPT_CFG n) fTIM_CAPT_CFG_EN = true →
    s.dev.lf (rTIM_CAPT_CFG n) fTIM_CAPT_CFG_EDGE ≠ 2 → (s.dev.capt n).last = none → (s.dev.capt n).fifo.length < 64 →
    s.dev.lb (rTIM_CAPT_CFG n) fTIM_CAPT_CFG_JRN = false → Completes (.captureEdge n false dt) s fun e =>
      (e.capt n).fifo = (s.dev.capt n).fifo ++ [(stampOf (s.dev.nowT + dt), uncAdd s.dev.uDom 16, false)] ∧
      (e.capt n).last = some (s.dev.nowT + dt)) ∧
  (∀ s (n : Fin 9) f dt, s.dev.lb (rTIM_CAPT_CFG n) fTIM_CAPT_CFG_EN = false → NoEffect (.captureEdge n f dt) s) ∧
  (∀ s (n : Fin 9) st u fall l, (s.dev.capt n).fifo = (st, u, fall) :: l → Completes (.captureFifoPop n) s fun e =>
    (e.capt n).fifo = l ∧ e.bus.rdata = BitVec.ofNat 32 (st / 2 ^ 48) ∧
    e.rn (rTIM_CAPT_NS n) = st / 2 ^ 16 % 2 ^ 32) ∧
  (∀ s (n : Fin 9), (s.dev.capt n).fifo = [] → Completes (.captureFifoPop n) s fun e =>
    e.bus.rdata = 0 ∧ e.rn (rTIM_CAPT_SEC_HI n) = 0)

/-- R304, R313, R314, R322, R329, R330, R433: time commands. -/
def Obligations.TimeCommands : Prop :=
  (∀ s h sec ns, Live s → s.dev.isRoot = true → s.dev.srcValid = false → ns.toNat ≤ 999999999 →
    Answers (.timeSet h sec ns) s h 0x0600 stOk 0 [] fun e => e.tim.secSet = true ∧
      (s.dev.lrn rTCK_STEP_THRESH = 0 →
        e.trk.slewLeft = (s.dev.nowT : Int) - ((sec.toNat * 1000000000 + ns.toNat) * 65536 : Nat))) ∧
  (∀ s h sec ns, Live s → s.dev.isRoot = false → Rejects (.timeSet h sec ns) s h 0x0600 stDenied) ∧
  (∀ s h, Answers (.timeRead h) s h 0x0601 stOk 0 (beBytes 12 s.dev.now ++ beBytes 2 s.dev.uDom ++
    beBytes 1 (s.dev.f rTIM_STATUS fTIM_STATUS_SSTATE) ++ beBytes 1 s.dev.locked.toNat) fun e => e = s.dev) ∧
  (∀ s h p st, Live s → s.dev.lf rTIM_CTRL fTIM_CTRL_STATE_SRC = 1 → p.toNat < 512 → st.toNat ≤ 6 → s.dev.ptpOn p.toNat = true →
    Answers (.timePortState h p st) s h 0x0602 stOk 0 [] fun e => e.pstate p.toNat = st.toNat) ∧
  (∀ s h p st, Live s → s.dev.lf rTIM_CTRL fTIM_CTRL_STATE_SRC ≠ 1 → Rejects (.timePortState h p st) s h 0x0602 stDenied) ∧
  (∀ s h (o : BitVec 8) en pol gate sec ns per wid cnt adj, Live s → o.toNat < 8 → ns.toNat ≤ 999999999 → cnt.toNat ≤ 16777215 →
    trigShape per.toNat wid.toNat = true → Answers (.timeTrig h o en pol gate sec ns per wid cnt adj) s h 0x0603 stOk 0 [] fun e =>
      e.b (rTIM_TRIG_CFG o.toNat) fTIM_TRIG_CFG_EN = en ∧ e.b (rTIM_TRIG_CFG o.toNat) fTIM_TRIG_CFG_POL = pol ∧
      e.f (rTIM_TRIG_CFG o.toNat) fTIM_TRIG_CFG_COUNT = cnt.toNat ∧ e.rn (rTIM_TRIG_NS o.toNat) = ns.toNat ∧
      e.rn (rTIM_TRIG_PERIOD o.toNat) = per.toNat ∧ e.rn (rTIM_TRIG_WIDTH o.toNat) = wid.toNat) ∧
  (∀ s h en pol gate sec ns per wid cnt adj, Live s → 1 ≤ wid.toNat / 1000 → wid.toNat / 1000 ≤ 999999 →
    Answers (.timeTrig h 8 en pol gate sec ns per wid cnt adj) s h 0x0603 stOk 0 [] fun e =>
      e.b rTIM_PPS_OUT fTIM_PPS_OUT_EN = en ∧ e.f rTIM_PPS_WIDTH fTIM_PPS_WIDTH_WIDTH_US = wid.toNat / 1000 ∧
      SameBut [.regs] s.dev e) ∧
  (∀ s h p c u k, Live s → p.toNat < 512 → Answers (.timeAsym h p c u k) s h 0x0604 stOk 0 [] fun e =>
    e.f (rTIM_PORT_ASYM p.toNat) fTIM_PORT_ASYM_CONST = c.toNat ∧ e.rn (rTIM_PORT_COEF p.toNat) = k.toNat) ∧
  (∀ s h p c u k, Live s → 512 ≤ p.toNat → Rejects (.timeAsym h p c u k) s h 0x0604 stBadParam) ∧
  (∀ s h o fp v l59 l61, Live s → Answers (.timeUtc h o fp v l59 l61) s h 0x0605 stOk 0 [] fun e =>
    e.f rTIM_UTC fTIM_UTC_OFFSET = o.toNat ∧ e.b rTIM_UTC fTIM_UTC_VALID = v ∧ e.b rTIM_UTC fTIM_UTC_LEAP61 = l61 ∧
    (∀ a, a ≠ rTIM_UTC → e.rd a = s.dev.rd a) ∧ SameBut [.regs] s.dev e)

/-- R340, R341, R344, R348, R351, R352, R357: the journal's own commands. -/
def Obligations.JournalWork : Prop :=
  (∀ s v, bits v.toNat 31 31 = 1 → s.dev.f rJRN_STATUS fJRN_STATUS_STATE = 0 → Completes (.journalEnable v) s fun e =>
    e.f rJRN_STATUS fJRN_STATUS_STATE = 1 ∧ e.f rJRN_CTRL fJRN_CTRL_EN = 1 ∧ SameBut [.regs] s.dev e) ∧
  (∀ s v, bits v.toNat 31 31 = 0 → s.dev.f rJRN_STATUS fJRN_STATUS_STATE = 1 → Completes (.journalDisable v) s fun e =>
    e.f rJRN_STATUS fJRN_STATUS_STATE = 0 ∧ e.f rJRN_CTRL fJRN_CTRL_EN = 0 ∧ SameBut [.regs] s.dev e) ∧
  (∀ s v, bits v.toNat 31 31 = 0 → s.dev.f rJRN_STATUS fJRN_STATUS_STATE = 2 → Completes (.journalDisable v) s fun e =>
    e.f rJRN_STATUS fJRN_STATUS_STATE = 2 ∧ e.f rJRN_CTRL fJRN_CTRL_EN = 0 ∧ SameBut [.regs] s.dev e) ∧
  (∀ s (die : Fin 2), (s.dev.jrn.die die).staging ≠ [] → Completes (.journalRowWrite die) s fun e =>
    (e.jrn.die die).staging = (s.dev.jrn.die die).staging.drop (16 - s.dev.jrnWr die % 16) ∧
    (∀ x, (s.dev.jrn.die die).staging = [x] → s.dev.jrnSize die ≠ 0 →
      kvGet [] (e.jrn.die die).ring (s.dev.jrnWr die % s.dev.jrnSize die) = x)) ∧
  (∀ s c, Live s → s.dev.jrn.closed.find? (fun c => c.root0.isNone) = some c → Completes (.jrnRootTask 0) s fun e =>
    e.jrn.closed = s.dev.jrn.closed.map fun x => if x.deck = c.deck then { x with root0 := some (merkleRoot x.recs0) } else x) ∧
  (∀ s c, Live s → s.dev.jrn.closed.find? (fun c => c.root1.isNone) = some c → Completes (.jrnRootTask 1) s fun e =>
    e.jrn.closed = s.dev.jrn.closed.map fun x => if x.deck = c.deck then { x with root1 := some (merkleRoot x.recs1) } else x) ∧
  (∀ s c, Live s → s.dev.jrn.closed.find? (fun c => c.sum.isNone) = some c → c.root0.isSome = true → c.root1.isSome = true →
    Completes .jrnSumTask s fun e => e.jrn.prev = deckSum s.dev.jrn.prev c) ∧
  (∀ s c, Live s → s.dev.jrn.closed.find? (fun c => c.sum.isSome && !c.waiting.isEmpty &&
      decide (s.dev.sumDeadline c.deck s.dev.sumDepth < s.dev.deck)) = some c →
    Completes .domainSumDeadline s fun e => ∀ x ∈ e.jrn.closed, x.deck = c.deck → x.waiting = []) ∧
  (∀ s (die : Fin 2) rows, Live s → s.dev.f rJRN_CTRL fJRN_CTRL_DRAIN = 1 → s.dev.host.drainOff = false →
    s.dev.f (rDMA_CH_STATUS (s.dev.f rJRN_DMA_CFG fJRN_DMA_CFG_CHANNEL)) fDMA_CH_STATUS_STATE ≠ 2 →
    Completes (.jrnDrainTask die rows) s fun e =>
      e.jrn.dmaPos = s.dev.jrn.dmaPos + 64 * (16 * min rows ((s.dev.jrnWr die - s.dev.jrnRd die) / 16))) ∧
  (∀ s (die : Fin 2) v, s.dev.f rJRN_CTRL fJRN_CTRL_DRAIN = 0 → s.dev.jrnRd die ≤ v.toNat → v.toNat ≤ s.dev.jrnWr die →
    Completes (.journalRdWrite die v) s fun e => e.jrnRd die = v.toNat) ∧
  (∀ s (die : Fin 2) v, s.dev.f rJRN_CTRL fJRN_CTRL_DRAIN = 0 → s.dev.jrnWr die < v.toNat →
    Completes (.journalRdWrite die v) s fun e => e = s.dev.classA die) ∧
  (∀ s (die : Fin 2) v, s.dev.f rJRN_CTRL fJRN_CTRL_DRAIN ≠ 0 → NoEffect (.journalRdWrite die v) s)

/-- R344, R345, R354, R358: the journal's opcode commands. -/
def Obligations.JournalCommands : Prop :=
  (∀ s h die count first, s.dev.f rJRN_STATUS fJRN_STATUS_STATE ≠ 0 → die.toNat < 2 → 0 < count.toNat → count.toNat ≤ 64 →
    first.toNat % 2 = die.toNat → (first.toNat - die.toNat) / 2 + count.toNat ≤ s.dev.jrnWr die.toNat →
    s.dev.jrnWr die.toNat ≤ (first.toNat - die.toNat) / 2 + s.dev.jrnSize die.toNat →
    Answers (.jrnRead h die count first) s h 0x0700 stOk 0
      ((s.dev.jrn.signed ++ zeros 256).take 256 ++
        (s.dev.jrnRecs die.toNat ((first.toNat - die.toNat) / 2) count.toNat).flatten) fun e => e = s.dev) ∧
  (∀ s h die count first, s.dev.f rJRN_STATUS fJRN_STATUS_STATE = 0 → Rejects (.jrnRead h die count first) s h 0x0700 stNotReady) ∧
  (∀ s h deck k x, s.dev.jrn.sums.find? (fun e => decide (beAt e.2 0 8 = deck.toNat)) = some (k, x) →
    Answers (.jrnSumRead h deck) s h 0x0701 stOk 0 x fun e => e = s.dev) ∧
  (∀ s h deck, s.dev.jrn.sums.find? (fun e => decide (beAt e.2 0 8 = deck.toNat)) = none →
    Rejects (.jrnSumRead h deck) s h 0x0701 stBadParam) ∧
  (∀ s h deck k x, s.dev.jrn.childs.filter (fun e => decide (beAt e.2 0 8 = deck.toNat)) = [(k, x)] →
    Answers (.jrnChildRead h deck) s h 0x0702 stOk 0 x fun e => e = s.dev) ∧
  (∀ s h deck, (∀ e ∈ s.dev.jrn.childs, beAt e.2 0 8 ≠ deck.toNat) → Rejects (.jrnChildRead h deck) s h 0x0702 stBadParam) ∧
  (∀ s h port recs dst src, Live s → port.toNat < 512 → 0 < recs.toNat → recs.toNat ≤ 140 →
    Answers (.jrnPortSet h port recs dst src) s h 0x0703 stOk 0 [] fun e =>
      e.jrn.portNext = some (port.toNat, recs.toNat, beBytes 6 dst.toNat ++ beBytes 6 src.toNat) ∧ SameBut [.jrn] s.dev e) ∧
  (∀ s h port recs dst src, Live s → 512 ≤ port.toNat ∨ recs.toNat = 0 ∨ 140 < recs.toNat →
    Rejects (.jrnPortSet h port recs dst src) s h 0x0703 stBadParam)

/-- R362, R371 to R377, R380: HBM commands. -/
def Obligations.HbmEvents : Prop :=
  (∀ s v, bits v.toNat 0 0 = 1 → s.dev.b rMEM_STATUS fMEM_STATUS_COMMITTED = false → s.dev.partSum ≤ 512 →
    s.dev.spareRows ≤ s.dev.f rMEM_PART_B fMEM_PART_B_AUX * 1024 → Completes (.memCommit v) s fun e =>
      e.b rMEM_STATUS fMEM_STATUS_COMMITTED = true ∧ e.b rMEM_STATUS fMEM_STATUS_CLEARING = true ∧ e.hbm.mem = [] ∧
      (e.flw 0).buckets = [] ∧ (e.flw 1).buckets = []) ∧
  (∀ s v, bits v.toNat 0 0 = 1 → s.dev.b rMEM_STATUS fMEM_STATUS_COMMITTED = false → 512 < s.dev.partSum →
    Completes (.memCommit v) s fun e =>
      e.b rMEM_STATUS fMEM_STATUS_COMMITTED = false ∧ e.b rMEM_STATUS fMEM_STATUS_PART_ERR = true ∧ SameBut [.regs] s.dev e) ∧
  (∀ s, s.dev.b rMEM_STATUS fMEM_STATUS_CLEARING = true → Completes .hbmRegionClearDone s fun e =>
    e.b rMEM_STATUS fMEM_STATUS_CLEARING = false ∧ e.b (rFLW_STATUS 0) fFLW_STATUS_READY = true ∧
    e.b (rFLW_STATUS 1) fFLW_STATUS_READY = true ∧ SameBut [.regs] s.dev e) ∧
  (∀ s k, s.dev.lb rMEM_CTRL fMEM_CTRL_SCRUB_EN = true → s.dev.lrn rMEM_SCRUB ≠ 0 → s.dev.frozen k = false →
    s.dev.b (rMEM_S_STATUS k) fMEM_S_STATUS_TRAINED = true → kvGet none s.dev.nrg.units 6 = none →
    Completes (.hbmScrubRead k .none) s fun e =>
      (e.stack k).scrubNext = (if (s.dev.stack k).scrubNext + 1 = 64 * 524288 then 0 else (s.dev.stack k).scrubNext + 1)) ∧
  (∀ s k, Completes (.hbmTempRead k none) s fun e => e.stack k = { s.dev.stack k with hot := true, cool := 0 }) ∧
  (∀ s k v, Completes (.hbmTempRead k (some v)) s fun e =>
    e.f (rMEM_S_STATUS k) fMEM_S_STATUS_TEMP = v.toNat ∧
    (e.stack k).hot = ((s.dev.stack k).hot || decide (85 < v.toNat)) ∧
    e.b (rMEM_S_STATUS k) fMEM_S_STATUS_HOT = decide (s.dev.lf rMEM_TEMP fMEM_TEMP_HOT_C ≤ v.toNat)) ∧
  (∀ s (k : Fin 4) (pc : Fin 64) (row : Fin 524288), (s.dev.stack k).targets.contains (pc.val, row.val) = true →
    Completes (.targetedRefresh k pc row) s fun e =>
      (e.stack k).targets = (s.dev.stack k).targets.erase (pc.val, row.val) ∧
      (∀ y ∈ kvGet [] (e.stack k).rh (pc.val * 16 + row.val % 16), y.row = row.val → y.count = 0) ∧
      Counted s.dev e (rMEM_S_CNT_LO k 7) 1) ∧
  (∀ s k, (s.dev.stack k).rhStart + 3200000 ≤ s.dev.trk.tick → Completes (.rhIntervalEnd k) s fun e =>
    e.stack k = { s.dev.stack k with rh := [], throttled := [], rhStart := s.dev.trk.tick } ∧ e.regs = s.dev.regs) ∧
  (∀ s k kind pc row burst cls req tag syn, s.dev.frozen k = false →
    Completes (.hbmFreeze k kind pc row burst cls req tag syn) s fun e =>
      e.frozen k = true ∧ e.f (rMEM_FRZ_ADDR k) fMEM_FRZ_ADDR_ROW = row.val ∧ e.f (rMEM_FRZ_KIND k) fMEM_FRZ_KIND_PC = pc.val ∧
      e.f (rMEM_FRZ_REQ k) fMEM_FRZ_REQ_TAG = tag.toNat ∧
      e.board.thermtrip = (s.dev.board.thermtrip || decide (kind = .thermal)) ∧
      Reported s.dev e (k.val / 2) 0xD 11 (match kind with
        | .ue => 2
        | .caParity => 3
        | .thermal => 9) (k.val * 64 + pc.val)) ∧
  (∀ s k, Completes (.hbmRuntimeLaneRepair k) s fun e =>
    Reported s.dev e (k.val / 2) 0xB 11 0xB (k.val * 64) ∧ SameBut [.regs, .flt] s.dev e) ∧
  (∀ s k, Completes (.qlogDataRead k) s fun e =>
    (s.dev.frozen k = false → e.bus.rdata = 0) ∧
    (s.dev.frozen k = true → e.bus.rdata = Config.qlog k (s.dev.stack k).frozenTick
      (s.dev.f (rMEM_QLOG_SEL k) fMEM_QLOG_SEL_LOG) (s.dev.f (rMEM_QLOG_SEL k) fMEM_QLOG_SEL_INDEX)) ∧
    e.f (rMEM_QLOG_SEL k) fMEM_QLOG_SEL_INDEX = (s.dev.f (rMEM_QLOG_SEL k) fMEM_QLOG_SEL_INDEX + 1) % 65536) ∧
  (∀ s a, s.dev.trk.tick % 2 = 0 → s.dev.frozen a.stack = false → (s.dev.stack a.stack).throttled = [] →
    s.dev.lb rMEM_CTRL fMEM_CTRL_RH_EN = false → a.err = .none → Completes (.hbmCalendarFrame [a]) s fun e =>
      Counted s.dev e (rMEM_S_CNT_LO a.stack 0) 1) ∧
  (∀ s acts, s.dev.trk.tick % 2 = 1 → NoEffect (.hbmCalendarFrame acts) s)

/-- R383 to R385: the plain operations of the reckoner machine. -/
def Obligations.AluResults : Prop := ∀ (s : State) (w : Micro), Fetches s w → HasNext s w →
  GoesTo (.nop w) s w (s.dev.pc w.k + 1) ∧
  (w.imm.toNat < 32 →
    WritesG (.add w) s w (s.dev.ga w + s.dev.gb w) ∧
    WritesG (.sub w) s w (s.dev.ga w - s.dev.gb w) ∧
    WritesG (.and w) s w (s.dev.ga w &&& s.dev.gb w) ∧
    WritesG (.or w) s w (s.dev.ga w ||| s.dev.gb w) ∧
    WritesG (.xor w) s w (s.dev.ga w ^^^ s.dev.gb w) ∧
    WritesG (.shl w) s w (s.dev.ga w <<< ((s.dev.gb w).toNat % 64)) ∧
    WritesG (.shr w) s w (s.dev.ga w >>> ((s.dev.gb w).toNat % 64)) ∧
    WritesG (.sar w) s w ((s.dev.ga w).sshiftRight ((s.dev.gb w).toNat % 64)) ∧
    WritesG (.mul w) s w (s.dev.ga w * s.dev.gb w) ∧
    WritesG (.sltu w) s w (if (s.dev.ga w).toNat < (s.dev.gb w).toNat then 1 else 0) ∧
    WritesG (.seq w) s w (if s.dev.ga w = s.dev.gb w then 1 else 0) ∧
    WritesG (.minu w) s w (BitVec.ofNat 64 (min (s.dev.ga w).toNat (s.dev.gb w).toNat)) ∧
    WritesG (.maxu w) s w (BitVec.ofNat 64 (max (s.dev.ga w).toNat (s.dev.gb w).toNat))) ∧
  (w.imm.toNat = 0 →
    (s.dev.ga w = 0 → WritesG (.ffs w) s w 64) ∧
    (∀ n : Nat, (s.dev.ga w).getLsbD n = true → (∀ j, j < n → (s.dev.ga w).getLsbD j = false) →
      WritesG (.ffs w) s w (BitVec.ofNat 64 n)) ∧
    WritesG (.popc w) s w (BitVec.ofNat 64 ((List.range 64).countP fun j => (s.dev.ga w).getLsbD j))) ∧
  WritesG (.addi w) s w (s.dev.ga w + w.imm.signExtend 64) ∧
  WritesG (.andi w) s w (s.dev.ga w &&& w.imm.setWidth 64) ∧
  WritesG (.ori w) s w (s.dev.ga w ||| w.imm.setWidth 64) ∧
  WritesG (.xori w) s w (s.dev.ga w ^^^ w.imm.setWidth 64) ∧
  (w.imm.toNat < 64 →
    WritesG (.shli w) s w (s.dev.ga w <<< w.imm.toNat) ∧
    WritesG (.shri w) s w (s.dev.ga w >>> w.imm.toNat) ∧
    WritesG (.sari w) s w ((s.dev.ga w).sshiftRight w.imm.toNat)) ∧
  WritesG (.shin w) s w ((s.dev.ga w <<< 16) ||| w.imm.setWidth 64) ∧
  WritesG (.sltui w) s w (if (s.dev.ga w).toNat < w.imm.toNat then 1 else 0) ∧
  WritesG (.seqi w) s w (if (s.dev.ga w).toNat = w.imm.toNat then 1 else 0) ∧
  (∀ p n : Nat, w.imm.toNat = (n - 1) * 64 + p → p < 64 → 1 ≤ n → p + n ≤ 64 →
    (∃ v : BitVec 64, WritesG (.bfx w) s w v ∧
      ∀ j : Nat, v.getLsbD j = (decide (j < n) && (s.dev.ga w).getLsbD (p + j))) ∧
    ∃ v : BitVec 64, WritesG (.bfi w) s w v ∧
      ∀ j : Nat, j < 64 → v.getLsbD j =
        if p ≤ j ∧ j < p + n then (s.dev.ga w).getLsbD (j - p) else (s.dev.gd w).getLsbD j) ∧
  (∀ n : Nat, w.imm.toNat % 16 = n → 1 ≤ n → n ≤ 8 →
    (∃ v : BitVec 64, WritesG (.bswap w) s w v ∧ v.toNat < 256 ^ n ∧
      ∀ j : Nat, j < n → v.toNat / 256 ^ j % 256 = (s.dev.ga w).toNat / 256 ^ (n - 1 - j) % 256) ∧
    WritesG (.crc w) s w (BitVec.ofNat 64 (crcCont ((s.dev.gd w).toNat % 2 ^ 32) (beBytes n (s.dev.ga w).toNat)))) ∧
  Completes (.rand w) s fun e =>
    (∀ r : Nat, r ≠ w.d.val → e.g w.k r = s.dev.g w.k r) ∧ e.g w.k 0 = 0 ∧ e.pc w.k = s.dev.pc w.k + 1 ∧
    SameBut [.regs, .rck, .fresh] s.dev e

/-- R384 to R389, R397: control flow of the reckoner machine. -/
def Obligations.BranchesAndWaits : Prop :=
  (∀ (s : State) (w : Micro) (t : Nat), Fetches s w → w.imm.toNat % 2 ^ 15 = t →
    (¬ (0x6000 ≤ s.dev.pc w.k ∧ t < 0x6000) →
      GoesTo (.jmp w) s w t ∧
      (s.dev.ga w = 0 → GoesTo (.bz w) s w t) ∧
      (s.dev.ga w ≠ 0 → GoesTo (.bnz w) s w t)) ∧
    (HasNext s w →
      (s.dev.ga w ≠ 0 → GoesTo (.bz w) s w (s.dev.pc w.k + 1)) ∧
      (s.dev.ga w = 0 → GoesTo (.bnz w) s w (s.dev.pc w.k + 1))) ∧
    (¬ (0x6000 ≤ s.dev.pc w.k ∧ 0x100 ≤ t ∧ t < 0x6000) →
      Completes (.call w) s fun e =>
        e.g w.k w.d = (if w.d.val = 0 then 0 else BitVec.ofNat 64 (s.dev.pc w.k + 1)) ∧
        (∀ r : Nat, r ≠ w.d.val → e.g w.k r = s.dev.g w.k r) ∧ e.pc w.k = t ∧ SameBut [.regs, .rck] s.dev e)) ∧
  (∀ (s : State) (w : Micro) (t : Nat), Fetches s w → ¬ (0x6000 ≤ s.dev.pc w.k ∧ t < 0x6000) →
    ((s.dev.ga w).toNat % 2 ^ 15 = t → GoesTo (.ret w) s w t) ∧
    ((s.dev.ga w + w.imm.signExtend 64).toNat % 2 ^ 15 = t → GoesTo (.jmpt w) s w t)) ∧
  (∀ (s : State) (w : Micro), Fetches s w → 1 ≤ w.d.val → w.d.val ≤ 26 → Completes (.get w) s fun e =>
    e.kState w.k = 0 ∧ (e.reck w.k).getD = w.d.val ∧ ∀ r : Nat, e.g w.k r = s.dev.g w.k r) ∧
  (∀ (s : State) (w : Micro) (c : Cond), Fetches s w → HasNext s w → s.dev.condOf w = some c →
    (s.dev.condHolds w.k c = true → GoesTo (.wait w) s w (s.dev.pc w.k + 1)) ∧
    (s.dev.condHolds w.k c = false → Completes (.wait w) s fun e =>
      e.kState w.k = 2 ∧ (e.reck w.k).wait = some c ∧ e.pc w.k = s.dev.pc w.k + 1 ∧ (∀ r : Nat, e.g w.k r = s.dev.g w.k r) ∧
      SameBut [.regs, .rck] s.dev e)) ∧
  (∀ (s : State) (k : Fin 128) (c : Cond), (s.dev.reck k).wait = some c → s.dev.kState k = 2 →
    (s.dev.condHolds k c = true → Completes (.waitConditionMet k) s fun e =>
      e.kState k = 1 ∧ (e.reck k).wait = none ∧ e.pc k = s.dev.pc k ∧ (∀ r : Nat, e.g k r = s.dev.g k r) ∧
      SameBut [.regs, .rck] s.dev e) ∧
    (s.dev.condHolds k c = false → NoEffect (.waitConditionMet k) s)) ∧
  (∀ (s : State) (w : Micro), s.dev.condOf w = (match w.imm.toNat / 4096 with
    | 0 => some (Cond.operand (w.imm.toNat % 4))
    | 1 => some (Cond.tick (w.imm.toNat % 4096 + 1))
    | 2 => some (Cond.tag (s.dev.ga w).toNat)
    | 3 => some Cond.tags
    | 4 => some (Cond.deck 1)
    | _ => none)) ∧
  (∀ (s : State) (w : Micro) (c : Cond) (i : Nat) (t : Task), Fetches s w → HasNext s w → s.dev.condOf w = some c →
    (∀ v, c ≠ .tag v) → c ≠ .tags → s.dev.kTask w.k = some (i, t) → Completes (.park w) s fun e =>
      (e.rckD (w.k.val / 64)).task i =
        some { t with st := if s.dev.condHolds w.k c then .ready else .parked c, context := (s.dev.ga w).toNat } ∧
      e.kTask w.k = none ∧ e.pc w.k = s.dev.pc w.k + 1 ∧ e.kState w.k = 1 ∧ Counted s.dev e (rRCK_D_CNT_LO (w.k.val / 64) 2) 1) ∧
  (∀ (s : State) (die : Fin 2) (i : Fin 16384) (t : Task), (s.dev.rckD die).task i = some t →
    (∀ j, t.st = .parked (.operand j) → bits t.present j j = 1 → Completes (.parkConditionMet die i) s fun e =>
      (e.rckD die).task i = some { t with st := .ready }) ∧
    (t.st = .parked (.tick 0) ∨ t.st = .parked (.deck 0) → Completes (.parkConditionMet die i) s fun e =>
      (e.rckD die).task i = some { t with st := .ready }) ∧
    (∀ n, 0 < n → t.st = .parked (.tick n) ∨ t.st = .parked (.deck n) → NoEffect (.parkConditionMet die i) s) ∧
    ((∀ c, t.st ≠ .parked c) → NoEffect (.parkConditionMet die i) s))

/-- R381, R385, R391, R392, R395, R397: accesses of the reckoner machine. -/
def Obligations.ScratchPoolAndHbm : Prop :=
  (∀ (s : State) (w : Micro) (a : Nat), Fetches s w → HasNext s w → (s.dev.ga w + w.imm.signExtend 64).toNat = a → a % 8 = 0 →
    a + 8 ≤ 4096 →
    WritesG (.ld w) s w (BitVec.ofNat 64 (ofBe (s.dev.scratch w.k a 8))) ∧
    Completes (.st w) s fun e =>
      e.scratch w.k a 8 = beBytes 8 (s.dev.gd w).toNat ∧
      (∀ x : Nat, ¬ (a ≤ x ∧ x < a + 8) → memByte (e.reck w.k).scratch x = memByte (s.dev.reck w.k).scratch x) ∧
      (∀ r : Nat, e.g w.k r = s.dev.g w.k r) ∧ e.pc w.k = s.dev.pc w.k + 1 ∧ SameBut [.regs, .rck] s.dev e) ∧
  (∀ (s : State) (w : Micro) (a : Nat), Fetches s w → HasNext s w → a % 8 = 0 → a < 2 ^ 32 → bits a 30 23 = 0 →
    bits a 22 0 + 8 ≤ 0x800000 →
    (s.dev.pc w.k < 0x6000 ∨ s.dev.poolOwner a = some (s.dev.f rRCK_OPEN_CTRL fRCK_OPEN_CTRL_OWNER)) →
    ((s.dev.ga w + w.imm.signExtend 64).toNat = a → WritesG (.ldp w) s w (BitVec.ofNat 64 (ofBe (s.dev.poolRead a 8)))) ∧
    ((s.dev.ga w + w.imm.setWidth 64).toNat = a → Completes (.stp w) s fun e =>
      e.poolRead a 8 = beBytes 8 (s.dev.gd w).toNat ∧
      (∀ x : Nat, ¬ (bits a 22 0 ≤ x ∧ x < bits a 22 0 + 8) →
        memByte (e.pool (bits a 31 31)).mem x = memByte (s.dev.pool (bits a 31 31)).mem x) ∧
      (∀ r : Nat, e.g w.k r = s.dev.g w.k r) ∧ e.pc w.k = s.dev.pc w.k + 1 ∧ SameBut [.regs, .host] s.dev e)) ∧
  (∀ (s : State) (w : Micro) (a : Nat), Fetches s w → HasNext s w → (s.dev.ga w).toNat = a → s.dev.pc w.k < 0x6000 →
    bits a 58 0 % 64 = 0 → w.imm.toNat % 64 = 0 → w.imm.toNat ≤ 4032 → 1 ≤ bits a 63 61 → bits a 63 61 ≤ 5 →
    s.dev.hbmIn a 64 = true →
    Completes (.hrd w) s (fun e => ∃ t, (t, TagKind.read (bits a 60 59) w.imm.toNat (s.dev.hbmRead a 64)) ∈ (e.reck w.k).tags ∧
      (w.d.val ≠ 0 → e.g w.k w.d = BitVec.ofNat 64 t) ∧ e.pc w.k = s.dev.pc w.k + 1 ∧ SameBut [.regs, .rck, .fresh] s.dev e) ∧
    (s.dev.frozen (bits a 60 59) = false → bits a 63 61 ≠ 2 → bits a 63 61 ≠ 4 → Completes (.hwr w) s fun e =>
      e.hbmRead a 64 = s.dev.scratch w.k w.imm.toNat 64 ∧
      ∃ t, (t, TagKind.write (bits a 60 59)) ∈ (e.reck w.k).tags ∧ (w.d.val ≠ 0 → e.g w.k w.d = BitVec.ofNat 64 t))) ∧
  (∀ (s : State) (k : Fin 128) (tag : BitVec 32) (stack a : Nat) (data : List Byte),
    ((s.dev.reck k).tags.find? fun t => decide (t.1 = tag.toNat)) = some (tag.toNat, .read stack a data) →
    (s.dev.frozen stack = false → Completes (.memoryTagComplete k tag) s fun e =>
      e.scratch k a data.length = data ∧ (∀ x ∈ (e.reck k).tags, x.1 ≠ tag.toNat) ∧
      (∀ r : Nat, e.g k r = s.dev.g k r) ∧ SameBut [.rck] s.dev e) ∧
    (s.dev.frozen stack = true → NoEffect (.memoryTagComplete k tag) s)) ∧
  (∀ (s : State) (w : Micro) (sc a : Nat), Fetches s w → HasNext s w → s.dev.pc w.k < 0x6000 → (s.dev.ga w).toNat = sc →
    sc % 8 = 0 → sc + 64 ≤ 4096 → beAt (s.dev.scratch w.k sc 64) 0 4 = a →
    (w.imm.toNat % 2048 = 0 → w.imm.toNat / 2048 < 20 → a / 0x100000 = w.imm.toNat / 2048 → a % 4 = 0 →
      Completes (.blk w) s fun e => ∃ t, (t, TagKind.block sc (putAt (s.dev.scratch w.k sc 64) 4
        (beBytes 4 ((((s.dev.setKState w.k 1).setPc w.k (s.dev.pc w.k + 1)).agentRead s.otp a).2.toNat)))) ∈ (e.reck w.k).tags ∧
        (w.d.val ≠ 0 → e.g w.k w.d = BitVec.ofNat 64 t)) ∧
    (∀ len, w.imm.toNat = 20 * 2048 → beAt (s.dev.scratch w.k sc 64) 4 2 = len → len % 64 = 0 → a < 2 ^ 32 → bits a 30 23 = 0 →
      bits a 22 0 + len ≤ 0x800000 → Completes (.blk w) s fun e => ∃ t, (t, TagKind.block sc (putAt (s.dev.scratch w.k sc 64) 32
        ((shaBlocks (len / 64) ((List.range 8).map fun i => beAt (bytesAt (s.dev.scratch w.k sc 64) 32 32) (4 * i) 4)
          (s.dev.poolRead a len)).flatMap (beBytes 4)))) ∈ (e.reck w.k).tags ∧
        (w.d.val ≠ 0 → e.g w.k w.d = BitVec.ofNat 64 t))) ∧
  (∀ (s : State) (k : Fin 128) (tag : BitVec 32) (a : Nat) (answer : List Byte),
    ((s.dev.reck k).tags.find? fun t => decide (t.1 = tag.toNat)) = some (tag.toNat, .block a answer) →
    Completes (.blockAnswer k tag) s fun e =>
      e.scratch k a answer.length = answer ∧ (∀ x ∈ (e.reck k).tags, x.1 ≠ tag.toNat) ∧ SameBut [.rck] s.dev e) ∧
  (∀ (s : State) (w : Micro) (a len port : Nat) (b : List Byte), Fetches s w → HasNext s w → (s.dev.ga w).toNat = a →
    w.imm.toNat % 8 = 0 → w.imm.toNat + 16 ≤ 4096 → s.dev.scratch w.k w.imm.toNat 16 = b → beAt b 0 1 = 0 → beAt b 2 2 = port →
    port < 512 → beAt b 4 2 = len → 64 ≤ len → len ≤ 16383 → a < 2 ^ 32 → bits a 30 23 = 0 → bits a 22 0 + len ≤ 0x800000 →
    Completes (.inj w) s fun e => ∃ x, e.path.injects = s.dev.path.injects ++ [x] ∧ x.col = s.dev.column port ∧ x.port = port ∧
      x.bytes = s.dev.poolRead a (len - 4) ∧ x.buf = some a ∧ x.tick = s.dev.trk.tick ∧ e.pc w.k = s.dev.pc w.k + 1 ∧
      SameBut [.regs, .path] s.dev e)

/-- R385, R396 to R398: micro-faults, and the operations that tell. -/
def Obligations.MicroFaultsTimeAndEvents : Prop :=
  (∀ (s : State) (w : Micro), Fetches s w → s.dev.kTask w.k = none →
    (HasNext s w → 32 ≤ w.imm.toNat → Completes (.add w) s fun e => MicroFaulted s.dev e w.k (s.dev.pc w.k) (mwWord w 0x01) 2) ∧
    (HasNext s w → w.imm.toNat % 32 ≠ 0 → Completes (.ffs w) s fun e => MicroFaulted s.dev e w.k (s.dev.pc w.k) (mwWord w 0x0E) 2) ∧
    (HasNext s w → 64 ≤ w.imm.toNat → Completes (.shli w) s fun e => MicroFaulted s.dev e w.k (s.dev.pc w.k) (mwWord w 0x14) 2) ∧
    (HasNext s w → 4096 ≤ w.imm.toNat → Completes (.bfx w) s fun e => MicroFaulted s.dev e w.k (s.dev.pc w.k) (mwWord w 0x1A) 2) ∧
    (¬ HasNext s w → Completes (.nop w) s fun e => MicroFaulted s.dev e w.k 0x7FFF (mwWord w 0x00) 4) ∧
    (0x6000 ≤ s.dev.pc w.k → w.imm.toNat % 2 ^ 15 < 0x6000 → Completes (.jmp w) s fun e =>
      MicroFaulted s.dev e w.k (s.dev.pc w.k) (mwWord w 0x20) 5) ∧
    (w.d.val < 1 ∨ 26 < w.d.val → Completes (.get w) s fun e => MicroFaulted s.dev e w.k (s.dev.pc w.k) (mwWord w 0x28) 6) ∧
    (HasNext s w → 5 ≤ w.imm.toNat / 4096 → Completes (.wait w) s fun e =>
      MicroFaulted s.dev e w.k (s.dev.pc w.k) (mwWord w 0x29) 1) ∧
    (HasNext s w → w.imm.toNat / 4096 = 0 → Completes (.park w) s fun e =>
      MicroFaulted s.dev e w.k (s.dev.pc w.k) (mwWord w 0x2A) 7) ∧
    (Completes (.done w) s fun e => MicroFaulted s.dev e w.k (s.dev.pc w.k) (mwWord w 0x2B) 7) ∧
    (HasNext s w → Completes (.reply w) s fun e => MicroFaulted s.dev e w.k (s.dev.pc w.k) (mwWord w 0x2E) 7) ∧
    (HasNext s w → (s.dev.ga w + w.imm.signExtend 64).toNat % 8 ≠ 0 → Completes (.ld w) s fun e =>
      MicroFaulted s.dev e w.k (s.dev.pc w.k) (mwWord w 0x30) 3) ∧
    (HasNext s w → 5 < w.imm.toNat → Completes (.time w) s fun e => MicroFaulted s.dev e w.k (s.dev.pc w.k) (mwWord w 0x38) 1) ∧
    (HasNext s w → w.imm.toNat / 4096 % 4 = 0 → Completes (.fault w) s fun e =>
      MicroFaulted s.dev e w.k (s.dev.pc w.k) (mwWord w 0x39) 1) ∧
    (HasNext s w → 0x6000 ≤ s.dev.pc w.k → w.imm.toNat % 256 < 0xF0 → Completes (.evt w) s fun e =>
      MicroFaulted s.dev e w.k (s.dev.pc w.k) (mwWord w 0x2F) 5)) ∧
  (∀ (s : State) (w : Micro), s.dev.kState w.k = 1 → s.dev.kTask w.k = none →
    (w.ecc.val = 2 ∨ (w.k.val / 64, s.dev.pc w.k) ∈ s.dev.rck.csBad) → Completes (.nop w) s fun e =>
      MicroFaulted s.dev e w.k (s.dev.pc w.k) (mwWord w 0x00) 8) ∧
  (∀ (s : State) (w : Micro), Fetches s w → HasNext s w → w.d.val ≠ 0 →
    (w.imm.toNat = 0 → Completes (.time w) s fun e =>
      e.g w.k w.d = BitVec.ofNat 64 s.dev.trk.tick ∧ e.pc w.k = s.dev.pc w.k + 1) ∧
    (w.imm.toNat = 1 → Completes (.time w) s fun e => e.g w.k w.d = BitVec.ofNat 64 s.dev.deck) ∧
    (∀ i t, w.imm.toNat = 3 → s.dev.kTask w.k = some (i, t) → Completes (.time w) s fun e =>
      e.g w.k w.d = BitVec.ofNat 64 t.dispTick)) ∧
  (∀ (s : State) (w : Micro), Fetches s w → HasNext s w →
    (w.imm.toNat / 4096 % 4 = 1 → Completes (.fault w) s fun e =>
      Counted s.dev e (rFLT_D_CNT_LO (w.k.val / 64) 0) 1 ∧ e.pc w.k = s.dev.pc w.k + 1 ∧ SameBut [.regs] s.dev e) ∧
    (∀ cls, w.imm.toNat / 4096 % 4 = cls → 2 ≤ cls → Completes (.fault w) s fun e =>
      (∃ kind, Reported s.dev e (w.k.val / 64) (0x9 + cls) 12 kind w.k (beBytes 2 (w.imm.toNat % 4096))) ∧
      e.pc w.k = s.dev.pc w.k + 1 ∧ SameBut [.regs, .flt, .fresh] s.dev e)) ∧
  (∀ (s : State) (w : Micro), Fetches s w → HasNext s w → (s.dev.pc w.k < 0x6000 ∨ 0xF0 ≤ w.imm.toNat % 256) →
    Completes (.evt w) s fun e => e = ((s.dev.setKState w.k 1).setPc w.k (s.dev.pc w.k + 1)).evtPut (w.imm.toNat % 256)
      (0x80 + 0x40 * (w.k.val / 64)) w.k.val (s.dev.ga w).toNat)

/-- R386, R387, R403 to R407: grants, aborts, retirement. -/
def Obligations.GrantsAndAborts : Prop :=
  (∀ (s : State) (die : Fin 2) (i k : Nat) (t : Task),
    (i, t) ∈ (s.dev.rckD die).all → (s.dev.rckD die).task i = some t → t.st = .ready → s.dev.mayBegin t = true → s.dev.safeMay t = true →
    t.ops.length = 4 → i < 16384 → t.gen < 256 →
    (∀ j u, (j, u) ∈ (s.dev.rckD die).all → u.st = .ready → s.dev.mayBegin u = true → s.dev.safeMay u = true →
      j < 16384 ∧ (t.deadline < u.deadline ∨ t.deadline = u.deadline ∧ i ≤ j ∧ (i = j → t = u))) →
    64 * die.val ≤ k → k < 64 * die.val + 64 → s.dev.kState k = 0 → s.dev.b (rRCK_K_TASK k) fRCK_K_TASK_VALID = false → t.excluded ≠ some k →
    (∀ j, 64 * die.val ≤ j → j < k → s.dev.kState j = 0 → s.dev.b (rRCK_K_TASK j) fRCK_K_TASK_VALID = false → t.excluded = some j) →
    1 ≤ (s.dev.reck k).getD → (s.dev.reck k).getD ≤ 26 →
    Completes (.dispatchGrant die) s fun e =>
      e.kState k = 1 ∧ e.pc k = bits (s.dev.entry t.type) 14 0 ∧ e.b (rRCK_K_TASK k) fRCK_K_TASK_VALID = true ∧
      e.f (rRCK_K_TASK k) fRCK_K_TASK_INDEX = i ∧ e.f (rRCK_K_TASK k) fRCK_K_TASK_GENERATION = t.gen ∧
      (e.rckD die).task i = some { t with st := .running k, dispTick := s.dev.trk.tick, begun := true } ∧
      e.g k (s.dev.reck k).getD = BitVec.ofNat 64 (taskWord die i t) ∧
      (∀ j : Nat, j < 4 → e.g k ((s.dev.reck k).getD + 1 + j) = BitVec.ofNat 64 (t.ops.getD j 0)) ∧
      e.g k ((s.dev.reck k).getD + 5) = BitVec.ofNat 64 t.context ∧ Counted s.dev e (rRCK_D_CNT_LO die 0) 1) ∧
  (∀ (s : State) (die : Fin 2), (∀ j u, (j, u) ∈ (s.dev.rckD die).all → u.st ≠ .ready) → NoEffect (.dispatchGrant die) s) ∧
  (∀ (s : State) (die : Fin 2) (i : Fin 16384) (k : Fin 128) (t : Task), (s.dev.rckD die).task i = some t → t.st = .running k →
    (s.dev.trk.tick < t.dispTick + t.budget → NoEffect (.taskLate die i) s) ∧
    (t.dispTick + t.budget ≤ s.dev.trk.tick → t.reissued = false → bits (s.dev.entry t.type) 30 30 = 0 →
      (t.type < 0x40 → s.dev.b (rRCK_TYPE_CFG t.type) fRCK_TYPE_CFG_NO_REISSUE = false) →
      Completes (.taskLate die i) s fun e =>
        (e.rckD die).task i = some { t with st := .ready, reissued := true, excluded := some k.val } ∧ e.kState k = 4 ∧
        e.kTask k = none ∧ TookLate s.dev e 1 ∧ Counted s.dev e (rRCK_D_CNT_LO die 3) 1 ∧ Counted s.dev e (rRCK_D_CNT_LO die 4) 1) ∧
    (t.dispTick + t.budget ≤ s.dev.trk.tick → t.reissued = true → t.cmd = none → (s.dev.rckD die).held = [] →
      Completes (.taskLate die i) s fun e =>
        (e.rckD die).task i = none ∧ e.kState k = 4 ∧ TookLate s.dev e 1 ∧ Counted s.dev e (rRCK_D_CNT_LO die 5) 1)) ∧
  (∀ (s : State) (k : Fin 128) (hang : Bool), s.dev.kState k ≠ 3 → Completes (.reckonerHardFault k hang) s fun e =>
    e.kState k = 3 ∧ e.kTask k = none ∧
    bits (e.rn (if k.val % 64 < 32 then rRCK_D_RETIRED_LO (k.val / 64) else rRCK_D_RETIRED_HI (k.val / 64))) (k.val % 32) (k.val % 32) = 1 ∧
    (∀ i t, s.dev.kTask k = some (i, t) → (e.rckD (k.val / 64)).task i = some { t with st := .ready }) ∧
    Reported s.dev e (k.val / 64) (if (s.dev.recksIn (k.val / 64) 3).length = 63 then 0xD else 0xC) 12 (if hang then 5 else 2) k) ∧
  (∀ (s : State) (k : Fin 128) (hang : Bool), s.dev.kState k = 3 → NoEffect (.reckonerHardFault k hang) s)

/-- R390, R393 to R396: tasks. -/
def Obligations.TasksOperandsAndReplies : Prop :=
  (∀ (used : List Nat) (n : Nat), used.length < 16384 → freeEntry used 16384 n < 16384 ∧ freeEntry used 16384 n ∉ used) ∧
  (∀ (s : State) (w : Micro) (a : Nat) (b : List Byte), Fetches s w → HasNext s w → w.d.val ≠ 0 →
    (s.dev.ga w + w.imm.setWidth 64).toNat = a → a % 8 = 0 → a + 48 ≤ 4096 → s.dev.scratch w.k a 48 = b →
    s.dev.pc w.k < 0x6000 → userType (beAt b 0 2) = false →
    (s.dev.taskRoom (w.k.val / 64) (decide (bits (beAt b 3 1) 7 7 = 1)) = true → Completes (.task w) s fun e =>
      ∃ i t, (e.rckD (w.k.val / 64)).task i = some t ∧ e.g w.k w.d = BitVec.ofNat 64 (taskWord (w.k.val / 64) i t) ∧
        i = freeEntry ((s.dev.rckD (w.k.val / 64)).all.map (·.1)) 16384 (s.dev.free 16384) ∧
        t.type = beAt b 0 2 ∧ t.required = beAt b 2 1 / 16 ∧ t.present = beAt b 2 1 % 16 ∧ t.requester = beAt b 6 2 ∧
        t.committed = decide (bits (beAt b 3 1) 7 7 = 1) ∧ t.gen = kvGet 0 (s.dev.rckD (w.k.val / 64)).gens i ∧
        (beAt b 8 8 ≠ 0 → t.deadline = beAt b 8 8) ∧ (beAt b 4 2 ≠ 0 → t.budget = beAt b 4 2) ∧
        (t.st = .ready ↔ Nat.land t.required t.present = t.required) ∧ e.pc w.k = s.dev.pc w.k + 1) ∧
    (s.dev.taskRoom (w.k.val / 64) (decide (bits (beAt b 3 1) 7 7 = 1)) = false → Completes (.task w) s fun e =>
      e.g w.k w.d = BitVec.allOnes 64 ∧ Counted s.dev e (rRCK_D_CNT_LO (w.k.val / 64) 7) 1)) ∧
  (∀ (s : State) (tag : BitVec 32) (v : BitVec 64) (t : Task),
    (s.dev.rckD (bits tag.toNat 31 31)).task (bits tag.toNat 22 9) = some t → t.gen = bits tag.toNat 30 23 →
    bits t.present (bits tag.toNat 1 0) (bits tag.toNat 1 0) = 0 → t.st = .waiting →
    Completes (.operandArrive tag v) s fun e => ∃ u, (e.rckD (bits tag.toNat 31 31)).task (bits tag.toNat 22 9) = some u ∧
      u = { t with
        ops := setAt t.ops (bits tag.toNat 1 0) v.toNat
        present := putBits t.present (bits tag.toNat 1 0) (bits tag.toNat 1 0) 1
        st := u.st } ∧
      (u.st = .ready ↔ Nat.land u.required u.present = u.required)) ∧
  (∀ (s : State) (tag : BitVec 32) (v : BitVec 64) (t : Task),
    (s.dev.rckD (bits tag.toNat 31 31)).task (bits tag.toNat 22 9) = some t →
    (t.gen ≠ bits tag.toNat 30 23 → Completes (.operandArrive tag v) s fun e =>
      Counted s.dev e (rRCK_D_CNT_LO (bits tag.toNat 31 31) 8) 1 ∧ SameBut [.regs] s.dev e) ∧
    (t.gen = bits tag.toNat 30 23 → bits t.present (bits tag.toNat 1 0) (bits tag.toNat 1 0) = 1 →
      Completes (.operandArrive tag v) s fun e =>
        Counted s.dev e (rRCK_D_CNT_LO (bits tag.toNat 31 31) 9) 1 ∧ SameBut [.regs] s.dev e)) ∧
  (∀ (s : State) (w : Micro), Fetches s w → HasNext s w → Completes (.post w) s fun e =>
    e = ((s.dev.setKState w.k 1).setPc w.k (s.dev.pc w.k + 1)).operand ((s.dev.ga w).toNat % 2 ^ 32) (s.dev.gd w).toNat) ∧
  (∀ (s : State) (w : Micro) (i : Nat) (t : Task), Fetches s w → s.dev.kTask w.k = some (i, t) → t.cmd = none →
    (s.dev.rckD (w.k.val / 64)).held = [] → Completes (.done w) s fun e =>
      (e.rckD (w.k.val / 64)).task i = none ∧ e.kTask w.k = none ∧
      kvGet 0 (e.rckD (w.k.val / 64)).gens i = (kvGet 0 (s.dev.rckD (w.k.val / 64)).gens i + 1) % 256 ∧
      Counted s.dev e (rRCK_D_CNT_LO (w.k.val / 64) 1) 1) ∧
  (∀ (s : State) (w : Micro) (i : Nat) (t : Task) (c : CmdCtx), Fetches s w → HasNext s w → s.dev.kTask w.k = some (i, t) →
    t.cmd = some c → w.imm.toNat % 8 = 0 → w.imm.toNat + 16 + beAt (s.dev.scratch w.k w.imm.toNat 16) 4 2 ≤ 4096 →
    (∀ r : Fin 16, t.replied = false → c.src = .ring r → c.dead = false → bits c.flags 4 4 = 0 →
      s.dev.b (rDMA_CR_CFG r) fDMA_CR_CFG_EN = true → Completes (.reply w) s fun e =>
        (e.rckD (w.k.val / 64)).task i = some { t with replied := true, cmd := some { c with buf := none } } ∧
        e.rn (rDMA_RR_WR r) = (s.dev.rn (rDMA_RR_WR r) + 1) % 2 ^ 32 ∧ e.pc w.k = s.dev.pc w.k + 1) ∧
    (t.replied = true → Completes (.reply w) s fun e =>
      Counted s.dev e (rRCK_D_CNT_LO (w.k.val / 64) 10) 1 ∧ e.pc w.k = s.dev.pc w.k + 1 ∧ SameBut [.regs] s.dev e)) ∧
  (∀ (s : State) (die : Fin 2) x l, Live s → (s.dev.par die).rmd = x :: l → (s.dev.fr x.frame).ended = true →
    (s.dev.fr x.frame).bad ≠ 0 → s.dev.b rRCK_OPEN_CTRL fRCK_OPEN_CTRL_RMD_USER = false → Completes (.remainderTask die) s fun e =>
      (e.par die).rmd = l ∧ ∀ q : Fin 8, e.rn (rDMA_PUNT_WR q) = s.dev.rn (rDMA_PUNT_WR q)) ∧
  (∀ (s : State) (die : Fin 2) (i : Nat) (t : Task), Live s →
    ((s.dev.rckD die).all.find? fun x => decide (x.2.type = 0x03) && x.2.cmd.isNone) = some (i, t) → (s.dev.rckD die).held = [] →
    Completes (.injectNoteTask die) s fun e => (e.rckD die).task i = none ∧ Counted s.dev e (rRCK_D_CNT_LO die 1) 1) ∧
  (∀ (s : State) (die : Fin 2) (a : Fin 32768), (1 - die.val, a.val) ∉ s.dev.rck.csBad → Completes (.csRepair die a) s fun e =>
    (∀ x, x ∈ e.rck.csBad ↔ x ∈ s.dev.rck.csBad ∧ x ≠ (die.val, a.val)) ∧ e.flt = s.dev.flt) ∧
  (∀ (s : State) (die : Fin 2) (a : Fin 32768), (1 - die.val, a.val) ∈ s.dev.rck.csBad → Completes (.csRepair die a) s fun e =>
    (die.val, a.val) ∈ e.rck.csBad ∧ Reported s.dev e die 0xD 12 2 0) ∧
  (∀ (s : State) (die : Fin 2) (a : Fin 32768), s.dev.b rRCK_CTRL fRCK_CTRL_CS_SCRUB_EN = true →
    (Completes (.csScrubPass die [(a, false)]) s fun e => Reported s.dev e die 0xB 12 1 0 ∧ SameBut [.flt] s.dev e) ∧
    Completes (.csScrubPass die [(a, true)]) s fun e => (die.val, a.val) ∈ e.rck.csBad) ∧
  (∀ (s : State) (die : Fin 2) l, s.dev.b rRCK_CTRL fRCK_CTRL_CS_SCRUB_EN = false → NoEffect (.csScrubPass die l) s)

/-- R461 to R472: the energy commands. -/
def Obligations.EnergyLedger : Prop :=
  (∀ s demand, Live s → Completes (.energyPlanTask demand) s fun e => ∃ pl, e.nrg.next = some pl ∧ pl.made = true ∧
    pl.budget = s.dev.lf rNRG_LIMIT fNRG_LIMIT_WATTS * 10 ∧ pl.late = false ∧
    (s.dev.lb rNRG_CTRL fNRG_CTRL_EN = false → pl.pressure = false ∧ pl.level = 0 ∧
      pl.grants = (List.range 12).map fun i => (demand.getD i 0, demand.getD i 0))) ∧
  (∀ s (col : Fin 16), Live s → s.dev.lb rNRG_CTRL fNRG_CTRL_GATE_EN = true → s.dev.nrg.gated.contains col.val = false →
    (if s.dev.nrg.plan.pressure then 1 else s.dev.lf rNRG_GATE fNRG_GATE_IDLE_RODS) ≤ kvGet 0 s.dev.nrg.idle col →
    Completes (.columnGate col) s fun e =>
      e.nrg = { s.dev.nrg with gated := col.val :: s.dev.nrg.gated } ∧ Counted s.dev e (rNRG_CNT_LO 7) 1 ∧
      SameBut [.regs, .nrg] s.dev e) ∧
  (∀ s v, 300 ≤ bits v.toNat 9 0 → bits v.toNat 9 0 ≤ 950 → Completes (.nrgLimitRegWrite v) s fun e =>
    e.f rNRG_LIMIT fNRG_LIMIT_WATTS = bits v.toNat 9 0 ∧ (∀ a, a ≠ rNRG_LIMIT → e.rd a = s.dev.rd a) ∧
    SameBut [.regs] s.dev e) ∧
  (∀ s v, bits v.toNat 9 0 < 300 ∨ 950 < bits v.toNat 9 0 → Completes (.nrgLimitRegWrite v) s fun e =>
    e.rd rNRG_LIMIT = s.dev.rd rNRG_LIMIT ∧ Counted s.dev e (rFLT_D_CNT_LO 0 0) 1) ∧
  (∀ s h w, Live s → 300 ≤ w.toNat → w.toNat ≤ 950 → Answers (.nrgLimit h w) s h 0x0A00 stOk 0 [] fun e =>
    e.f rNRG_LIMIT fNRG_LIMIT_WATTS = w.toNat ∧ SameBut [.regs] s.dev e) ∧
  (∀ s h w, Live s → w.toNat < 300 ∨ 950 < w.toNat → Rejects (.nrgLimit h w) s h 0x0A00 stBadParam) ∧
  (∀ s h n, Live s → n.toNat ≠ 0 → n.toNat ≤ 1000 →
    Answers (.nrgRead h n) s h 0x0A01 stOk 0 (s.dev.nrg.entries.take n.toNat).flatten fun e => e = s.dev) ∧
  (∀ s h, Live s → Answers (.nrgRead h 0) s h 0x0A01 stOk 0 (s.dev.nrgEntry s.dev.rod {} s.dev.nrg.plan false 0 0) fun e =>
    SameBut [.fresh] s.dev e)

/-- R413 to R416, R424, R430, R431: rings, batches, interrupts, resets. -/
def Obligations.RingsAndResets : Prop :=
  (∀ (s : State) (r : Fin 16) (bytes : List Byte), s.dev.fetchTurn = some r.val → cpVersion bytes ≠ 1 → 64 ≤ bytes.length →
    Completes (.commandFetch r (some bytes)) s fun e =>
      e.rn (rDMA_CR_CONS r) = (s.dev.rn (rDMA_CR_CONS r) + 1) % 2 ^ 32 ∧ e.host.turn = (r.val + 1) % 16) ∧
  (∀ (s : State) (r : Fin 16) (bytes : List Byte), s.dev.fetchTurn = some r.val → 32 ≤ s.dev.slotSize r → cpVersion bytes = 1 → cpFlags bytes = 0 →
    beAt bytes 10 2 = 0 → beAt bytes 24 8 = 0 → cpDeck bytes = 0 → cpLen bytes = 0 → cpOpcode bytes = 0x0101 → cpTarget bytes = 0xFFFF →
    s.dev.entryValid 0x0101 = true → 64 ≤ bytes.length →
    Completes (.commandFetch r (some bytes)) s fun e =>
      e.rn (rDMA_CR_CONS r) = (s.dev.rn (rDMA_CR_CONS r) + 1) % 2 ^ 32 ∧ e.host.turn = (r.val + 1) % 16 ∧
      ∃ i t c, (e.rckD s.dev.roomierDie).task i = some t ∧ t.cmd = some c ∧ c.opcode = 0x0101 ∧ c.src = .ring r.val ∧
        c.tag = cpTag bytes ∧ c.pos = s.dev.rn (rDMA_CR_CONS r) ∧ t.type = 0x0101) ∧
  (∀ (s : State) (r : Fin 16), s.dev.fetchTurn = some r.val → Completes (.commandFetch r none) s fun e =>
    e.rn (rDMA_CR_CONS r) = s.dev.rn (rDMA_CR_CONS r) ∧ e.b (rDMA_CR_STATUS r) fDMA_CR_STATUS_ERR = true ∧
    e.f (rDMA_CR_STATUS r) fDMA_CR_STATUS_CAUSE = 3 ∧ e.host.turn = (r.val + 1) % 16) ∧
  (∀ (s : State) (r : Fin 16) x, s.dev.fetchTurn ≠ some r.val → NoEffect (.commandFetch r x) s) ∧
  (∀ (s : State) (r : Fin 16) (v : BitVec 32),
    ((v.toNat + 2 ^ 32 - s.dev.rn (rDMA_CR_CONS r)) % 2 ^ 32 ≤ 2 ^ s.dev.f (rDMA_CR_CFG r) fDMA_CR_CFG_SIZE_LOG2 →
      Completes (.crProdWrite r v) s fun e => e.rn (rDMA_CR_PROD r) = v.toNat ∧ SameBut [.regs] s.dev e) ∧
    (2 ^ s.dev.f (rDMA_CR_CFG r) fDMA_CR_CFG_SIZE_LOG2 < (v.toNat + 2 ^ 32 - s.dev.rn (rDMA_CR_CONS r)) % 2 ^ 32 →
      Completes (.crProdWrite r v) s fun e => e.rn (rDMA_CR_PROD r) = s.dev.rn (rDMA_CR_PROD r) ∧
        e.b (rDMA_CR_STATUS r) fDMA_CR_STATUS_ERR = true ∧ e.f (rDMA_CR_STATUS r) fDMA_CR_STATUS_CAUSE = 1) ∧
    ((v.toNat + 2 ^ 32 - s.dev.rn (rDMA_RR_RD r)) % 2 ^ 32 ≤ (s.dev.rn (rDMA_RR_WR r) + 2 ^ 32 - s.dev.rn (rDMA_RR_RD r)) % 2 ^ 32 →
      Completes (.dmaRrRdWrite r v) s fun e => e.rn (rDMA_RR_RD r) = v.toNat ∧ SameBut [.regs] s.dev e) ∧
    ((s.dev.rn (rDMA_RR_WR r) + 2 ^ 32 - s.dev.rn (rDMA_RR_RD r)) % 2 ^ 32 < (v.toNat + 2 ^ 32 - s.dev.rn (rDMA_RR_RD r)) % 2 ^ 32 →
      Completes (.dmaRrRdWrite r v) s fun e => e.rn (rDMA_RR_RD r) = s.dev.rn (rDMA_RR_RD r) ∧
        e.b (rDMA_CR_STATUS r) fDMA_CR_STATUS_ERR = true ∧ e.f (rDMA_CR_STATUS r) fDMA_CR_STATUS_CAUSE = 2)) ∧
  (∀ (s : State) (x : Relayed) l, s.dev.host.relayed = x :: l →
    x.deck + s.dev.f rDMA_CMD_CFG fDMA_CMD_CFG_RELAY_DECKS ≤ s.dev.deck → Completes .relayTimeout s fun e => e.host.relayed = l) ∧
  (∀ (s : State), (∀ x ∈ s.dev.host.relayed, s.dev.deck < x.deck + s.dev.f rDMA_CMD_CFG fDMA_CMD_CFG_RELAY_DECKS) →
    NoEffect .relayTimeout s) ∧
  (∀ (s : State) (id : BitVec 32) (b : Batch), kvGet none s.dev.host.batches id.toNat = some b → b.commit = none →
    (b.deck + s.dev.f rDMA_CMD_CFG fDMA_CMD_CFG_BATCH_TTL ≤ s.dev.deck → Completes (.batchExpired id) s fun e =>
      kvGet none e.host.batches id.toNat = none ∧ e.tbl = s.dev.tbl) ∧
    (s.dev.deck < b.deck + s.dev.f rDMA_CMD_CFG fDMA_CMD_CFG_BATCH_TTL → NoEffect (.batchExpired id) s)) ∧
  (∀ (s : State), Completes .functionLevelReset s fun e => e.b rDMA_STATUS fDMA_STATUS_FLR_SEEN = true ∧ (∀ v, { kvGet ({} : MsixEntry) e.msix v with pending := false } = ({} : MsixEntry)) ∧
    (∀ r : Fin 16, e.b (rDMA_CR_CFG r) fDMA_CR_CFG_EN = false) ∧ (∀ n : Fin 64, e.chanState n = 0) ∧ e.host.linkUp = s.dev.host.linkUp) ∧
  (∀ (s : State), Completes .pcieLinkLoss s fun e => e.b rDMA_STATUS fDMA_STATUS_LINK_LOST = true ∧ e.host.linkUp = false ∧
    (∀ r : Fin 16, e.b (rDMA_CR_CFG r) fDMA_CR_CFG_EN = false) ∧ (∀ n : Fin 64, e.chanState n = 0)) ∧
  (∀ (s : State) (n : Fin 128) v, (kvGet ({} : IrqSt) s.dev.irq n).waiting = true →
    s.dev.b (rDMA_IRQ_MAP n) fDMA_IRQ_MAP_EN = true → (kvGet ({} : IrqSt) s.dev.irq n).lastRod = none →
    s.dev.f (rDMA_IRQ_MAP n) fDMA_IRQ_MAP_VECTOR = v → Completes (.irqHoldoffEnd n) s fun e =>
      kvGet ({} : IrqSt) e.irq n = { waiting := false, lastRod := some s.dev.rod } ∧
      ((kvGet ({} : MsixEntry) s.dev.msix v).masked = false → e.out.msgs = s.dev.out.msgs ++ [v]) ∧
      ((kvGet ({} : MsixEntry) s.dev.msix v).masked = true → (kvGet ({} : MsixEntry) e.msix v).pending = true ∧ e.out = s.dev.out)) ∧
  (∀ (s : State) (n : Fin 128), (kvGet ({} : IrqSt) s.dev.irq n).waiting = false → NoEffect (.irqHoldoffEnd n) s)

/-- R418 to R423, R434, R435, R437: DMA channels and pools. -/
def Obligations.ChannelsAndPools : Prop :=
  (∀ (s : State) (n : Fin 64) (v : BitVec 32), s.dev.chanState n = 0 → s.dev.chanJrn n = false → bits v.toNat 30 30 = 0 →
    bits v.toNat 29 28 = 0 →
    (bits v.toNat 26 24 = 1 → bits v.toNat 23 21 = 1 → s.dev.rn (rDMA_CH_COUNT n) = 0 →
      poolOk (s.dev.rdPair (rDMA_CH_SRC_LO n) (rDMA_CH_SRC_HI n)) 0 = true → poolOk (s.dev.rdPair (rDMA_CH_DST_LO n) (rDMA_CH_DST_HI n)) 0 = true →
      Completes (.dmaStart n v) s fun e =>
        e.chanState n = 0 ∧ e.b (rDMA_CH_STATUS n) fDMA_CH_STATUS_DONE = true ∧ e.b (rDMA_CH_STATUS n) fDMA_CH_STATUS_ZERO = true) ∧
    (bits v.toNat 26 24 = 0 → bits v.toNat 23 21 = 1 → s.dev.rn (rDMA_CH_COUNT n) ≠ 0 →
      poolOk (s.dev.rdPair (rDMA_CH_DST_LO n) (rDMA_CH_DST_HI n)) (s.dev.rn (rDMA_CH_COUNT n)) = true →
      Completes (.dmaStart n v) s fun e => e.chanState n = 1 ∧ e.host.pool0 = s.dev.host.pool0 ∧ e.host.pool1 = s.dev.host.pool1) ∧
    (bits v.toNat 26 24 = 0 → bits v.toNat 23 21 = 0 → Completes (.dmaStart n v) s fun e =>
      e.chanState n = 2 ∧ e.f (rDMA_CH_STATUS n) fDMA_CH_STATUS_CAUSE = 7 ∧ e.b (rDMA_CH_STATUS n) fDMA_CH_STATUS_ERR_DIR = false ∧
      e.rdPair (rDMA_CH_ERR_LO n) (rDMA_CH_ERR_HI n) = s.dev.rdPair (rDMA_CH_SRC_LO n) (rDMA_CH_SRC_HI n))) ∧
  (∀ (s : State) (n : Fin 64) (v : BitVec 32), s.dev.chanState n = 1 → bits v.toNat 30 30 = 0 → Completes (.dmaStart n v) s fun e =>
    Counted s.dev e (rFLT_D_CNT_LO 0 0) 1 ∧ e.chanState n = 1 ∧ SameBut [.regs] s.dev e) ∧
  (∀ (s : State) (n : Fin 64) (v : BitVec 32), Completes (.dmaDisable n v) s fun e =>
    e.chanState n = 0 ∧ e.out = s.dev.out ∧ e.irq = s.dev.irq ∧
    e.rdPair (rDMA_CH_ERR_LO n) (rDMA_CH_ERR_HI n) = s.dev.rdPair (rDMA_CH_ERR_LO n) (rDMA_CH_ERR_HI n)) ∧
  (∀ (s : State) (n : Fin 64) (data : List Byte), s.dev.chanState n = 1 → s.dev.f (rDMA_CH_CTRL n) fDMA_CH_CTRL_MODE = 0 →
    s.dev.f (rDMA_CH_CTRL n) fDMA_CH_CTRL_SRC_SPACE = 0 → s.dev.f (rDMA_CH_CTRL n) fDMA_CH_CTRL_DST_SPACE = 1 →
    Completes (.dmaTransferDone n data) s fun e => e.chanState n = 0 ∧ e.b (rDMA_CH_STATUS n) fDMA_CH_STATUS_DONE = true ∧
      e.poolRead (s.dev.rdPair (rDMA_CH_DST_LO n) (rDMA_CH_DST_HI n)) (s.dev.rn (rDMA_CH_COUNT n)) =
        bytesAt data 0 (s.dev.rn (rDMA_CH_COUNT n)) ∧ e.rn (rDMA_CH_COUNT n) = 0) ∧
  (∀ (s : State) (n : Fin 64) (data : List Byte), s.dev.chanState n ≠ 1 → NoEffect (.dmaTransferDone n data) s) ∧
  (∀ (s : State) (n : Fin 64) (desc data : List Byte), s.dev.chanState n = 1 → s.dev.f (rDMA_CH_CTRL n) fDMA_CH_CTRL_MODE = 1 →
    beAt desc 16 4 ≠ 0 → bits (beAt desc 20 2) 13 11 = 0 → bits (beAt desc 20 2) 10 8 = 1 → bits (beAt desc 20 2) 15 15 = 1 →
    poolOk (beAt desc 8 8) (beAt desc 16 4) = true → Completes (.dmaDescriptorDone n desc data) s fun e =>
      e.chanState n = 0 ∧ e.b (rDMA_CH_STATUS n) fDMA_CH_STATUS_DONE = true ∧
      e.poolRead (beAt desc 8 8) (beAt desc 16 4) = bytesAt data 0 (beAt desc 16 4)) ∧
  (∀ (s : State) (n : Fin 64) (desc data : List Byte), s.dev.chanState n = 1 → s.dev.f (rDMA_CH_CTRL n) fDMA_CH_CTRL_MODE = 2 →
    s.dev.rn (rDMA_CH_RING_HEAD n) ≠ s.dev.rn (rDMA_CH_RING_TAIL n) → beAt desc 16 4 = 0 → (s.dev.chan n).hops = 0 →
    s.dev.f (rDMA_CH_HOP n) fDMA_CH_HOP_LIMIT ≠ 1 → bits (beAt desc 20 2) 14 14 = 0 → Completes (.dmaDescriptorDone n desc data) s fun e =>
      e.chanState n = 1 ∧ e.rn (rDMA_CH_RING_HEAD n) = (s.dev.rn (rDMA_CH_RING_HEAD n) + 1) % 2 ^ 32 ∧ (e.chan n).hops = 1 ∧
      memRead e.out.hostMem (s.dev.descAddr n + 22) 2 = [0, 2]) ∧
  (∀ (s : State) (n : Fin 64) (v : BitVec 32),
    ((v.toNat + 2 ^ 32 - s.dev.rn (rDMA_CH_RING_HEAD n)) % 2 ^ 32 ≤ s.dev.chanRing n → Completes (.dmaRingTailWrite n v) s fun e =>
      e.rn (rDMA_CH_RING_TAIL n) = v.toNat ∧ (v.toNat ≠ s.dev.rn (rDMA_CH_RING_TAIL n) → (e.chan n).hops = 0) ∧
      SameBut [.regs, .host] s.dev e) ∧
    (s.dev.chanRing n < (v.toNat + 2 ^ 32 - s.dev.rn (rDMA_CH_RING_HEAD n)) % 2 ^ 32 → Completes (.dmaRingTailWrite n v) s fun e =>
      e.rn (rDMA_CH_RING_TAIL n) = s.dev.rn (rDMA_CH_RING_TAIL n) ∧ Counted s.dev e (rFLT_D_CNT_LO 0 0) 1 ∧ SameBut [.regs] s.dev e)) ∧
  (∀ (s : State) (n : Fin 64) (addr : BitVec 64) (write : Bool) (desc data : List Byte) (moved : Nat), s.dev.chanState n = 1 →
    s.dev.f (rDMA_CH_CTRL n) fDMA_CH_CTRL_MODE ≠ 0 →
    (∀ cause code, (cause, code) ∈ [(HaltCause.busErr, 1), (.wrFlush, 3), (.selfAddr, 4)] →
      Completes (.dmaHalt n cause addr write true desc moved data) s fun e =>
        e.chanState n = 2 ∧ e.f (rDMA_CH_STATUS n) fDMA_CH_STATUS_CAUSE = code ∧
        e.rdPair (rDMA_CH_ERR_LO n) (rDMA_CH_ERR_HI n) = addr.toNat ∧ e.host = s.dev.host) ∧
    Completes (.cplTimeout n addr true desc moved data) s fun e =>
      e.chanState n = 2 ∧ e.f (rDMA_CH_STATUS n) fDMA_CH_STATUS_CAUSE = 2 ∧
      e.b (rDMA_CH_STATUS n) fDMA_CH_STATUS_ERR_DIR = false ∧ e.b (rDMA_CH_STATUS n) fDMA_CH_STATUS_ERR_DESC = true ∧
      e.rdPair (rDMA_CH_ERR_LO n) (rDMA_CH_ERR_HI n) = addr.toNat) ∧
  (∀ (s : State) (die : Fin 2) (v : BitVec 32), (s.dev.pool die).held = [] →
    splitShare v.toNat 0 + splitShare v.toNat 1 + splitShare v.toNat 2 + splitShare v.toNat 3 ≤ 32 →
    (∀ p : Nat, p < 4 → s.dev.minSum die p ≤ splitCount v.toNat p) → Completes (.poolSplitWrite die v) s fun e =>
      e.rn (rPOOL_SPLIT die) = v.toNat ∧ SameBut [.regs] s.dev e) ∧
  (∀ (s : State) (die : Fin 2) (v : BitVec 32), (s.dev.pool die).held ≠ [] → Completes (.poolSplitWrite die v) s fun e =>
    e.rn (rPOOL_SPLIT die) = s.dev.rn (rPOOL_SPLIT die) ∧ e.b (rPOOL_STATUS die) fPOOL_STATUS_SPLIT_ERR = true ∧ SameBut [.regs] s.dev e) ∧
  (∀ (s : State) (die : Fin 2) (o : Fin 16) (v : BitVec 32), s.dev.minSum die 0 = 0 → s.dev.minSum die 1 = 0 →
    (v.toNat / 65536 ≤ splitCount (s.dev.rn (rPOOL_SPLIT die)) 0 ∧ v.toNat % 65536 ≤ splitCount (s.dev.rn (rPOOL_SPLIT die)) 1 →
      Completes (.poolMinWrite die o false v) s fun e => e.rn (rPOOL_MIN_A die o) = v.toNat ∧ SameBut [.regs] s.dev e) ∧
    (splitCount (s.dev.rn (rPOOL_SPLIT die)) 0 < v.toNat / 65536 → Completes (.poolMinWrite die o false v) s fun e =>
      e.rn (rPOOL_MIN_A die o) = s.dev.rn (rPOOL_MIN_A die o) ∧ e.b (rPOOL_STATUS die) fPOOL_STATUS_RESV_ERR = true)) ∧
  (∀ (s : State) (o : Fin 16) (a : BitVec 32) (die p i : Nat), s.dev.poolAt a.toNat = some (die, p, i) →
    (kvGet 0 (s.dev.pool die).held (16384 * p + i) = o.val + 1 → Completes (.poolBufferReturn o a) s fun e =>
      kvGet 0 (e.pool die).held (16384 * p + i) = 0) ∧
    (kvGet 0 (s.dev.pool die).held (16384 * p + i) ≠ o.val + 1 → Completes (.poolBufferReturn o a) s fun e =>
      (e.pool die).held = (s.dev.pool die).held ∧ Counted s.dev e (rFLT_D_CNT_LO die 0) 1))

/-- R433: commands of the device family. -/
def Obligations.DeviceCommands : Prop :=
  (∀ (s : State) (h : CmdHdr), Answers (.devInfo h) s h 0x0100 0 0 (bytesAt s.dev.board.factory 0 3 ++ beBytes 4 (s.dev.rn rRCK_VENDOR_VER) ++
    beBytes 2 s.dev.devNo ++ beBytes 1 s.dev.locked.toNat ++ beBytes 2 s.dev.cert.length) (fun e => e = s.dev) ∧
    Answers (.devNop h) s h 0x0101 0 0 [] fun e => e = s.dev) ∧
  (∀ (s : State) (h : CmdHdr) (a n : Nat) (offset : BitVec 32) (count : BitVec 16), offset.toNat = a → count.toNat = n →
    (a % 4 = 0 → n = 1 → Answers (.devRegRead h offset count) s h 0x0102 0 0 (beBytes 4 (s.dev.agentRead s.otp a).2.toNat) fun e =>
      e = (s.dev.agentRead s.otp a).1) ∧
    (a % 4 ≠ 0 ∨ n = 0 ∨ 64 < n → Rejects (.devRegRead h offset count) s h 0x0102 2)) ∧
  (∀ (s : State) (h : CmdHdr) (a : Nat) (offset value mask : BitVec 32), Live s → offset.toNat = a →
    (a % 4 = 0 → mask = BitVec.allOnes 32 → Answers (.devRegWrite h offset value mask) s h 0x0103 0 0 [] fun e =>
      e = s.dev.regWrite a value.toNat) ∧
    (a % 4 = 0 → Answers (.devRegWrite h offset value mask) s h 0x0103 0 0 [] fun e =>
      e = s.dev.regWrite a (s.dev.masked a value.toNat mask.toNat)) ∧
    (a % 4 ≠ 0 → Rejects (.devRegWrite h offset value mask) s h 0x0103 2)) ∧
  (∀ (s : State) (a v m : Nat) (r : RDesc), regAt a = some r → m < 2 ^ 32 → ∀ f ∈ r.fields, ∀ k, f.fld.lo ≤ k → k ≤ f.fld.hi →
    (s.dev.masked a v m).testBit k = if m.testBit k then v.testBit k else (decide (f.ty = .rw) && (s.dev.rn a).testBit k)) ∧
  (∀ (s : State) (h : CmdHdr) (block mask : BitVec 8), Live s → bits mask.toNat 0 0 = 1 →
    (block.toNat ∈ [0, 1, 2, 3, 4, 5, 7, 9, 15, 16, 18, 19] → Completes (.devBlockReset h block mask) s fun e =>
      e.deferred = s.dev.deferred ++ [.blockReset block.toNat mask.toNat (some (h.src, h.tag))] ∧ SameBut [.deferred] s.dev e) ∧
    (block.toNat ∈ [11, 12, 13, 14, 17] → Rejects (.devBlockReset h block mask) s h 0x0104 6) ∧
    (block.toNat = 10 → s.dev.f rJRN_STATUS fJRN_STATUS_STATE ≠ 0 → Rejects (.devBlockReset h block mask) s h 0x0104 6) ∧
    (19 < block.toNat → Rejects (.devBlockReset h block mask) s h 0x0104 2)) ∧
  (∀ (s : State) (h : CmdHdr) (block mask : BitVec 8), Live s → mask.toNat % 4 = 0 → Rejects (.devBlockReset h block mask) s h 0x0104 2) ∧
  (∀ (s : State) (h : CmdHdr) (id : BitVec 32), Live s → kvGet none s.dev.host.batches id.toNat = none →
    Rejects (.devBatchCommit h id) s h 0x0105 9 ∧ Rejects (.devBatchAbort h id) s h 0x0106 9) ∧
  (∀ (s : State) (h : CmdHdr) (id : BitVec 32) (b : Batch), Live s → kvGet none s.dev.host.batches id.toNat = some b → b.commit = none →
    (b.failed = none → Completes (.devBatchCommit h id) s fun e =>
      kvGet none e.host.batches id.toNat = some { b with commit := some (h.src, h.tag, 0x0105) } ∧
      e.b (rTBL_STATUS 0) fTBL_STATUS_COMMIT_PENDING = true ∧ e.b (rTBL_STATUS 1) fTBL_STATUS_COMMIT_PENDING = true ∧ e.tbl = s.dev.tbl) ∧
    (∀ st n, b.failed = some (st, n) → Answers (.devBatchCommit h id) s h 0x0105 st 0 (beBytes 4 n) fun e =>
      kvGet none e.host.batches id.toNat = none ∧ e.tbl = s.dev.tbl) ∧
    Answers (.devBatchAbort h id) s h 0x0106 0 0 (beBytes 4 b.ops.length) fun e =>
      kvGet none e.host.batches id.toNat = none ∧ e.tbl = s.dev.tbl) ∧
  (∀ (s : State) (h : CmdHdr) (desc : Vector Byte 16) (frame : List Byte) (port a : Nat) (d1 : Dev), Live s →
    beAt desc.toList 4 2 = frame.length → 64 ≤ frame.length → frame.length ≤ 16383 → beAt desc.toList 2 2 = port →
    s.dev.portExists port = true → beAt desc.toList 0 1 = 0 →
    (s.dev.poolTake (dieOf port) 10 frame.length = (d1, some a) → Answers (.devInject h desc frame) s h 0x0107 0 0 [] fun e =>
      ∃ x, e.path.injects = s.dev.path.injects ++ [x] ∧ x.col = e.column port ∧ x.port = port ∧
        x.bytes = frame.take (frame.length - 4) ∧ x.buf = some a) ∧
    (s.dev.poolTake (dieOf port) 10 frame.length = (d1, none) → Answers (.devInject h desc frame) s h 0x0107 5 0 [] fun e => e = d1)) ∧
  (∀ (s : State) (h : CmdHdr) (desc : Vector Byte 16) (frame : List Byte), Live s → beAt desc.toList 4 2 ≠ frame.length →
    Rejects (.devInject h desc frame) s h 0x0107 3) ∧
  (∀ (s : State) (h : CmdHdr) (offset count : BitVec 16),
    (1 ≤ count.toNat → count.toNat ≤ 1024 → offset.toNat + count.toNat ≤ s.dev.cert.length →
      Answers (.devCertRead h offset count) s h 0x0108 0 0 ((s.dev.cert.drop offset.toNat).take count.toNat) fun e => e = s.dev) ∧
    (s.dev.cert.length < offset.toNat + count.toNat → Rejects (.devCertRead h offset count) s h 0x0108 2))

/-- R73, R89, R401, R402, R433: module, calibration and microcode commands. -/
def Obligations.ModuleAndMicrocodeCommands : Prop :=
  (∀ (s : State) (h : CmdHdr) (cage bank page offset count : BitVec 8) (data : List Byte), Live s →
    1 ≤ count.toNat → count.toNat ≤ 128 → offset.toNat + count.toNat ≤ 256 → data.length = count.toNat →
    (s.dev.mstate cage.toNat ≠ 0 → Answers (.prtModRead h cage bank page offset count data) s h 0x0200 0 0 data fun e => e = s.dev) ∧
    (s.dev.mstate cage.toNat = 0 → Rejects (.prtModRead h cage bank page offset count data) s h 0x0200 9 ∧
      Rejects (.prtModWrite h cage bank page offset count data) s h 0x0201 9) ∧
    (s.dev.mstate cage.toNat ≠ 0 → page.toNat ≠ 0x10 → Answers (.prtModWrite h cage bank page offset count data) s h 0x0201 0 0 []
      fun e => memRead (e.cage cage.toNat).modMem ((bank.toNat * 256 + page.toNat) * 256 + offset.toNat) count.toNat = data ∧
        SameBut [.port] s.dev e) ∧
    (s.dev.mstate cage.toNat ≠ 0 → page.toNat = 0x10 → 128 < offset.toNat + count.toNat → s.dev.cagePorts cage.toNat ≠ [] →
      Rejects (.prtModWrite h cage bank page offset count data) s h 0x0201 6)) ∧
  (∀ (s : State) (h : CmdHdr) (cage bank page offset count : BitVec 8) (data : List Byte), Live s → 256 < offset.toNat + count.toNat →
    Rejects (.prtModRead h cage bank page offset count data) s h 0x0200 2) ∧
  (∀ (s : State) (h : CmdHdr) (first count : BitVec 16), Live s → 1 ≤ count.toNat → first.toNat + count.toNat ≤ 512 →
    ((∀ n, first.toNat ≤ n → n < first.toNat + count.toNat → n ∉ s.dev.port.calRunning) →
      Answers (.prtCalRun h first count) s h 0x0202 0 0 [] fun e =>
        (∀ n, n ∈ e.port.calRunning ↔ n ∈ s.dev.port.calRunning ∨ (first.toNat ≤ n ∧ n < first.toNat + count.toNat)) ∧
        SameBut [.port] s.dev e) ∧
    (∀ n, first.toNat ≤ n → n < first.toNat + count.toNat → n ∈ s.dev.port.calRunning → Rejects (.prtCalRun h first count) s h 0x0202 5)) ∧
  (∀ (s : State) (h : CmdHdr) (addr : BitVec 64) (len : BitVec 32) (image : List Byte), Live s →
    s.dev.b rRCK_STATUS fRCK_STATUS_USER_ON = false → s.dev.b rRCK_STATUS fRCK_STATUS_OPEN_BUSY = false →
    (image.length = len.toNat → image.length = imageLen image → openImageOk image = true →
      Answers (.mcOpenLoad h addr len image) s h 0x0800 0 0
        (bytesAt image 24 8 ++ beBytes 4 (beAt image (image.length - 4) 4)) fun e =>
        e.b rRCK_STATUS fRCK_STATUS_OPEN_LOADED = true ∧ e.rdPair rRCK_OPEN_ID_LO rRCK_OPEN_ID_HI = beAt image 24 8 ∧
        (∀ i, i < beAt image 16 4 →
          kvGet 0 e.rck.cs (beAt image 12 4 + i) = BitVec.ofNat 32 (beAt image (32 + 4 * beAt image 10 2 + 4 * i) 4)) ∧
        (∀ ty, ty < 0xF00 → kvGet 0 e.rck.entries ty = kvGet 0 s.dev.rck.entries ty) ∧
        (beAt image 10 2 = 1 → kvGet 0 e.rck.entries (beAt image 32 2 % 4096) =
          BitVec.ofNat 32 (2 ^ 31 + 2 ^ 29 + (beAt image 12 4 + beAt image 34 2))) ∧
        (beAt image 10 2 = 0 → ∀ ty, 0xF00 ≤ ty → kvGet 0 e.rck.entries ty = 0) ∧ SameBut [.regs, .rck] s.dev e) ∧
    (image.length ≠ len.toNat → Rejects (.mcOpenLoad h addr len image) s h 0x0800 3) ∧
    (36 ≤ image.length → image.length = len.toNat → image.length = imageLen image → beAt image 8 2 ≠ 1 →
      Rejects (.mcOpenLoad h addr len image) s h 0x0800 2)) ∧
  (∀ (s : State) (h : CmdHdr) (addr : BitVec 64) (len : BitVec 32) (image : List Byte), Live s →
    s.dev.b rRCK_STATUS fRCK_STATUS_USER_ON = true ∨ s.dev.b rRCK_STATUS fRCK_STATUS_OPEN_BUSY = true →
    Rejects (.mcOpenLoad h addr len image) s h 0x0800 5) ∧
  (∀ (s : State) (h : CmdHdr), Live s →
    (s.dev.b rRCK_STATUS fRCK_STATUS_OPEN_LOADED = true → Answers (.mcOpenEnable h) s h 0x0801 0 0 [] fun e =>
      e.b rRCK_OPEN_CTRL fRCK_OPEN_CTRL_USER_EN = true ∧ SameBut [.regs] s.dev e) ∧
    (s.dev.b rRCK_STATUS fRCK_STATUS_OPEN_LOADED = false → Rejects (.mcOpenEnable h) s h 0x0801 9) ∧
    Answers (.mcOpenDisable h) s h 0x0802 0 0 [] fun e =>
      e.b rRCK_OPEN_CTRL fRCK_OPEN_CTRL_USER_EN = false ∧ SameBut [.regs] s.dev e) ∧
  (∀ (s : State) (h : CmdHdr) (die count : BitVec 8) (type : BitVec 16) (ops : List (BitVec 64)), Live s →
    die.toNat ≤ 1 → count.toNat ≤ 4 → ops.length = count.toNat →
    (0x0F00 ≤ type.toNat → type.toNat ≤ 0x0FFF → s.dev.b rRCK_STATUS fRCK_STATUS_USER_ON = true → s.dev.entryValid type.toNat = true →
      s.dev.cmdTask h.src h.tag 0x0803 = none → s.dev.taskRoom die.toNat false = true →
      Completes (.mcCall h die count type ops) s fun e => ∃ i t c, (e.rckD die.toNat).task i = some t ∧ t.type = type.toNat ∧
        t.st = .ready ∧ t.cmd = some c ∧ c.src = h.src ∧ c.tag = h.tag ∧
        (∀ j, j < 4 → t.ops.getD j 0 = (ops.getD j 0).toNat)) ∧
    (0x0F00 ≤ type.toNat → type.toNat ≤ 0x0FFF → s.dev.b rRCK_STATUS fRCK_STATUS_USER_ON = false →
      Rejects (.mcCall h die count type ops) s h 0x0803 9) ∧
    (type.toNat < 0x0F00 → Rejects (.mcCall h die count type ops) s h 0x0803 2))

/-- R133, R143, R146, R147, R151, R158, R162, R169, R431, R433: commands of the tables family. -/
def Obligations.TableCommands : Prop :=
  (∀ (s : State) (h : CmdHdr) (no : BitVec 8) (desc : List Byte), Live s → desc.length = 32 →
    (no.toNat < 128 → Machine.descOk desc = true → eb desc 0 ≠ 1 → s.dev.tbl.mem.anyTable no.toNat = none →
      (∀ die, s.dev.tbl.mem.roomFor die { desc := desc } = true) → Answers (.tblCreate h no desc) s h 0x0300 0 0 (zeros 16) fun e =>
        ∀ die, die < 2 → bits (eb desc 1) (6 + die) (6 + die) = 1 → e.tbl.mem.table die no.toNat = some { desc := desc }) ∧
    (128 ≤ no.toNat ∨ Machine.descOk desc = false → Rejects (.tblCreate h no desc) s h 0x0300 2) ∧
    (no.toNat < 128 → Machine.descOk desc = true → s.dev.tbl.mem.anyTable no.toNat ≠ none → Rejects (.tblCreate h no desc) s h 0x0300 6)) ∧
  (∀ (s : State) (h : CmdHdr) (no : BitVec 8), Live s → s.dev.tbl.jobs = [] → s.dev.tbl.mem.anyTable no.toNat ≠ none →
    ((∀ die t, s.dev.tbl.mem.table die no.toNat = some t → t.bound = none) → (∀ die, s.dev.tbl.mem.isCompanion die no.toNat = false) →
      s.dev.tblHeld no.toNat = false → Answers (.tblDestroy h no) s h 0x0301 0 0 [] fun e =>
        ∀ die, die < 2 → e.tbl.mem.table die no.toNat = none) ∧
    ((∃ die t, die < 2 ∧ s.dev.tbl.mem.table die no.toNat = some t ∧ t.bound ≠ none) → Rejects (.tblDestroy h no) s h 0x0301 6)) ∧
  (∀ (s : State) (h : CmdHdr) (no dir stage slot comp : BitVec 8) (segs : List Byte), Live s → s.dev.tbl.jobs = [] → h.batch = none →
    segs.length = 32 → s.dev.tbl.mem.anyTable no.toNat ≠ none →
    (∀ die t, s.dev.tbl.mem.table die no.toNat = some t → t.versioned = false ∧ t.companion = none) →
    ((∀ die, die < 2 → s.dev.tbl.mem.table die no.toNat ≠ none →
        s.dev.tbl.mem.bindOk die no.toNat dir.toNat stage.toNat slot.toNat segs comp.toNat = true) →
      Answers (.tblBind h no dir stage slot segs comp) s h 0x0302 0 0 [] fun e => ∀ die t, die < 2 → s.dev.tbl.mem.table die no.toNat = some t →
        e.tbl.mem.table die no.toNat =
          some { t with bound := some (dir.toNat, stage.toNat, slot.toNat), keymap := segs, mapPoison := false }) ∧
    ((∃ die, die < 2 ∧ s.dev.tbl.mem.table die no.toNat ≠ none ∧
        s.dev.tbl.mem.bindOk die no.toNat dir.toNat stage.toNat slot.toNat segs comp.toNat = false) →
      Answers (.tblBind h no dir stage slot segs comp) s h 0x0302 2 0 [] fun e => e.tbl = s.dev.tbl) ∧
    ((∃ die t, die < 2 ∧ s.dev.tbl.mem.table die no.toNat = some t ∧ t.bound ≠ none) →
      Answers (.tblUnbind h no) s h 0x0303 0 0 [] fun e => ∀ die t, die < 2 → s.dev.tbl.mem.table die no.toNat = some t →
        e.tbl.mem.table die no.toNat = some { t with bound := none }) ∧
    ((∀ die t, s.dev.tbl.mem.table die no.toNat = some t → t.bound = none) →
      Answers (.tblUnbind h no) s h 0x0303 6 0 [] fun e => e.tbl = s.dev.tbl)) ∧
  (∀ (s : State) (h : CmdHdr) (no : BitVec 8) (id : BitVec 32) (b : Batch), Live s → s.dev.tbl.jobs = [] → h.batch = some id →
    kvGet none s.dev.host.batches id.toNat = some b → b.ops.length < 16384 →
    ((s.dev.opsApply b.ops 0).1.opApply (.unbind no.toNat)).status = 0 →
    Answers (.tblUnbind h no) s h 0x0303 0 0x40 ((s.dev.opsApply b.ops 0).1.opApply (.unbind no.toNat)).result fun e =>
      kvGet none e.host.batches id.toNat = some { b with ops := b.ops ++ [.unbind no.toNat] } ∧ e.tbl = s.dev.tbl) ∧
  (∀ (s : State) (h : CmdHdr) (no plen : BitVec 8) (prio : BitVec 32) (result key mask : List Byte) (t : Table) (row : Nat), Live s →
    s.dev.tbl.jobs = [] → h.batch = none → result.length = 8 → key.length = 80 → mask.length = 80 →
    s.dev.tbl.mem.table 0 no.toNat = some t → t.type = 4 → t.versioned = false → s.dev.tbl.mem.isCompanion 0 no.toNat = false →
    (∀ i, t.keyBytes ≤ i → key.getD i 0 = 0 ∧ mask.getD i 0 = 0) → prio.toNat ≤ 1048575 → tcamPlan t prio.toNat = some ([], row) →
    Answers (.tblInsert h no 1 plen prio result key mask) s h 0x0304 0 0 (beBytes 4 (s.dev.newHandle no.toNat)) fun e =>
      ∃ u x, e.tbl.mem.table 0 no.toNat = some u ∧ x ∈ u.entries ∧ x.place = row ∧ x.key = key.take t.keyBytes ∧
        x.mask = mask.take t.keyBytes ∧ x.prio = prio.toNat ∧ x.result = result ∧ x.handle = s.dev.newHandle no.toNat) ∧
  (∀ (s : State) (h : CmdHdr) (no flags plen : BitVec 8) (prio : BitVec 32) (result key mask : List Byte) st r, Live s → s.dev.tbl.jobs = [] →
    h.batch = none → result.length = 8 → key.length = 80 → mask.length = 80 →
    s.dev.opVersioned (.insert no.toNat flags.toNat plen.toNat prio.toNat (s.dev.newHandle no.toNat) result key mask) = false →
    s.dev.insertPlan no.toNat flags.toNat plen.toNat prio.toNat (s.dev.newHandle no.toNat) result key mask = .error (st, r, []) →
    Answers (.tblInsert h no flags plen prio result key mask) s h 0x0304 st 0 r fun e => e = s.dev) ∧
  (∀ (s : State) (h : CmdHdr) (no plen : BitVec 8) (handle : BitVec 32) (key : List Byte) (t : Table), Live s → s.dev.tbl.jobs = [] →
    h.batch = none → key.length = 40 → s.dev.tbl.mem.table 0 no.toNat = some t → t.type = 4 → t.versioned = false →
    ((∀ x ∈ t.entries, x.handle = handle.toNat → x.flag ≠ 2) →
      (t.entries.filter fun x => decide (x.handle = handle.toNat)).length ≤ 1 →
      Answers (.tblDelete h no 1 plen handle key) s h 0x0305 0 0 [] fun e =>
        ∃ u, e.tbl.mem.table 0 no.toNat = some u ∧ ∀ x ∈ u.entries, x.handle ≠ handle.toNat)) ∧
  (∀ (s : State) (h : CmdHdr) (no plen : BitVec 8) (handle : BitVec 32) (key : List Byte) (t : Table), Live s → key.length = 40 →
    s.dev.tbl.live.table 0 no.toNat = some t → t.type = 4 →
    (∀ x, (t.entries.find? fun x => decide (x.handle = handle.toNat) && x.seen (s.dev.verCur 0) (s.dev.verCur 0) (s.dev.verPrev 0)) = some x →
      x.poisoned = false → Answers (.tblRead h no 1 plen handle key) s h 0x0306 0 0
        (x.result ++ ((x.key ++ zeros 80).take 80 ++ (x.mask ++ zeros 80).take 80 ++ beBytes 4 x.prio)) fun e => e = s.dev) ∧
    ((∀ x ∈ t.entries, x.handle ≠ handle.toNat) → Answers (.tblRead h no 1 plen handle key) s h 0x0306 0 0 [] fun e => e = s.dev)) ∧
  (∀ (s : State) (h : CmdHdr) (no start count : BitVec 8) (die : Fin 2) (key : List Byte) (t : Table) l, Live s → key.length = 80 →
    s.dev.tbl.live.table die no.toNat = some t → t.type = 4 → count.toNat ≤ 64 →
    tcamMatches (t.entries.filter fun x => x.seen (s.dev.verCur die) (s.dev.verCur die) (s.dev.verPrev die)) (key.take t.keyBytes) = l →
    (l = [] → Answers (.tcamStep h no (BitVec.ofNat 8 die) start count key) s h 0x0307 0 0
      (beBytes 4 0 ++ beBytes 4 0xFFFFFFFF ++ zeros 4) fun e => e = s.dev) ∧
    (∀ x, l = [x] → start.toNat = 0 → 1 ≤ count.toNat → Answers (.tcamStep h no (BitVec.ofNat 8 die) start count key) s h 0x0307 0 0
      (beBytes 4 1 ++ beBytes 4 x.handle ++ zeros 4 ++ beBytes 4 x.place ++ beBytes 4 x.handle ++ beBytes 4 x.prio ++ x.result)
      fun e => e = s.dev)) ∧
  (∀ (s : State) (h : CmdHdr) (mask dir stage slot p : BitVec 8) (entry : List Byte), Live s → h.batch = none → entry.length = 48 →
    (1 ≤ p.toNat → p.toNat ≤ 63 → mask.toNat % 4 ≠ 0 → dir.toNat ≤ 1 → stage.toNat < (if dir.toNat = 0 then 12 else 8) → slot.toNat ≤ 1 →
      profileOk dir.toNat entry = true → Answers (.tblProfileWrite h mask dir stage slot p entry) s h 0x0308 0 0 [] fun e =>
        ∀ die, die < 2 → bits mask.toNat die die = 1 →
          e.tbl.mem.profile die dir.toNat stage.toNat slot.toNat p.toNat = entry) ∧
    (p.toNat = 0 → Answers (.tblProfileWrite h mask dir stage slot p entry) s h 0x0308 6 0 [] fun e => e.tbl = s.dev.tbl)) ∧
  (∀ (s : State) (h : CmdHdr) (die : Fin 2) (index : BitVec 16) (entry : List Byte), Live s → entry.length = 12 → index.toNat < 2048 →
    (s.dev.b (rPAR_STATUS die) fPAR_STATUS_OLD_BANK_BUSY = false →
      Answers (.tblParseWrite h (BitVec.ofNat 8 (2 ^ die.val)) 1 index entry) s h 0x0309 0 0 [] fun e =>
        (s.dev.b (rPAR_STATUS die) fPAR_STATUS_ACTIVE_BANK = false → (e.par die).bank1.transition index.toNat = entry ∧
          (e.par die).bank0 = (s.dev.par die).bank0) ∧
        (s.dev.b (rPAR_STATUS die) fPAR_STATUS_ACTIVE_BANK = true → (e.par die).bank0.transition index.toNat = entry ∧
          (e.par die).bank1 = (s.dev.par die).bank1)) ∧
    (s.dev.b (rPAR_STATUS die) fPAR_STATUS_OLD_BANK_BUSY = true →
      Rejects (.tblParseWrite h (BitVec.ofNat 8 (2 ^ die.val)) 1 index entry) s h 0x0309 5)) ∧
  (∀ (s : State) (h : CmdHdr) (die : Fin 2), Live s → h.batch = none →
    (s.dev.b (rPAR_STATUS die) fPAR_STATUS_OLD_BANK_BUSY = false →
      Answers (.tblParseSwap h (BitVec.ofNat 8 (2 ^ die.val))) s h 0x030A 0 0 [] fun e =>
        e.deferred.contains (.parSwap die) = true ∧ e.par die = s.dev.par die) ∧
    (s.dev.b (rPAR_STATUS die) fPAR_STATUS_OLD_BANK_BUSY = true →
      Rejects (.tblParseSwap h (BitVec.ofNat 8 (2 ^ die.val))) s h 0x030A 5))

/-- R195, R202, R219, R226, R233, R236, R252, R276, R284, R285, R290, R433: commands on flows, queues and levels. -/
def Obligations.FlowAndQueueCommands : Prop :=
  (∀ (s : State) (h : CmdHdr) (die : Fin 2) (profile flags : BitVec 8) (key bytes : List Byte) (fk : FKey), Live s → profile.toNat ≤ 15 →
    s.dev.fkey die profile.toNat key = fk → s.dev.opOn die fk = none → s.dev.b (rFLW_STATUS die) fFLW_STATUS_READY = true →
    (s.dev.flw die).ops.length < 4096 → bits (eb bytes 0) 7 4 ≤ 5 →
    (∀ dest moves, s.dev.recSeen die fk = none → bits flags.toNat 6 6 = 0 → s.dev.placement die fk = some (dest, moves) →
      Completes (.flowInsert h (BitVec.ofNat 8 die) profile flags key bytes) s fun e => ∃ o, (e.flw die).ops = (s.dev.flw die).ops ++ [o] ∧
        o.fk = fk ∧ o.dest = some (dest.1, dest.2, decide (dest.1 ≠ homeBucket (s.dev.buckets die) fk)) ∧ o.moves = moves ∧
        o.reply = some (h.src, h.tag, 0x0400)) ∧
    (∀ body hit loc, s.dev.recSeen die fk = some (body, hit, loc) → bits flags.toNat 7 7 = 0 →
      Answers (.flowInsert h (BitVec.ofNat 8 die) profile flags key bytes) s h 0x0400 6 0 (beBytes 4 loc) fun e => e = s.dev)) ∧
  (∀ (s : State) (h : CmdHdr) (die : Fin 2) (profile flags : BitVec 8) (key bytes : List Byte) (fk : FKey), Live s → profile.toNat ≤ 15 →
    s.dev.fkey die profile.toNat key = fk → s.dev.opOn die fk = none → s.dev.b (rFLW_STATUS die) fFLW_STATUS_READY = false →
    bits (eb bytes 0) 7 4 ≤ 5 → Rejects (.flowInsert h (BitVec.ofNat 8 die) profile flags key bytes) s h 0x0400 9) ∧
  (∀ (s : State) (h : CmdHdr) (die : Fin 2) (profile : BitVec 8) (key : List Byte) (fk : FKey), Live s → profile.toNat ≤ 15 →
    s.dev.fkey die profile.toNat key = fk → s.dev.opOn die fk = none →
    (∀ b i y, (s.dev.hbmFind die fk).1 = some (b, i, y) → y.second = false →
      Answers (.flowDelete h (BitVec.ofNat 8 die) profile key) s h 0x0401 0 0 [] fun e => ((e.flw die).bucket b).slot i = none) ∧
    ((s.dev.hbmFind die fk).1 = none → Answers (.flowDelete h (BitVec.ofNat 8 die) profile key) s h 0x0401 0 0 [] (fun e => e = s.dev) ∧
      Answers (.flowRead h (BitVec.ofNat 8 die) profile key) s h 0x0402 0 0 [] fun e => e = s.dev) ∧
    (∀ b i y body hit loc, (s.dev.hbmFind die fk).1 = some (b, i, y) → s.dev.recSeen die fk = some (body, hit, loc) →
      s.dev.cacheFind die fk = none → Answers (.flowRead h (BitVec.ofNat 8 die) profile key) s h 0x0402 0 0
        (body ++ slotEntry { y with kind := recKind body, pinned := recPinned body } hit false) fun e => e = s.dev)) ∧
  (∀ (s : State) (h : CmdHdr) (die : Fin 2) (profile : BitVec 8) (key bytes : List Byte) (mask : Word) (fk : FKey), Live s → profile.toNat ≤ 15 →
    s.dev.fkey die profile.toNat key = fk → s.dev.opOn die fk = none →
    (bits mask.toNat 0 0 = 1 → Rejects (.flowWrite h (BitVec.ofNat 8 die) profile key mask bytes) s h 0x0403 2) ∧
    (bits mask.toNat 0 0 = 0 → s.dev.recSeen die fk = none →
      Rejects (.flowWrite h (BitVec.ofNat 8 die) profile key mask bytes) s h 0x0403 4) ∧
    (∀ b i y, bits mask.toNat 0 0 = 0 → (s.dev.hbmFind die fk).1 = some (b, i, y) → s.dev.cacheFind die fk = none → y.body.length = 64 →
      i < 7 → Answers (.flowWrite h (BitVec.ofNat 8 die) profile key mask bytes) s h 0x0403 0 0 [] fun e =>
        ∃ z, ((e.flw die).bucket b).slot i = some z ∧ z.body.length = 64 ∧ (∀ j : Nat, j < 40 → eb z.body j = eb y.body j) ∧
          ∀ j : Nat, j < 24 → eb z.body (40 + j) = if bits mask.toNat j j = 1 ∧ j ≠ 3 then eb bytes j else eb y.body (40 + j))) ∧
  (∀ (s : State) (h : CmdHdr) (die : Fin 2) (profile : BitVec 8) (key : List Byte) (fk : FKey) x, Live s → profile.toNat ≤ 15 →
    s.dev.fkey die profile.toNat key = fk → s.dev.opOn die fk = none → s.dev.recSeen die fk = some x →
    ((s.dev.flw die).kills.length < 4096 → Answers (.flowKill h (BitVec.ofNat 8 die) profile key) s h 0x0404 0 0
      (beBytes 8 (s.dev.trk.tick + 1)) fun e => ∃ y ∈ (e.flw die).kills, killIs fk y = true ∧ y.set = true ∧ y.stored = s.dev.trk.tick) ∧
    Answers (.flowUnkill h (BitVec.ofNat 8 die) profile key) s h 0x0405 0 0 (beBytes 8 (s.dev.trk.tick + 1)) fun e =>
      ∃ y ∈ (e.flw die).kills, killIs fk y = true ∧ y.set = false ∧ y.stored = s.dev.trk.tick) ∧
  (∀ (s : State) (h : CmdHdr) (die : Fin 2) (profile : BitVec 8) (key : List Byte) (fk : FKey), Live s → profile.toNat ≤ 15 →
    s.dev.fkey die profile.toNat key = fk → s.dev.opOn die fk = none → s.dev.recSeen die fk = none →
    Rejects (.flowKill h (BitVec.ofNat 8 die) profile key) s h 0x0404 4 ∧ Rejects (.flowUnkill h (BitVec.ofNat 8 die) profile key) s h 0x0405 4) ∧
  (∀ (s : State) (h : CmdHdr) (mask : BitVec 8) (index : BitVec 16) (bytes : List Byte), Live s → index.toNat < 256 → bytes.length = 8 →
    (1 ≤ beAt bytes 0 4 → beAt bytes 0 4 ≤ 16777215 → beAt bytes 0 4 ≤ beAt bytes 4 4 → beAt bytes 4 4 ≤ 16777215 → mask.toNat % 4 ≠ 0 →
      Answers (.flowKindWrite h mask 2 index 0 8 bytes) s h 0x0406 0 0 [] fun e => ∀ die, die < 2 → bits mask.toNat die die = 1 →
        kvGet [] e.tbl.mem.kind ((die * 4 + 2) * 1024 + index.toNat) = bytes) ∧
    (beAt bytes 4 4 < beAt bytes 0 4 → mask.toNat % 4 ≠ 0 → Rejects (.flowKindWrite h mask 2 index 0 8 bytes) s h 0x0406 2) ∧
    Rejects (.flowKindWrite h mask 2 index 1 8 bytes) s h 0x0406 2) ∧
  (∀ (s : State) (h : CmdHdr) (die : Fin 2) (k : Fin 128), Live s → bits (s.dev.rn (rFLW_PC_RETIRED die (k.val / 32))) (k.val % 32) (k.val % 32) = 0 →
    (∀ n, (s.dev.flw die).retire = none → s.dev.f (rFLW_REHASH die) fFLW_REHASH_STATE = 0 →
      s.dev.f (rFLW_SPARE die) (if k.val < 64 then fFLW_SPARE_STACK0 else fFLW_SPARE_STACK1) = n + 1 →
      Completes (.flowRetirePc h (BitVec.ofNat 8 die) (BitVec.ofNat 8 k)) s fun e =>
        (∃ j, (e.flw die).retire = some j ∧ j.pc = k.val ∧ j.row = 0 ∧ j.reply = some (h.src, h.tag, 0x0407)) ∧
        e.f (rFLW_SPARE die) (if k.val < 64 then fFLW_SPARE_STACK0 else fFLW_SPARE_STACK1) = n ∧
        e.b (rFLW_RETIRE die) fFLW_RETIRE_BUSY = true) ∧
    (∀ j, (s.dev.flw die).retire = some j → Rejects (.flowRetirePc h (BitVec.ofNat 8 die) (BitVec.ofNat 8 k)) s h 0x0407 5)) ∧
  (∀ (s : State) (h : CmdHdr) (die : Fin 2), Live s → (s.dev.flw die).retire = none → (s.dev.flw die).rehashOn = false → (s.dev.flw die).flushSet = none →
    (s.dev.b (rFLW_STATUS die) fFLW_STATUS_READY = true → Completes (.flowRehash h (BitVec.ofNat 8 die)) s fun e =>
      (e.flw die).rehashOn = true ∧ (e.flw die).rehash = some (h.src, h.tag, 0x0408) ∧ (e.flw die).stuck = 0 ∧
      e.f (rFLW_REHASH die) fFLW_REHASH_PASS = 1) ∧
    (s.dev.b (rFLW_STATUS die) fFLW_STATUS_READY = false → Rejects (.flowRehash h (BitVec.ofNat 8 die)) s h 0x0408 9)) ∧
  (∀ (s : State) (h : CmdHdr) (die : Fin 2), Live s → (s.dev.flw die).rehashOn = true → Rejects (.flowRehash h (BitVec.ofNat 8 die)) s h 0x0408 5) ∧
  (∀ (s : State) (h : CmdHdr) (port : BitVec 16) (queue : BitVec 8) (set : ShapeSet), Live s → h.batch = none →
    (s.dev.portExists port.toNat = true → queue.toNat < 16 ∨ queue.toNat = 0xFF → shapeOk set = true →
      Answers (.qShape h port queue set) s h 0x0500 0 0 [] fun e =>
        e = (s.dev.each (s.dev.shapeWrites port.toNat queue.toNat set) fun d w => d.schWrite w.1 w.2).used) ∧
    (s.dev.portExists port.toNat = false ∨ shapeOk set = false → Answers (.qShape h port queue set) s h 0x0500 2 0 [] fun e =>
      e = s.dev.used)) ∧
  (∀ (s : State) (h : CmdHdr) (port : BitVec 16) (queue : BitVec 8), Live s → queue.toNat < 16 →
    (s.dev.portExists port.toNat = true → Answers (.qFlush h port queue) s h 0x0501 0 0
      (beBytes 4 (s.dev.queue (dieOf port.toNat) (qIdx port.toNat queue.toNat)).copies.length) fun e =>
        (e.queue (dieOf port.toNat) (qIdx port.toNat queue.toNat)).copies = []) ∧
    (s.dev.portExists port.toNat = false → Rejects (.qFlush h port queue) s h 0x0501 2)) ∧
  (∀ (s : State) (h : CmdHdr) (g : BitVec 16) (prune jrn copyId : Bool) (ports : BitVec 512) (pgs : BitVec 128), Live s → h.batch = none →
    Answers (.mcWrite h g prune jrn copyId ports pgs) s h 0x0502 0 0 [] fun e =>
      kvGet {} e.tbl.mem.groups g.toNat = { ports := ports.toNat, pgs := pgs.toNat, prune := prune, jrn := jrn, copyId := copyId } ∧
      (∀ g', g' ≠ g.toNat → kvGet {} e.tbl.mem.groups g' = kvGet {} s.dev.tbl.mem.groups g') ∧ e.tbl.live = s.dev.tbl.live ∧
      SameBut [.tbl, .fresh] s.dev e) ∧
  (∀ (s : State) (h : CmdHdr) (g : BitVec 16) (x : McGroup), Live s → kvGet {} s.dev.tbl.mem.groups g.toNat = x →
    Answers (.mcRead h g) s h 0x0503 0 0 ([Config.mcFlags x.prune x.jrn x.copyId, 0] ++ beBytes 64 x.ports ++ beBytes 16 x.pgs ++
      (beBytes 8 (kvGet 0 (s.dev.buf 0).mcMade g.toNat) ++ beBytes 8 (kvGet 0 (s.dev.buf 0).mcRefused g.toNat)) ++
      (beBytes 8 (kvGet 0 (s.dev.buf 1).mcMade g.toNat) ++ beBytes 8 (kvGet 0 (s.dev.buf 1).mcRefused g.toNat))) fun e => e = s.dev) ∧
  (∀ (s : State) (h : CmdHdr) (g : BitVec 16) (l : BitVec 32) (lm : BitVec 16) (en uok grid : Bool) (act : BitVec 2), Live s → g.toNat < 1024 →
    (60 ≤ l.toNat → l.toNat ≤ 100000 → act.toNat < 2 → s.dev.b (rLVL_GRP_CFG g.toNat) fLVL_GRP_CFG_EN = false →
      Answers (.lvlGroupWrite h g l lm en uok grid act) s h 0x0504 0 0 [] fun e =>
        e.f (rLVL_GRP_CFG g.toNat) fLVL_GRP_CFG_L = l.toNat ∧ e.b (rLVL_GRP_CFG g.toNat) fLVL_GRP_CFG_EN = en ∧
        e.f (rLVL_GRP_LATE g.toNat) fLVL_GRP_LATE_LATE_MAX = lm.toNat ∧ SameBut [.regs] s.dev e) ∧
    (l.toNat < 60 ∨ 100000 < l.toNat → Rejects (.lvlGroupWrite h g l lm en uok grid act) s h 0x0504 2) ∧
    (60 ≤ l.toNat → l.toNat ≤ 100000 → act.toNat < 2 → s.dev.b (rLVL_GRP_CFG g.toNat) fLVL_GRP_CFG_EN = true →
      l.toNat ≠ s.dev.f (rLVL_GRP_CFG g.toNat) fLVL_GRP_CFG_L → s.dev.lvlWindow g.toNat = true →
      Rejects (.lvlGroupWrite h g l lm en uok grid act) s h 0x0504 5)) ∧
  (∀ (s : State) (h : CmdHdr) (q g dest : BitVec 16) (cells : BitVec 32) (en pg : Bool) (v : Nat), Live s → q.toNat < 1024 → g.toNat < 1024 →
    dest.toNat < 512 → cells.toNat < 2 ^ 19 → v = en.toNat * 2 ^ 31 + pg.toNat * 2 ^ 30 + g.toNat * 2 ^ 20 + dest.toNat →
    (s.dev.lvlQueueOk q.toNat v = true → Answers (.lvlQueueWrite h q g dest cells en pg) s h 0x0505 0 0 [] fun e =>
      e = (s.dev.plainWrite (rLVL_Q_CFG q.toNat) v).sf (rLVL_Q_LIMIT q.toNat) fLVL_Q_LIMIT_MAX_CELLS cells.toNat) ∧
    (s.dev.lvlQueueOk q.toNat v = false → Rejects (.lvlQueueWrite h q g dest cells en pg) s h 0x0505 6)) ∧
  (∀ (s : State) (h : CmdHdr) (first count : BitVec 16) (ranks : List (BitVec 16)), Live s → ranks.length = count.toNat →
    (1 ≤ count.toNat → count.toNat ≤ 256 → first.toNat + count.toNat ≤ 512 → Answers (.lvlRankWrite h first count ranks) s h 0x0506 0 0 []
      fun e => (∀ j, j < count.toNat → e.f (rLVL_RANK (first.toNat + j)) fLVL_RANK_RANK = (ranks.getD j 0).toNat % 1024) ∧
        SameBut [.regs] s.dev e) ∧
    (512 < first.toNat + count.toNat → Rejects (.lvlRankWrite h first count ranks) s h 0x0506 2))

/-- R440, R443 to R450, R456: the domain's tree. -/
def Obligations.DomainTree : Prop :=
  (∀ s v, bits v.toNat 31 31 = 1 → s.dev.b rDOM_CTRL fDOM_CTRL_EN = false →
    (∃ j < 16, s.dev.rn (rDOM_PORT_EN j) ≠ 0) → Completes (.domainEnable v) s fun e =>
      e.b rDOM_CTRL fDOM_CTRL_EN = true ∧ e.f rDOM_CTRL fDOM_CTRL_ROOT_ELIG = bits v.toNat 30 30 ∧
      e.f rDOM_CTRL fDOM_CTRL_FALLBACK_EN = bits v.toNat 29 29 ∧ e.dom = { s.dev.dom with
        next := (if s.dev.dom.next = some .disabled then some .disabled else some .seeking), reparents := 0 } ∧
      (∀ a, a ≠ rDOM_CTRL → e.rd a = s.dev.rd a) ∧ SameBut [.regs, .dom] s.dev e) ∧
  (∀ s v, bits v.toNat 31 31 = 1 → s.dev.b rDOM_CTRL fDOM_CTRL_EN = false →
    (∀ j < 16, s.dev.rn (rDOM_PORT_EN j) = 0) → Completes (.domainEnable v) s fun e =>
      e.b rDOM_CTRL fDOM_CTRL_EN = false ∧ e.b rDOM_STATUS fDOM_STATUS_CFG_ERR = true ∧ SameBut [.regs] s.dev e) ∧
  (∀ s v, bits v.toNat 31 31 = 0 → s.dev.dom.parent = none → s.dev.domState = 0 → Completes (.domainDisable v) s fun e =>
    e.b rDOM_CTRL fDOM_CTRL_EN = false ∧ (∀ a, a ≠ rDOM_CTRL → e.rd a = s.dev.rd a) ∧ SameBut [.regs, .dom] s.dev e ∧
    (s.dev.b rDOM_CTRL fDOM_CTRL_EN = true → e.dom = { s.dev.dom with next := none })) ∧
  (∀ s (die : Fin 2) m d1, Live s → s.dev.domTake die 0x01 = some (m, d1) → d1.domState ≠ 0 → m.body.length = 32 →
    d1.isUp m.port = true → Completes (.hello die) s fun e =>
      (e.adj m.port).partner = m.src ∧ (e.adj m.port).hello = some (helloOf m.body) ∧ (e.adj m.port).lastRod = d1.rod ∧
      (e.adj m.port).st = (if (helloOf m.body).heard = d1.devNo then 2 else max 1 (d1.adj m.port).st) ∧
      (∀ p : Nat, p ≠ m.port → e.adj p = d1.adj p) ∧ e.dom.children = d1.dom.children ∧ e.dom.routes = d1.dom.routes) ∧
  (∀ s (p : Fin 512), Live s → s.dev.trk.tick % 1000 = 0 → s.dev.domPortEn p = true → s.dev.isUp p = true →
    (s.dev.adj p).st ≠ 2 → s.dev.rod ≤ (s.dev.adj p).upRod + 10 → s.dev.domState ≠ 0 → Completes (.helloResend p) s fun e =>
      e.dom = { s.dev.dom with seq := (s.dev.dom.seq + 1) % 2 ^ 32 }) ∧
  (∀ s (p : Fin 512), (s.dev.adj p).st = 2 → NoEffect (.helloResend p) s) ∧
  (∀ s, Live s → s.dev.trk.tick % 10000 = 0 → s.dev.domState ≠ 0 → Completes .keepalive s fun e =>
    e.dom = { s.dev.dom with seq := (s.dev.dom.seq + s.dev.helloPorts.length) % 2 ^ 32 } ∨
    (s.dev.helloPorts = [] ∧ e = s.dev)) ∧
  (∀ s (p : Fin 512), Live s → (s.dev.adj p).st ≠ 0 → s.dev.isUp p = false →
    (∀ q : Nat, q ≠ p.val → (s.dev.adj q).partner ≠ (s.dev.adj p).partner) →
    s.dev.dom.parent ≠ some ((s.dev.adj p).partner, p.val) → Completes (.adjacencyLost p) s fun e =>
      e.adj p = {} ∧ (∀ q : Nat, q ≠ p.val → e.adj q = s.dev.adj q) ∧ e.dom.parent = s.dev.dom.parent ∧
      (((s.dev.adj p).partner, p.val) ∈ s.dev.dom.children →
        e.dom.children = s.dev.dom.children.filter (fun (c : Nat × Nat) => decide (c ≠ ((s.dev.adj p).partner, p.val))) ∧
        e.dom.routes = s.dev.dom.routes.filter (fun (r : Nat × Nat) => decide (r.2 ≠ p.val))) ∧
      (((s.dev.adj p).partner, p.val) ∉ s.dev.dom.children →
        e.dom.children = s.dev.dom.children ∧ e.dom.routes = s.dev.dom.routes)) ∧
  (∀ s (p : Fin 512), Live s → (s.dev.adj p).st ≠ 0 → s.dev.isUp p = false →
    (∀ q : Nat, q ≠ p.val → (s.dev.adj q).partner ≠ (s.dev.adj p).partner) → s.dev.dom.children = [] →
    s.dev.dom.parent = some ((s.dev.adj p).partner, p.val) → Completes (.adjacencyLost p) s fun e =>
      e.dom.parent = none ∧ e.dom.path = [] ∧ e.dom.tried = [] ∧ e.dom.changeRod = s.dev.rod) ∧
  (∀ s, Live s → s.dev.domState = 1 → s.dev.dom.next = none → s.dev.b rDOM_CTRL fDOM_CTRL_ROOT_ELIG = true →
    s.dev.dom.seekRod + s.dev.lf rDOM_ROOT_CFG fDOM_ROOT_CFG_ROOT_HOLD_RODS ≤ s.dev.rod →
    (∀ x ∈ s.dev.dom.adj, x.2.st ≠ 2) → Completes .rootTakeover s fun e =>
      e.dom.root = some s.dev.devNo ∧ e.dom.rootPri = s.dev.f rDOM_ROOT_CFG fDOM_ROOT_CFG_ROOT_PRI ∧ e.dom.path = [] ∧
      (s.dev.devNo, s.dev.serial) ∈ e.dom.registry) ∧
  (∀ s, s.dev.b rDOM_CTRL fDOM_CTRL_ROOT_ELIG = false → NoEffect .rootTakeover s) ∧
  (∀ s (die : Fin 2) m d1, Live s → s.dev.domTake die 0x02 = some (m, d1) → d1.domState = 3 ∨ d1.domState = 4 →
    m.body.length = 4 → (d1.adj m.port).st = 2 →
    (d1.dom.children.filter fun (c : Nat × Nat) => decide (c.1 ≠ m.src)).length < 32 → d1.domDepth + 1 + eb m.body 0 ≤ 6 →
    m.src ∉ d1.dom.path → (d1.adj m.port).hello = none ∨ d1.dom.root = none →
    Completes (.adoptReq die) s fun e =>
      e.dom.children = d1.dom.children.filter (fun (c : Nat × Nat) => decide (c.1 ≠ m.src)) ++ [(m.src, m.port)] ∧
      e.dom.routes = d1.dom.routes ∧ e.dom.parent = d1.dom.parent) ∧
  (∀ s (die : Fin 2) m d1, Live s → s.dev.domTake die 0x02 = some (m, d1) →
    (d1.domState ≠ 3 ∧ d1.domState ≠ 4) ∨ 32 ≤ (d1.dom.children.filter fun (c : Nat × Nat) => decide (c.1 ≠ m.src)).length ∨
      6 < d1.domDepth + 1 + eb m.body 0 ∨ m.src ∈ d1.dom.path →
    Completes (.adoptReq die) s fun e => e.dom.children = d1.dom.children) ∧
  (∀ s (die : Fin 2) m d1 dev p t, Live s → s.dev.domTake die 0x03 = some (m, d1) → d1.dom.asked = some (dev, p, t) →
    d1.domState = 2 → dev = m.src → p = m.port → m.body.length = 14 → Completes (.adoptAck die) s fun e =>
      e = { d1 with dom := { d1.dom with
        next := some (.attached dev p (eb m.body 0 + 1)
          (((List.range 6).map fun j => beAt m.body (2 + 2 * j) 2).filter (fun (x : Nat) => decide (x ≠ 0xFFFF)) ++ [dev]))
        asked := none } }) ∧
  (∀ s (die : Fin 2) m d1 dev p t, Live s → s.dev.domTake die 0x04 = some (m, d1) → d1.dom.asked = some (dev, p, t) →
    d1.domState = 2 → dev = m.src → p = m.port → m.body.length = 1 → Completes (.adoptNak die) s fun e =>
      e.dom.tried = dev :: d1.dom.tried ∧
      ((∀ c ∈ d1.candPorts, c.1 ∈ dev :: d1.dom.tried) → e.dom.asked = none ∧ e.dom.next = some .seeking)) ∧
  (∀ s dev p t, Live s → s.dev.dom.asked = some (dev, p, t) → s.dev.domState = 2 → t + 1000 ≤ s.dev.trk.tick →
    Completes .adoptTimeout s fun e =>
      e.dom.tried = dev :: s.dev.dom.tried ∧
      ((∀ c ∈ s.dev.candPorts, c.1 ∈ dev :: s.dev.dom.tried) → e.dom.asked = none ∧ e.dom.next = some .seeking) ∧
      (∀ c, s.dev.candPorts.find? (fun (x : Nat × Nat) => !(dev :: s.dev.dom.tried).contains x.1) = some c →
        e.dom.asked = some (c.1, c.2, s.dev.trk.tick))) ∧
  (∀ s, s.dev.dom.asked = none → NoEffect .adoptTimeout s) ∧
  (∀ s (die : Fin 2) m d1, Live s → s.dev.domTake die 0x05 = some (m, d1) → d1.domState ≠ 0 → m.body.length % 2 = 0 →
    m.body.length ≠ 0 → d1.dom.parent.map (·.2) ≠ some m.port → Completes (.leave die) s fun e =>
      e.dom.routes = d1.dom.routes.filter fun (r : Nat × Nat) => !((numbersOf m.body 0).contains r.1 && decide (r.2 = m.port))) ∧
  (∀ s (die : Fin 2) m d1 dev, Live s → s.dev.domTake die 0x05 = some (m, d1) → d1.domState ≠ 0 → m.body.length % 2 = 0 →
    m.body.length ≠ 0 → d1.dom.parent = some (dev, m.port) → Completes (.leave die) s fun e =>
      e.dom = { d1.dom with next := some .adopting, oldParent := none }) ∧
  (∀ s (die : Fin 2) m d1, Live s → s.dev.domTake die 0x06 = some (m, d1) → d1.domState ≠ 0 → 10 ≤ m.body.length →
    m.body.length % 2 = 0 →
    (d1.domState = 4 → ∀ r ∈ d1.dom.registry, r.1 = (numbersOf m.body 8).headD 0xFFFF → r.2 = beAt m.body 0 8) →
    Completes (.move die) s fun e =>
      e.dom.routes = d1.dom.routes.filter (fun (r : Nat × Nat) => !(numbersOf m.body 8).contains r.1) ++
        (numbersOf m.body 8).map (fun x => (x, m.port)) ∧ e.dom.children = d1.dom.children) ∧
  (∀ s (die : Fin 2) m d1, Live s → s.dev.domTake die 0x07 = some (m, d1) → d1.domState ≠ 0 → m.body.length = 10 →
    beAt m.body 0 2 = d1.devNo → d1.serial ≠ beAt m.body 2 8 → Completes (.joinNak die) s fun e => e.dom = { d1.dom with next := some .blocked }) ∧
  (∀ s (die : Fin 2) m d1 r, Live s → s.dev.domTake die 0x07 = some (m, d1) → d1.domState ≠ 0 → m.body.length = 10 →
    beAt m.body 0 2 ≠ d1.devNo → (d1.dom.routes.find? fun (x : Nat × Nat) => decide (x.1 = beAt m.body 0 2)) = some r →
    Completes (.joinNak die) s fun e => e.dom = d1.dom) ∧
  (∀ s (die : Fin 2), (s.dev.domTake die 0x01 = none → NoEffect (.hello die) s) ∧
    (s.dev.domTake die 0x02 = none → NoEffect (.adoptReq die) s) ∧ (s.dev.domTake die 0x03 = none → NoEffect (.adoptAck die) s) ∧
    (s.dev.domTake die 0x04 = none → NoEffect (.adoptNak die) s) ∧ (s.dev.domTake die 0x05 = none → NoEffect (.leave die) s) ∧
    (s.dev.domTake die 0x06 = none → NoEffect (.move die) s) ∧ (s.dev.domTake die 0x07 = none → NoEffect (.joinNak die) s))

/-- R357, R430, R441, R442, R452, R453, R455, R457: the domain's messages and status. -/
def Obligations.DomainMessages : Prop :=
  (∀ s (p : Fin 512) bytes, Live s → s.dev.isUp p = true → s.dev.isRuley p bytes = true →
    (s.dev.domQ (dieOf p)).length < 1024 → eb bytes 14 = 1 → beAt bytes 18 2 = s.dev.f rDOM_ID fDOM_ID_DOMAIN →
    1 ≤ eb bytes 15 → eb bytes 15 ≤ 0x0F → ebit bytes 16 7 = false → Completes (.ruleyFrameReceive p bytes) s fun e =>
      e.domQ (dieOf p) = s.dev.domQ (dieOf p) ++ [{ port := p, bytes := bytes, tick := s.dev.trk.tick }]) ∧
  (∀ s (p : Fin 512) bytes, Live s → s.dev.isUp p = true → s.dev.isRuley p bytes = true →
    (s.dev.domQ (dieOf p)).length < 1024 →
    eb bytes 14 ≠ 1 ∨ beAt bytes 18 2 ≠ s.dev.f rDOM_ID fDOM_ID_DOMAIN ∨ eb bytes 15 = 0 ∨ 0x0F < eb bytes 15 →
    Completes (.ruleyFrameReceive p bytes) s fun e =>
      Counted s.dev e (rDOM_CNT_LO 0) 1 ∧ Counted s.dev e (rDOM_CNT_LO 10) 1 ∧ SameBut [.regs] s.dev e) ∧
  (∀ s (p : Fin 512) bytes, Live s → s.dev.isUp p = true → s.dev.isRuley p bytes = true →
    1024 ≤ (s.dev.domQ (dieOf p)).length → Completes (.ruleyFrameReceive p bytes) s fun e =>
      Counted s.dev e (rDOM_CNT_LO 0) 1 ∧ Counted s.dev e (rDOM_CNT_LO 9) 1 ∧ SameBut [.regs] s.dev e) ∧
  (∀ s (p : Fin 512) bytes, s.dev.isRuley p bytes = false → NoEffect (.ruleyFrameReceive p bytes) s) ∧
  (∀ s (die : Fin 2) f, Live s → ((s.dev.domQ die).find? fun f =>
      decide (f.tick + 100000 < s.dev.trk.tick) && !msgWhole (s.dev.domQ die) f.bytes) = some f →
    Completes (.reassemblyTimeout die) s fun e =>
      e.domQ die = (s.dev.domQ die).filter (fun g => !(partsOf (s.dev.domQ die) f.bytes).contains g) ∧ f ∉ e.domQ die ∧
      Counted s.dev e (rDOM_CNT_LO 11) 1 ∧ SameBut [.regs, .dom] s.dev e) ∧
  (∀ s (die : Fin 2), (∀ f ∈ s.dev.domQ die, s.dev.trk.tick ≤ f.tick + 100000) → NoEffect (.reassemblyTimeout die) s) ∧
  (∀ s (die : Fin 2) m d1, Live s → s.dev.domTake die 0x08 = some (m, d1) → d1.domState ≠ 0 → 40 ≤ m.body.length →
    m.dst ≠ d1.devNo → Completes (.ruleyCmd die) s fun e =>
      (∀ p, d1.routeTo m.dst = some p → p ≠ m.port → e.dom = d1.dom) ∧
      (d1.routeTo m.dst = some m.port → Counted d1 e (rDOM_CNT_LO 7) 1 ∧ SameBut [.regs] d1 e) ∧
      (d1.routeTo m.dst = none → d1.b rDOM_CTRL fDOM_CTRL_FALLBACK_EN = false →
        Counted d1 e (rDOM_CNT_LO 7) 1 ∧ SameBut [.regs] d1 e)) ∧
  (∀ s (die : Fin 2) m d1, Live s → s.dev.domTake die 0x09 = some (m, d1) → d1.domState ≠ 0 → 24 ≤ m.body.length →
    m.dst ≠ d1.devNo → Completes (.ruleyReply die) s fun e =>
      (∀ p, d1.routeTo m.dst = some p → p ≠ m.port → e.dom = d1.dom) ∧
      (d1.routeTo m.dst = none → d1.b rDOM_CTRL fDOM_CTRL_FALLBACK_EN = false →
        Counted d1 e (rDOM_CNT_LO 7) 1 ∧ SameBut [.regs] d1 e)) ∧
  (∀ s (die : Fin 2) m d1, Live s → s.dev.domTake die 0x09 = some (m, d1) → d1.domState ≠ 0 → 24 ≤ m.body.length →
    m.dst = d1.devNo → (∀ x ∈ d1.host.relayed, x.token ≠ beAt m.body 0 6) → Completes (.ruleyReply die) s fun e =>
      Counted d1 e (rDOM_CNT_LO 8) 1 ∧ Counted d1 e (rDMA_CNT_LO 7) 1 ∧ SameBut [.regs] d1 e) ∧
  (∀ s (die : Fin 2) m d1 x r, Live s → s.dev.domTake die 0x09 = some (m, d1) → d1.domState ≠ 0 → 24 ≤ m.body.length →
    m.dst = d1.devNo → (d1.host.relayed.find? fun y => decide (y.token = beAt m.body 0 6)) = some x → x.ctx.src = .ring r →
    Completes (.ruleyReply die) s fun e => e.host.relayed = d1.host.relayed.erase x) ∧
  (∀ s (die : Fin 2) m d1, Live s → s.dev.domTake die 0x0A = some (m, d1) → m.body.length ≠ 40 →
    (∀ c ∈ d1.jrn.closed, m.src ∉ c.waiting) → Completes (.ruleySum die) s fun e => e = d1) ∧
  (∀ s (die : Fin 2) m d1, Live s → s.dev.domTake die 0x0A = some (m, d1) → m.body.length = 40 →
    (∀ c ∈ d1.jrn.closed, c.deck ≠ beAt m.body 0 6) →
    (∀ x ∈ d1.jrn.childs, ¬ (beAt x.2 0 8 = beAt m.body 0 6 ∧ beAt x.2 8 2 = m.src)) →
    (∃ p, (m.src, p) ∈ d1.dom.children) → d1.jrn.openDeck ≤ beAt m.body 0 6 → d1.jrnActive = true →
    Completes (.ruleySum die) s fun e =>
      e = { d1 with jrn := { d1.jrn with early := d1.jrn.early ++ [(beAt m.body 0 6, m.src, m.body.drop 8)] } }) ∧
  (∀ s (die : Fin 2) m d1, Live s → s.dev.domTake die 0x0B = some (m, d1) → d1.domState ≠ 0 → m.body.length = 32 →
    d1.domState ≠ 4 → d1.isChild (beAt m.body 0 2) = false → d1.dom.parent = none →
    d1.b rDOM_CTRL fDOM_CTRL_FALLBACK_EN = false → Completes (.ruleyFault die) s fun e =>
      Counted d1 e (rDOM_CNT_LO 5) 1 ∧ Counted d1 e (rDOM_CNT_LO 7) 1 ∧ SameBut [.regs] d1 e) ∧
  (∀ s (die : Fin 2) m d1, Live s → s.dev.domTake die 0x0B = some (m, d1) → d1.domState = 4 → Completes (.ruleyFault die) s fun e =>
    e.dom = d1.dom) ∧
  (∀ s h, Live s → Answers (.domStatus h) s h 0x0C00 stOk 0 (
    beBytes 1 s.dev.domState ++ beBytes 1 s.dev.domDepth ++ beBytes 1 s.dev.dom.children.length ++ beBytes 1 s.dev.domHeight ++
    beBytes 2 s.dev.devNo ++ beBytes 2 (s.dev.f rDOM_ID fDOM_ID_DOMAIN) ++ beBytes 2 (s.dev.dom.root.getD 0xFFFF) ++
    beBytes 2 ((s.dev.dom.parent.map (·.1)).getD 0xFFFF) ++ beBytes 2 ((s.dev.dom.parent.map (·.2)).getD 0xFFFF) ++
    beBytes 2 s.dev.dom.routes.length ++ beBytes 4 s.dev.dom.reparents ++
    beBytes 4 (min (2 ^ 32 - 1) (s.dev.rod - s.dev.dom.changeRod))) fun e => e = s.dev) ∧
  (∀ s h first count, Live s → 1 ≤ count.toNat → first.toNat + count.toNat ≤ 512 → Answers (.domNeigh h first count) s h 0x0C01 stOk 0
    ((List.range count.toNat).flatMap fun k => s.dev.neighEntry (first.toNat + k)) fun e => e = s.dev) ∧
  (∀ s h first count, Live s → count.toNat = 0 ∨ 512 < first.toNat + count.toNat → Rejects (.domNeigh h first count) s h 0x0C01 stBadParam)

/-- R475, R476, R478 to R481: classification and handling. -/
def Obligations.FaultsClassified : Prop :=
  (∀ s (die : Fin 2) r, (s.dev.flt.die die).inbox = [r] → r.injected = false → s.dev.faultClass r ≤ 0xA →
    Completes (.faultClassify die []) s fun e =>
      (e.flt.die die).inbox = [] ∧ (e.flt.die die).log = (s.dev.flt.die die).log ∧
      (e.flt.die die).handling = (s.dev.flt.die die).handling ∧ Counted s.dev e (rFLT_D_CNT_LO die 0) 1) ∧
  (∀ s (die : Fin 2) r n, (s.dev.flt.die die).inbox = [r] → r.injected = false → s.dev.faultClass r = 0xB → s.dev.fltRec die = none →
    (s.dev.flt.die die).logPlace 0xB = n → n ≠ 0xFFFF →
    Completes (.faultClassify die []) s fun e => (e.flt.die die).inbox = [] ∧
      (∃ y, e.logAt die n = some y ∧ y.code = faultCode r.block r.kind r.inst ∧ y.cls = 0xB ∧ y.isOpen = true ∧
        y.tick = r.tick ∧ (r.detail ≠ [] → y.detail = r.detail) ∧ y.seq = ((s.dev.flt.die die).seq + 1) % 2 ^ 32) ∧
      ∃ h, (e.flt.die die).handling = some h ∧ h.idx = n ∧ h.cls = 0xB ∧ h.atTick = true) ∧
  (∀ s (die : Fin 2) r n, (s.dev.flt.die die).inbox = [r] → r.injected = false → 0xD ≤ s.dev.faultClass r → s.dev.faultClass r ≤ 0xE → s.dev.fltRec die = none →
    (s.dev.flt.die die).logPlace (s.dev.faultClass r) = n → n ≠ 0xFFFF → s.dev.b rFLT_STATUS fFLT_STATUS_SAFE = false →
    s.dev.flt.safeDue = none →
    Completes (.faultClassify die []) s fun e => (e.flt.die die).inbox = [] ∧
      (∃ y, e.flt.safeDue = some y ∧ y.code = faultCode r.block r.kind r.inst ∧ y.cls = s.dev.faultClass r ∧ y.die = die.val ∧ y.idx = n) ∧
      e.b rFLT_STATUS fFLT_STATUS_GRAVE = (s.dev.b rFLT_STATUS fFLT_STATUS_GRAVE || decide (s.dev.faultClass r = 0xE))) ∧
  (∀ s (die : Fin 2) h y, (s.dev.flt.die die).handling = some h → h.cls = 0xC → s.dev.logAt die h.idx = some y →
    Completes (.faultHandlingEnd die) s fun e => (e.flt.die die).handling = none ∧
      e.logAt die h.idx = some { y with isOpen := false, endTick := s.dev.trk.tick }) ∧
  (∀ s (die : Fin 2), (s.dev.flt.die die).handling = none → NoEffect (.faultHandlingEnd die) s) ∧
  (∀ s (die : Fin 2) n l y, s.dev.fltRec die = none → (s.dev.flt.die die).queue = n :: l → s.dev.logAt die n = some y →
    Completes (.faultQueueReport die) s fun e => (e.flt.die die).queue = l ∧
      ∃ h, (e.flt.die die).handling = some h ∧ h.idx = n ∧ h.code = y.code ∧ h.cls = y.cls) ∧
  (∀ s (die : Fin 2), (s.dev.flt.die die).queue = [] → NoEffect (.faultQueueReport die) s)

/-- R355, R476, R482, R483, R485, R486, R490: columns and the safe state. -/
def Obligations.ColumnsAndSafeState : Prop :=
  (∀ s (col : Fin 16) kind, s.dev.colRetired col = false → s.dev.flt.stoppedCols.contains col.val = false →
    Completes (.columnHardFault col kind) s fun e =>
      e.flt.stoppedCols = s.dev.flt.stoppedCols ++ [col.val] ∧
      Reported s.dev e (col.val / 8)
        (if s.dev.colRetired (sibling col) || s.dev.flt.stoppedCols.contains (sibling col) then 0xD else 0xC) 23
        (match kind with
          | .uncorrectable => 2
          | .parity => 3
          | .noIssue => 5) col) ∧
  (∀ s (col : Fin 16) kind, s.dev.colRetired col = true → NoEffect (.columnHardFault col kind) s) ∧
  (∀ s (col : Fin 16), s.dev.flt.stoppedCols.contains col.val = true → s.dev.colRetired (sibling col) = false →
    s.dev.flt.stoppedCols.contains (sibling col) = false →
    Completes (.columnRemapDone col) s fun e =>
      bits (e.rn rFLT_COL_RETIRED) col col = 1 ∧ e.flt.stoppedCols.contains col.val = false ∧
      e.path.injects = s.dev.path.injects.map fun x => if x.col = col.val then { x with col := sibling col } else x) ∧
  (∀ s x, s.dev.flt.safeDue = some x → s.dev.b rFLT_STATUS fFLT_STATUS_SAFE = false → x.cls ≤ 0xE → x.code < 2 ^ 32 →
    Completes .safeStateEnter s fun e =>
      e.b rFLT_STATUS fFLT_STATUS_SAFE = true ∧ e.f rFLT_STATUS fFLT_STATUS_SAFE_CLASS = x.cls ∧ e.rn rFLT_SAFE_CODE = x.code ∧
      e.f rFLT_STATUS fFLT_STATUS_SEAL = (if s.dev.sealWorks x then 2 else 0) ∧ e.rn rFLT_ALIVE = 0 ∧
      e.nrg.share0 = none ∧ e.nrg.share1 = none ∧ e.nrg.units = [] ∧ e.flt.aliveOn = false) ∧
  (∀ s, s.dev.flt.safeDue = none → NoEffect .safeStateEnter s) ∧
  (∀ s (die : Fin 3), 2 ≤ kvGet 0 s.dev.flt.quietDecks (die.val + 1) → die.val + 1 ∉ s.dev.flt.dieSafe →
    Completes (.supervisorSafeTimeout die) s fun e => e.flt.dieSafe = s.dev.flt.dieSafe ++ [die.val + 1]) ∧
  (∀ s, s.dev.b rFLT_STATUS fFLT_STATUS_SAFE = true → s.dev.f rFLT_STATUS fFLT_STATUS_SEAL = 2 →
    Completes .faultSeal s fun e =>
      e.f rFLT_STATUS fFLT_STATUS_SEAL = 1 ↔ e.jrn.closed = [] ∧ e.jrn.signBroken = false) ∧
  (∀ s, s.dev.b rFLT_STATUS fFLT_STATUS_SAFE = false → NoEffect .faultSeal s) ∧
  (∀ s k, s.dev.flt.sealDeck = some k → s.dev.f rFLT_STATUS fFLT_STATUS_SEAL = 2 → k + 10 ≤ s.dev.deck →
    Completes .sealAbandoned s fun e => e.f rFLT_STATUS fFLT_STATUS_SEAL = 3 ∧ SameBut [.regs] s.dev e) ∧
  (∀ s v, s.dev.b rFLT_STATUS fFLT_STATUS_SAFE = true → v.toNat % 65536 = 0x5AFE →
    Completes (.safeStateExit v) s fun e => e.host.linkUp = s.dev.host.linkUp ∧ e.out = s.dev.out ∧ e.live = [] ∧ e.jrn = {} ∧
      ∀ a, a ≠ rFLT_STATUS → a ≠ rDMA_STATUS → e.rd a = resetOf a) ∧
  (∀ s v, s.dev.b rFLT_STATUS fFLT_STATUS_SAFE = false → Completes (.safeStateExit v) s fun e => e = s.dev.classA 0)

/-- R495, R496, R501, R504: K-series mode and the counter units. -/
def Obligations.KModeAndCounters : Prop :=
  (∀ s, s.dev.b rFLT_MODE fFLT_MODE_KMODE_DIS = false → (∀ p, p < 512 → s.dev.pState p = 0) → (∀ g, g < 128 → s.dev.railState g = 0) →
    s.dev.f rJRN_STATUS fJRN_STATUS_STATE = 0 → s.dev.b rDOM_CTRL fDOM_CTRL_EN = false →
    Completes .kmodeEnter s fun e => e.b rFLT_KMODE fFLT_KMODE_ACTIVE = true ∧ SameBut [.regs] s.dev e) ∧
  (∀ s, s.dev.b rFLT_MODE fFLT_MODE_KMODE_DIS = true → Completes .kmodeEnter s fun e => e = s.dev.classA 0) ∧
  (∀ s, Completes .kmodeExit s fun e => e.b rFLT_KMODE fFLT_KMODE_ACTIVE = false ∧ SameBut [.regs] s.dev e) ∧
  (∀ s, s.dev.b rFLT_KMODE fFLT_KMODE_ACTIVE = true → Completes .kInjectArm s fun e =>
    e.b rFLT_K_CTRL fFLT_K_CTRL_ARM = true ∧ SameBut [.regs] s.dev e) ∧
  (∀ s, s.dev.b rFLT_KMODE fFLT_KMODE_ACTIVE = false → NoEffect .kInjectArm s) ∧
  (∀ s (u : Fin 32) (c : Fin 8) n, s.dev.cntOn u c = true → s.dev.b (rCNT_CFG u c) fCNT_CFG_RELOAD_EN = false →
    s.dev.b (rCNT_CFG u c) fCNT_CFG_IRQ = false → s.dev.b (rCNT_CFG u c) fCNT_CFG_FREEZE = false → n < 2 ^ 48 →
    2 ^ 48 ≤ s.dev.rn (rCNT_VAL_HI u c) % 65536 * 2 ^ 32 + s.dev.rn (rCNT_VAL_LO u c) + n →
    Completes (.counterOverflow u c n) s fun e =>
      e.rn (rCNT_VAL_HI u c) * 2 ^ 32 + e.rn (rCNT_VAL_LO u c) =
        s.dev.rn (rCNT_VAL_HI u c) % 65536 * 2 ^ 32 + s.dev.rn (rCNT_VAL_LO u c) + n - 2 ^ 48 ∧
      bits (e.rn (rCNT_OVF (u.val / 4))) (8 * (u.val % 4) + c.val) (8 * (u.val % 4) + c.val) = 1) ∧
  (∀ s (j : Fin 8) v, Completes (.counterOvfClear j v) s fun e =>
    (∀ b, b < 32 → (e.rn (rCNT_OVF j)).testBit b = ((s.dev.rn (rCNT_OVF j)).testBit b && !v.toNat.testBit b)) ∧
    SameBut [.regs] s.dev e) ∧
  (∀ s, Completes .snapshotRequest s fun e => e.b rCNT_CTRL fCNT_CTRL_SNAP_PENDING = true ∧ SameBut [.regs] s.dev e)

/-- R479, R493, R527, R529: FLT and OTP commands. -/
def Obligations.FaultAndOtpCommands : Prop :=
  (∀ s h die checker pattern count, Live s → s.dev.b rFLT_CTRL fFLT_CTRL_INJ_EN = true → s.dev.b rFLT_KMODE fFLT_KMODE_ACTIVE = false →
    die.toNat < 2 → 0 < count.toNat → count.toNat ≤ 65535 → (s.dev.flt.die die.toNat).armed.length < 16 →
    (∀ c, checkerOf die.toNat checker.toNat = some c → pattern.toNat < 2 ^ c.2.1 →
      Answers (.fltInjectArm h die checker pattern count) s h 0x0900 stOk 0 [] fun e =>
        (e.flt.die die.toNat).armed = ((s.dev.flt.die die.toNat).armed.filter fun a => decide (a.checker ≠ checker.toNat)) ++
          [{ checker := checker.toNat, pattern := pattern.toNat, left := count.toNat }]) ∧
    (checkerOf die.toNat checker.toNat = none →
      Rejects (.fltInjectArm h die checker pattern count) s h 0x0900 stBadParam)) ∧
  (∀ s h die checker pattern count, Live s → s.dev.b rFLT_CTRL fFLT_CTRL_INJ_EN = false →
    Rejects (.fltInjectArm h die checker pattern count) s h 0x0900 stDenied) ∧
  (∀ s h die first count, die.toNat < 2 → count.toNat ≤ 32 → first.toNat < 1024 →
    Answers (.fltLogRead h die first count) s h 0x0901 stOk 0
      (((((s.dev.flt.die die.toNat).log.filter fun e => decide (first.toNat ≤ e.1)).filterMap (·.2)).take count.toNat).flatMap logBytes)
      fun e => e = s.dev) ∧
  (∀ s h die first count, 2 ≤ die.toNat → Rejects (.fltLogRead h die first count) s h 0x0901 stBadParam) ∧
  (∀ s h die, Live s → die.toNat < 2 → Answers (.fltLogClear h die) s h 0x0902 stOk 0 [] fun e =>
    ∀ n y, e.logAt die.toNat n = some y → y.isOpen = true) ∧
  (∀ s h die, Live s → 2 ≤ die.toNat → Rejects (.fltLogClear h die) s h 0x0902 stBadParam) ∧
  (∀ s h bank offset count, bank.toNat ≤ 2 → offset.toNat + count.toNat ≤ bankSize bank.toNat →
    ¬ (bank.toNat = 1 ∧ offset.toNat < 32 ∧ count.toNat ≠ 0) →
    Answers (.otpRead h bank offset count) s h 0x0B00 stOk 0
      ((List.range count.toNat).map fun n => s.otp.byte bank.toNat (offset.toNat + n)) fun e => e = s.dev) ∧
  (∀ s h bank offset count, bank.toNat = 1 → offset.toNat < 32 → count.toNat ≠ 0 → offset.toNat + count.toNat ≤ bankSize 1 →
    Rejects (.otpRead h bank offset count) s h 0x0B00 stDenied) ∧
  (∀ s r tag nr batch gen k l, Live s → burnOk gen.toList = true →
    (List.range 4).filter (fun k => decide (genState (s.otp.gen k) = 0)) = k :: l →
    ∃ (e : Dev) (o : OtpBanks), exec (.otpBurn { src := .ring r, tag := tag, noReply := nr, batch := batch } gen [] false) s =
        .next { s with dev := e.reply { src := .ring r, tag := tag, noReply := nr, batch := batch } 0x0B01 stOk 0 (beBytes 1 k), otp := o } ∧
      o.gen k = gen.toList ∧ ∀ j, j < 4 → j ≠ k → o.gen j = s.otp.gen j) ∧
  (∀ s h gen fails cut, Live s → burnOk gen.toList = false →
    Answers (.otpBurn h gen fails cut) s h 0x0B01 stBadParam 0 [] fun e =>
      e.f rOTP_BURN_STATUS fOTP_BURN_STATUS_RESULT = 3 ∧ SameBut [.regs] s.dev e)

/-- R491, R511, R524, R542, R543, R553: the reset of the whole device. -/
def Obligations.ResetPins : Prop :=
  (∀ s, s.dev.board.perst = true → s.dev.board.supplyHold = false → Completes .perstLRelease s fun e =>
    e = { s.dev with board := { s.dev.board with perst := false } }) ∧
  (∀ s, s.dev.board.perst = false ∨ s.dev.board.supplyHold = true → NoEffect .perstLRelease s) ∧
  (∀ s, Completes .perstLAssert s fun e =>
    e.board.perst = true ∧ e.board.ended = [] ∧ e.board.thermtrip = (s.dev.board.thermtrip && s.dev.board.anyHot) ∧
    (∀ a, a ≠ rFLT_STATUS → e.rd a = resetOf a) ∧ e.b rFLT_STATUS fFLT_STATUS_GRAVE = s.dev.b rFLT_STATUS fFLT_STATUS_GRAVE ∧
    e.live = [] ∧ e.tbl = {} ∧ e.jrn = {} ∧ e.rck = {} ∧ e.out = s.dev.out ∧ e.host.linkUp = false) ∧
  (∀ s r, s.dev.stepDone 2 = false →
    (Completes (.supplyUnderVoltage r) s fun e =>
      e.board.supplyHold = true ∧ e.board.ended = [] ∧ ∀ a, a ≠ rFLT_STATUS → e.rd a = resetOf a) ∧
    (Completes (.supplyOverVoltage r) s fun e =>
      e.board.supplyHold = true ∧ e.board.ended = [] ∧ ∀ a, a ≠ rFLT_STATUS → e.rd a = resetOf a)) ∧
  (∀ s r, s.dev.stepDone 2 = true →
    (Completes (.supplyUnderVoltage r) s fun e => Reported s.dev e 0 0xD 24 0x09 r ∧ e.regs = s.dev.regs ∧ e.board = s.dev.board) ∧
    (Completes (.supplyOverVoltage r) s fun e => Reported s.dev e 0 0xD 24 0x09 r ∧ e.regs = s.dev.regs ∧ e.board = s.dev.board)) ∧
  (∀ s, s.dev.board.supplyHold = true → Completes .supplyValidRestart s fun e =>
    e = { s.dev with board := { s.dev.board with supplyHold := false, hiZ := false } }) ∧
  (∀ s, Completes .keeperPowerOnReset s fun e =>
    e.board.hiZ = true ∧ e.board.supplyHold = true ∧ e.board.thermtrip = false ∧
    (∀ a, a ≠ rFLT_STATUS → e.rd a = resetOf a) ∧
    e.b rFLT_STATUS fFLT_STATUS_GRAVE = s.dev.b rFLT_STATUS fFLT_STATUS_GRAVE) ∧
  (∀ s, s.dev.board.hiZ = true → Completes .graveLatchClear s fun e =>
    e.b rFLT_STATUS fFLT_STATUS_GRAVE = false ∧ (∀ a, a ≠ rFLT_STATUS → e.rn a = s.dev.rn a) ∧
    e.b rFLT_STATUS fFLT_STATUS_SAFE = s.dev.b rFLT_STATUS fFLT_STATUS_SAFE ∧ e.board = s.dev.board) ∧
  (∀ s, s.dev.board.hiZ = false → NoEffect .graveLatchClear s)

/-- R511, R512, R521: the steps of start-up. -/
def Obligations.StartUpSteps : Prop :=
  (∀ s us, s.dev.mayStep 1 [] = true → Completes (.otpSense us) s fun e =>
    e.board.ended = s.dev.board.ended ++ [1] ∧ e.b rOTP_STATUS fOTP_STATUS_SENSED = true ∧
    e.board.factory = memRead s.otp.factory 0 768 ∧
    e.b rOTP_STATUS fOTP_STATUS_FACTORY_OK =
      decide (beAt (memRead s.otp.factory 0 768) 764 4 = crc32c ((memRead s.otp.factory 0 768).take 764)) ∧
    (∀ k, k < 4 → genState (s.otp.gen k) = 2 → (∀ j, k < j → j < 4 → genState (s.otp.gen j) ≠ 2) →
      e.board.gen = s.otp.gen k ∧ e.f rOTP_STATUS fOTP_STATUS_GEN = k)) ∧
  (∀ s us, s.dev.mayStep 2 [1] = true → Completes (.pllLock us) s fun e =>
    e.board.ended = s.dev.board.ended ++ [2] ∧ e.board.clock = true ∧ e.trk = { s.dev.trk with tick := 0 } ∧
    e.b rTCK_STATUS fTCK_STATUS_RUNNING = true ∧ e.rn (rOTP_BOOT_TIME 1) = us.toNat) ∧
  (∀ s, s.dev.mayStep 2 [1] = true → Completes .pllLockTimeout s fun e =>
    e.board = { s.dev.board with stopped := true } ∧ Reported s.dev e 0 0xD 0 5 0) ∧
  (∀ s us bad, s.dev.mayStep 3 [2] = true → Completes (.dieLinkTraining us bad) s fun e =>
    e.board.ended = s.dev.board.ended ++ [3] ∧ e.board.waitHost = (s.dev.board.waitHost || decide (s.dev.bootSrc = 1))) ∧
  (∀ s stack ok us, s.dev.mayStep 4 [3] = true → stack.val ∉ s.dev.board.trained → Completes (.hbmTraining stack ok us) s fun e =>
    e.board.trained = s.dev.board.trained ++ [stack.val] ∧
    (s.dev.board.trained.length = 3 → e.board.ended = s.dev.board.ended ++ [4]) ∧
    (s.dev.board.trained.length ≠ 3 → e.board.ended = s.dev.board.ended) ∧
    (ok = false → (e.f rMEM_STATUS fMEM_STATUS_FAILED).testBit stack = true)) ∧
  (∀ s us bad, s.dev.mayStep 5 [3] = true → Completes (.serdesCalibration us bad) s fun e =>
    e.board.ended = s.dev.board.ended ++ [5] ∧ e.port.badLanes = bad.map (·.val) ∧ e.port.ports = s.dev.port.ports) ∧
  (∀ s us image, s.dev.mayStep 6 [3] = true → s.dev.board.waitHost = false → s.dev.bootSrc ≠ 1 →
    Completes (.microcodeLoad us image) s fun e => s.dev.vendorCause image = 0 →
      e.board.ended = s.dev.board.ended ++ [6] ∧ e.rn rRCK_VENDOR_VER = beAt image 24 4) ∧
  (∀ s v, bits v.toNat 31 31 = 0 → bits v.toNat 23 0 ≤ 8388608 → Completes (.hostBootGo v) s fun e =>
    e.f rOTP_BOOT_CTRL fOTP_BOOT_CTRL_LENGTH = bits v.toNat 23 0 ∧ e.board = s.dev.board ∧
    ∀ a, a ≠ rOTP_BOOT_CTRL → e.rn a = s.dev.rn a) ∧
  (∀ s v, bits v.toNat 31 31 = 1 → bits v.toNat 23 0 ≤ 8388608 → s.dev.mayStep 6 [3] = true → s.dev.board.waitHost = true →
    Completes (.hostBootGo v) s fun e => s.dev.vendorCause (s.dev.poolRead 0 (bits v.toNat 23 0)) = 0 →
      e.board.waitHost = false ∧ e.board.ended = s.dev.board.ended ++ [6] ∧
      e.rn rRCK_VENDOR_VER = beAt (s.dev.poolRead 0 (bits v.toNat 23 0)) 24 4) ∧
  (∀ s us, s.dev.mayStep 7 [4] = true → Completes (.hbmInitialisation us) s fun e =>
    e.board.ended = s.dev.board.ended ++ [7] ∧ e.hbm = { s.dev.hbm with mem := [] } ∧ e.rn (rOTP_BOOT_TIME 6) = us.toNat) ∧
  (∀ s us, s.dev.mayStep 8 [5, 6, 7] = true → Completes (.bringUp us true) s fun e =>
    e.board.ended = s.dev.board.ended ++ [8] ∧ e.board.readyDue = !s.dev.bistEn ∧ e.baseMac = beAt s.dev.board.factory 96 6) ∧
  (∀ s us, s.dev.mayStep 8 [5, 6, 7] = true → Completes (.bringUp us false) s fun e =>
    e.board.stopped = true ∧ e.board.ended = s.dev.board.ended ∧ Reported s.dev e 0 0xE 26 0x0A 0) ∧
  (∀ s us, s.dev.mayStep 9 [8] = true → s.dev.bistEn = true → Completes (.bist us []) s fun e =>
    e.board = { s.dev.board with ended := s.dev.board.ended ++ [9], readyDue := true } ∧
    e.b rOTP_BOOT_STATUS fOTP_BOOT_STATUS_BIST_RUN = true) ∧
  (∀ s us stack ok bad image fails,
    (s.dev.mayStep 1 [] = false → NoEffect (.otpSense us) s) ∧ (s.dev.mayStep 2 [1] = false → NoEffect (.pllLock us) s) ∧
    (s.dev.mayStep 3 [2] = false → NoEffect (.dieLinkTraining us bad) s) ∧
    (s.dev.mayStep 4 [3] = false → NoEffect (.hbmTraining stack ok us) s) ∧
    (s.dev.mayStep 5 [3] = false → ∀ l, NoEffect (.serdesCalibration us l) s) ∧
    (s.dev.mayStep 6 [3] = false → NoEffect (.microcodeLoad us image) s) ∧
    (s.dev.mayStep 7 [4] = false → NoEffect (.hbmInitialisation us) s) ∧
    (s.dev.mayStep 8 [5, 6, 7] = false → NoEffect (.bringUp us ok) s) ∧
    (s.dev.mayStep 9 [8] = false → NoEffect (.bist us fails) s))

/-- R6, R38, R463, R465: every command keeps within its frame. -/
def Obligations.CommandFrames : Prop := ∀ i, FrameIs (Instr.frame i) i
end

