-- ==== Sys2Proof/Laws/KV.lean ====
section
/-! SUPPORT. Laws/KV.lean: what reading, writing and erasing a key do to a sparse map, that they keep its canonical form, and
the arithmetic of bit fields and bytes. -/
namespace Sys2Proof.Machine

variable {α : Type}

theorem kvGet_erase_self (d : α) (a : Nat) (m : List (Nat × α)) : kvGet d (kvErase a m) a = d := by
  induction m with
  | nil => rfl
  | cons e m ih => simp only [kvErase]; split <;> simp_all [kvGet]

theorem kvGet_erase_ne (d : α) {a b : Nat} (h : b ≠ a) (m : List (Nat × α)) : kvGet d (kvErase a m) b = kvGet d m b := by
  induction m with
  | nil => rfl
  | cons e m ih =>
    simp only [kvErase]
    split
    · simp only [kvGet, ih, if_neg (show ¬ e.1 = b by omega)]
    · simp only [kvGet, ih]

variable [DecidableEq α]

@[simp] theorem kvGet_set_self (d : α) (a : Nat) (v : α) (m : List (Nat × α)) : kvGet d (kvSet d a v m) a = v := by
  induction m with
  | nil => simp only [kvSet]; split <;> simp_all [kvGet]
  | cons e m ih =>
    simp only [kvSet]
    split
    · split
      · rw [kvGet_erase_self]; simp_all
      · simp [kvGet]
    · split
      · split
        · rw [kvGet_erase_self]; simp_all
        · simp [kvGet]
      · simp only [kvGet, if_neg (show ¬ e.1 = a by omega), ih]

theorem kvGet_set_ne (d c : α) {a b : Nat} (h : b ≠ a) (v : α) (m : List (Nat × α)) :
    kvGet c (kvSet d a v m) b = kvGet c m b := by
  induction m with
  | nil => simp only [kvSet]; split <;> simp [kvGet, Ne.symm h]
  | cons e m ih =>
    simp only [kvSet]
    split
    · split
      · rw [kvGet_erase_ne _ h]
      · simp [kvGet, Ne.symm h]
    · split
      · split
        · simp only [kvGet, if_neg (show ¬ e.1 = b by omega), kvGet_erase_ne c h]
        · simp only [kvGet, if_neg (Ne.symm h), if_neg (show ¬ e.1 = b by omega)]
      · simp only [kvGet, ih]

omit [DecidableEq α] in
theorem kvErase_mem (a : Nat) (m : List (Nat × α)) {e : Nat × α} (h : e ∈ kvErase a m) : e ∈ m := by
  induction m with
  | nil => cases h
  | cons x m ih =>
    simp only [kvErase] at h
    split at h
    · exact .tail _ (ih h)
    · rcases List.mem_cons.1 h with rfl | h
      · exact .head _
      · exact .tail _ (ih h)

omit [DecidableEq α] in
theorem kvErase_pairwise (a : Nat) (m : List (Nat × α)) (h : m.Pairwise fun x y => x.1 < y.1) :
    (kvErase a m).Pairwise fun x y => x.1 < y.1 := by
  induction m with
  | nil => exact .nil
  | cons x m ih =>
    simp only [kvErase]
    split
    · exact ih (List.pairwise_cons.1 h).2
    · exact List.pairwise_cons.2
        ⟨fun y hy => (List.pairwise_cons.1 h).1 y (by
          clear ih h; induction m with
          | nil => cases hy
          | cons z m ih =>
            simp only [kvErase] at hy
            split at hy
            · exact .tail _ (ih hy)
            · rcases List.mem_cons.1 hy with rfl | hy
              · exact .head _
              · exact .tail _ (ih hy)), ih (List.pairwise_cons.1 h).2⟩

theorem kvSet_mem (d : α) (a : Nat) (v : α) (m : List (Nat × α)) {e : Nat × α} (h : e ∈ kvSet d a v m) :
    e ∈ m ∨ (e = (a, v) ∧ v ≠ d) := by
  induction m with
  | nil => simp only [kvSet] at h; split at h <;> simp_all
  | cons x m ih =>
    simp only [kvSet] at h
    split at h
    · split at h
      · exact .inl (kvErase_mem _ _ h)
      · rcases List.mem_cons.1 h with rfl | h
        · exact .inr ⟨rfl, ‹_›⟩
        · exact .inl h
    · split at h
      · split at h
        · exact .inl (.tail _ (kvErase_mem _ _ h))
        · rcases List.mem_cons.1 h with rfl | h
          · exact .inr ⟨rfl, ‹_›⟩
          · exact .inl (.tail _ h)
      · rcases List.mem_cons.1 h with rfl | h
        · exact .inl (.head _)
        · exact (ih h).imp (.tail _) id

theorem kvSet_pairwise (d : α) (a : Nat) (v : α) (m : List (Nat × α)) (h : m.Pairwise fun x y => x.1 < y.1) :
    (kvSet d a v m).Pairwise fun x y => x.1 < y.1 := by
  induction m with
  | nil => simp only [kvSet]; split <;> simp
  | cons x m ih =>
    have h1 := List.pairwise_cons.1 h
    simp only [kvSet]
    split
    · split
      · exact kvErase_pairwise _ _ h
      · refine List.pairwise_cons.2 ⟨fun y hy => ?_, h⟩
        rcases List.mem_cons.1 hy with rfl | hy
        · assumption
        · have := h1.1 y hy; show a < y.1; omega
    · split
      · rename_i h2
        split
        · exact kvErase_pairwise _ _ h1.2
        · exact List.pairwise_cons.2 ⟨fun y hy => by have := h1.1 y hy; show a < y.1; omega, h1.2⟩
      · refine List.pairwise_cons.2 ⟨fun y hy => ?_, ih h1.2⟩
        rcases kvSet_mem _ _ _ _ hy with hy | ⟨rfl, -⟩
        · exact h1.1 y hy
        · show x.1 < a; omega

/-- Writing a key keeps the canonical form. -/
theorem kvSet_wf (f : Nat → α) (a : Nat) (v : α) (m : List (Nat × α)) (h : kvWf f m) : kvWf f (kvSet (f a) a v m) :=
  ⟨kvSet_pairwise _ _ _ _ h.1, fun e he => by
    rcases kvSet_mem _ _ _ _ he with he | ⟨rfl, hv⟩
    · exact h.2 e he
    · exact hv⟩

theorem kvWf_nil (f : Nat → α) : kvWf f [] := ⟨.nil, fun _ h => nomatch h⟩

/-! ### Memories -/

theorem memByte_set_self (m : Mem) (a : Nat) (b : Byte) : memByte (kvSet 0 a b m) a = b := by simp [memByte]

theorem memByte_set_ne {m : Mem} {a x : Nat} (h : x ≠ a) (b : Byte) : memByte (kvSet 0 a b m) x = memByte m x :=
  kvGet_set_ne _ _ h _ _

theorem memByte_write_below (m : Mem) (a : Nat) (bs : List Byte) {x : Nat} (h : x < a) :
    memByte (memWrite m a bs) x = memByte m x := by
  induction bs generalizing m a with
  | nil => rfl
  | cons b bs ih => rw [memWrite, ih _ _ (by omega), memByte_set_ne (by omega)]

/-- A byte after a write of bytes: the byte written, or the one that was there. -/
theorem memByte_write (m : Mem) (a : Nat) (bs : List Byte) (x : Nat) :
    memByte (memWrite m a bs) x = if a ≤ x ∧ x < a + bs.length then bs.getD (x - a) 0 else memByte m x := by
  induction bs generalizing m a with
  | nil => simp [memWrite] <;> omega
  | cons b bs ih =>
    rw [memWrite, ih]
    by_cases h : x = a
    · subst h
      rw [if_neg (by omega), memByte_set_self, if_pos (by simp)]; simp
    · rw [memByte_set_ne h]
      by_cases h2 : a + 1 ≤ x ∧ x < a + 1 + bs.length
      · rw [if_pos h2, if_pos (by simp; omega), show x - a = (x - (a + 1)) + 1 by omega]; simp
      · rw [if_neg h2, if_neg (by simp; omega)]

/-- Every memory operation keeps the canonical form. -/
theorem memWrite_wf (m : Mem) (a : Nat) (bs : List Byte) (h : kvWf (fun _ => 0) m) : kvWf (fun _ => 0) (memWrite m a bs) := by
  induction bs generalizing m a with
  | nil => exact h
  | cons b bs ih => exact ih _ _ (kvSet_wf (fun _ => 0) a b m h)

theorem memRead_length (m : Mem) (a n : Nat) : (memRead m a n).length = n := by
  induction n generalizing a with
  | zero => rfl
  | succ n ih => simp [memRead, ih]

theorem beBytes_length (n v : Nat) : (beBytes n v).length = n := by
  induction n with
  | zero => rfl
  | succ n ih => simp [beBytes, ih]

/-! ### Bit fields -/

theorem bits_lt (v hi lo : Nat) : bits v hi lo < 2 ^ (hi + 1 - lo) := Nat.mod_lt _ (Nat.two_pow_pos _)

theorem testBit_bits (v hi lo k : Nat) : (bits v hi lo).testBit k = (decide (k < hi + 1 - lo) && v.testBit (lo + k)) := by
  rw [bits, Nat.testBit_mod_two_pow, Nat.testBit_div_two_pow, Nat.add_comm k lo]

theorem testBit_putBits (v hi lo x k : Nat) (h : lo ≤ hi) :
    (putBits v hi lo x).testBit k = if lo ≤ k ∧ k ≤ hi then x.testBit (k - lo) else v.testBit k := by
  have e : putBits v hi lo x = 2 ^ lo * (2 ^ (hi + 1 - lo) * (v / 2 ^ (hi + 1)) + x % 2 ^ (hi + 1 - lo)) + v % 2 ^ lo := by
    rw [putBits, Nat.mul_add, ← Nat.mul_assoc, ← Nat.pow_add, show lo + (hi + 1 - lo) = hi + 1 by omega]
    rw [Nat.mul_comm (v / _), Nat.mul_comm (x % _)]
  rw [e, Nat.testBit_two_pow_mul_add _ (Nat.mod_lt _ (Nat.two_pow_pos _))]
  by_cases h1 : k < lo
  · rw [if_pos h1, if_neg (by omega), Nat.testBit_mod_two_pow]; simp [h1]
  · rw [if_neg h1, Nat.testBit_two_pow_mul_add _ (Nat.mod_lt _ (Nat.two_pow_pos _))]
    by_cases h2 : k ≤ hi
    · rw [if_pos (by omega), if_pos (by omega), Nat.testBit_mod_two_pow]; simp; omega
    · rw [if_neg (by omega), if_neg (by omega), Nat.testBit_div_two_pow]; congr 1; omega

/-- A field reads back as written, cut to its width. -/
theorem bits_putBits_self (v hi lo x : Nat) (h : lo ≤ hi) : bits (putBits v hi lo x) hi lo = x % 2 ^ (hi + 1 - lo) := by
  apply Nat.eq_of_testBit_eq; intro k
  rw [testBit_bits, testBit_putBits _ _ _ _ _ h, Nat.testBit_mod_two_pow]
  by_cases hk : k < hi + 1 - lo
  · rw [if_pos (by omega)]; simp [hk]
  · simp [hk]

/-- A field that lies beside the one written reads as before. -/
theorem bits_putBits_other (v hi lo x h2 l2 : Nat) (h : lo ≤ hi) (hd : h2 < lo ∨ hi < l2) :
    bits (putBits v hi lo x) h2 l2 = bits v h2 l2 := by
  apply Nat.eq_of_testBit_eq; intro k
  rw [testBit_bits, testBit_bits, testBit_putBits _ _ _ _ _ h]
  by_cases hk : k < h2 + 1 - l2
  · rw [if_neg (by omega)]
  · simp [hk]

/-- Fields of a 32-bit register do not see the cut to 32 bits. -/
theorem bits_mod (v hi lo : Nat) (h : hi < 32) : bits (v % 2 ^ 32) hi lo = bits v hi lo := by
  apply Nat.eq_of_testBit_eq; intro k
  rw [testBit_bits, testBit_bits, Nat.testBit_mod_two_pow]
  by_cases hk : k < hi + 1 - lo
  · simp [hk, show lo + k < 32 by omega]
  · simp [hk]

end Sys2Proof.Machine
end

