-- ==== Sys2Proof/Laws/State.lean ====
section
/-! SUPPORT. Laws/State.lean: what the shared updates of the device leave alone, one lemma per field per update, and what a
register reads as after one is written. -/
namespace Sys2Proof.Machine

/-! ### `Dev.wr` -/

@[simp] theorem Dev.wr_live (d : Dev) (a : Nat) (v : Word) : (d.wr a v).live = d.live := rfl
@[simp] theorem Dev.wr_bus (d : Dev) (a : Nat) (v : Word) : (d.wr a v).bus = d.bus := rfl
@[simp] theorem Dev.wr_snap (d : Dev) (a : Nat) (v : Word) : (d.wr a v).snap = d.snap := rfl
@[simp] theorem Dev.wr_trk (d : Dev) (a : Nat) (v : Word) : (d.wr a v).trk = d.trk := rfl
@[simp] theorem Dev.wr_links (d : Dev) (a : Nat) (v : Word) : (d.wr a v).links = d.links := rfl
@[simp] theorem Dev.wr_flt (d : Dev) (a : Nat) (v : Word) : (d.wr a v).flt = d.flt := rfl
@[simp] theorem Dev.wr_board (d : Dev) (a : Nat) (v : Word) : (d.wr a v).board = d.board := rfl
@[simp] theorem Dev.wr_irq (d : Dev) (a : Nat) (v : Word) : (d.wr a v).irq = d.irq := rfl
@[simp] theorem Dev.wr_msix (d : Dev) (a : Nat) (v : Word) : (d.wr a v).msix = d.msix := rfl
@[simp] theorem Dev.wr_evtDropped (d : Dev) (a : Nat) (v : Word) : (d.wr a v).evtDropped = d.evtDropped := rfl
@[simp] theorem Dev.wr_out (d : Dev) (a : Nat) (v : Word) : (d.wr a v).out = d.out := rfl
@[simp] theorem Dev.wr_jrn (d : Dev) (a : Nat) (v : Word) : (d.wr a v).jrn = d.jrn := rfl
@[simp] theorem Dev.wr_port (d : Dev) (a : Nat) (v : Word) : (d.wr a v).port = d.port := rfl
@[simp] theorem Dev.wr_rail (d : Dev) (a : Nat) (v : Word) : (d.wr a v).rail = d.rail := rfl
@[simp] theorem Dev.wr_path (d : Dev) (a : Nat) (v : Word) : (d.wr a v).path = d.path := rfl
@[simp] theorem Dev.wr_tbl (d : Dev) (a : Nat) (v : Word) : (d.wr a v).tbl = d.tbl := rfl
@[simp] theorem Dev.wr_nrg (d : Dev) (a : Nat) (v : Word) : (d.wr a v).nrg = d.nrg := rfl
@[simp] theorem Dev.wr_hbm (d : Dev) (a : Nat) (v : Word) : (d.wr a v).hbm = d.hbm := rfl
@[simp] theorem Dev.wr_rck (d : Dev) (a : Nat) (v : Word) : (d.wr a v).rck = d.rck := rfl
@[simp] theorem Dev.wr_dom (d : Dev) (a : Nat) (v : Word) : (d.wr a v).dom = d.dom := rfl
@[simp] theorem Dev.wr_tim (d : Dev) (a : Nat) (v : Word) : (d.wr a v).tim = d.tim := rfl
@[simp] theorem Dev.wr_host (d : Dev) (a : Nat) (v : Word) : (d.wr a v).host = d.host := rfl
@[simp] theorem Dev.wr_deferred (d : Dev) (a : Nat) (v : Word) : (d.wr a v).deferred = d.deferred := rfl
@[simp] theorem Dev.wr_baseMac (d : Dev) (a : Nat) (v : Word) : (d.wr a v).baseMac = d.baseMac := rfl
@[simp] theorem Dev.wr_cert (d : Dev) (a : Nat) (v : Word) : (d.wr a v).cert = d.cert := rfl
@[simp] theorem Dev.wr_treePorts (d : Dev) (a : Nat) (v : Word) : (d.wr a v).treePorts = d.treePorts := rfl
@[simp] theorem Dev.wr_msgSeen (d : Dev) (a : Nat) (v : Word) : (d.wr a v).msgSeen = d.msgSeen := rfl
@[simp] theorem Dev.wr_fresh (d : Dev) (a : Nat) (v : Word) : (d.wr a v).fresh = d.fresh := rfl

/-! ### `Dev.wn` -/

@[simp] theorem Dev.wn_live (d : Dev) (a v : Nat) : (d.wn a v).live = d.live := rfl
@[simp] theorem Dev.wn_bus (d : Dev) (a v : Nat) : (d.wn a v).bus = d.bus := rfl
@[simp] theorem Dev.wn_snap (d : Dev) (a v : Nat) : (d.wn a v).snap = d.snap := rfl
@[simp] theorem Dev.wn_trk (d : Dev) (a v : Nat) : (d.wn a v).trk = d.trk := rfl
@[simp] theorem Dev.wn_links (d : Dev) (a v : Nat) : (d.wn a v).links = d.links := rfl
@[simp] theorem Dev.wn_flt (d : Dev) (a v : Nat) : (d.wn a v).flt = d.flt := rfl
@[simp] theorem Dev.wn_board (d : Dev) (a v : Nat) : (d.wn a v).board = d.board := rfl
@[simp] theorem Dev.wn_irq (d : Dev) (a v : Nat) : (d.wn a v).irq = d.irq := rfl
@[simp] theorem Dev.wn_msix (d : Dev) (a v : Nat) : (d.wn a v).msix = d.msix := rfl
@[simp] theorem Dev.wn_evtDropped (d : Dev) (a v : Nat) : (d.wn a v).evtDropped = d.evtDropped := rfl
@[simp] theorem Dev.wn_out (d : Dev) (a v : Nat) : (d.wn a v).out = d.out := rfl
@[simp] theorem Dev.wn_jrn (d : Dev) (a v : Nat) : (d.wn a v).jrn = d.jrn := rfl
@[simp] theorem Dev.wn_port (d : Dev) (a v : Nat) : (d.wn a v).port = d.port := rfl
@[simp] theorem Dev.wn_rail (d : Dev) (a v : Nat) : (d.wn a v).rail = d.rail := rfl
@[simp] theorem Dev.wn_path (d : Dev) (a v : Nat) : (d.wn a v).path = d.path := rfl
@[simp] theorem Dev.wn_tbl (d : Dev) (a v : Nat) : (d.wn a v).tbl = d.tbl := rfl
@[simp] theorem Dev.wn_nrg (d : Dev) (a v : Nat) : (d.wn a v).nrg = d.nrg := rfl
@[simp] theorem Dev.wn_hbm (d : Dev) (a v : Nat) : (d.wn a v).hbm = d.hbm := rfl
@[simp] theorem Dev.wn_rck (d : Dev) (a v : Nat) : (d.wn a v).rck = d.rck := rfl
@[simp] theorem Dev.wn_dom (d : Dev) (a v : Nat) : (d.wn a v).dom = d.dom := rfl
@[simp] theorem Dev.wn_tim (d : Dev) (a v : Nat) : (d.wn a v).tim = d.tim := rfl
@[simp] theorem Dev.wn_host (d : Dev) (a v : Nat) : (d.wn a v).host = d.host := rfl
@[simp] theorem Dev.wn_deferred (d : Dev) (a v : Nat) : (d.wn a v).deferred = d.deferred := rfl
@[simp] theorem Dev.wn_baseMac (d : Dev) (a v : Nat) : (d.wn a v).baseMac = d.baseMac := rfl
@[simp] theorem Dev.wn_cert (d : Dev) (a v : Nat) : (d.wn a v).cert = d.cert := rfl
@[simp] theorem Dev.wn_treePorts (d : Dev) (a v : Nat) : (d.wn a v).treePorts = d.treePorts := rfl
@[simp] theorem Dev.wn_msgSeen (d : Dev) (a v : Nat) : (d.wn a v).msgSeen = d.msgSeen := rfl
@[simp] theorem Dev.wn_fresh (d : Dev) (a v : Nat) : (d.wn a v).fresh = d.fresh := rfl

/-! ### `Dev.sf` -/

@[simp] theorem Dev.sf_live (d : Dev) (a : Nat) (g : Fld) (x : Nat) : (d.sf a g x).live = d.live := rfl
@[simp] theorem Dev.sf_bus (d : Dev) (a : Nat) (g : Fld) (x : Nat) : (d.sf a g x).bus = d.bus := rfl
@[simp] theorem Dev.sf_snap (d : Dev) (a : Nat) (g : Fld) (x : Nat) : (d.sf a g x).snap = d.snap := rfl
@[simp] theorem Dev.sf_trk (d : Dev) (a : Nat) (g : Fld) (x : Nat) : (d.sf a g x).trk = d.trk := rfl
@[simp] theorem Dev.sf_links (d : Dev) (a : Nat) (g : Fld) (x : Nat) : (d.sf a g x).links = d.links := rfl
@[simp] theorem Dev.sf_flt (d : Dev) (a : Nat) (g : Fld) (x : Nat) : (d.sf a g x).flt = d.flt := rfl
@[simp] theorem Dev.sf_board (d : Dev) (a : Nat) (g : Fld) (x : Nat) : (d.sf a g x).board = d.board := rfl
@[simp] theorem Dev.sf_irq (d : Dev) (a : Nat) (g : Fld) (x : Nat) : (d.sf a g x).irq = d.irq := rfl
@[simp] theorem Dev.sf_msix (d : Dev) (a : Nat) (g : Fld) (x : Nat) : (d.sf a g x).msix = d.msix := rfl
@[simp] theorem Dev.sf_evtDropped (d : Dev) (a : Nat) (g : Fld) (x : Nat) : (d.sf a g x).evtDropped = d.evtDropped := rfl
@[simp] theorem Dev.sf_out (d : Dev) (a : Nat) (g : Fld) (x : Nat) : (d.sf a g x).out = d.out := rfl
@[simp] theorem Dev.sf_jrn (d : Dev) (a : Nat) (g : Fld) (x : Nat) : (d.sf a g x).jrn = d.jrn := rfl
@[simp] theorem Dev.sf_port (d : Dev) (a : Nat) (g : Fld) (x : Nat) : (d.sf a g x).port = d.port := rfl
@[simp] theorem Dev.sf_rail (d : Dev) (a : Nat) (g : Fld) (x : Nat) : (d.sf a g x).rail = d.rail := rfl
@[simp] theorem Dev.sf_path (d : Dev) (a : Nat) (g : Fld) (x : Nat) : (d.sf a g x).path = d.path := rfl
@[simp] theorem Dev.sf_tbl (d : Dev) (a : Nat) (g : Fld) (x : Nat) : (d.sf a g x).tbl = d.tbl := rfl
@[simp] theorem Dev.sf_nrg (d : Dev) (a : Nat) (g : Fld) (x : Nat) : (d.sf a g x).nrg = d.nrg := rfl
@[simp] theorem Dev.sf_hbm (d : Dev) (a : Nat) (g : Fld) (x : Nat) : (d.sf a g x).hbm = d.hbm := rfl
@[simp] theorem Dev.sf_rck (d : Dev) (a : Nat) (g : Fld) (x : Nat) : (d.sf a g x).rck = d.rck := rfl
@[simp] theorem Dev.sf_dom (d : Dev) (a : Nat) (g : Fld) (x : Nat) : (d.sf a g x).dom = d.dom := rfl
@[simp] theorem Dev.sf_tim (d : Dev) (a : Nat) (g : Fld) (x : Nat) : (d.sf a g x).tim = d.tim := rfl
@[simp] theorem Dev.sf_host (d : Dev) (a : Nat) (g : Fld) (x : Nat) : (d.sf a g x).host = d.host := rfl
@[simp] theorem Dev.sf_deferred (d : Dev) (a : Nat) (g : Fld) (x : Nat) : (d.sf a g x).deferred = d.deferred := rfl
@[simp] theorem Dev.sf_baseMac (d : Dev) (a : Nat) (g : Fld) (x : Nat) : (d.sf a g x).baseMac = d.baseMac := rfl
@[simp] theorem Dev.sf_cert (d : Dev) (a : Nat) (g : Fld) (x : Nat) : (d.sf a g x).cert = d.cert := rfl
@[simp] theorem Dev.sf_treePorts (d : Dev) (a : Nat) (g : Fld) (x : Nat) : (d.sf a g x).treePorts = d.treePorts := rfl
@[simp] theorem Dev.sf_msgSeen (d : Dev) (a : Nat) (g : Fld) (x : Nat) : (d.sf a g x).msgSeen = d.msgSeen := rfl
@[simp] theorem Dev.sf_fresh (d : Dev) (a : Nat) (g : Fld) (x : Nat) : (d.sf a g x).fresh = d.fresh := rfl

/-! ### `Dev.sb` -/

@[simp] theorem Dev.sb_live (d : Dev) (a : Nat) (g : Fld) (x : Bool) : (d.sb a g x).live = d.live := rfl
@[simp] theorem Dev.sb_bus (d : Dev) (a : Nat) (g : Fld) (x : Bool) : (d.sb a g x).bus = d.bus := rfl
@[simp] theorem Dev.sb_snap (d : Dev) (a : Nat) (g : Fld) (x : Bool) : (d.sb a g x).snap = d.snap := rfl
@[simp] theorem Dev.sb_trk (d : Dev) (a : Nat) (g : Fld) (x : Bool) : (d.sb a g x).trk = d.trk := rfl
@[simp] theorem Dev.sb_links (d : Dev) (a : Nat) (g : Fld) (x : Bool) : (d.sb a g x).links = d.links := rfl
@[simp] theorem Dev.sb_flt (d : Dev) (a : Nat) (g : Fld) (x : Bool) : (d.sb a g x).flt = d.flt := rfl
@[simp] theorem Dev.sb_board (d : Dev) (a : Nat) (g : Fld) (x : Bool) : (d.sb a g x).board = d.board := rfl
@[simp] theorem Dev.sb_irq (d : Dev) (a : Nat) (g : Fld) (x : Bool) : (d.sb a g x).irq = d.irq := rfl
@[simp] theorem Dev.sb_msix (d : Dev) (a : Nat) (g : Fld) (x : Bool) : (d.sb a g x).msix = d.msix := rfl
@[simp] theorem Dev.sb_evtDropped (d : Dev) (a : Nat) (g : Fld) (x : Bool) : (d.sb a g x).evtDropped = d.evtDropped := rfl
@[simp] theorem Dev.sb_out (d : Dev) (a : Nat) (g : Fld) (x : Bool) : (d.sb a g x).out = d.out := rfl
@[simp] theorem Dev.sb_jrn (d : Dev) (a : Nat) (g : Fld) (x : Bool) : (d.sb a g x).jrn = d.jrn := rfl
@[simp] theorem Dev.sb_port (d : Dev) (a : Nat) (g : Fld) (x : Bool) : (d.sb a g x).port = d.port := rfl
@[simp] theorem Dev.sb_rail (d : Dev) (a : Nat) (g : Fld) (x : Bool) : (d.sb a g x).rail = d.rail := rfl
@[simp] theorem Dev.sb_path (d : Dev) (a : Nat) (g : Fld) (x : Bool) : (d.sb a g x).path = d.path := rfl
@[simp] theorem Dev.sb_tbl (d : Dev) (a : Nat) (g : Fld) (x : Bool) : (d.sb a g x).tbl = d.tbl := rfl
@[simp] theorem Dev.sb_nrg (d : Dev) (a : Nat) (g : Fld) (x : Bool) : (d.sb a g x).nrg = d.nrg := rfl
@[simp] theorem Dev.sb_hbm (d : Dev) (a : Nat) (g : Fld) (x : Bool) : (d.sb a g x).hbm = d.hbm := rfl
@[simp] theorem Dev.sb_rck (d : Dev) (a : Nat) (g : Fld) (x : Bool) : (d.sb a g x).rck = d.rck := rfl
@[simp] theorem Dev.sb_dom (d : Dev) (a : Nat) (g : Fld) (x : Bool) : (d.sb a g x).dom = d.dom := rfl
@[simp] theorem Dev.sb_tim (d : Dev) (a : Nat) (g : Fld) (x : Bool) : (d.sb a g x).tim = d.tim := rfl
@[simp] theorem Dev.sb_host (d : Dev) (a : Nat) (g : Fld) (x : Bool) : (d.sb a g x).host = d.host := rfl
@[simp] theorem Dev.sb_deferred (d : Dev) (a : Nat) (g : Fld) (x : Bool) : (d.sb a g x).deferred = d.deferred := rfl
@[simp] theorem Dev.sb_baseMac (d : Dev) (a : Nat) (g : Fld) (x : Bool) : (d.sb a g x).baseMac = d.baseMac := rfl
@[simp] theorem Dev.sb_cert (d : Dev) (a : Nat) (g : Fld) (x : Bool) : (d.sb a g x).cert = d.cert := rfl
@[simp] theorem Dev.sb_treePorts (d : Dev) (a : Nat) (g : Fld) (x : Bool) : (d.sb a g x).treePorts = d.treePorts := rfl
@[simp] theorem Dev.sb_msgSeen (d : Dev) (a : Nat) (g : Fld) (x : Bool) : (d.sb a g x).msgSeen = d.msgSeen := rfl
@[simp] theorem Dev.sb_fresh (d : Dev) (a : Nat) (g : Fld) (x : Bool) : (d.sb a g x).fresh = d.fresh := rfl

/-! ### `Dev.wrPair` -/

@[simp] theorem Dev.wrPair_live (d : Dev) (lo hi v : Nat) : (d.wrPair lo hi v).live = d.live := rfl
@[simp] theorem Dev.wrPair_bus (d : Dev) (lo hi v : Nat) : (d.wrPair lo hi v).bus = d.bus := rfl
@[simp] theorem Dev.wrPair_snap (d : Dev) (lo hi v : Nat) : (d.wrPair lo hi v).snap = d.snap := rfl
@[simp] theorem Dev.wrPair_trk (d : Dev) (lo hi v : Nat) : (d.wrPair lo hi v).trk = d.trk := rfl
@[simp] theorem Dev.wrPair_links (d : Dev) (lo hi v : Nat) : (d.wrPair lo hi v).links = d.links := rfl
@[simp] theorem Dev.wrPair_flt (d : Dev) (lo hi v : Nat) : (d.wrPair lo hi v).flt = d.flt := rfl
@[simp] theorem Dev.wrPair_board (d : Dev) (lo hi v : Nat) : (d.wrPair lo hi v).board = d.board := rfl
@[simp] theorem Dev.wrPair_irq (d : Dev) (lo hi v : Nat) : (d.wrPair lo hi v).irq = d.irq := rfl
@[simp] theorem Dev.wrPair_msix (d : Dev) (lo hi v : Nat) : (d.wrPair lo hi v).msix = d.msix := rfl
@[simp] theorem Dev.wrPair_evtDropped (d : Dev) (lo hi v : Nat) : (d.wrPair lo hi v).evtDropped = d.evtDropped := rfl
@[simp] theorem Dev.wrPair_out (d : Dev) (lo hi v : Nat) : (d.wrPair lo hi v).out = d.out := rfl
@[simp] theorem Dev.wrPair_jrn (d : Dev) (lo hi v : Nat) : (d.wrPair lo hi v).jrn = d.jrn := rfl
@[simp] theorem Dev.wrPair_port (d : Dev) (lo hi v : Nat) : (d.wrPair lo hi v).port = d.port := rfl
@[simp] theorem Dev.wrPair_rail (d : Dev) (lo hi v : Nat) : (d.wrPair lo hi v).rail = d.rail := rfl
@[simp] theorem Dev.wrPair_path (d : Dev) (lo hi v : Nat) : (d.wrPair lo hi v).path = d.path := rfl
@[simp] theorem Dev.wrPair_tbl (d : Dev) (lo hi v : Nat) : (d.wrPair lo hi v).tbl = d.tbl := rfl
@[simp] theorem Dev.wrPair_nrg (d : Dev) (lo hi v : Nat) : (d.wrPair lo hi v).nrg = d.nrg := rfl
@[simp] theorem Dev.wrPair_hbm (d : Dev) (lo hi v : Nat) : (d.wrPair lo hi v).hbm = d.hbm := rfl
@[simp] theorem Dev.wrPair_rck (d : Dev) (lo hi v : Nat) : (d.wrPair lo hi v).rck = d.rck := rfl
@[simp] theorem Dev.wrPair_dom (d : Dev) (lo hi v : Nat) : (d.wrPair lo hi v).dom = d.dom := rfl
@[simp] theorem Dev.wrPair_tim (d : Dev) (lo hi v : Nat) : (d.wrPair lo hi v).tim = d.tim := rfl
@[simp] theorem Dev.wrPair_host (d : Dev) (lo hi v : Nat) : (d.wrPair lo hi v).host = d.host := rfl
@[simp] theorem Dev.wrPair_deferred (d : Dev) (lo hi v : Nat) : (d.wrPair lo hi v).deferred = d.deferred := rfl
@[simp] theorem Dev.wrPair_baseMac (d : Dev) (lo hi v : Nat) : (d.wrPair lo hi v).baseMac = d.baseMac := rfl
@[simp] theorem Dev.wrPair_cert (d : Dev) (lo hi v : Nat) : (d.wrPair lo hi v).cert = d.cert := rfl
@[simp] theorem Dev.wrPair_treePorts (d : Dev) (lo hi v : Nat) : (d.wrPair lo hi v).treePorts = d.treePorts := rfl
@[simp] theorem Dev.wrPair_msgSeen (d : Dev) (lo hi v : Nat) : (d.wrPair lo hi v).msgSeen = d.msgSeen := rfl
@[simp] theorem Dev.wrPair_fresh (d : Dev) (lo hi v : Nat) : (d.wrPair lo hi v).fresh = d.fresh := rfl

/-! ### `Dev.addPair` -/

@[simp] theorem Dev.addPair_live (d : Dev) (lo hi n : Nat) : (d.addPair lo hi n).live = d.live := rfl
@[simp] theorem Dev.addPair_bus (d : Dev) (lo hi n : Nat) : (d.addPair lo hi n).bus = d.bus := rfl
@[simp] theorem Dev.addPair_snap (d : Dev) (lo hi n : Nat) : (d.addPair lo hi n).snap = d.snap := rfl
@[simp] theorem Dev.addPair_trk (d : Dev) (lo hi n : Nat) : (d.addPair lo hi n).trk = d.trk := rfl
@[simp] theorem Dev.addPair_links (d : Dev) (lo hi n : Nat) : (d.addPair lo hi n).links = d.links := rfl
@[simp] theorem Dev.addPair_flt (d : Dev) (lo hi n : Nat) : (d.addPair lo hi n).flt = d.flt := rfl
@[simp] theorem Dev.addPair_board (d : Dev) (lo hi n : Nat) : (d.addPair lo hi n).board = d.board := rfl
@[simp] theorem Dev.addPair_irq (d : Dev) (lo hi n : Nat) : (d.addPair lo hi n).irq = d.irq := rfl
@[simp] theorem Dev.addPair_msix (d : Dev) (lo hi n : Nat) : (d.addPair lo hi n).msix = d.msix := rfl
@[simp] theorem Dev.addPair_evtDropped (d : Dev) (lo hi n : Nat) : (d.addPair lo hi n).evtDropped = d.evtDropped := rfl
@[simp] theorem Dev.addPair_out (d : Dev) (lo hi n : Nat) : (d.addPair lo hi n).out = d.out := rfl
@[simp] theorem Dev.addPair_jrn (d : Dev) (lo hi n : Nat) : (d.addPair lo hi n).jrn = d.jrn := rfl
@[simp] theorem Dev.addPair_port (d : Dev) (lo hi n : Nat) : (d.addPair lo hi n).port = d.port := rfl
@[simp] theorem Dev.addPair_rail (d : Dev) (lo hi n : Nat) : (d.addPair lo hi n).rail = d.rail := rfl
@[simp] theorem Dev.addPair_path (d : Dev) (lo hi n : Nat) : (d.addPair lo hi n).path = d.path := rfl
@[simp] theorem Dev.addPair_tbl (d : Dev) (lo hi n : Nat) : (d.addPair lo hi n).tbl = d.tbl := rfl
@[simp] theorem Dev.addPair_nrg (d : Dev) (lo hi n : Nat) : (d.addPair lo hi n).nrg = d.nrg := rfl
@[simp] theorem Dev.addPair_hbm (d : Dev) (lo hi n : Nat) : (d.addPair lo hi n).hbm = d.hbm := rfl
@[simp] theorem Dev.addPair_rck (d : Dev) (lo hi n : Nat) : (d.addPair lo hi n).rck = d.rck := rfl
@[simp] theorem Dev.addPair_dom (d : Dev) (lo hi n : Nat) : (d.addPair lo hi n).dom = d.dom := rfl
@[simp] theorem Dev.addPair_tim (d : Dev) (lo hi n : Nat) : (d.addPair lo hi n).tim = d.tim := rfl
@[simp] theorem Dev.addPair_host (d : Dev) (lo hi n : Nat) : (d.addPair lo hi n).host = d.host := rfl
@[simp] theorem Dev.addPair_deferred (d : Dev) (lo hi n : Nat) : (d.addPair lo hi n).deferred = d.deferred := rfl
@[simp] theorem Dev.addPair_baseMac (d : Dev) (lo hi n : Nat) : (d.addPair lo hi n).baseMac = d.baseMac := rfl
@[simp] theorem Dev.addPair_cert (d : Dev) (lo hi n : Nat) : (d.addPair lo hi n).cert = d.cert := rfl
@[simp] theorem Dev.addPair_treePorts (d : Dev) (lo hi n : Nat) : (d.addPair lo hi n).treePorts = d.treePorts := rfl
@[simp] theorem Dev.addPair_msgSeen (d : Dev) (lo hi n : Nat) : (d.addPair lo hi n).msgSeen = d.msgSeen := rfl
@[simp] theorem Dev.addPair_fresh (d : Dev) (lo hi n : Nat) : (d.addPair lo hi n).fresh = d.fresh := rfl

/-! ### `Dev.cnt` -/

@[simp] theorem Dev.cnt_live (d : Dev) (lo n : Nat) : (d.cnt lo n).live = d.live := rfl
@[simp] theorem Dev.cnt_bus (d : Dev) (lo n : Nat) : (d.cnt lo n).bus = d.bus := rfl
@[simp] theorem Dev.cnt_snap (d : Dev) (lo n : Nat) : (d.cnt lo n).snap = d.snap := rfl
@[simp] theorem Dev.cnt_trk (d : Dev) (lo n : Nat) : (d.cnt lo n).trk = d.trk := rfl
@[simp] theorem Dev.cnt_links (d : Dev) (lo n : Nat) : (d.cnt lo n).links = d.links := rfl
@[simp] theorem Dev.cnt_flt (d : Dev) (lo n : Nat) : (d.cnt lo n).flt = d.flt := rfl
@[simp] theorem Dev.cnt_board (d : Dev) (lo n : Nat) : (d.cnt lo n).board = d.board := rfl
@[simp] theorem Dev.cnt_irq (d : Dev) (lo n : Nat) : (d.cnt lo n).irq = d.irq := rfl
@[simp] theorem Dev.cnt_msix (d : Dev) (lo n : Nat) : (d.cnt lo n).msix = d.msix := rfl
@[simp] theorem Dev.cnt_evtDropped (d : Dev) (lo n : Nat) : (d.cnt lo n).evtDropped = d.evtDropped := rfl
@[simp] theorem Dev.cnt_out (d : Dev) (lo n : Nat) : (d.cnt lo n).out = d.out := rfl
@[simp] theorem Dev.cnt_jrn (d : Dev) (lo n : Nat) : (d.cnt lo n).jrn = d.jrn := rfl
@[simp] theorem Dev.cnt_port (d : Dev) (lo n : Nat) : (d.cnt lo n).port = d.port := rfl
@[simp] theorem Dev.cnt_rail (d : Dev) (lo n : Nat) : (d.cnt lo n).rail = d.rail := rfl
@[simp] theorem Dev.cnt_path (d : Dev) (lo n : Nat) : (d.cnt lo n).path = d.path := rfl
@[simp] theorem Dev.cnt_tbl (d : Dev) (lo n : Nat) : (d.cnt lo n).tbl = d.tbl := rfl
@[simp] theorem Dev.cnt_nrg (d : Dev) (lo n : Nat) : (d.cnt lo n).nrg = d.nrg := rfl
@[simp] theorem Dev.cnt_hbm (d : Dev) (lo n : Nat) : (d.cnt lo n).hbm = d.hbm := rfl
@[simp] theorem Dev.cnt_rck (d : Dev) (lo n : Nat) : (d.cnt lo n).rck = d.rck := rfl
@[simp] theorem Dev.cnt_dom (d : Dev) (lo n : Nat) : (d.cnt lo n).dom = d.dom := rfl
@[simp] theorem Dev.cnt_tim (d : Dev) (lo n : Nat) : (d.cnt lo n).tim = d.tim := rfl
@[simp] theorem Dev.cnt_host (d : Dev) (lo n : Nat) : (d.cnt lo n).host = d.host := rfl
@[simp] theorem Dev.cnt_deferred (d : Dev) (lo n : Nat) : (d.cnt lo n).deferred = d.deferred := rfl
@[simp] theorem Dev.cnt_baseMac (d : Dev) (lo n : Nat) : (d.cnt lo n).baseMac = d.baseMac := rfl
@[simp] theorem Dev.cnt_cert (d : Dev) (lo n : Nat) : (d.cnt lo n).cert = d.cert := rfl
@[simp] theorem Dev.cnt_treePorts (d : Dev) (lo n : Nat) : (d.cnt lo n).treePorts = d.treePorts := rfl
@[simp] theorem Dev.cnt_msgSeen (d : Dev) (lo n : Nat) : (d.cnt lo n).msgSeen = d.msgSeen := rfl
@[simp] theorem Dev.cnt_fresh (d : Dev) (lo n : Nat) : (d.cnt lo n).fresh = d.fresh := rfl

/-! ### `Dev.cnt32` -/

@[simp] theorem Dev.cnt32_live (d : Dev) (a n : Nat) : (d.cnt32 a n).live = d.live := rfl
@[simp] theorem Dev.cnt32_bus (d : Dev) (a n : Nat) : (d.cnt32 a n).bus = d.bus := rfl
@[simp] theorem Dev.cnt32_snap (d : Dev) (a n : Nat) : (d.cnt32 a n).snap = d.snap := rfl
@[simp] theorem Dev.cnt32_trk (d : Dev) (a n : Nat) : (d.cnt32 a n).trk = d.trk := rfl
@[simp] theorem Dev.cnt32_links (d : Dev) (a n : Nat) : (d.cnt32 a n).links = d.links := rfl
@[simp] theorem Dev.cnt32_flt (d : Dev) (a n : Nat) : (d.cnt32 a n).flt = d.flt := rfl
@[simp] theorem Dev.cnt32_board (d : Dev) (a n : Nat) : (d.cnt32 a n).board = d.board := rfl
@[simp] theorem Dev.cnt32_irq (d : Dev) (a n : Nat) : (d.cnt32 a n).irq = d.irq := rfl
@[simp] theorem Dev.cnt32_msix (d : Dev) (a n : Nat) : (d.cnt32 a n).msix = d.msix := rfl
@[simp] theorem Dev.cnt32_evtDropped (d : Dev) (a n : Nat) : (d.cnt32 a n).evtDropped = d.evtDropped := rfl
@[simp] theorem Dev.cnt32_out (d : Dev) (a n : Nat) : (d.cnt32 a n).out = d.out := rfl
@[simp] theorem Dev.cnt32_jrn (d : Dev) (a n : Nat) : (d.cnt32 a n).jrn = d.jrn := rfl
@[simp] theorem Dev.cnt32_port (d : Dev) (a n : Nat) : (d.cnt32 a n).port = d.port := rfl
@[simp] theorem Dev.cnt32_rail (d : Dev) (a n : Nat) : (d.cnt32 a n).rail = d.rail := rfl
@[simp] theorem Dev.cnt32_path (d : Dev) (a n : Nat) : (d.cnt32 a n).path = d.path := rfl
@[simp] theorem Dev.cnt32_tbl (d : Dev) (a n : Nat) : (d.cnt32 a n).tbl = d.tbl := rfl
@[simp] theorem Dev.cnt32_nrg (d : Dev) (a n : Nat) : (d.cnt32 a n).nrg = d.nrg := rfl
@[simp] theorem Dev.cnt32_hbm (d : Dev) (a n : Nat) : (d.cnt32 a n).hbm = d.hbm := rfl
@[simp] theorem Dev.cnt32_rck (d : Dev) (a n : Nat) : (d.cnt32 a n).rck = d.rck := rfl
@[simp] theorem Dev.cnt32_dom (d : Dev) (a n : Nat) : (d.cnt32 a n).dom = d.dom := rfl
@[simp] theorem Dev.cnt32_tim (d : Dev) (a n : Nat) : (d.cnt32 a n).tim = d.tim := rfl
@[simp] theorem Dev.cnt32_host (d : Dev) (a n : Nat) : (d.cnt32 a n).host = d.host := rfl
@[simp] theorem Dev.cnt32_deferred (d : Dev) (a n : Nat) : (d.cnt32 a n).deferred = d.deferred := rfl
@[simp] theorem Dev.cnt32_baseMac (d : Dev) (a n : Nat) : (d.cnt32 a n).baseMac = d.baseMac := rfl
@[simp] theorem Dev.cnt32_cert (d : Dev) (a n : Nat) : (d.cnt32 a n).cert = d.cert := rfl
@[simp] theorem Dev.cnt32_treePorts (d : Dev) (a n : Nat) : (d.cnt32 a n).treePorts = d.treePorts := rfl
@[simp] theorem Dev.cnt32_msgSeen (d : Dev) (a n : Nat) : (d.cnt32 a n).msgSeen = d.msgSeen := rfl
@[simp] theorem Dev.cnt32_fresh (d : Dev) (a n : Nat) : (d.cnt32 a n).fresh = d.fresh := rfl

/-! ### `Dev.cntF` -/

@[simp] theorem Dev.cntF_live (d : Dev) (a : Nat) (g : Fld) (n : Nat) : (d.cntF a g n).live = d.live := rfl
@[simp] theorem Dev.cntF_bus (d : Dev) (a : Nat) (g : Fld) (n : Nat) : (d.cntF a g n).bus = d.bus := rfl
@[simp] theorem Dev.cntF_snap (d : Dev) (a : Nat) (g : Fld) (n : Nat) : (d.cntF a g n).snap = d.snap := rfl
@[simp] theorem Dev.cntF_trk (d : Dev) (a : Nat) (g : Fld) (n : Nat) : (d.cntF a g n).trk = d.trk := rfl
@[simp] theorem Dev.cntF_links (d : Dev) (a : Nat) (g : Fld) (n : Nat) : (d.cntF a g n).links = d.links := rfl
@[simp] theorem Dev.cntF_flt (d : Dev) (a : Nat) (g : Fld) (n : Nat) : (d.cntF a g n).flt = d.flt := rfl
@[simp] theorem Dev.cntF_board (d : Dev) (a : Nat) (g : Fld) (n : Nat) : (d.cntF a g n).board = d.board := rfl
@[simp] theorem Dev.cntF_irq (d : Dev) (a : Nat) (g : Fld) (n : Nat) : (d.cntF a g n).irq = d.irq := rfl
@[simp] theorem Dev.cntF_msix (d : Dev) (a : Nat) (g : Fld) (n : Nat) : (d.cntF a g n).msix = d.msix := rfl
@[simp] theorem Dev.cntF_evtDropped (d : Dev) (a : Nat) (g : Fld) (n : Nat) : (d.cntF a g n).evtDropped = d.evtDropped := rfl
@[simp] theorem Dev.cntF_out (d : Dev) (a : Nat) (g : Fld) (n : Nat) : (d.cntF a g n).out = d.out := rfl
@[simp] theorem Dev.cntF_jrn (d : Dev) (a : Nat) (g : Fld) (n : Nat) : (d.cntF a g n).jrn = d.jrn := rfl
@[simp] theorem Dev.cntF_port (d : Dev) (a : Nat) (g : Fld) (n : Nat) : (d.cntF a g n).port = d.port := rfl
@[simp] theorem Dev.cntF_rail (d : Dev) (a : Nat) (g : Fld) (n : Nat) : (d.cntF a g n).rail = d.rail := rfl
@[simp] theorem Dev.cntF_path (d : Dev) (a : Nat) (g : Fld) (n : Nat) : (d.cntF a g n).path = d.path := rfl
@[simp] theorem Dev.cntF_tbl (d : Dev) (a : Nat) (g : Fld) (n : Nat) : (d.cntF a g n).tbl = d.tbl := rfl
@[simp] theorem Dev.cntF_nrg (d : Dev) (a : Nat) (g : Fld) (n : Nat) : (d.cntF a g n).nrg = d.nrg := rfl
@[simp] theorem Dev.cntF_hbm (d : Dev) (a : Nat) (g : Fld) (n : Nat) : (d.cntF a g n).hbm = d.hbm := rfl
@[simp] theorem Dev.cntF_rck (d : Dev) (a : Nat) (g : Fld) (n : Nat) : (d.cntF a g n).rck = d.rck := rfl
@[simp] theorem Dev.cntF_dom (d : Dev) (a : Nat) (g : Fld) (n : Nat) : (d.cntF a g n).dom = d.dom := rfl
@[simp] theorem Dev.cntF_tim (d : Dev) (a : Nat) (g : Fld) (n : Nat) : (d.cntF a g n).tim = d.tim := rfl
@[simp] theorem Dev.cntF_host (d : Dev) (a : Nat) (g : Fld) (n : Nat) : (d.cntF a g n).host = d.host := rfl
@[simp] theorem Dev.cntF_deferred (d : Dev) (a : Nat) (g : Fld) (n : Nat) : (d.cntF a g n).deferred = d.deferred := rfl
@[simp] theorem Dev.cntF_baseMac (d : Dev) (a : Nat) (g : Fld) (n : Nat) : (d.cntF a g n).baseMac = d.baseMac := rfl
@[simp] theorem Dev.cntF_cert (d : Dev) (a : Nat) (g : Fld) (n : Nat) : (d.cntF a g n).cert = d.cert := rfl
@[simp] theorem Dev.cntF_treePorts (d : Dev) (a : Nat) (g : Fld) (n : Nat) : (d.cntF a g n).treePorts = d.treePorts := rfl
@[simp] theorem Dev.cntF_msgSeen (d : Dev) (a : Nat) (g : Fld) (n : Nat) : (d.cntF a g n).msgSeen = d.msgSeen := rfl
@[simp] theorem Dev.cntF_fresh (d : Dev) (a : Nat) (g : Fld) (n : Nat) : (d.cntF a g n).fresh = d.fresh := rfl

/-! ### `Dev.classA` -/

@[simp] theorem Dev.classA_live (d : Dev) (k : Nat) : (d.classA k).live = d.live := rfl
@[simp] theorem Dev.classA_bus (d : Dev) (k : Nat) : (d.classA k).bus = d.bus := rfl
@[simp] theorem Dev.classA_snap (d : Dev) (k : Nat) : (d.classA k).snap = d.snap := rfl
@[simp] theorem Dev.classA_trk (d : Dev) (k : Nat) : (d.classA k).trk = d.trk := rfl
@[simp] theorem Dev.classA_links (d : Dev) (k : Nat) : (d.classA k).links = d.links := rfl
@[simp] theorem Dev.classA_flt (d : Dev) (k : Nat) : (d.classA k).flt = d.flt := rfl
@[simp] theorem Dev.classA_board (d : Dev) (k : Nat) : (d.classA k).board = d.board := rfl
@[simp] theorem Dev.classA_irq (d : Dev) (k : Nat) : (d.classA k).irq = d.irq := rfl
@[simp] theorem Dev.classA_msix (d : Dev) (k : Nat) : (d.classA k).msix = d.msix := rfl
@[simp] theorem Dev.classA_evtDropped (d : Dev) (k : Nat) : (d.classA k).evtDropped = d.evtDropped := rfl
@[simp] theorem Dev.classA_out (d : Dev) (k : Nat) : (d.classA k).out = d.out := rfl
@[simp] theorem Dev.classA_jrn (d : Dev) (k : Nat) : (d.classA k).jrn = d.jrn := rfl
@[simp] theorem Dev.classA_port (d : Dev) (k : Nat) : (d.classA k).port = d.port := rfl
@[simp] theorem Dev.classA_rail (d : Dev) (k : Nat) : (d.classA k).rail = d.rail := rfl
@[simp] theorem Dev.classA_path (d : Dev) (k : Nat) : (d.classA k).path = d.path := rfl
@[simp] theorem Dev.classA_tbl (d : Dev) (k : Nat) : (d.classA k).tbl = d.tbl := rfl
@[simp] theorem Dev.classA_nrg (d : Dev) (k : Nat) : (d.classA k).nrg = d.nrg := rfl
@[simp] theorem Dev.classA_hbm (d : Dev) (k : Nat) : (d.classA k).hbm = d.hbm := rfl
@[simp] theorem Dev.classA_rck (d : Dev) (k : Nat) : (d.classA k).rck = d.rck := rfl
@[simp] theorem Dev.classA_dom (d : Dev) (k : Nat) : (d.classA k).dom = d.dom := rfl
@[simp] theorem Dev.classA_tim (d : Dev) (k : Nat) : (d.classA k).tim = d.tim := rfl
@[simp] theorem Dev.classA_host (d : Dev) (k : Nat) : (d.classA k).host = d.host := rfl
@[simp] theorem Dev.classA_deferred (d : Dev) (k : Nat) : (d.classA k).deferred = d.deferred := rfl
@[simp] theorem Dev.classA_baseMac (d : Dev) (k : Nat) : (d.classA k).baseMac = d.baseMac := rfl
@[simp] theorem Dev.classA_cert (d : Dev) (k : Nat) : (d.classA k).cert = d.cert := rfl
@[simp] theorem Dev.classA_treePorts (d : Dev) (k : Nat) : (d.classA k).treePorts = d.treePorts := rfl
@[simp] theorem Dev.classA_msgSeen (d : Dev) (k : Nat) : (d.classA k).msgSeen = d.msgSeen := rfl
@[simp] theorem Dev.classA_fresh (d : Dev) (k : Nat) : (d.classA k).fresh = d.fresh := rfl

/-! ### `Dev.used` -/

@[simp] theorem Dev.used_regs (d : Dev) (n : Nat) : (d.used n).regs = d.regs := rfl
@[simp] theorem Dev.used_live (d : Dev) (n : Nat) : (d.used n).live = d.live := rfl
@[simp] theorem Dev.used_bus (d : Dev) (n : Nat) : (d.used n).bus = d.bus := rfl
@[simp] theorem Dev.used_snap (d : Dev) (n : Nat) : (d.used n).snap = d.snap := rfl
@[simp] theorem Dev.used_trk (d : Dev) (n : Nat) : (d.used n).trk = d.trk := rfl
@[simp] theorem Dev.used_links (d : Dev) (n : Nat) : (d.used n).links = d.links := rfl
@[simp] theorem Dev.used_flt (d : Dev) (n : Nat) : (d.used n).flt = d.flt := rfl
@[simp] theorem Dev.used_board (d : Dev) (n : Nat) : (d.used n).board = d.board := rfl
@[simp] theorem Dev.used_irq (d : Dev) (n : Nat) : (d.used n).irq = d.irq := rfl
@[simp] theorem Dev.used_msix (d : Dev) (n : Nat) : (d.used n).msix = d.msix := rfl
@[simp] theorem Dev.used_evtDropped (d : Dev) (n : Nat) : (d.used n).evtDropped = d.evtDropped := rfl
@[simp] theorem Dev.used_out (d : Dev) (n : Nat) : (d.used n).out = d.out := rfl
@[simp] theorem Dev.used_jrn (d : Dev) (n : Nat) : (d.used n).jrn = d.jrn := rfl
@[simp] theorem Dev.used_port (d : Dev) (n : Nat) : (d.used n).port = d.port := rfl
@[simp] theorem Dev.used_rail (d : Dev) (n : Nat) : (d.used n).rail = d.rail := rfl
@[simp] theorem Dev.used_path (d : Dev) (n : Nat) : (d.used n).path = d.path := rfl
@[simp] theorem Dev.used_tbl (d : Dev) (n : Nat) : (d.used n).tbl = d.tbl := rfl
@[simp] theorem Dev.used_nrg (d : Dev) (n : Nat) : (d.used n).nrg = d.nrg := rfl
@[simp] theorem Dev.used_hbm (d : Dev) (n : Nat) : (d.used n).hbm = d.hbm := rfl
@[simp] theorem Dev.used_rck (d : Dev) (n : Nat) : (d.used n).rck = d.rck := rfl
@[simp] theorem Dev.used_dom (d : Dev) (n : Nat) : (d.used n).dom = d.dom := rfl
@[simp] theorem Dev.used_tim (d : Dev) (n : Nat) : (d.used n).tim = d.tim := rfl
@[simp] theorem Dev.used_host (d : Dev) (n : Nat) : (d.used n).host = d.host := rfl
@[simp] theorem Dev.used_deferred (d : Dev) (n : Nat) : (d.used n).deferred = d.deferred := rfl
@[simp] theorem Dev.used_baseMac (d : Dev) (n : Nat) : (d.used n).baseMac = d.baseMac := rfl
@[simp] theorem Dev.used_cert (d : Dev) (n : Nat) : (d.used n).cert = d.cert := rfl
@[simp] theorem Dev.used_treePorts (d : Dev) (n : Nat) : (d.used n).treePorts = d.treePorts := rfl
@[simp] theorem Dev.used_msgSeen (d : Dev) (n : Nat) : (d.used n).msgSeen = d.msgSeen := rfl
@[simp] theorem Dev.used_fresh (d : Dev) (n : Nat) : (d.used n).fresh = d.fresh + n := rfl

/-! ### `Dev.report` -/

@[simp] theorem Dev.report_regs (d : Dev) (a b c k n : Nat) (l : List Byte) : (d.report a b c k n l).regs = d.regs := rfl
@[simp] theorem Dev.report_live (d : Dev) (a b c k n : Nat) (l : List Byte) : (d.report a b c k n l).live = d.live := rfl
@[simp] theorem Dev.report_bus (d : Dev) (a b c k n : Nat) (l : List Byte) : (d.report a b c k n l).bus = d.bus := rfl
@[simp] theorem Dev.report_snap (d : Dev) (a b c k n : Nat) (l : List Byte) : (d.report a b c k n l).snap = d.snap := rfl
@[simp] theorem Dev.report_trk (d : Dev) (a b c k n : Nat) (l : List Byte) : (d.report a b c k n l).trk = d.trk := rfl
@[simp] theorem Dev.report_links (d : Dev) (a b c k n : Nat) (l : List Byte) : (d.report a b c k n l).links = d.links := rfl
@[simp] theorem Dev.report_board (d : Dev) (a b c k n : Nat) (l : List Byte) : (d.report a b c k n l).board = d.board := rfl
@[simp] theorem Dev.report_irq (d : Dev) (a b c k n : Nat) (l : List Byte) : (d.report a b c k n l).irq = d.irq := rfl
@[simp] theorem Dev.report_msix (d : Dev) (a b c k n : Nat) (l : List Byte) : (d.report a b c k n l).msix = d.msix := rfl
@[simp] theorem Dev.report_evtDropped (d : Dev) (a b c k n : Nat) (l : List Byte) : (d.report a b c k n l).evtDropped = d.evtDropped := rfl
@[simp] theorem Dev.report_out (d : Dev) (a b c k n : Nat) (l : List Byte) : (d.report a b c k n l).out = d.out := rfl
@[simp] theorem Dev.report_jrn (d : Dev) (a b c k n : Nat) (l : List Byte) : (d.report a b c k n l).jrn = d.jrn := rfl
@[simp] theorem Dev.report_port (d : Dev) (a b c k n : Nat) (l : List Byte) : (d.report a b c k n l).port = d.port := rfl
@[simp] theorem Dev.report_rail (d : Dev) (a b c k n : Nat) (l : List Byte) : (d.report a b c k n l).rail = d.rail := rfl
@[simp] theorem Dev.report_path (d : Dev) (a b c k n : Nat) (l : List Byte) : (d.report a b c k n l).path = d.path := rfl
@[simp] theorem Dev.report_tbl (d : Dev) (a b c k n : Nat) (l : List Byte) : (d.report a b c k n l).tbl = d.tbl := rfl
@[simp] theorem Dev.report_nrg (d : Dev) (a b c k n : Nat) (l : List Byte) : (d.report a b c k n l).nrg = d.nrg := rfl
@[simp] theorem Dev.report_hbm (d : Dev) (a b c k n : Nat) (l : List Byte) : (d.report a b c k n l).hbm = d.hbm := rfl
@[simp] theorem Dev.report_rck (d : Dev) (a b c k n : Nat) (l : List Byte) : (d.report a b c k n l).rck = d.rck := rfl
@[simp] theorem Dev.report_dom (d : Dev) (a b c k n : Nat) (l : List Byte) : (d.report a b c k n l).dom = d.dom := rfl
@[simp] theorem Dev.report_tim (d : Dev) (a b c k n : Nat) (l : List Byte) : (d.report a b c k n l).tim = d.tim := rfl
@[simp] theorem Dev.report_host (d : Dev) (a b c k n : Nat) (l : List Byte) : (d.report a b c k n l).host = d.host := rfl
@[simp] theorem Dev.report_deferred (d : Dev) (a b c k n : Nat) (l : List Byte) : (d.report a b c k n l).deferred = d.deferred := rfl
@[simp] theorem Dev.report_baseMac (d : Dev) (a b c k n : Nat) (l : List Byte) : (d.report a b c k n l).baseMac = d.baseMac := rfl
@[simp] theorem Dev.report_cert (d : Dev) (a b c k n : Nat) (l : List Byte) : (d.report a b c k n l).cert = d.cert := rfl
@[simp] theorem Dev.report_treePorts (d : Dev) (a b c k n : Nat) (l : List Byte) : (d.report a b c k n l).treePorts = d.treePorts := rfl
@[simp] theorem Dev.report_msgSeen (d : Dev) (a b c k n : Nat) (l : List Byte) : (d.report a b c k n l).msgSeen = d.msgSeen := rfl
@[simp] theorem Dev.report_fresh (d : Dev) (a b c k n : Nat) (l : List Byte) : (d.report a b c k n l).fresh = d.fresh := rfl

/-! ### Registers after a write -/

/-- Reading a register of an updated device looks at `regs` alone. -/
theorem Dev.rn_congr {d e : Dev} (h : d.regs = e.regs) (a : Nat) : d.rn a = e.rn a := by simp only [Dev.rn, Dev.rd, h]

/-- With nothing listed a register reads its reset value. -/
theorem Dev.rd_of_nil {d : Dev} (h : d.regs = []) (a : Nat) : d.rd a = resetOf a := by rw [Dev.rd, h, kvGet]

theorem Dev.rn_lt (d : Dev) (a : Nat) : d.rn a < 2 ^ 32 := (d.rd a).isLt

theorem Dev.rd_congr {d e : Dev} (h : d.regs = e.regs) (a : Nat) : d.rd a = e.rd a := by simp only [Dev.rd, h]

theorem Dev.f_congr {d e : Dev} (h : d.regs = e.regs) (a : Nat) (g : Fld) : d.f a g = e.f a g := by
  rw [Dev.f, Dev.rn_congr h, Dev.f]

theorem Dev.b_congr {d e : Dev} (h : d.regs = e.regs) (a : Nat) (g : Fld) : d.b a g = e.b a g := by
  simp only [Dev.b, Dev.f_congr h]

@[simp] theorem Dev.rd_wr (d : Dev) (a b : Nat) (v : Word) : (d.wr a v).rd b = if b = a then v else d.rd b := by
  split
  · subst b; exact kvGet_set_self _ _ _ _
  · exact kvGet_set_ne _ _ ‹_› _ _

@[simp] theorem Dev.rn_wn (d : Dev) (a b v : Nat) : (d.wn a v).rn b = if b = a then v % 2 ^ 32 else d.rn b := by
  simp only [Dev.rn, Dev.wn, Dev.rd_wr]; split <;> simp

@[simp] theorem Dev.rn_sf (d : Dev) (a b x : Nat) (g : Fld) :
    (d.sf a g x).rn b = if b = a then putBits (d.rn a) g.hi g.lo x % 2 ^ 32 else d.rn b := Dev.rn_wn _ _ _ _

@[simp] theorem Dev.rn_sb (d : Dev) (a b : Nat) (g : Fld) (x : Bool) :
    (d.sb a g x).rn b = if b = a then putBits (d.rn a) g.hi g.lo x.toNat % 2 ^ 32 else d.rn b := Dev.rn_wn _ _ _ _

@[simp] theorem Dev.rn_cnt (d : Dev) (a n b : Nat) : (d.cnt a n).rn b =
    if b = a + 4 then satAdd (2 ^ 64 - 1) (d.rdPair a (a + 4)) n / 2 ^ 32 % 2 ^ 32
    else if b = a then satAdd (2 ^ 64 - 1) (d.rdPair a (a + 4)) n % 2 ^ 32 else d.rn b := by
  simp only [Dev.cnt, Dev.addPair, Dev.wrPair, Dev.rn_wn, Nat.mod_mod]

/-- A field just written reads as written, cut to its width. -/
theorem Dev.f_sf_self (d : Dev) (a x : Nat) (g : Fld) (h : g.lo ≤ g.hi) (h2 : g.hi < 32) :
    (d.sf a g x).f a g = x % 2 ^ (g.hi + 1 - g.lo) := by
  rw [Dev.f, Dev.rn_sf, if_pos rfl, bits_mod _ _ _ h2, bits_putBits_self _ _ _ _ h]

/-- A field beside the one written, or of another register, reads as before. -/
theorem Dev.f_sf_other (d : Dev) (a b x : Nat) (g k : Fld) (h : g.lo ≤ g.hi) (h2 : k.hi < 32)
    (hd : b ≠ a ∨ k.hi < g.lo ∨ g.hi < k.lo) : (d.sf a g x).f b k = d.f b k := by
  rw [Dev.f, Dev.f, Dev.rn_sf]
  split
  · subst b
    rw [bits_mod _ _ _ h2, bits_putBits_other _ _ _ _ _ _ h (by simpa using hd)]
  · rfl

theorem Dev.b_sb_self (d : Dev) (a : Nat) (g : Fld) (x : Bool) (h : g.hi = g.lo) (h2 : g.hi < 32) :
    (d.sb a g x).b a g = x := by
  rw [Dev.b, Dev.sb, Dev.f_sf_self _ _ _ _ (by omega) h2, h, show g.lo + 1 - g.lo = 1 by omega]
  cases x <;> rfl

theorem Dev.b_sf_other (d : Dev) (a b x : Nat) (g k : Fld) (h : g.lo ≤ g.hi) (h2 : k.hi < 32)
    (hd : b ≠ a ∨ k.hi < g.lo ∨ g.hi < k.lo) : (d.sf a g x).b b k = d.b b k := by
  rw [Dev.b, Dev.f_sf_other _ _ _ _ _ _ h h2 hd]; rfl

theorem Dev.b_sb_other (d : Dev) (a b : Nat) (x : Bool) (g k : Fld) (h : g.lo ≤ g.hi) (h2 : k.hi < 32)
    (hd : b ≠ a ∨ k.hi < g.lo ∨ g.hi < k.lo) : (d.sb a g x).b b k = d.b b k := Dev.b_sf_other _ _ _ _ _ _ h h2 hd

theorem Dev.f_sb_other (d : Dev) (a b : Nat) (x : Bool) (g k : Fld) (h : g.lo ≤ g.hi) (h2 : k.hi < 32)
    (hd : b ≠ a ∨ k.hi < g.lo ∨ g.hi < k.lo) : (d.sb a g x).f b k = d.f b k := Dev.f_sf_other _ _ _ _ _ _ h h2 hd

/-! ### Fault reports (R475) -/

/-- A report stands last in its die's collector, and the other collector is as before. -/
theorem Dev.report_inbox (d : Dev) (die cls block kind inst : Nat) (l : List Byte) :
    ((d.report die cls block kind inst l).flt.die die).inbox = (d.flt.die die).inbox ++
      [{ cls := cls, block := block, kind := kind, inst := inst, tick := d.trk.tick, detail := l }] := by
  simp only [Dev.report, FltBlk.setDie, FltBlk.die]; split <;> rfl

end Sys2Proof.Machine
end

