-- ==== Sys2Proof/Laws/Frame.lean ====
section
/-! SUPPORT. Laws/Frame.lean: which parts of the device each operation may change. `d.keep ps` is the device with the parts `ps`
blanked out; an operation that changes only parts of `ps` leaves it as it was. From these lemmas a command's frame follows. -/
set_option maxRecDepth 4000
set_option linter.unusedSimpArgs false
namespace Sys2Proof.Machine
/-- Is a part in a list? -/
def Part.has (p : Part) : List Part → Bool
  | [] => false
  | q :: l => if p = q then true else p.has l

/-- Are all parts of a list in another? -/
def Part.sub : List Part → List Part → Bool
  | [], _ => true
  | p :: l, ps => p.has ps && Part.sub l ps

/-- The device with some parts blanked out. -/
def Dev.keep (ps : List Part) (d : Dev) : Dev := {
  regs := if Part.has .regs ps then ({} : Dev).regs else d.regs,
  live := if Part.has .live ps then ({} : Dev).live else d.live,
  bus := if Part.has .bus ps then ({} : Dev).bus else d.bus,
  snap := if Part.has .snap ps then ({} : Dev).snap else d.snap,
  trk := if Part.has .trk ps then ({} : Dev).trk else d.trk,
  links := if Part.has .links ps then ({} : Dev).links else d.links,
  flt := if Part.has .flt ps then ({} : Dev).flt else d.flt,
  board := if Part.has .board ps then ({} : Dev).board else d.board,
  irq := if Part.has .irq ps then ({} : Dev).irq else d.irq,
  msix := if Part.has .msix ps then ({} : Dev).msix else d.msix,
  evtDropped := if Part.has .evtDropped ps then ({} : Dev).evtDropped else d.evtDropped,
  out := if Part.has .out ps then ({} : Dev).out else d.out,
  jrn := if Part.has .jrn ps then ({} : Dev).jrn else d.jrn,
  port := if Part.has .port ps then ({} : Dev).port else d.port,
  rail := if Part.has .rail ps then ({} : Dev).rail else d.rail,
  path := if Part.has .path ps then ({} : Dev).path else d.path,
  tbl := if Part.has .tbl ps then ({} : Dev).tbl else d.tbl,
  nrg := if Part.has .nrg ps then ({} : Dev).nrg else d.nrg,
  hbm := if Part.has .hbm ps then ({} : Dev).hbm else d.hbm,
  rck := if Part.has .rck ps then ({} : Dev).rck else d.rck,
  dom := if Part.has .dom ps then ({} : Dev).dom else d.dom,
  tim := if Part.has .tim ps then ({} : Dev).tim else d.tim,
  host := if Part.has .host ps then ({} : Dev).host else d.host,
  deferred := if Part.has .deferred ps then ({} : Dev).deferred else d.deferred,
  baseMac := if Part.has .baseMac ps then ({} : Dev).baseMac else d.baseMac,
  cert := if Part.has .cert ps then ({} : Dev).cert else d.cert,
  treePorts := if Part.has .treePorts ps then ({} : Dev).treePorts else d.treePorts,
  msgSeen := if Part.has .msgSeen ps then ({} : Dev).msgSeen else d.msgSeen,
  fresh := if Part.has .fresh ps then ({} : Dev).fresh else d.fresh }

@[simp] theorem Dev.keep_regs (d : Dev) (ps : List Part) (x) (h : Part.has .regs ps = true) : ({ d with regs := x } : Dev).keep ps = d.keep ps := by simp [Dev.keep, h]
@[simp] theorem Dev.keep_live (d : Dev) (ps : List Part) (x) (h : Part.has .live ps = true) : ({ d with live := x } : Dev).keep ps = d.keep ps := by simp [Dev.keep, h]
@[simp] theorem Dev.keep_bus (d : Dev) (ps : List Part) (x) (h : Part.has .bus ps = true) : ({ d with bus := x } : Dev).keep ps = d.keep ps := by simp [Dev.keep, h]
@[simp] theorem Dev.keep_snap (d : Dev) (ps : List Part) (x) (h : Part.has .snap ps = true) : ({ d with snap := x } : Dev).keep ps = d.keep ps := by simp [Dev.keep, h]
@[simp] theorem Dev.keep_trk (d : Dev) (ps : List Part) (x) (h : Part.has .trk ps = true) : ({ d with trk := x } : Dev).keep ps = d.keep ps := by simp [Dev.keep, h]
@[simp] theorem Dev.keep_links (d : Dev) (ps : List Part) (x) (h : Part.has .links ps = true) : ({ d with links := x } : Dev).keep ps = d.keep ps := by simp [Dev.keep, h]
@[simp] theorem Dev.keep_flt (d : Dev) (ps : List Part) (x) (h : Part.has .flt ps = true) : ({ d with flt := x } : Dev).keep ps = d.keep ps := by simp [Dev.keep, h]
@[simp] theorem Dev.keep_board (d : Dev) (ps : List Part) (x) (h : Part.has .board ps = true) : ({ d with board := x } : Dev).keep ps = d.keep ps := by simp [Dev.keep, h]
@[simp] theorem Dev.keep_irq (d : Dev) (ps : List Part) (x) (h : Part.has .irq ps = true) : ({ d with irq := x } : Dev).keep ps = d.keep ps := by simp [Dev.keep, h]
@[simp] theorem Dev.keep_msix (d : Dev) (ps : List Part) (x) (h : Part.has .msix ps = true) : ({ d with msix := x } : Dev).keep ps = d.keep ps := by simp [Dev.keep, h]
@[simp] theorem Dev.keep_evtDropped (d : Dev) (ps : List Part) (x) (h : Part.has .evtDropped ps = true) : ({ d with evtDropped := x } : Dev).keep ps = d.keep ps := by simp [Dev.keep, h]
@[simp] theorem Dev.keep_out (d : Dev) (ps : List Part) (x) (h : Part.has .out ps = true) : ({ d with out := x } : Dev).keep ps = d.keep ps := by simp [Dev.keep, h]
@[simp] theorem Dev.keep_jrn (d : Dev) (ps : List Part) (x) (h : Part.has .jrn ps = true) : ({ d with jrn := x } : Dev).keep ps = d.keep ps := by simp [Dev.keep, h]
@[simp] theorem Dev.keep_port (d : Dev) (ps : List Part) (x) (h : Part.has .port ps = true) : ({ d with port := x } : Dev).keep ps = d.keep ps := by simp [Dev.keep, h]
@[simp] theorem Dev.keep_rail (d : Dev) (ps : List Part) (x) (h : Part.has .rail ps = true) : ({ d with rail := x } : Dev).keep ps = d.keep ps := by simp [Dev.keep, h]
@[simp] theorem Dev.keep_path (d : Dev) (ps : List Part) (x) (h : Part.has .path ps = true) : ({ d with path := x } : Dev).keep ps = d.keep ps := by simp [Dev.keep, h]
@[simp] theorem Dev.keep_tbl (d : Dev) (ps : List Part) (x) (h : Part.has .tbl ps = true) : ({ d with tbl := x } : Dev).keep ps = d.keep ps := by simp [Dev.keep, h]
@[simp] theorem Dev.keep_nrg (d : Dev) (ps : List Part) (x) (h : Part.has .nrg ps = true) : ({ d with nrg := x } : Dev).keep ps = d.keep ps := by simp [Dev.keep, h]
@[simp] theorem Dev.keep_hbm (d : Dev) (ps : List Part) (x) (h : Part.has .hbm ps = true) : ({ d with hbm := x } : Dev).keep ps = d.keep ps := by simp [Dev.keep, h]
@[simp] theorem Dev.keep_rck (d : Dev) (ps : List Part) (x) (h : Part.has .rck ps = true) : ({ d with rck := x } : Dev).keep ps = d.keep ps := by simp [Dev.keep, h]
@[simp] theorem Dev.keep_dom (d : Dev) (ps : List Part) (x) (h : Part.has .dom ps = true) : ({ d with dom := x } : Dev).keep ps = d.keep ps := by simp [Dev.keep, h]
@[simp] theorem Dev.keep_tim (d : Dev) (ps : List Part) (x) (h : Part.has .tim ps = true) : ({ d with tim := x } : Dev).keep ps = d.keep ps := by simp [Dev.keep, h]
@[simp] theorem Dev.keep_host (d : Dev) (ps : List Part) (x) (h : Part.has .host ps = true) : ({ d with host := x } : Dev).keep ps = d.keep ps := by simp [Dev.keep, h]
@[simp] theorem Dev.keep_deferred (d : Dev) (ps : List Part) (x) (h : Part.has .deferred ps = true) : ({ d with deferred := x } : Dev).keep ps = d.keep ps := by simp [Dev.keep, h]
@[simp] theorem Dev.keep_baseMac (d : Dev) (ps : List Part) (x) (h : Part.has .baseMac ps = true) : ({ d with baseMac := x } : Dev).keep ps = d.keep ps := by simp [Dev.keep, h]
@[simp] theorem Dev.keep_cert (d : Dev) (ps : List Part) (x) (h : Part.has .cert ps = true) : ({ d with cert := x } : Dev).keep ps = d.keep ps := by simp [Dev.keep, h]
@[simp] theorem Dev.keep_treePorts (d : Dev) (ps : List Part) (x) (h : Part.has .treePorts ps = true) : ({ d with treePorts := x } : Dev).keep ps = d.keep ps := by simp [Dev.keep, h]
@[simp] theorem Dev.keep_msgSeen (d : Dev) (ps : List Part) (x) (h : Part.has .msgSeen ps = true) : ({ d with msgSeen := x } : Dev).keep ps = d.keep ps := by simp [Dev.keep, h]
@[simp] theorem Dev.keep_fresh (d : Dev) (ps : List Part) (x) (h : Part.has .fresh ps = true) : ({ d with fresh := x } : Dev).keep ps = d.keep ps := by simp [Dev.keep, h]
@[simp] theorem Dev.keep_each {α : Type} (ps : List Part) (d : Dev) (l : List α) (f : Dev → α → Dev) (h : ∀ e x, (f e x).keep ps = e.keep ps) : (d.each l f).keep ps = d.keep ps := by
  induction l generalizing d with
  | nil => rfl
  | cons x l ih => simp only [Dev.each, List.foldl_cons] at *; rw [ih, h]
@[simp] theorem Dev.keep_foldl {α : Type} (ps : List Part) (d : Dev) (l : List α) (f : Dev → α → Dev) (h : ∀ e x, (f e x).keep ps = e.keep ps) : (List.foldl f d l).keep ps = d.keep ps := Dev.keep_each ps d l f h
@[simp] theorem Dev.keep_when (ps : List Part) (d : Dev) (c : Bool) (f : Dev → Dev) (h : ∀ e, (f e).keep ps = e.keep ps) : (d.when c f).keep ps = d.keep ps := by
  unfold Dev.when; split <;> simp [h]
theorem Part.pick {α : Type} {c : Bool} {x y z : α} (h : c = true ∨ x = y) : (if c = true then z else x) = if c = true then z else y := by
  cases h <;> simp_all

theorem Dev.keep_mk (ps : List Part) (d : Dev) (regs' : Regs) (live' : Regs) (bus' : BusSt) (snap' : Regs) (trk' : TrkSt) (links' : List (Nat × LinkDir)) (flt' : FltBlk) (board' : BoardSt) (irq' : List (Nat × IrqSt)) (msix' : List (Nat × MsixEntry)) (evtDropped' : Nat) (out' : OutSt) (jrn' : JrnBlk) (port' : PortBlk) (rail' : RailBlk) (path' : PathBlk) (tbl' : TblBlk) (nrg' : NrgBlk) (hbm' : HbmBlk) (rck' : RckBlk) (dom' : DomBlk) (tim' : TimBlk) (host' : HostBlk) (deferred' : List Deferred) (treePorts' : List Nat) (msgSeen' : Nat) (fresh' : Nat)
    (h_regs : Part.has .regs ps = true ∨ regs' = d.regs) (h_live : Part.has .live ps = true ∨ live' = d.live) (h_bus : Part.has .bus ps = true ∨ bus' = d.bus) (h_snap : Part.has .snap ps = true ∨ snap' = d.snap) (h_trk : Part.has .trk ps = true ∨ trk' = d.trk) (h_links : Part.has .links ps = true ∨ links' = d.links) (h_flt : Part.has .flt ps = true ∨ flt' = d.flt) (h_board : Part.has .board ps = true ∨ board' = d.board) (h_irq : Part.has .irq ps = true ∨ irq' = d.irq) (h_msix : Part.has .msix ps = true ∨ msix' = d.msix) (h_evtDropped : Part.has .evtDropped ps = true ∨ evtDropped' = d.evtDropped) (h_out : Part.has .out ps = true ∨ out' = d.out) (h_jrn : Part.has .jrn ps = true ∨ jrn' = d.jrn) (h_port : Part.has .port ps = true ∨ port' = d.port) (h_rail : Part.has .rail ps = true ∨ rail' = d.rail) (h_path : Part.has .path ps = true ∨ path' = d.path) (h_tbl : Part.has .tbl ps = true ∨ tbl' = d.tbl) (h_nrg : Part.has .nrg ps = true ∨ nrg' = d.nrg) (h_hbm : Part.has .hbm ps = true ∨ hbm' = d.hbm) (h_rck : Part.has .rck ps = true ∨ rck' = d.rck) (h_dom : Part.has .dom ps = true ∨ dom' = d.dom) (h_tim : Part.has .tim ps = true ∨ tim' = d.tim) (h_host : Part.has .host ps = true ∨ host' = d.host) (h_deferred : Part.has .deferred ps = true ∨ deferred' = d.deferred) (h_treePorts : Part.has .treePorts ps = true ∨ treePorts' = d.treePorts) (h_msgSeen : Part.has .msgSeen ps = true ∨ msgSeen' = d.msgSeen) (h_fresh : Part.has .fresh ps = true ∨ fresh' = d.fresh) :
    Dev.keep ps { regs := regs', live := live', bus := bus', snap := snap', trk := trk', links := links', flt := flt', board := board', irq := irq', msix := msix', evtDropped := evtDropped', out := out', jrn := jrn', port := port', rail := rail', path := path', tbl := tbl', nrg := nrg', hbm := hbm', rck := rck', dom := dom', tim := tim', host := host', deferred := deferred', baseMac := d.baseMac, cert := d.cert, treePorts := treePorts', msgSeen := msgSeen', fresh := fresh' } = d.keep ps := by
  simp only [Dev.keep, Dev.mk.injEq]
  exact ⟨Part.pick h_regs, Part.pick h_live, Part.pick h_bus, Part.pick h_snap, Part.pick h_trk, Part.pick h_links, Part.pick h_flt, Part.pick h_board, Part.pick h_irq, Part.pick h_msix, Part.pick h_evtDropped, Part.pick h_out, Part.pick h_jrn, Part.pick h_port, Part.pick h_rail, Part.pick h_path, Part.pick h_tbl, Part.pick h_nrg, Part.pick h_hbm, Part.pick h_rck, Part.pick h_dom, Part.pick h_tim, Part.pick h_host, Part.pick h_deferred, trivial, trivial, Part.pick h_treePorts, Part.pick h_msgSeen, Part.pick h_fresh⟩

@[simp] theorem Dev.keep_ite (ps : List Part) (c : Prop) [Decidable c] (d e : Dev) : (if c then d else e).keep ps = if c then d.keep ps else e.keep ps := by
  split <;> rfl
@[simp] theorem Part.sub_nil (ps) : Part.sub [] ps = true := rfl
@[simp] theorem Part.sub_cons (p l ps) : Part.sub (p :: l) ps = (p.has ps && Part.sub l ps) := rfl
@[simp] theorem Dev.wr_keep (ps : List Part) (d : Dev) (a : Nat) (v : Word) (hp : Part.sub [.regs] ps = true) :
    (Dev.wr d a v).keep ps = d.keep ps := by
  simp only [Part.sub_cons, Part.sub_nil, Bool.and_true, Bool.and_eq_true] at hp
  first | (simp [Dev.wr, hp]; done) | (unfold Dev.wr; repeat' (first | (simp [hp]; done) | (simp [hp, Dev.keep_mk]; done) | split | (simp only []; split) | (refine Dev.keep_each _ _ _ _ (fun _ _ => ?_)) | rfl ))
@[simp] theorem Dev.wn_keep (ps : List Part) (d : Dev) (a v : Nat) (hp : Part.sub [.regs] ps = true) :
    (Dev.wn d a v).keep ps = d.keep ps := by
  simp only [Part.sub_cons, Part.sub_nil, Bool.and_true, Bool.and_eq_true] at hp
  first | (simp [Dev.wn, hp]; done) | (unfold Dev.wn; repeat' (first | (simp [hp]; done) | (simp [hp, Dev.keep_mk]; done) | split | (simp only []; split) | (refine Dev.keep_each _ _ _ _ (fun _ _ => ?_)) | rfl ))
@[simp] theorem Dev.sf_keep (ps : List Part) (d : Dev) (a : Nat) (fl : Fld) (x : Nat) (hp : Part.sub [.regs] ps = true) :
    (Dev.sf d a fl x).keep ps = d.keep ps := by
  simp only [Part.sub_cons, Part.sub_nil, Bool.and_true, Bool.and_eq_true] at hp
  first | (simp [Dev.sf, hp]; done) | (unfold Dev.sf; repeat' (first | (simp [hp]; done) | (simp [hp, Dev.keep_mk]; done) | split | (simp only []; split) | (refine Dev.keep_each _ _ _ _ (fun _ _ => ?_)) | rfl ))
@[simp] theorem Dev.sb_keep (ps : List Part) (d : Dev) (a : Nat) (fl : Fld) (x : Bool) (hp : Part.sub [.regs] ps = true) :
    (Dev.sb d a fl x).keep ps = d.keep ps := by
  simp only [Part.sub_cons, Part.sub_nil, Bool.and_true, Bool.and_eq_true] at hp
  first | (simp [Dev.sb, hp]; done) | (unfold Dev.sb; repeat' (first | (simp [hp]; done) | (simp [hp, Dev.keep_mk]; done) | split | (simp only []; split) | (refine Dev.keep_each _ _ _ _ (fun _ _ => ?_)) | rfl ))
@[simp] theorem Dev.wrPair_keep (ps : List Part) (d : Dev) (lo hi v : Nat) (hp : Part.sub [.regs] ps = true) :
    (Dev.wrPair d lo hi v).keep ps = d.keep ps := by
  simp only [Part.sub_cons, Part.sub_nil, Bool.and_true, Bool.and_eq_true] at hp
  first | (simp [Dev.wrPair, hp]; done) | (unfold Dev.wrPair; repeat' (first | (simp [hp]; done) | (simp [hp, Dev.keep_mk]; done) | split | (simp only []; split) | (refine Dev.keep_each _ _ _ _ (fun _ _ => ?_)) | rfl ))
@[simp] theorem Dev.addPair_keep (ps : List Part) (d : Dev) (lo hi n : Nat) (hp : Part.sub [.regs] ps = true) :
    (Dev.addPair d lo hi n).keep ps = d.keep ps := by
  simp only [Part.sub_cons, Part.sub_nil, Bool.and_true, Bool.and_eq_true] at hp
  first | (simp [Dev.addPair, hp]; done) | (unfold Dev.addPair; repeat' (first | (simp [hp]; done) | (simp [hp, Dev.keep_mk]; done) | split | (simp only []; split) | (refine Dev.keep_each _ _ _ _ (fun _ _ => ?_)) | rfl ))
@[simp] theorem Dev.cnt_keep (ps : List Part) (d : Dev) (lo : Nat) (n : Nat) (hp : Part.sub [.regs] ps = true) :
    (Dev.cnt d lo n).keep ps = d.keep ps := by
  simp only [Part.sub_cons, Part.sub_nil, Bool.and_true, Bool.and_eq_true] at hp
  first | (simp [Dev.cnt, hp]; done) | (unfold Dev.cnt; repeat' (first | (simp [hp]; done) | (simp [hp, Dev.keep_mk]; done) | split | (simp only []; split) | (refine Dev.keep_each _ _ _ _ (fun _ _ => ?_)) | rfl ))
@[simp] theorem Dev.cnt32_keep (ps : List Part) (d : Dev) (a : Nat) (n : Nat) (hp : Part.sub [.regs] ps = true) :
    (Dev.cnt32 d a n).keep ps = d.keep ps := by
  simp only [Part.sub_cons, Part.sub_nil, Bool.and_true, Bool.and_eq_true] at hp
  first | (simp [Dev.cnt32, hp]; done) | (unfold Dev.cnt32; repeat' (first | (simp [hp]; done) | (simp [hp, Dev.keep_mk]; done) | split | (simp only []; split) | (refine Dev.keep_each _ _ _ _ (fun _ _ => ?_)) | rfl ))
@[simp] theorem Dev.cntF_keep (ps : List Part) (d : Dev) (a : Nat) (fl : Fld) (n : Nat) (hp : Part.sub [.regs] ps = true) :
    (Dev.cntF d a fl n).keep ps = d.keep ps := by
  simp only [Part.sub_cons, Part.sub_nil, Bool.and_true, Bool.and_eq_true] at hp
  first | (simp [Dev.cntF, hp]; done) | (unfold Dev.cntF; repeat' (first | (simp [hp]; done) | (simp [hp, Dev.keep_mk]; done) | split | (simp only []; split) | (refine Dev.keep_each _ _ _ _ (fun _ _ => ?_)) | rfl ))
@[simp] theorem Dev.used_keep (ps : List Part) (d : Dev) (n : Nat) (hp : Part.sub [.fresh] ps = true) :
    (Dev.used d n).keep ps = d.keep ps := by
  simp only [Part.sub_cons, Part.sub_nil, Bool.and_true, Bool.and_eq_true] at hp
  first | (simp [Dev.used, hp]; done) | (unfold Dev.used; repeat' (first | (simp [hp]; done) | (simp [hp, Dev.keep_mk]; done) | split | (simp only []; split) | (refine Dev.keep_each _ _ _ _ (fun _ _ => ?_)) | rfl ))
@[simp] theorem Dev.irqTry_keep (ps : List Part) (d : Dev) (s : Nat) (hp : Part.sub [.irq, .msix, .out] ps = true) :
    (Dev.irqTry d s).keep ps = d.keep ps := by
  simp only [Part.sub_cons, Part.sub_nil, Bool.and_true, Bool.and_eq_true] at hp
  first | (simp [Dev.irqTry, hp]; done) | (unfold Dev.irqTry; repeat' (first | (simp [hp]; done) | (simp [hp, Dev.keep_mk]; done) | split | (simp only []; split) | (refine Dev.keep_each _ _ _ _ (fun _ _ => ?_)) | rfl ))
@[simp] theorem Dev.evtStore_keep (ps : List Part) (d : Dev) (code dieF inst : Nat) (data : Option Nat) (hp : Part.sub [.regs, .out] ps = true) :
    (Dev.evtStore d code dieF inst data).keep ps = d.keep ps := by
  simp only [Part.sub_cons, Part.sub_nil, Bool.and_true, Bool.and_eq_true] at hp
  first | (simp [Dev.evtStore, hp]; done) | (unfold Dev.evtStore; repeat' (first | (simp [hp]; done) | (simp [hp, Dev.keep_mk]; done) | split | (simp only []; split) | (refine Dev.keep_each _ _ _ _ (fun _ _ => ?_)) | rfl ))
@[simp] theorem Dev.evtPut_keep (ps : List Part) (d : Dev) (code dieF inst : Nat) (data : Option Nat) (hp : Part.sub [.regs, .irq, .msix, .evtDropped, .out] ps = true) :
    (Dev.evtPut d code dieF inst data).keep ps = d.keep ps := by
  simp only [Part.sub_cons, Part.sub_nil, Bool.and_true, Bool.and_eq_true] at hp
  first | (simp [Dev.evtPut, hp]; done) | (unfold Dev.evtPut; repeat' (first | (simp [hp]; done) | (simp [hp, Dev.keep_mk]; done) | split | (simp only []; split) | (refine Dev.keep_each _ _ _ _ (fun _ _ => ?_)) | rfl ))
@[simp] theorem Dev.irqBlock_keep (ps : List Part) (d : Dev) (status irqEn : Nat) (hp : Part.sub [.irq, .msix, .out] ps = true) :
    (Dev.irqBlock d status irqEn).keep ps = d.keep ps := by
  simp only [Part.sub_cons, Part.sub_nil, Bool.and_true, Bool.and_eq_true] at hp
  first | (simp [Dev.irqBlock, hp]; done) | (unfold Dev.irqBlock; repeat' (first | (simp [hp]; done) | (simp [hp, Dev.keep_mk]; done) | split | (simp only []; split) | (refine Dev.keep_each _ _ _ _ (fun _ _ => ?_)) | rfl ))
@[simp] theorem Dev.raiseAt_keep (ps : List Part) (d : Dev) (code die dieF inst : Nat) (data : Option Nat) (hp : Part.sub [.regs, .irq, .msix, .evtDropped, .out] ps = true) :
    (Dev.raiseAt d code die dieF inst data).keep ps = d.keep ps := by
  simp only [Part.sub_cons, Part.sub_nil, Bool.and_true, Bool.and_eq_true] at hp
  first | (simp [Dev.raiseAt, hp]; done) | (unfold Dev.raiseAt; repeat' (first | (simp [hp]; done) | (simp [hp, Dev.keep_mk]; done) | split | (simp only []; split) | (refine Dev.keep_each _ _ _ _ (fun _ _ => ?_)) | rfl ))
@[simp] theorem Dev.raise_keep (ps : List Part) (d : Dev) (code inst : Nat) (data : Option Nat) (hp : Part.sub [.regs, .irq, .msix, .evtDropped, .out] ps = true) :
    (Dev.raise d code inst data).keep ps = d.keep ps := by
  simp only [Part.sub_cons, Part.sub_nil, Bool.and_true, Bool.and_eq_true] at hp
  first | (simp [Dev.raise, hp]; done) | (unfold Dev.raise; repeat' (first | (simp [hp]; done) | (simp [hp, Dev.keep_mk]; done) | split | (simp only []; split) | (refine Dev.keep_each _ _ _ _ (fun _ _ => ?_)) | rfl ))
@[simp] theorem Dev.raiseD_keep (ps : List Part) (d : Dev) (code die inst : Nat) (data : Option Nat) (hp : Part.sub [.regs, .irq, .msix, .evtDropped, .out] ps = true) :
    (Dev.raiseD d code die inst data).keep ps = d.keep ps := by
  simp only [Part.sub_cons, Part.sub_nil, Bool.and_true, Bool.and_eq_true] at hp
  first | (simp [Dev.raiseD, hp]; done) | (unfold Dev.raiseD; repeat' (first | (simp [hp]; done) | (simp [hp, Dev.keep_mk]; done) | split | (simp only []; split) | (refine Dev.keep_each _ _ _ _ (fun _ _ => ?_)) | rfl ))
@[simp] theorem Dev.classA_keep (ps : List Part) (d : Dev) (die : Nat) (hp : Part.sub [.regs] ps = true) :
    (Dev.classA d die).keep ps = d.keep ps := by
  simp only [Part.sub_cons, Part.sub_nil, Bool.and_true, Bool.and_eq_true] at hp
  first | (simp [Dev.classA, hp]; done) | (unfold Dev.classA; repeat' (first | (simp [hp]; done) | (simp [hp, Dev.keep_mk]; done) | split | (simp only []; split) | (refine Dev.keep_each _ _ _ _ (fun _ _ => ?_)) | rfl ))
@[simp] theorem Dev.report_keep (ps : List Part) (d : Dev) (die cls block kind inst : Nat) (detail : List Byte) (hp : Part.sub [.flt] ps = true) :
    (Dev.report d die cls block kind inst detail).keep ps = d.keep ps := by
  simp only [Part.sub_cons, Part.sub_nil, Bool.and_true, Bool.and_eq_true] at hp
  first | (simp [Dev.report, hp]; done) | (unfold Dev.report; repeat' (first | (simp [hp]; done) | (simp [hp, Dev.keep_mk]; done) | split | (simp only []; split) | (refine Dev.keep_each _ _ _ _ (fun _ _ => ?_)) | rfl ))
@[simp] theorem Dev.jrnMarking_keep (ps : List Part) (d : Dev) (hp : Part.sub [.regs] ps = true) :
    (Dev.jrnMarking d ).keep ps = d.keep ps := by
  simp only [Part.sub_cons, Part.sub_nil, Bool.and_true, Bool.and_eq_true] at hp
  first | (simp [Dev.jrnMarking, hp]; done) | (unfold Dev.jrnMarking; repeat' (first | (simp [hp]; done) | (simp [hp, Dev.keep_mk]; done) | split | (simp only []; split) | (refine Dev.keep_each _ _ _ _ (fun _ _ => ?_)) | rfl ))
@[simp] theorem Dev.jrnPut_keep (ps : List Part) (d : Dev) (die : Nat) (r : RecIn) (hp : Part.sub [.regs, .jrn] ps = true) :
    (Dev.jrnPut d die r).keep ps = d.keep ps := by
  simp only [Part.sub_cons, Part.sub_nil, Bool.and_true, Bool.and_eq_true] at hp
  first | (simp [Dev.jrnPut, hp]; done) | (unfold Dev.jrnPut; repeat' (first | (simp [hp]; done) | (simp [hp, Dev.keep_mk]; done) | split | (simp only []; split) | (refine Dev.keep_each _ _ _ _ (fun _ _ => ?_)) | rfl ))
@[simp] theorem Dev.markPut_keep (ps : List Part) (d : Dev) (die code eport loc : Nat) (digest : List Byte) (hp : Part.sub [.regs, .jrn] ps = true) :
    (Dev.markPut d die code eport loc digest).keep ps = d.keep ps := by
  simp only [Part.sub_cons, Part.sub_nil, Bool.and_true, Bool.and_eq_true] at hp
  first | (simp [Dev.markPut, hp]; done) | (unfold Dev.markPut; repeat' (first | (simp [hp]; done) | (simp [hp, Dev.keep_mk]; done) | split | (simp only []; split) | (refine Dev.keep_each _ _ _ _ (fun _ _ => ?_)) | rfl ))
@[simp] theorem Dev.jrnMark_keep (ps : List Part) (d : Dev) (die code eport loc : Nat) (digest : List Byte) (hp : Part.sub [.regs, .jrn] ps = true) :
    (Dev.jrnMark d die code eport loc digest).keep ps = d.keep ps := by
  simp only [Part.sub_cons, Part.sub_nil, Bool.and_true, Bool.and_eq_true] at hp
  first | (simp [Dev.jrnMark, hp]; done) | (unfold Dev.jrnMark; repeat' (first | (simp [hp]; done) | (simp [hp, Dev.keep_mk]; done) | split | (simp only []; split) | (refine Dev.keep_each _ _ _ _ (fun _ _ => ?_)) | rfl ))
@[simp] theorem Dev.late_keep (ps : List Part) (d : Dev) (i : Nat) (n : Nat) (hp : Part.sub [.regs, .irq, .msix, .out] ps = true) :
    (Dev.late d i n).keep ps = d.keep ps := by
  simp only [Part.sub_cons, Part.sub_nil, Bool.and_true, Bool.and_eq_true] at hp
  first | (simp [Dev.late, hp]; done) | (unfold Dev.late; repeat' (first | (simp [hp]; done) | (simp [hp, Dev.keep_mk]; done) | split | (simp only []; split) | (refine Dev.keep_each _ _ _ _ (fun _ _ => ?_)) | rfl ))
@[simp] theorem Dev.freezeUnit_keep (ps : List Part) (d : Dev) (u : Nat) (on : Bool) (hp : Part.sub [.regs] ps = true) :
    (Dev.freezeUnit d u on).keep ps = d.keep ps := by
  simp only [Part.sub_cons, Part.sub_nil, Bool.and_true, Bool.and_eq_true] at hp
  first | (simp [Dev.freezeUnit, hp]; done) | (unfold Dev.freezeUnit; repeat' (first | (simp [hp]; done) | (simp [hp, Dev.keep_mk]; done) | split | (simp only []; split) | (refine Dev.keep_each _ _ _ _ (fun _ _ => ?_)) | rfl ))
@[simp] theorem Dev.cntAdd_keep (ps : List Part) (d : Dev) (u i n : Nat) (hp : Part.sub [.regs, .irq, .msix, .evtDropped, .out] ps = true) :
    (Dev.cntAdd d u i n).keep ps = d.keep ps := by
  simp only [Part.sub_cons, Part.sub_nil, Bool.and_true, Bool.and_eq_true] at hp
  first | (simp [Dev.cntAdd, hp]; done) | (unfold Dev.cntAdd; repeat' (first | (simp [hp]; done) | (simp [hp, Dev.keep_mk]; done) | split | (simp only []; split) | (refine Dev.keep_each _ _ _ _ (fun _ _ => ?_)) | rfl ))
@[simp] theorem Dev.pev_keep (ps : List Part) (d : Dev) (u code : Nat) (n : Nat) (hp : Part.sub [.regs, .irq, .msix, .evtDropped, .out] ps = true) :
    (Dev.pev d u code n).keep ps = d.keep ps := by
  simp only [Part.sub_cons, Part.sub_nil, Bool.and_true, Bool.and_eq_true] at hp
  first | (simp [Dev.pev, hp]; done) | (unfold Dev.pev; repeat' (first | (simp [hp]; done) | (simp [hp, Dev.keep_mk]; done) | split | (simp only []; split) | (refine Dev.keep_each _ _ _ _ (fun _ _ => ?_)) | rfl ))
@[simp] theorem Dev.pevFree_keep (ps : List Part) (d : Dev) (u code : Nat) (hp : Part.sub [.regs, .irq, .msix, .evtDropped, .out, .fresh] ps = true) :
    (Dev.pevFree d u code).keep ps = d.keep ps := by
  simp only [Part.sub_cons, Part.sub_nil, Bool.and_true, Bool.and_eq_true] at hp
  first | (simp [Dev.pevFree, hp]; done) | (unfold Dev.pevFree; repeat' (first | (simp [hp]; done) | (simp [hp, Dev.keep_mk]; done) | split | (simp only []; split) | (refine Dev.keep_each _ _ _ _ (fun _ _ => ?_)) | rfl ))
@[simp] theorem Dev.pcnt_keep (ps : List Part) (d : Dev) (p i : Nat) (n : Nat) (hp : Part.sub [.regs] ps = true) :
    (Dev.pcnt d p i n).keep ps = d.keep ps := by
  simp only [Part.sub_cons, Part.sub_nil, Bool.and_true, Bool.and_eq_true] at hp
  first | (simp [Dev.pcnt, hp]; done) | (unfold Dev.pcnt; repeat' (first | (simp [hp]; done) | (simp [hp, Dev.keep_mk]; done) | split | (simp only []; split) | (refine Dev.keep_each _ _ _ _ (fun _ _ => ?_)) | rfl ))
@[simp] theorem Dev.dropCnt_keep (ps : List Part) (d : Dev) (die dir code : Nat) (hp : Part.sub [.regs] ps = true) :
    (Dev.dropCnt d die dir code).keep ps = d.keep ps := by
  simp only [Part.sub_cons, Part.sub_nil, Bool.and_true, Bool.and_eq_true] at hp
  first | (simp [Dev.dropCnt, hp]; done) | (unfold Dev.dropCnt; repeat' (first | (simp [hp]; done) | (simp [hp, Dev.keep_mk]; done) | split | (simp only []; split) | (refine Dev.keep_each _ _ _ _ (fun _ _ => ?_)) | rfl ))
@[simp] theorem Dev.slotCnt_keep (ps : List Part) (d : Dev) (col k : Nat) (n : Nat) (hp : Part.sub [.regs] ps = true) :
    (Dev.slotCnt d col k n).keep ps = d.keep ps := by
  simp only [Part.sub_cons, Part.sub_nil, Bool.and_true, Bool.and_eq_true] at hp
  first | (simp [Dev.slotCnt, hp]; done) | (unfold Dev.slotCnt; repeat' (first | (simp [hp]; done) | (simp [hp, Dev.keep_mk]; done) | split | (simp only []; split) | (refine Dev.keep_each _ _ _ _ (fun _ _ => ?_)) | rfl ))
@[simp] theorem Dev.slotMove_keep (ps : List Part) (d : Dev) (col sub : Nat) (hp : Part.sub [.regs, .irq, .msix, .evtDropped, .out] ps = true) :
    (Dev.slotMove d col sub).keep ps = d.keep ps := by
  simp only [Part.sub_cons, Part.sub_nil, Bool.and_true, Bool.and_eq_true] at hp
  first | (simp [Dev.slotMove, hp]; done) | (unfold Dev.slotMove; repeat' (first | (simp [hp]; done) | (simp [hp, Dev.keep_mk]; done) | split | (simp only []; split) | (refine Dev.keep_each _ _ _ _ (fun _ _ => ?_)) | rfl ))
@[simp] theorem Dev.nrgTake_keep (ps : List Part) (d : Dev) (act : Nat) (hp : Part.sub [.nrg] ps = true) :
    (Dev.nrgTake d act).1.keep ps = d.keep ps := by
  simp only [Part.sub_cons, Part.sub_nil, Bool.and_true, Bool.and_eq_true] at hp
  first | (simp [Dev.nrgTake, hp]; done) | (unfold Dev.nrgTake; repeat' (first | (simp [hp]; done) | (simp [hp, Dev.keep_mk]; done) | split | (simp only []; split) | (refine Dev.keep_each _ _ _ _ (fun _ _ => ?_)) | rfl ))
@[simp] theorem Dev.colWake_keep (ps : List Part) (d : Dev) (c : Nat) (hp : Part.sub [.nrg] ps = true) :
    (Dev.colWake d c).keep ps = d.keep ps := by
  simp only [Part.sub_cons, Part.sub_nil, Bool.and_true, Bool.and_eq_true] at hp
  first | (simp [Dev.colWake, hp]; done) | (unfold Dev.colWake; repeat' (first | (simp [hp]; done) | (simp [hp, Dev.keep_mk]; done) | split | (simp only []; split) | (refine Dev.keep_each _ _ _ _ (fun _ _ => ?_)) | rfl ))
@[simp] theorem Dev.nrgTest_keep (ps : List Part) (d : Dev) (die frame len : Nat) (hp : Part.sub [.nrg] ps = true) :
    (Dev.nrgTest d die frame len).1.keep ps = d.keep ps := by
  simp only [Part.sub_cons, Part.sub_nil, Bool.and_true, Bool.and_eq_true] at hp
  first | (simp [Dev.nrgTest, hp]; done) | (unfold Dev.nrgTest; repeat' (first | (simp [hp]; done) | (simp [hp, Dev.keep_mk]; done) | split | (simp only []; split) | (refine Dev.keep_each _ _ _ _ (fun _ _ => ?_)) | rfl ))
@[simp] theorem Dev.beAdmit_keep (ps : List Part) (d : Dev) (die len : Nat) (hp : Part.sub [.nrg] ps = true) :
    (Dev.beAdmit d die len).keep ps = d.keep ps := by
  simp only [Part.sub_cons, Part.sub_nil, Bool.and_true, Bool.and_eq_true] at hp
  first | (simp [Dev.beAdmit, hp]; done) | (unfold Dev.beAdmit; repeat' (first | (simp [hp]; done) | (simp [hp, Dev.keep_mk]; done) | split | (simp only []; split) | (refine Dev.keep_each _ _ _ _ (fun _ _ => ?_)) | rfl ))
@[simp] theorem Dev.setPar_keep (ps : List Part) (d : Dev) (die : Nat) (x : ParDie) (hp : Part.sub [.path] ps = true) :
    (Dev.setPar d die x).keep ps = d.keep ps := by
  simp only [Part.sub_cons, Part.sub_nil, Bool.and_true, Bool.and_eq_true] at hp
  first | (simp [Dev.setPar, hp]; done) | (unfold Dev.setPar; repeat' (first | (simp [hp]; done) | (simp [hp, Dev.keep_mk]; done) | split | (simp only []; split) | (refine Dev.keep_each _ _ _ _ (fun _ _ => ?_)) | rfl ))
@[simp] theorem Dev.setPort_keep (ps : List Part) (d : Dev) (p : Nat) (x : PortSt) (hp : Part.sub [.port] ps = true) :
    (Dev.setPort d p x).keep ps = d.keep ps := by
  simp only [Part.sub_cons, Part.sub_nil, Bool.and_true, Bool.and_eq_true] at hp
  first | (simp [Dev.setPort, hp]; done) | (unfold Dev.setPort; repeat' (first | (simp [hp]; done) | (simp [hp, Dev.keep_mk]; done) | split | (simp only []; split) | (refine Dev.keep_each _ _ _ _ (fun _ _ => ?_)) | rfl ))
@[simp] theorem Dev.setCage_keep (ps : List Part) (d : Dev) (c : Nat) (x : CageSt) (hp : Part.sub [.port] ps = true) :
    (Dev.setCage d c x).keep ps = d.keep ps := by
  simp only [Part.sub_cons, Part.sub_nil, Bool.and_true, Bool.and_eq_true] at hp
  first | (simp [Dev.setCage, hp]; done) | (unfold Dev.setCage; repeat' (first | (simp [hp]; done) | (simp [hp, Dev.keep_mk]; done) | split | (simp only []; split) | (refine Dev.keep_each _ _ _ _ (fun _ _ => ?_)) | rfl ))
@[simp] theorem Dev.setPState_keep (ps : List Part) (d : Dev) (p st : Nat) (hp : Part.sub [.regs] ps = true) :
    (Dev.setPState d p st).keep ps = d.keep ps := by
  simp only [Part.sub_cons, Part.sub_nil, Bool.and_true, Bool.and_eq_true] at hp
  first | (simp [Dev.setPState, hp]; done) | (unfold Dev.setPState; repeat' (first | (simp [hp]; done) | (simp [hp, Dev.keep_mk]; done) | split | (simp only []; split) | (refine Dev.keep_each _ _ _ _ (fun _ _ => ?_)) | rfl ))
@[simp] theorem Dev.setRailG_keep (ps : List Part) (d : Dev) (g : Nat) (x : RailGrp) (hp : Part.sub [.rail] ps = true) :
    (Dev.setRailG d g x).keep ps = d.keep ps := by
  simp only [Part.sub_cons, Part.sub_nil, Bool.and_true, Bool.and_eq_true] at hp
  first | (simp [Dev.setRailG, hp]; done) | (unfold Dev.setRailG; repeat' (first | (simp [hp]; done) | (simp [hp, Dev.keep_mk]; done) | split | (simp only []; split) | (refine Dev.keep_each _ _ _ _ (fun _ _ => ?_)) | rfl ))
@[simp] theorem Dev.setRailD_keep (ps : List Part) (d : Dev) (n : Nat) (x : RailDst) (hp : Part.sub [.rail] ps = true) :
    (Dev.setRailD d n x).keep ps = d.keep ps := by
  simp only [Part.sub_cons, Part.sub_nil, Bool.and_true, Bool.and_eq_true] at hp
  first | (simp [Dev.setRailD, hp]; done) | (unfold Dev.setRailD; repeat' (first | (simp [hp]; done) | (simp [hp, Dev.keep_mk]; done) | split | (simp only []; split) | (refine Dev.keep_each _ _ _ _ (fun _ _ => ?_)) | rfl ))
@[simp] theorem Dev.setPg_keep (ps : List Part) (d : Dev) (g : Nat) (x : PgSt) (hp : Part.sub [.port] ps = true) :
    (Dev.setPg d g x).keep ps = d.keep ps := by
  simp only [Part.sub_cons, Part.sub_nil, Bool.and_true, Bool.and_eq_true] at hp
  first | (simp [Dev.setPg, hp]; done) | (unfold Dev.setPg; repeat' (first | (simp [hp]; done) | (simp [hp, Dev.keep_mk]; done) | split | (simp only []; split) | (refine Dev.keep_each _ _ _ _ (fun _ _ => ?_)) | rfl ))
@[simp] theorem Dev.pgRefresh_keep (ps : List Part) (d : Dev) (g : Nat) (hp : Part.sub [.regs, .irq, .msix, .evtDropped, .out] ps = true) :
    (Dev.pgRefresh d g).keep ps = d.keep ps := by
  simp only [Part.sub_cons, Part.sub_nil, Bool.and_true, Bool.and_eq_true] at hp
  first | (simp [Dev.pgRefresh, hp]; done) | (unfold Dev.pgRefresh; repeat' (first | (simp [hp]; done) | (simp [hp, Dev.keep_mk]; done) | split | (simp only []; split) | (refine Dev.keep_each _ _ _ _ (fun _ _ => ?_)) | rfl ))
@[simp] theorem Dev.pgMemberUp_keep (ps : List Part) (d : Dev) (g i : Nat) (hp : Part.sub [.regs, .irq, .msix, .evtDropped, .out, .port] ps = true) :
    (Dev.pgMemberUp d g i).keep ps = d.keep ps := by
  simp only [Part.sub_cons, Part.sub_nil, Bool.and_true, Bool.and_eq_true] at hp
  first | (simp [Dev.pgMemberUp, hp]; done) | (unfold Dev.pgMemberUp; repeat' (first | (simp [hp]; done) | (simp [hp, Dev.keep_mk]; done) | split | (simp only []; split) | (refine Dev.keep_each _ _ _ _ (fun _ _ => ?_)) | rfl ))
@[simp] theorem Dev.setMstate_keep (ps : List Part) (d : Dev) (c st : Nat) (hp : Part.sub [.regs] ps = true) :
    (Dev.setMstate d c st).keep ps = d.keep ps := by
  simp only [Part.sub_cons, Part.sub_nil, Bool.and_true, Bool.and_eq_true] at hp
  first | (simp [Dev.setMstate, hp]; done) | (unfold Dev.setMstate; repeat' (first | (simp [hp]; done) | (simp [hp, Dev.keep_mk]; done) | split | (simp only []; split) | (refine Dev.keep_each _ _ _ _ (fun _ _ => ?_)) | rfl ))
@[simp] theorem Dev.cageSelect_keep (ps : List Part) (d : Dev) (c mode lanes : Nat) (arriving : Bool) (hp : Part.sub [.regs, .irq, .msix, .evtDropped, .out, .port] ps = true) :
    (Dev.cageSelect d c mode lanes arriving).keep ps = d.keep ps := by
  simp only [Part.sub_cons, Part.sub_nil, Bool.and_true, Bool.and_eq_true] at hp
  first | (simp [Dev.cageSelect, hp]; done) | (unfold Dev.cageSelect; repeat' (first | (simp [hp]; done) | (simp [hp, Dev.keep_mk]; done) | split | (simp only []; split) | (refine Dev.keep_each _ _ _ _ (fun _ _ => ?_)) | rfl ))
@[simp] theorem Dev.modArrive_keep (ps : List Part) (d : Dev) (c : Nat) (i : ModInfo) (hp : Part.sub [.regs, .irq, .msix, .evtDropped, .out, .port] ps = true) :
    (Dev.modArrive d c i).keep ps = d.keep ps := by
  simp only [Part.sub_cons, Part.sub_nil, Bool.and_true, Bool.and_eq_true] at hp
  first | (simp [Dev.modArrive, hp]; done) | (unfold Dev.modArrive; repeat' (first | (simp [hp]; done) | (simp [hp, Dev.keep_mk]; done) | split | (simp only []; split) | (refine Dev.keep_each _ _ _ _ (fun _ _ => ?_)) | rfl ))
@[simp] theorem Dev.leaveWait_keep (ps : List Part) (d : Dev) (p : Nat) (hp : Part.sub [.regs, .port] ps = true) :
    (Dev.leaveWait d p).keep ps = d.keep ps := by
  simp only [Part.sub_cons, Part.sub_nil, Bool.and_true, Bool.and_eq_true] at hp
  first | (simp [Dev.leaveWait, hp]; done) | (unfold Dev.leaveWait; repeat' (first | (simp [hp]; done) | (simp [hp, Dev.keep_mk]; done) | split | (simp only []; split) | (refine Dev.keep_each _ _ _ _ (fun _ _ => ?_)) | rfl ))
@[simp] theorem Dev.linkSettle_keep (ps : List Part) (d : Dev) (p : Nat) (hp : Part.sub [.regs, .irq, .msix, .evtDropped, .out, .port] ps = true) :
    (Dev.linkSettle d p).keep ps = d.keep ps := by
  simp only [Part.sub_cons, Part.sub_nil, Bool.and_true, Bool.and_eq_true] at hp
  first | (simp [Dev.linkSettle, hp]; done) | (unfold Dev.linkSettle; repeat' (first | (simp [hp]; done) | (simp [hp, Dev.keep_mk]; done) | split | (simp only []; split) | (refine Dev.keep_each _ _ _ _ (fun _ _ => ?_)) | rfl ))
@[simp] theorem Dev.mgmtSettle_keep (ps : List Part) (d : Dev) (p : Nat) (jevar shed : Bool) (dev : Nat) (hp : Part.sub [.regs, .irq, .msix, .evtDropped, .out, .port] ps = true) :
    (Dev.mgmtSettle d p jevar shed dev).keep ps = d.keep ps := by
  simp only [Part.sub_cons, Part.sub_nil, Bool.and_true, Bool.and_eq_true] at hp
  first | (simp [Dev.mgmtSettle, hp]; done) | (unfold Dev.mgmtSettle; repeat' (first | (simp [hp]; done) | (simp [hp, Dev.keep_mk]; done) | split | (simp only []; split) | (refine Dev.keep_each _ _ _ _ (fun _ _ => ?_)) | rfl ))
@[simp] theorem Dev.calStart_keep (ps : List Part) (d : Dev) (lanes : List Nat) (hp : Part.sub [.port] ps = true) :
    (Dev.calStart d lanes).keep ps = d.keep ps := by
  simp only [Part.sub_cons, Part.sub_nil, Bool.and_true, Bool.and_eq_true] at hp
  first | (simp [Dev.calStart, hp]; done) | (unfold Dev.calStart; repeat' (first | (simp [hp]; done) | (simp [hp, Dev.keep_mk]; done) | split | (simp only []; split) | (refine Dev.keep_each _ _ _ _ (fun _ _ => ?_)) | rfl ))
@[simp] theorem Dev.enterUp_keep (ps : List Part) (d : Dev) (p : Nat) (hp : Part.sub [.regs, .irq, .msix, .evtDropped, .out, .port] ps = true) :
    (Dev.enterUp d p).keep ps = d.keep ps := by
  simp only [Part.sub_cons, Part.sub_nil, Bool.and_true, Bool.and_eq_true] at hp
  first | (simp [Dev.enterUp, hp]; done) | (unfold Dev.enterUp; repeat' (first | (simp [hp]; done) | (simp [hp, Dev.keep_mk]; done) | split | (simp only []; split) | (refine Dev.keep_each _ _ _ _ (fun _ _ => ?_)) | rfl ))
@[simp] theorem Dev.partnerClear_keep (ps : List Part) (d : Dev) (p : Nat) (hp : Part.sub [.regs, .port] ps = true) :
    (Dev.partnerClear d p).keep ps = d.keep ps := by
  simp only [Part.sub_cons, Part.sub_nil, Bool.and_true, Bool.and_eq_true] at hp
  first | (simp [Dev.partnerClear, hp]; done) | (unfold Dev.partnerClear; repeat' (first | (simp [hp]; done) | (simp [hp, Dev.keep_mk]; done) | split | (simp only []; split) | (refine Dev.keep_each _ _ _ _ (fun _ _ => ?_)) | rfl ))
@[simp] theorem Dev.railBlind_keep (ps : List Part) (d : Dev) (g : Nat) (hp : Part.sub [.regs, .jrn, .rail] ps = true) :
    (Dev.railBlind d g).keep ps = d.keep ps := by
  simp only [Part.sub_cons, Part.sub_nil, Bool.and_true, Bool.and_eq_true] at hp
  first | (simp [Dev.railBlind, hp]; done) | (unfold Dev.railBlind; repeat' (first | (simp [hp]; done) | (simp [hp, Dev.keep_mk]; done) | split | (simp only []; split) | (refine Dev.keep_each _ _ _ _ (fun _ _ => ?_)) | rfl ))
@[simp] theorem Dev.abortTx_keep (ps : List Part) (d : Dev) (p : Nat) (hp : Part.sub [.path] ps = true) :
    (Dev.abortTx d p).keep ps = d.keep ps := by
  simp only [Part.sub_cons, Part.sub_nil, Bool.and_true, Bool.and_eq_true] at hp
  first | (simp [Dev.abortTx, hp]; done) | (unfold Dev.abortTx; repeat' (first | (simp [hp]; done) | (simp [hp, Dev.keep_mk]; done) | split | (simp only []; split) | (refine Dev.keep_each _ _ _ _ (fun _ _ => ?_)) | rfl ))
@[simp] theorem Dev.leaveUp_keep (ps : List Part) (d : Dev) (p st : Nat) (trig : Bool) (hp : Part.sub [.regs, .irq, .msix, .evtDropped, .out, .jrn, .port, .rail, .path] ps = true) :
    (Dev.leaveUp d p st trig).keep ps = d.keep ps := by
  simp only [Part.sub_cons, Part.sub_nil, Bool.and_true, Bool.and_eq_true] at hp
  first | (simp [Dev.leaveUp, hp]; done) | (unfold Dev.leaveUp; repeat' (first | (simp [hp]; done) | (simp [hp, Dev.keep_mk]; done) | split | (simp only []; split) | (refine Dev.keep_each _ _ _ _ (fun _ _ => ?_)) | rfl ))
@[simp] theorem Dev.sendFcMask_keep (ps : List Part) (d : Dev) (p mask quanta : Nat) (hp : Part.sub [.regs, .out] ps = true) :
    (Dev.sendFcMask d p mask quanta).keep ps = d.keep ps := by
  simp only [Part.sub_cons, Part.sub_nil, Bool.and_true, Bool.and_eq_true] at hp
  first | (simp [Dev.sendFcMask, hp]; done) | (unfold Dev.sendFcMask; repeat' (first | (simp [hp]; done) | (simp [hp, Dev.keep_mk]; done) | split | (simp only []; split) | (refine Dev.keep_each _ _ _ _ (fun _ _ => ?_)) | rfl ))
@[simp] theorem Dev.sendFc_keep (ps : List Part) (d : Dev) (p q quanta : Nat) (hp : Part.sub [.regs, .out] ps = true) :
    (Dev.sendFc d p q quanta).keep ps = d.keep ps := by
  simp only [Part.sub_cons, Part.sub_nil, Bool.and_true, Bool.and_eq_true] at hp
  first | (simp [Dev.sendFc, hp]; done) | (unfold Dev.sendFc; repeat' (first | (simp [hp]; done) | (simp [hp, Dev.keep_mk]; done) | split | (simp only []; split) | (refine Dev.keep_each _ _ _ _ (fun _ _ => ?_)) | rfl ))
@[simp] theorem Dev.appReselect_keep (ps : List Part) (d : Dev) (p : Nat) (hp : Part.sub [.regs, .irq, .msix, .evtDropped, .out, .port] ps = true) :
    (Dev.appReselect d p).keep ps = d.keep ps := by
  simp only [Part.sub_cons, Part.sub_nil, Bool.and_true, Bool.and_eq_true] at hp
  first | (simp [Dev.appReselect, hp]; done) | (unfold Dev.appReselect; repeat' (first | (simp [hp]; done) | (simp [hp, Dev.keep_mk]; done) | split | (simp only []; split) | (refine Dev.keep_each _ _ _ _ (fun _ _ => ?_)) | rfl ))
@[simp] theorem Dev.defer_keep (ps : List Part) (d : Dev) (x : Deferred) (hp : Part.sub [.deferred] ps = true) :
    (Dev.defer d x).keep ps = d.keep ps := by
  simp only [Part.sub_cons, Part.sub_nil, Bool.and_true, Bool.and_eq_true] at hp
  first | (simp [Dev.defer, hp]; done) | (unfold Dev.defer; repeat' (first | (simp [hp]; done) | (simp [hp, Dev.keep_mk]; done) | split | (simp only []; split) | (refine Dev.keep_each _ _ _ _ (fun _ _ => ?_)) | rfl ))
@[simp] theorem Dev.prtCfgWrite_keep (ps : List Part) (d : Dev) (p v : Nat) (hp : Part.sub [.regs, .irq, .msix, .evtDropped, .out, .port, .deferred] ps = true) :
    (Dev.prtCfgWrite d p v).keep ps = d.keep ps := by
  simp only [Part.sub_cons, Part.sub_nil, Bool.and_true, Bool.and_eq_true] at hp
  first | (simp [Dev.prtCfgWrite, hp]; done) | (unfold Dev.prtCfgWrite; repeat' (first | (simp [hp]; done) | (simp [hp, Dev.keep_mk]; done) | split | (simp only []; split) | (refine Dev.keep_each _ _ _ _ (fun _ _ => ?_)) | rfl ))
@[simp] theorem Dev.loadDelays_keep (ps : List Part) (d : Dev) (p mode : Nat) (hp : Part.sub [.regs] ps = true) :
    (Dev.loadDelays d p mode).keep ps = d.keep ps := by
  simp only [Part.sub_cons, Part.sub_nil, Bool.and_true, Bool.and_eq_true] at hp
  first | (simp [Dev.loadDelays, hp]; done) | (unfold Dev.loadDelays; repeat' (first | (simp [hp]; done) | (simp [hp, Dev.keep_mk]; done) | split | (simp only []; split) | (refine Dev.keep_each _ _ _ _ (fun _ _ => ?_)) | rfl ))
@[simp] theorem Dev.portEnableNow_keep (ps : List Part) (d : Dev) (p : Nat) (hp : Part.sub [.regs, .port, .deferred] ps = true) :
    (Dev.portEnableNow d p).keep ps = d.keep ps := by
  simp only [Part.sub_cons, Part.sub_nil, Bool.and_true, Bool.and_eq_true] at hp
  first | (simp [Dev.portEnableNow, hp]; done) | (unfold Dev.portEnableNow; repeat' (first | (simp [hp]; done) | (simp [hp, Dev.keep_mk]; done) | split | (simp only []; split) | (refine Dev.keep_each _ _ _ _ (fun _ _ => ?_)) | rfl ))
@[simp] theorem Dev.portDisableNow_keep (ps : List Part) (d : Dev) (p : Nat) (hp : Part.sub [.regs, .irq, .msix, .evtDropped, .out, .jrn, .port, .rail, .path] ps = true) :
    (Dev.portDisableNow d p).keep ps = d.keep ps := by
  simp only [Part.sub_cons, Part.sub_nil, Bool.and_true, Bool.and_eq_true] at hp
  first | (simp [Dev.portDisableNow, hp]; done) | (unfold Dev.portDisableNow; repeat' (first | (simp [hp]; done) | (simp [hp, Dev.keep_mk]; done) | split | (simp only []; split) | (refine Dev.keep_each _ _ _ _ (fun _ _ => ?_)) | rfl ))
@[simp] theorem Dev.railCfgWrite_keep (ps : List Part) (d : Dev) (g v : Nat) (hp : Part.sub [.regs, .deferred] ps = true) :
    (Dev.railCfgWrite d g v).keep ps = d.keep ps := by
  simp only [Part.sub_cons, Part.sub_nil, Bool.and_true, Bool.and_eq_true] at hp
  first | (simp [Dev.railCfgWrite, hp]; done) | (unfold Dev.railCfgWrite; repeat' (first | (simp [hp]; done) | (simp [hp, Dev.keep_mk]; done) | split | (simp only []; split) | (refine Dev.keep_each _ _ _ _ (fun _ _ => ?_)) | rfl ))
@[simp] theorem Dev.railCount_keep (ps : List Part) (d : Dev) (g : Nat) (hp : Part.sub [.regs] ps = true) :
    (Dev.railCount d g).keep ps = d.keep ps := by
  simp only [Part.sub_cons, Part.sub_nil, Bool.and_true, Bool.and_eq_true] at hp
  first | (simp [Dev.railCount, hp]; done) | (unfold Dev.railCount; repeat' (first | (simp [hp]; done) | (simp [hp, Dev.keep_mk]; done) | split | (simp only []; split) | (refine Dev.keep_each _ _ _ _ (fun _ _ => ?_)) | rfl ))
@[simp] theorem Dev.railCopy_keep (ps : List Part) (d : Dev) (g n : Nat) (hp : Part.sub [.regs, .rail, .fresh] ps = true) :
    (Dev.railCopy d g n).keep ps = d.keep ps := by
  simp only [Part.sub_cons, Part.sub_nil, Bool.and_true, Bool.and_eq_true] at hp
  first | (simp [Dev.railCopy, hp]; done) | (unfold Dev.railCopy; repeat' (first | (simp [hp]; done) | (simp [hp, Dev.keep_mk]; done) | split | (simp only []; split) | (refine Dev.keep_each _ _ _ _ (fun _ _ => ?_)) | rfl ))
@[simp] theorem Dev.railSetDelay_keep (ps : List Part) (d : Dev) (g : Nat) (hp : Part.sub [.regs, .fresh] ps = true) :
    (Dev.railSetDelay d g).keep ps = d.keep ps := by
  simp only [Part.sub_cons, Part.sub_nil, Bool.and_true, Bool.and_eq_true] at hp
  first | (simp [Dev.railSetDelay, hp]; done) | (unfold Dev.railSetDelay; repeat' (first | (simp [hp]; done) | (simp [hp, Dev.keep_mk]; done) | split | (simp only []; split) | (refine Dev.keep_each _ _ _ _ (fun _ _ => ?_)) | rfl ))
@[simp] theorem Dev.railIdleNow_keep (ps : List Part) (d : Dev) (n dstate : Nat) (hp : Part.sub [.regs] ps = true) :
    (Dev.railIdleNow d n dstate).keep ps = d.keep ps := by
  simp only [Part.sub_cons, Part.sub_nil, Bool.and_true, Bool.and_eq_true] at hp
  first | (simp [Dev.railIdleNow, hp]; done) | (unfold Dev.railIdleNow; repeat' (first | (simp [hp]; done) | (simp [hp, Dev.keep_mk]; done) | split | (simp only []; split) | (refine Dev.keep_each _ _ _ _ (fun _ _ => ?_)) | rfl ))
@[simp] theorem Dev.railActivate_keep (ps : List Part) (d : Dev) (g : Nat) (hp : Part.sub [.regs, .irq, .msix, .evtDropped, .out, .jrn, .rail, .fresh] ps = true) :
    (Dev.railActivate d g).keep ps = d.keep ps := by
  simp only [Part.sub_cons, Part.sub_nil, Bool.and_true, Bool.and_eq_true] at hp
  first | (simp [Dev.railActivate, hp]; done) | (unfold Dev.railActivate; repeat' (first | (simp [hp]; done) | (simp [hp, Dev.keep_mk]; done) | split | (simp only []; split) | (refine Dev.keep_each _ _ _ _ (fun _ _ => ?_)) | rfl ))
@[simp] theorem Dev.railAdjusting_keep (ps : List Part) (d : Dev) (g : Nat) (hp : Part.sub [.regs] ps = true) :
    (Dev.railAdjusting d g).keep ps = d.keep ps := by
  simp only [Part.sub_cons, Part.sub_nil, Bool.and_true, Bool.and_eq_true] at hp
  first | (simp [Dev.railAdjusting, hp]; done) | (unfold Dev.railAdjusting; repeat' (first | (simp [hp]; done) | (simp [hp, Dev.keep_mk]; done) | split | (simp only []; split) | (refine Dev.keep_each _ _ _ _ (fun _ _ => ?_)) | rfl ))
@[simp] theorem Dev.railDstWrite_keep (ps : List Part) (d : Dev) (n v : Nat) (hp : Part.sub [.regs, .port, .rail, .deferred] ps = true) :
    (Dev.railDstWrite d n v).keep ps = d.keep ps := by
  simp only [Part.sub_cons, Part.sub_nil, Bool.and_true, Bool.and_eq_true] at hp
  first | (simp [Dev.railDstWrite, hp]; done) | (unfold Dev.railDstWrite; repeat' (first | (simp [hp]; done) | (simp [hp, Dev.keep_mk]; done) | split | (simp only []; split) | (refine Dev.keep_each _ _ _ _ (fun _ _ => ?_)) | rfl ))
@[simp] theorem Dev.railSwitch_keep (ps : List Part) (d : Dev) (g : Nat) (hp : Part.sub [.regs, .irq, .msix, .evtDropped, .out, .jrn, .rail, .fresh] ps = true) :
    (Dev.railSwitch d g).keep ps = d.keep ps := by
  simp only [Part.sub_cons, Part.sub_nil, Bool.and_true, Bool.and_eq_true] at hp
  first | (simp [Dev.railSwitch, hp]; done) | (unfold Dev.railSwitch; repeat' (first | (simp [hp]; done) | (simp [hp, Dev.keep_mk]; done) | split | (simp only []; split) | (refine Dev.keep_each _ _ _ _ (fun _ _ => ?_)) | rfl ))
@[simp] theorem Dev.bankSwitch_keep (ps : List Part) (d : Dev) (die : Nat) (hp : Part.sub [.regs] ps = true) :
    (Dev.bankSwitch d die).keep ps = d.keep ps := by
  simp only [Part.sub_cons, Part.sub_nil, Bool.and_true, Bool.and_eq_true] at hp
  first | (simp [Dev.bankSwitch, hp]; done) | (unfold Dev.bankSwitch; repeat' (first | (simp [hp]; done) | (simp [hp, Dev.keep_mk]; done) | split | (simp only []; split) | (refine Dev.keep_each _ _ _ _ (fun _ _ => ?_)) | rfl ))
@[simp] theorem Dev.applyEdit_keep (ps : List Part) (d : Dev) (die : Nat) (e : List Byte) (k : Pkt) (hp : Part.sub [.regs] ps = true) :
    (Dev.applyEdit d die e k).1.keep ps = d.keep ps := by
  simp only [Part.sub_cons, Part.sub_nil, Bool.and_true, Bool.and_eq_true] at hp
  first | (simp [Dev.applyEdit, hp]; done) | (unfold Dev.applyEdit; repeat' (first | (simp [hp]; done) | (simp [hp, Dev.keep_mk]; done) | split | (simp only []; split) | (refine Dev.keep_each _ _ _ _ (fun _ _ => ?_)) | rfl ))
@[simp] theorem Dev.applyProfile_keep (ps : List Part) (d : Dev) (die : Nat) (prof res pr : List Byte) (k : Pkt) (hp : Part.sub [.regs] ps = true) :
    (Dev.applyProfile d die prof res pr k).1.keep ps = d.keep ps := by
  simp only [Part.sub_cons, Part.sub_nil, Bool.and_true, Bool.and_eq_true] at hp
  first | (simp [Dev.applyProfile, hp]; done) | (unfold Dev.applyProfile; repeat' (first | (simp [hp]; done) | (simp [hp, Dev.keep_mk]; done) | split | (simp only []; split) | (refine Dev.keep_each _ _ _ _ (fun _ _ => ?_)) | rfl ))
@[simp] theorem Dev.countLook_keep (ps : List Part) (d : Dev) (die no : Nat) (r : LookEnd) (hp : Part.sub [.regs] ps = true) :
    (Dev.countLook d die no r).keep ps = d.keep ps := by
  simp only [Part.sub_cons, Part.sub_nil, Bool.and_true, Bool.and_eq_true] at hp
  first | (simp [Dev.countLook, hp]; done) | (unfold Dev.countLook; repeat' (first | (simp [hp]; done) | (simp [hp, Dev.keep_mk]; done) | split | (simp only []; split) | (refine Dev.keep_each _ _ _ _ (fun _ _ => ?_)) | rfl ))
@[simp] theorem Dev.slotLook_keep (ps : List Part) (d : Dev) (die dir stage slot : Nat) (pr md prev : List Byte) (v : Nat) (hp : Part.sub [.regs] ps = true) :
    (Dev.slotLook d die dir stage slot pr md prev v).1.keep ps = d.keep ps := by
  simp only [Part.sub_cons, Part.sub_nil, Bool.and_true, Bool.and_eq_true] at hp
  first | (simp [Dev.slotLook, hp]; done) | (unfold Dev.slotLook; repeat' (first | (simp [hp]; done) | (simp [hp, Dev.keep_mk]; done) | split | (simp only []; split) | (refine Dev.keep_each _ _ _ _ (fun _ _ => ?_)) | rfl ))
@[simp] theorem Dev.slotAct_keep (ps : List Part) (d : Dev) (die dir stage slot : Nat) (r : SlotEnd) (pr : List Byte) (k : Pkt) (hp : Part.sub [.regs] ps = true) :
    (Dev.slotAct d die dir stage slot r pr k).1.keep ps = d.keep ps := by
  simp only [Part.sub_cons, Part.sub_nil, Bool.and_true, Bool.and_eq_true] at hp
  first | (simp [Dev.slotAct, hp]; done) | (unfold Dev.slotAct; repeat' (first | (simp [hp]; done) | (simp [hp, Dev.keep_mk]; done) | split | (simp only []; split) | (refine Dev.keep_each _ _ _ _ (fun _ _ => ?_)) | rfl ))
@[simp] theorem Dev.stage_keep (ps : List Part) (d : Dev) (die dir stage : Nat) (pr prev : List Byte) (k : Pkt) (hp : Part.sub [.regs] ps = true) :
    (Dev.stage d die dir stage pr prev k).1.keep ps = d.keep ps := by
  simp only [Part.sub_cons, Part.sub_nil, Bool.and_true, Bool.and_eq_true] at hp
  first | (simp [Dev.stage, hp]; done) | (unfold Dev.stage; repeat' (first | (simp [hp]; done) | (simp [hp, Dev.keep_mk]; done) | split | (simp only []; split) | (refine Dev.keep_each _ _ _ _ (fun _ _ => ?_)) | rfl ))
@[simp] theorem Dev.stageB_keep (ps : List Part) (d : Dev) (die stage : Nat) (pr md prev : List Byte) (k : Pkt) (hp : Part.sub [.regs] ps = true) :
    (Dev.stageB d die stage pr md prev k).1.keep ps = d.keep ps := by
  simp only [Part.sub_cons, Part.sub_nil, Bool.and_true, Bool.and_eq_true] at hp
  first | (simp [Dev.stageB, hp]; done) | (unfold Dev.stageB; repeat' (first | (simp [hp]; done) | (simp [hp, Dev.keep_mk]; done) | split | (simp only []; split) | (refine Dev.keep_each _ _ _ _ (fun _ _ => ?_)) | rfl ))
@[simp] theorem Dev.setFlw_keep (ps : List Part) (d : Dev) (die : Nat) (x : FlwDie) (hp : Part.sub [.path] ps = true) :
    (Dev.setFlw d die x).keep ps = d.keep ps := by
  simp only [Part.sub_cons, Part.sub_nil, Bool.and_true, Bool.and_eq_true] at hp
  first | (simp [Dev.setFlw, hp]; done) | (unfold Dev.setFlw; repeat' (first | (simp [hp]; done) | (simp [hp, Dev.keep_mk]; done) | split | (simp only []; split) | (refine Dev.keep_each _ _ _ _ (fun _ _ => ?_)) | rfl ))
@[simp] theorem Dev.setFrame_keep (ps : List Part) (d : Dev) (f : Nat) (x : Option Frame) (hp : Part.sub [.path] ps = true) :
    (Dev.setFrame d f x).keep ps = d.keep ps := by
  simp only [Part.sub_cons, Part.sub_nil, Bool.and_true, Bool.and_eq_true] at hp
  first | (simp [Dev.setFrame, hp]; done) | (unfold Dev.setFrame; repeat' (first | (simp [hp]; done) | (simp [hp, Dev.keep_mk]; done) | split | (simp only []; split) | (refine Dev.keep_each _ _ _ _ (fun _ _ => ?_)) | rfl ))
@[simp] theorem Dev.flwCnt_keep (ps : List Part) (d : Dev) (die i : Nat) (n : Nat) (hp : Part.sub [.regs, .irq, .msix, .evtDropped, .out] ps = true) :
    (Dev.flwCnt d die i n).keep ps = d.keep ps := by
  simp only [Part.sub_cons, Part.sub_nil, Bool.and_true, Bool.and_eq_true] at hp
  first | (simp [Dev.flwCnt, hp]; done) | (unfold Dev.flwCnt; repeat' (first | (simp [hp]; done) | (simp [hp, Dev.keep_mk]; done) | split | (simp only []; split) | (refine Dev.keep_each _ _ _ _ (fun _ _ => ?_)) | rfl ))
@[simp] theorem Dev.cachePut_keep (ps : List Part) (d : Dev) (die : Nat) (k : FKey) (l : FLine) (hp : Part.sub [.path] ps = true) :
    (Dev.cachePut d die k l).keep ps = d.keep ps := by
  simp only [Part.sub_cons, Part.sub_nil, Bool.and_true, Bool.and_eq_true] at hp
  first | (simp [Dev.cachePut, hp]; done) | (unfold Dev.cachePut; repeat' (first | (simp [hp]; done) | (simp [hp, Dev.keep_mk]; done) | split | (simp only []; split) | (refine Dev.keep_each _ _ _ _ (fun _ _ => ?_)) | rfl ))
@[simp] theorem Dev.cacheDrop_keep (ps : List Part) (d : Dev) (die : Nat) (k : FKey) (hp : Part.sub [.path] ps = true) :
    (Dev.cacheDrop d die k).keep ps = d.keep ps := by
  simp only [Part.sub_cons, Part.sub_nil, Bool.and_true, Bool.and_eq_true] at hp
  first | (simp [Dev.cacheDrop, hp]; done) | (unfold Dev.cacheDrop; repeat' (first | (simp [hp]; done) | (simp [hp, Dev.keep_mk]; done) | split | (simp only []; split) | (refine Dev.keep_each _ _ _ _ (fun _ _ => ?_)) | rfl ))
@[simp] theorem Dev.setCarries_keep (ps : List Part) (d : Dev) (die : Nat) (l : List Carry) (hp : Part.sub [.regs, .path] ps = true) :
    (Dev.setCarries d die l).keep ps = d.keep ps := by
  simp only [Part.sub_cons, Part.sub_nil, Bool.and_true, Bool.and_eq_true] at hp
  first | (simp [Dev.setCarries, hp]; done) | (unfold Dev.setCarries; repeat' (first | (simp [hp]; done) | (simp [hp, Dev.keep_mk]; done) | split | (simp only []; split) | (refine Dev.keep_each _ _ _ _ (fun _ _ => ?_)) | rfl ))
@[simp] theorem Dev.carryAdd_keep (ps : List Part) (d : Dev) (die loc len : Nat) (hp : Part.sub [.regs, .path] ps = true) :
    (Dev.carryAdd d die loc len).keep ps = d.keep ps := by
  simp only [Part.sub_cons, Part.sub_nil, Bool.and_true, Bool.and_eq_true] at hp
  first | (simp [Dev.carryAdd, hp]; done) | (unfold Dev.carryAdd; repeat' (first | (simp [hp]; done) | (simp [hp, Dev.keep_mk]; done) | split | (simp only []; split) | (refine Dev.keep_each _ _ _ _ (fun _ _ => ?_)) | rfl ))
@[simp] theorem Dev.carryRelief_keep (ps : List Part) (d : Dev) (die : Nat) (hp : Part.sub [.regs, .irq, .msix, .evtDropped, .out, .path] ps = true) :
    (Dev.carryRelief d die).keep ps = d.keep ps := by
  simp only [Part.sub_cons, Part.sub_nil, Bool.and_true, Bool.and_eq_true] at hp
  first | (simp [Dev.carryRelief, hp]; done) | (unfold Dev.carryRelief; repeat' (first | (simp [hp]; done) | (simp [hp, Dev.keep_mk]; done) | split | (simp only []; split) | (refine Dev.keep_each _ _ _ _ (fun _ _ => ?_)) | rfl ))
@[simp] theorem Dev.flwTags_keep (ps : List Part) (d : Dev) (die : Nat) (hp : Part.sub [.regs, .irq, .msix, .evtDropped, .out, .path] ps = true) :
    (Dev.flwTags d die).keep ps = d.keep ps := by
  simp only [Part.sub_cons, Part.sub_nil, Bool.and_true, Bool.and_eq_true] at hp
  first | (simp [Dev.flwTags, hp]; done) | (unfold Dev.flwTags; repeat' (first | (simp [hp]; done) | (simp [hp, Dev.keep_mk]; done) | split | (simp only []; split) | (refine Dev.keep_each _ _ _ _ (fun _ _ => ?_)) | rfl ))
@[simp] theorem Dev.hbmStore_keep (ps : List Part) (d : Dev) (die : Nat) (l : FLine) (hp : Part.sub [.path] ps = true) :
    (Dev.hbmStore d die l).keep ps = d.keep ps := by
  simp only [Part.sub_cons, Part.sub_nil, Bool.and_true, Bool.and_eq_true] at hp
  first | (simp [Dev.hbmStore, hp]; done) | (unfold Dev.hbmStore; repeat' (first | (simp [hp]; done) | (simp [hp, Dev.keep_mk]; done) | split | (simp only []; split) | (refine Dev.keep_each _ _ _ _ (fun _ _ => ?_)) | rfl ))
@[simp] theorem Dev.writeBack_keep (ps : List Part) (d : Dev) (die : Nat) (l : FLine) (hp : Part.sub [.regs, .irq, .msix, .evtDropped, .out, .path] ps = true) :
    (Dev.writeBack d die l).keep ps = d.keep ps := by
  simp only [Part.sub_cons, Part.sub_nil, Bool.and_true, Bool.and_eq_true] at hp
  first | (simp [Dev.writeBack, hp]; done) | (unfold Dev.writeBack; repeat' (first | (simp [hp]; done) | (simp [hp, Dev.keep_mk]; done) | split | (simp only []; split) | (refine Dev.keep_each _ _ _ _ (fun _ _ => ?_)) | rfl ))
@[simp] theorem Dev.flowCount_keep (ps : List Part) (d : Dev) (die : Nat) (x : FStat) (hp : Part.sub [.regs] ps = true) :
    (Dev.flowCount d die x).keep ps = d.keep ps := by
  simp only [Part.sub_cons, Part.sub_nil, Bool.and_true, Bool.and_eq_true] at hp
  first | (simp [Dev.flowCount, hp]; done) | (unfold Dev.flowCount; repeat' (first | (simp [hp]; done) | (simp [hp, Dev.keep_mk]; done) | split | (simp only []; split) | (refine Dev.keep_each _ _ _ _ (fun _ _ => ?_)) | rfl ))
@[simp] theorem Dev.flowHit_keep (ps : List Part) (d : Dev) (die : Nat) (fk : FKey) (l : FLine) (missed orphan : Bool) (k : Pkt) (hp : Part.sub [.regs, .irq, .msix, .evtDropped, .out, .path] ps = true) :
    (Dev.flowHit d die fk l missed orphan k).1.keep ps = d.keep ps := by
  simp only [Part.sub_cons, Part.sub_nil, Bool.and_true, Bool.and_eq_true] at hp
  first | (simp [Dev.flowHit, hp]; done) | (unfold Dev.flowHit; repeat' (first | (simp [hp]; done) | (simp [hp, Dev.keep_mk]; done) | split | (simp only []; split) | (refine Dev.keep_each _ _ _ _ (fun _ _ => ?_)) | rfl ))
@[simp] theorem Dev.learnReq_keep (ps : List Part) (d : Dev) (die : Nat) (fk : FKey) (k : Pkt) (hp : Part.sub [.regs, .irq, .msix, .evtDropped, .out, .path, .nrg] ps = true) :
    (Dev.learnReq d die fk k).1.keep ps = d.keep ps := by
  simp only [Part.sub_cons, Part.sub_nil, Bool.and_true, Bool.and_eq_true] at hp
  first | (simp [Dev.learnReq, hp]; done) | (unfold Dev.learnReq; repeat' (first | (simp [hp]; done) | (simp [hp, Dev.keep_mk]; done) | split | (simp only []; split) | (refine Dev.keep_each _ _ _ _ (fun _ _ => ?_)) | rfl ))
@[simp] theorem Dev.flowMiss_keep (ps : List Part) (d : Dev) (die : Nat) (fk : FKey) (missed learn : Bool) (k : Pkt) (hp : Part.sub [.regs, .irq, .msix, .evtDropped, .out, .path, .nrg] ps = true) :
    (Dev.flowMiss d die fk missed learn k).1.keep ps = d.keep ps := by
  simp only [Part.sub_cons, Part.sub_nil, Bool.and_true, Bool.and_eq_true] at hp
  first | (simp [Dev.flowMiss, hp]; done) | (unfold Dev.flowMiss; repeat' (first | (simp [hp]; done) | (simp [hp, Dev.keep_mk]; done) | split | (simp only []; split) | (refine Dev.keep_each _ _ _ _ (fun _ _ => ?_)) | rfl ))
@[simp] theorem Dev.flowLate_keep (ps : List Part) (d : Dev) (die : Nat) (fk : FKey) (k : Pkt) (hp : Part.sub [.regs, .irq, .msix, .evtDropped, .out] ps = true) :
    (Dev.flowLate d die fk k).1.keep ps = d.keep ps := by
  simp only [Part.sub_cons, Part.sub_nil, Bool.and_true, Bool.and_eq_true] at hp
  first | (simp [Dev.flowLate, hp]; done) | (unfold Dev.flowLate; repeat' (first | (simp [hp]; done) | (simp [hp, Dev.keep_mk]; done) | split | (simp only []; split) | (refine Dev.keep_each _ _ _ _ (fun _ _ => ?_)) | rfl ))
@[simp] theorem Dev.flowPark_keep (ps : List Part) (d : Dev) (die : Nat) (fk : FKey) (prev : List Byte) (k : Pkt) (hp : Part.sub [.regs, .irq, .msix, .evtDropped, .out, .path] ps = true) :
    (Dev.flowPark d die fk prev k).keep ps = d.keep ps := by
  simp only [Part.sub_cons, Part.sub_nil, Bool.and_true, Bool.and_eq_true] at hp
  first | (simp [Dev.flowPark, hp]; done) | (unfold Dev.flowPark; repeat' (first | (simp [hp]; done) | (simp [hp, Dev.keep_mk]; done) | split | (simp only []; split) | (refine Dev.keep_each _ _ _ _ (fun _ _ => ?_)) | rfl ))
@[simp] theorem Dev.flowStage_keep (ps : List Part) (d : Dev) (die : Nat) (prev : List Byte) (k : Pkt) (hp : Part.sub [.regs, .irq, .msix, .evtDropped, .out, .path, .nrg] ps = true) :
    (Dev.flowStage d die prev k).1.keep ps = d.keep ps := by
  simp only [Part.sub_cons, Part.sub_nil, Bool.and_true, Bool.and_eq_true] at hp
  first | (simp [Dev.flowStage, hp]; done) | (unfold Dev.flowStage; repeat' (first | (simp [hp]; done) | (simp [hp, Dev.keep_mk]; done) | split | (simp only []; split) | (refine Dev.keep_each _ _ _ _ (fun _ _ => ?_)) | rfl ))
@[simp] theorem Dev.setPool_keep (ps : List Part) (d : Dev) (die : Nat) (x : PoolDie) (hp : Part.sub [.host] ps = true) :
    (Dev.setPool d die x).keep ps = d.keep ps := by
  simp only [Part.sub_cons, Part.sub_nil, Bool.and_true, Bool.and_eq_true] at hp
  first | (simp [Dev.setPool, hp]; done) | (unfold Dev.setPool; repeat' (first | (simp [hp]; done) | (simp [hp, Dev.keep_mk]; done) | split | (simp only []; split) | (refine Dev.keep_each _ _ _ _ (fun _ _ => ?_)) | rfl ))
@[simp] theorem Dev.poolReport_keep (ps : List Part) (d : Dev) (die o : Nat) (hp : Part.sub [.regs, .irq, .msix, .evtDropped, .out, .host] ps = true) :
    (Dev.poolReport d die o).keep ps = d.keep ps := by
  simp only [Part.sub_cons, Part.sub_nil, Bool.and_true, Bool.and_eq_true] at hp
  first | (simp [Dev.poolReport, hp]; done) | (unfold Dev.poolReport; repeat' (first | (simp [hp]; done) | (simp [hp, Dev.keep_mk]; done) | split | (simp only []; split) | (refine Dev.keep_each _ _ _ _ (fun _ _ => ?_)) | rfl ))
@[simp] theorem Dev.poolTake_keep (ps : List Part) (d : Dev) (die o n : Nat) (hp : Part.sub [.regs, .irq, .msix, .evtDropped, .out, .host] ps = true) :
    (Dev.poolTake d die o n).1.keep ps = d.keep ps := by
  simp only [Part.sub_cons, Part.sub_nil, Bool.and_true, Bool.and_eq_true] at hp
  first | (simp [Dev.poolTake, hp]; done) | (unfold Dev.poolTake; repeat' (first | (simp [hp]; done) | (simp [hp, Dev.keep_mk]; done) | split | (simp only []; split) | (refine Dev.keep_each _ _ _ _ (fun _ _ => ?_)) | rfl ))
@[simp] theorem Dev.poolBadReturn_keep (ps : List Part) (d : Dev) (die : Nat) (hp : Part.sub [.regs, .irq, .msix, .evtDropped, .out] ps = true) :
    (Dev.poolBadReturn d die).keep ps = d.keep ps := by
  simp only [Part.sub_cons, Part.sub_nil, Bool.and_true, Bool.and_eq_true] at hp
  first | (simp [Dev.poolBadReturn, hp]; done) | (unfold Dev.poolBadReturn; repeat' (first | (simp [hp]; done) | (simp [hp, Dev.keep_mk]; done) | split | (simp only []; split) | (refine Dev.keep_each _ _ _ _ (fun _ _ => ?_)) | rfl ))
@[simp] theorem Dev.poolReturn_keep (ps : List Part) (d : Dev) (o addr : Nat) (hp : Part.sub [.regs, .irq, .msix, .evtDropped, .out, .host] ps = true) :
    (Dev.poolReturn d o addr).keep ps = d.keep ps := by
  simp only [Part.sub_cons, Part.sub_nil, Bool.and_true, Bool.and_eq_true] at hp
  first | (simp [Dev.poolReturn, hp]; done) | (unfold Dev.poolReturn; repeat' (first | (simp [hp]; done) | (simp [hp, Dev.keep_mk]; done) | split | (simp only []; split) | (refine Dev.keep_each _ _ _ _ (fun _ _ => ?_)) | rfl ))
@[simp] theorem Dev.poolGive_keep (ps : List Part) (d : Dev) (addr : Nat) (hp : Part.sub [.regs, .irq, .msix, .evtDropped, .out, .host] ps = true) :
    (Dev.poolGive d addr).keep ps = d.keep ps := by
  simp only [Part.sub_cons, Part.sub_nil, Bool.and_true, Bool.and_eq_true] at hp
  first | (simp [Dev.poolGive, hp]; done) | (unfold Dev.poolGive; repeat' (first | (simp [hp]; done) | (simp [hp, Dev.keep_mk]; done) | split | (simp only []; split) | (refine Dev.keep_each _ _ _ _ (fun _ _ => ?_)) | rfl ))
@[simp] theorem Dev.poolWrite_keep (ps : List Part) (d : Dev) (addr : Nat) (l : List Byte) (hp : Part.sub [.host] ps = true) :
    (Dev.poolWrite d addr l).keep ps = d.keep ps := by
  simp only [Part.sub_cons, Part.sub_nil, Bool.and_true, Bool.and_eq_true] at hp
  first | (simp [Dev.poolWrite, hp]; done) | (unfold Dev.poolWrite; repeat' (first | (simp [hp]; done) | (simp [hp, Dev.keep_mk]; done) | split | (simp only []; split) | (refine Dev.keep_each _ _ _ _ (fun _ _ => ?_)) | rfl ))
@[simp] theorem Dev.setBuf_keep (ps : List Part) (d : Dev) (die : Nat) (x : BufDie) (hp : Part.sub [.path] ps = true) :
    (Dev.setBuf d die x).keep ps = d.keep ps := by
  simp only [Part.sub_cons, Part.sub_nil, Bool.and_true, Bool.and_eq_true] at hp
  first | (simp [Dev.setBuf, hp]; done) | (unfold Dev.setBuf; repeat' (first | (simp [hp]; done) | (simp [hp, Dev.keep_mk]; done) | split | (simp only []; split) | (refine Dev.keep_each _ _ _ _ (fun _ _ => ?_)) | rfl ))
@[simp] theorem Dev.setQueue_keep (ps : List Part) (d : Dev) (die q : Nat) (x : QueueSt) (hp : Part.sub [.path] ps = true) :
    (Dev.setQueue d die q x).keep ps = d.keep ps := by
  simp only [Part.sub_cons, Part.sub_nil, Bool.and_true, Bool.and_eq_true] at hp
  first | (simp [Dev.setQueue, hp]; done) | (unfold Dev.setQueue; repeat' (first | (simp [hp]; done) | (simp [hp, Dev.keep_mk]; done) | split | (simp only []; split) | (refine Dev.keep_each _ _ _ _ (fun _ _ => ?_)) | rfl ))
@[simp] theorem Dev.bufReport_keep (ps : List Part) (d : Dev) (die : Nat) (hp : Part.sub [.regs] ps = true) :
    (Dev.bufReport d die).keep ps = d.keep ps := by
  simp only [Part.sub_cons, Part.sub_nil, Bool.and_true, Bool.and_eq_true] at hp
  first | (simp [Dev.bufReport, hp]; done) | (unfold Dev.bufReport; repeat' (first | (simp [hp]; done) | (simp [hp, Dev.keep_mk]; done) | split | (simp only []; split) | (refine Dev.keep_each _ _ _ _ (fun _ _ => ?_)) | rfl ))
@[simp] theorem Dev.queueReport_keep (ps : List Part) (d : Dev) (die q : Nat) (hp : Part.sub [.regs] ps = true) :
    (Dev.queueReport d die q).keep ps = d.keep ps := by
  simp only [Part.sub_cons, Part.sub_nil, Bool.and_true, Bool.and_eq_true] at hp
  first | (simp [Dev.queueReport, hp]; done) | (unfold Dev.queueReport; repeat' (first | (simp [hp]; done) | (simp [hp, Dev.keep_mk]; done) | split | (simp only []; split) | (refine Dev.keep_each _ _ _ _ (fun _ _ => ?_)) | rfl ))
@[simp] theorem Dev.bufGive_keep (ps : List Part) (d : Dev) (buf : Option Nat) (hp : Part.sub [.regs, .irq, .msix, .evtDropped, .out, .host] ps = true) :
    (Dev.bufGive d buf).keep ps = d.keep ps := by
  simp only [Part.sub_cons, Part.sub_nil, Bool.and_true, Bool.and_eq_true] at hp
  first | (simp [Dev.bufGive, hp]; done) | (unfold Dev.bufGive; repeat' (first | (simp [hp]; done) | (simp [hp, Dev.keep_mk]; done) | split | (simp only []; split) | (refine Dev.keep_each _ _ _ _ (fun _ _ => ?_)) | rfl ))
@[simp] theorem Dev.frameGc_keep (ps : List Part) (d : Dev) (f : Nat) (hp : Part.sub [.regs, .irq, .msix, .evtDropped, .out, .path, .host] ps = true) :
    (Dev.frameGc d f).keep ps = d.keep ps := by
  simp only [Part.sub_cons, Part.sub_nil, Bool.and_true, Bool.and_eq_true] at hp
  first | (simp [Dev.frameGc, hp]; done) | (unfold Dev.frameGc; repeat' (first | (simp [hp]; done) | (simp [hp, Dev.keep_mk]; done) | split | (simp only []; split) | (refine Dev.keep_each _ _ _ _ (fun _ _ => ?_)) | rfl ))
@[simp] theorem Dev.jrnJudge_keep (ps : List Part) (d : Dev) (die : Nat) (hp : Part.sub [.regs, .irq, .msix, .evtDropped, .out, .jrn] ps = true) :
    (Dev.jrnJudge d die).keep ps = d.keep ps := by
  simp only [Part.sub_cons, Part.sub_nil, Bool.and_true, Bool.and_eq_true] at hp
  first | (simp [Dev.jrnJudge, hp]; done) | (unfold Dev.jrnJudge; repeat' (first | (simp [hp]; done) | (simp [hp, Dev.keep_mk]; done) | split | (simp only []; split) | (refine Dev.keep_each _ _ _ _ (fun _ _ => ?_)) | rfl ))
@[simp] theorem Dev.jrnLost_keep (ps : List Part) (d : Dev) (die i : Nat) (hp : Part.sub [.regs, .irq, .msix, .evtDropped, .out, .jrn] ps = true) :
    (Dev.jrnLost d die i).keep ps = d.keep ps := by
  simp only [Part.sub_cons, Part.sub_nil, Bool.and_true, Bool.and_eq_true] at hp
  first | (simp [Dev.jrnLost, hp]; done) | (unfold Dev.jrnLost; repeat' (first | (simp [hp]; done) | (simp [hp, Dev.keep_mk]; done) | split | (simp only []; split) | (refine Dev.keep_each _ _ _ _ (fun _ _ => ?_)) | rfl ))
@[simp] theorem Dev.jrnFrame_keep (ps : List Part) (d : Dev) (die f : Nat) (mk : Frame → List Byte → RecIn) (hp : Part.sub [.regs, .irq, .msix, .evtDropped, .out, .jrn, .path] ps = true) :
    (Dev.jrnFrame d die f mk).keep ps = d.keep ps := by
  simp only [Part.sub_cons, Part.sub_nil, Bool.and_true, Bool.and_eq_true] at hp
  first | (simp [Dev.jrnFrame, hp]; done) | (unfold Dev.jrnFrame; repeat' (first | (simp [hp]; done) | (simp [hp, Dev.keep_mk]; done) | split | (simp only []; split) | (refine Dev.keep_each _ _ _ _ (fun _ _ => ?_)) | rfl ))
@[simp] theorem Dev.jrnAmend_keep (ps : List Part) (d : Dev) (die seq : Nat) (g : List Byte → List Byte) (hp : Part.sub [.jrn] ps = true) :
    (Dev.jrnAmend d die seq g).keep ps = d.keep ps := by
  simp only [Part.sub_cons, Part.sub_nil, Bool.and_true, Bool.and_eq_true] at hp
  first | (simp [Dev.jrnAmend, hp]; done) | (unfold Dev.jrnAmend; repeat' (first | (simp [hp]; done) | (simp [hp, Dev.keep_mk]; done) | split | (simp only []; split) | (refine Dev.keep_each _ _ _ _ (fun _ _ => ?_)) | rfl ))
@[simp] theorem Dev.mirror_keep (ps : List Part) (d : Dev) (die sess point code eport ticks : Nat) (k : Pkt) (hp : Part.sub [.regs, .irq, .msix, .evtDropped, .out, .path, .nrg] ps = true) :
    (Dev.mirror d die sess point code eport ticks k).keep ps = d.keep ps := by
  simp only [Part.sub_cons, Part.sub_nil, Bool.and_true, Bool.and_eq_true] at hp
  first | (simp [Dev.mirror, hp]; done) | (unfold Dev.mirror; repeat' (first | (simp [hp]; done) | (simp [hp, Dev.keep_mk]; done) | split | (simp only []; split) | (refine Dev.keep_each _ _ _ _ (fun _ _ => ?_)) | rfl ))
@[simp] theorem Dev.mcCount_keep (ps : List Part) (d : Dev) (die : Nat) (mc : Option Nat) (refused : Bool) (hp : Part.sub [.regs, .path] ps = true) :
    (Dev.mcCount d die mc refused).keep ps = d.keep ps := by
  simp only [Part.sub_cons, Part.sub_nil, Bool.and_true, Bool.and_eq_true] at hp
  first | (simp [Dev.mcCount, hp]; done) | (unfold Dev.mcCount; repeat' (first | (simp [hp]; done) | (simp [hp, Dev.keep_mk]; done) | split | (simp only []; split) | (refine Dev.keep_each _ _ _ _ (fun _ _ => ?_)) | rfl ))
@[simp] theorem Dev.refuseCopy_keep (ps : List Part) (d : Dev) (r : CopyReq) (code : Nat) (hp : Part.sub [.regs, .irq, .msix, .evtDropped, .out, .jrn, .path, .nrg] ps = true) :
    (Dev.refuseCopy d r code).keep ps = d.keep ps := by
  simp only [Part.sub_cons, Part.sub_nil, Bool.and_true, Bool.and_eq_true] at hp
  first | (simp [Dev.refuseCopy, hp]; done) | (unfold Dev.refuseCopy; repeat' (first | (simp [hp]; done) | (simp [hp, Dev.keep_mk]; done) | split | (simp only []; split) | (refine Dev.keep_each _ _ _ _ (fun _ _ => ?_)) | rfl ))
@[simp] theorem Dev.holdChain_keep (ps : List Part) (d : Dev) (r : CopyReq) (parts : List (Charge × Nat)) (hp : Part.sub [.regs, .irq, .msix, .evtDropped, .out, .path] ps = true) :
    (Dev.holdChain d r parts).keep ps = d.keep ps := by
  simp only [Part.sub_cons, Part.sub_nil, Bool.and_true, Bool.and_eq_true] at hp
  first | (simp [Dev.holdChain, hp]; done) | (unfold Dev.holdChain; repeat' (first | (simp [hp]; done) | (simp [hp, Dev.keep_mk]; done) | split | (simp only []; split) | (refine Dev.keep_each _ _ _ _ (fun _ _ => ?_)) | rfl ))
@[simp] theorem Dev.lvlReport_keep (ps : List Part) (d : Dev) (i : Nat) (hp : Part.sub [.regs] ps = true) :
    (Dev.lvlReport d i).keep ps = d.keep ps := by
  simp only [Part.sub_cons, Part.sub_nil, Bool.and_true, Bool.and_eq_true] at hp
  first | (simp [Dev.lvlReport, hp]; done) | (unfold Dev.lvlReport; repeat' (first | (simp [hp]; done) | (simp [hp, Dev.keep_mk]; done) | split | (simp only []; split) | (refine Dev.keep_each _ _ _ _ (fun _ _ => ?_)) | rfl ))
@[simp] theorem Dev.enqueue_keep (ps : List Part) (d : Dev) (die q : Nat) (c : Copy) (res sh tail : Nat) (hp : Part.sub [.regs, .path] ps = true) :
    (Dev.enqueue d die q c res sh tail).keep ps = d.keep ps := by
  simp only [Part.sub_cons, Part.sub_nil, Bool.and_true, Bool.and_eq_true] at hp
  first | (simp [Dev.enqueue, hp]; done) | (unfold Dev.enqueue; repeat' (first | (simp [hp]; done) | (simp [hp, Dev.keep_mk]; done) | split | (simp only []; split) | (refine Dev.keep_each _ _ _ _ (fun _ _ => ?_)) | rfl ))
@[simp] theorem Dev.admitCopy_keep (ps : List Part) (d : Dev) (r : CopyReq) (v : Nat) (jrn : Bool) (verdict : Verdict) (hp : Part.sub [.regs, .irq, .msix, .evtDropped, .out, .path, .nrg] ps = true) :
    (Dev.admitCopy d r v jrn verdict).keep ps = d.keep ps := by
  simp only [Part.sub_cons, Part.sub_nil, Bool.and_true, Bool.and_eq_true] at hp
  first | (simp [Dev.admitCopy, hp]; done) | (unfold Dev.admitCopy; repeat' (first | (simp [hp]; done) | (simp [hp, Dev.keep_mk]; done) | split | (simp only []; split) | (refine Dev.keep_each _ _ _ _ (fun _ _ => ?_)) | rfl ))
@[simp] theorem Dev.offerCopy_keep (ps : List Part) (d : Dev) (r : CopyReq) (hp : Part.sub [.regs, .irq, .msix, .evtDropped, .out, .jrn, .path, .nrg, .fresh] ps = true) :
    (Dev.offerCopy d r).keep ps = d.keep ps := by
  simp only [Part.sub_cons, Part.sub_nil, Bool.and_true, Bool.and_eq_true] at hp
  first | (simp [Dev.offerCopy, hp]; done) | (unfold Dev.offerCopy; repeat' (first | (simp [hp]; done) | (simp [hp, Dev.keep_mk]; done) | split | (simp only []; split) | (refine Dev.keep_each _ _ _ _ (fun _ _ => ?_)) | rfl ))
@[simp] theorem Dev.dropRef_keep (ps : List Part) (d : Dev) (die f : Nat) (hp : Part.sub [.regs, .irq, .msix, .evtDropped, .out, .path, .host] ps = true) :
    (Dev.dropRef d die f).keep ps = d.keep ps := by
  simp only [Part.sub_cons, Part.sub_nil, Bool.and_true, Bool.and_eq_true] at hp
  first | (simp [Dev.dropRef, hp]; done) | (unfold Dev.dropRef; repeat' (first | (simp [hp]; done) | (simp [hp, Dev.keep_mk]; done) | split | (simp only []; split) | (refine Dev.keep_each _ _ _ _ (fun _ _ => ?_)) | rfl ))
@[simp] theorem Dev.unchargeQueue_keep (ps : List Part) (d : Dev) (die : Nat) (c : Copy) (hp : Part.sub [.regs, .path] ps = true) :
    (Dev.unchargeQueue d die c).keep ps = d.keep ps := by
  simp only [Part.sub_cons, Part.sub_nil, Bool.and_true, Bool.and_eq_true] at hp
  first | (simp [Dev.unchargeQueue, hp]; done) | (unfold Dev.unchargeQueue; repeat' (first | (simp [hp]; done) | (simp [hp, Dev.keep_mk]; done) | split | (simp only []; split) | (refine Dev.keep_each _ _ _ _ (fun _ _ => ?_)) | rfl ))
@[simp] theorem Dev.releaseCopy_keep (ps : List Part) (d : Dev) (c : Copy) (hp : Part.sub [.regs, .irq, .msix, .evtDropped, .out, .path, .host] ps = true) :
    (Dev.releaseCopy d c).keep ps = d.keep ps := by
  simp only [Part.sub_cons, Part.sub_nil, Bool.and_true, Bool.and_eq_true] at hp
  first | (simp [Dev.releaseCopy, hp]; done) | (unfold Dev.releaseCopy; repeat' (first | (simp [hp]; done) | (simp [hp, Dev.keep_mk]; done) | split | (simp only []; split) | (refine Dev.keep_each _ _ _ _ (fun _ _ => ?_)) | rfl ))
@[simp] theorem Dev.newFrame_keep (ps : List Part) (d : Dev) (port : Nat) (bytes : List Byte) (ts unc : Nat) (buf : Option Nat) (hp : Part.sub [.path] ps = true) :
    (Dev.newFrame d port bytes ts unc buf).1.keep ps = d.keep ps := by
  simp only [Part.sub_cons, Part.sub_nil, Bool.and_true, Bool.and_eq_true] at hp
  first | (simp [Dev.newFrame, hp]; done) | (unfold Dev.newFrame; repeat' (first | (simp [hp]; done) | (simp [hp, Dev.keep_mk]; done) | split | (simp only []; split) | (refine Dev.keep_each _ _ _ _ (fun _ _ => ?_)) | rfl ))
@[simp] theorem Dev.sendOwn_keep (ps : List Part) (d : Dev) (port queue : Nat) (bytes : List Byte) (md : List Byte) (buf : Option Nat) (hp : Part.sub [.regs, .irq, .msix, .evtDropped, .out, .jrn, .path, .nrg, .host, .fresh] ps = true) :
    (Dev.sendOwn d port queue bytes md buf).keep ps = d.keep ps := by
  simp only [Part.sub_cons, Part.sub_nil, Bool.and_true, Bool.and_eq_true] at hp
  first | (simp [Dev.sendOwn, hp]; done) | (unfold Dev.sendOwn; repeat' (first | (simp [hp]; done) | (simp [hp, Dev.keep_mk]; done) | split | (simp only []; split) | (refine Dev.keep_each _ _ _ _ (fun _ _ => ?_)) | rfl ))
@[simp] theorem Dev.ruleyFrame_keep (ps : List Part) (d : Dev) (port : Nat) (bytes : List Byte) (hp : Part.sub [.regs, .irq, .msix, .evtDropped, .out, .jrn, .path, .nrg, .host, .fresh] ps = true) :
    (Dev.ruleyFrame d port bytes).keep ps = d.keep ps := by
  simp only [Part.sub_cons, Part.sub_nil, Bool.and_true, Bool.and_eq_true] at hp
  first | (simp [Dev.ruleyFrame, hp]; done) | (unfold Dev.ruleyFrame; repeat' (first | (simp [hp]; done) | (simp [hp, Dev.keep_mk]; done) | split | (simp only []; split) | (refine Dev.keep_each _ _ _ _ (fun _ _ => ?_)) | rfl ))
@[simp] theorem Dev.ruleyParts_keep (ps : List Part) (d : Dev) (port type flags hops src dst seq : Nat) (body : List Byte) (hp : Part.sub [.regs, .irq, .msix, .evtDropped, .out, .jrn, .path, .nrg, .host, .fresh] ps = true) :
    (Dev.ruleyParts d port type flags hops src dst seq body).keep ps = d.keep ps := by
  simp only [Part.sub_cons, Part.sub_nil, Bool.and_true, Bool.and_eq_true] at hp
  first | (simp [Dev.ruleyParts, hp]; done) | (unfold Dev.ruleyParts; repeat' (first | (simp [hp]; done) | (simp [hp, Dev.keep_mk]; done) | split | (simp only []; split) | (refine Dev.keep_each _ _ _ _ (fun _ _ => ?_)) | rfl ))
@[simp] theorem Dev.ruleyMsg_keep (ps : List Part) (d : Dev) (port type flags hops dst : Nat) (body : List Byte) (hp : Part.sub [.regs, .irq, .msix, .evtDropped, .out, .jrn, .path, .nrg, .dom, .host, .fresh] ps = true) :
    (Dev.ruleyMsg d port type flags hops dst body).keep ps = d.keep ps := by
  simp only [Part.sub_cons, Part.sub_nil, Bool.and_true, Bool.and_eq_true] at hp
  first | (simp [Dev.ruleyMsg, hp]; done) | (unfold Dev.ruleyMsg; repeat' (first | (simp [hp]; done) | (simp [hp, Dev.keep_mk]; done) | split | (simp only []; split) | (refine Dev.keep_each _ _ _ _ (fun _ _ => ?_)) | rfl ))
@[simp] theorem Dev.ruleyLink_keep (ps : List Part) (d : Dev) (port type : Nat) (body : List Byte) (hp : Part.sub [.regs, .irq, .msix, .evtDropped, .out, .jrn, .path, .nrg, .dom, .host, .fresh] ps = true) :
    (Dev.ruleyLink d port type body).keep ps = d.keep ps := by
  simp only [Part.sub_cons, Part.sub_nil, Bool.and_true, Bool.and_eq_true] at hp
  first | (simp [Dev.ruleyLink, hp]; done) | (unfold Dev.ruleyLink; repeat' (first | (simp [hp]; done) | (simp [hp, Dev.keep_mk]; done) | split | (simp only []; split) | (refine Dev.keep_each _ _ _ _ (fun _ _ => ?_)) | rfl ))
@[simp] theorem Dev.floodPorts_keep (ps : List Part) (d : Dev) (pts : List Nat) (type flags hops src dst seq : Nat) (body : List Byte) (hp : Part.sub [.regs, .irq, .msix, .evtDropped, .out, .jrn, .path, .nrg, .dom, .host, .fresh] ps = true) :
    (Dev.floodPorts d pts type flags hops src dst seq body).keep ps = d.keep ps := by
  simp only [Part.sub_cons, Part.sub_nil, Bool.and_true, Bool.and_eq_true] at hp
  first | (simp [Dev.floodPorts, hp]; done) | (unfold Dev.floodPorts; repeat' (first | (simp [hp]; done) | (simp [hp, Dev.keep_mk]; done) | split | (simp only []; split) | (refine Dev.keep_each _ _ _ _ (fun _ _ => ?_)) | rfl ))
@[simp] theorem Dev.flood_keep (ps : List Part) (d : Dev) (type dst : Nat) (body : List Byte) (hp : Part.sub [.regs, .irq, .msix, .evtDropped, .out, .jrn, .path, .nrg, .dom, .host, .fresh] ps = true) :
    (Dev.flood d type dst body).keep ps = d.keep ps := by
  simp only [Part.sub_cons, Part.sub_nil, Bool.and_true, Bool.and_eq_true] at hp
  first | (simp [Dev.flood, hp]; done) | (unfold Dev.flood; repeat' (first | (simp [hp]; done) | (simp [hp, Dev.keep_mk]; done) | split | (simp only []; split) | (refine Dev.keep_each _ _ _ _ (fun _ _ => ?_)) | rfl ))
@[simp] theorem Dev.ruleyTo_keep (ps : List Part) (d : Dev) (type dst : Nat) (body : List Byte) (hp : Part.sub [.regs, .irq, .msix, .evtDropped, .out, .jrn, .path, .nrg, .dom, .host, .fresh] ps = true) :
    (Dev.ruleyTo d type dst body).keep ps = d.keep ps := by
  simp only [Part.sub_cons, Part.sub_nil, Bool.and_true, Bool.and_eq_true] at hp
  first | (simp [Dev.ruleyTo, hp]; done) | (unfold Dev.ruleyTo; repeat' (first | (simp [hp]; done) | (simp [hp, Dev.keep_mk]; done) | split | (simp only []; split) | (refine Dev.keep_each _ _ _ _ (fun _ _ => ?_)) | rfl ))
@[simp] theorem Dev.setRckD_keep (ps : List Part) (d : Dev) (die : Nat) (x : RckDie) (hp : Part.sub [.rck] ps = true) :
    (Dev.setRckD d die x).keep ps = d.keep ps := by
  simp only [Part.sub_cons, Part.sub_nil, Bool.and_true, Bool.and_eq_true] at hp
  first | (simp [Dev.setRckD, hp]; done) | (unfold Dev.setRckD; repeat' (first | (simp [hp]; done) | (simp [hp, Dev.keep_mk]; done) | split | (simp only []; split) | (refine Dev.keep_each _ _ _ _ (fun _ _ => ?_)) | rfl ))
@[simp] theorem Dev.rckReport_keep (ps : List Part) (d : Dev) (die : Nat) (hp : Part.sub [.regs, .irq, .msix, .evtDropped, .out, .rck] ps = true) :
    (Dev.rckReport d die).keep ps = d.keep ps := by
  simp only [Part.sub_cons, Part.sub_nil, Bool.and_true, Bool.and_eq_true] at hp
  first | (simp [Dev.rckReport, hp]; done) | (unfold Dev.rckReport; repeat' (first | (simp [hp]; done) | (simp [hp, Dev.keep_mk]; done) | split | (simp only []; split) | (refine Dev.keep_each _ _ _ _ (fun _ _ => ?_)) | rfl ))
@[simp] theorem Dev.trace_keep (ps : List Part) (d : Dev) (die ev k i : Nat) (t : Task) (status : Nat) (hp : Part.sub [.regs, .irq, .msix, .evtDropped, .out, .rck, .fresh] ps = true) :
    (Dev.trace d die ev k i t status).keep ps = d.keep ps := by
  simp only [Part.sub_cons, Part.sub_nil, Bool.and_true, Bool.and_eq_true] at hp
  first | (simp [Dev.trace, hp]; done) | (unfold Dev.trace; repeat' (first | (simp [hp]; done) | (simp [hp, Dev.keep_mk]; done) | split | (simp only []; split) | (refine Dev.keep_each _ _ _ _ (fun _ _ => ?_)) | rfl ))
@[simp] theorem Dev.taskCreate_keep (ps : List Part) (d : Dev) (die : Nat) (n : NewTask) (hp : Part.sub [.regs, .irq, .msix, .evtDropped, .out, .rck, .fresh] ps = true) :
    (Dev.taskCreate d die n).1.keep ps = d.keep ps := by
  simp only [Part.sub_cons, Part.sub_nil, Bool.and_true, Bool.and_eq_true] at hp
  first | (simp [Dev.taskCreate, hp]; done) | (unfold Dev.taskCreate; repeat' (first | (simp [hp]; done) | (simp [hp, Dev.keep_mk]; done) | split | (simp only []; split) | (refine Dev.keep_each _ _ _ _ (fun _ _ => ?_)) | rfl ))
@[simp] theorem Dev.taskRaise_keep (ps : List Part) (d : Dev) (die ty : Nat) (ops : List Nat) (requester : Nat) (hp : Part.sub [.regs, .irq, .msix, .evtDropped, .out, .rck, .fresh] ps = true) :
    (Dev.taskRaise d die ty ops requester).keep ps = d.keep ps := by
  simp only [Part.sub_cons, Part.sub_nil, Bool.and_true, Bool.and_eq_true] at hp
  first | (simp [Dev.taskRaise, hp]; done) | (unfold Dev.taskRaise; repeat' (first | (simp [hp]; done) | (simp [hp, Dev.keep_mk]; done) | split | (simp only []; split) | (refine Dev.keep_each _ _ _ _ (fun _ _ => ?_)) | rfl ))
@[simp] theorem Dev.taskRetry_keep (ps : List Part) (d : Dev) (die : Nat) (hp : Part.sub [.regs, .irq, .msix, .evtDropped, .out, .rck, .fresh] ps = true) :
    (Dev.taskRetry d die).keep ps = d.keep ps := by
  simp only [Part.sub_cons, Part.sub_nil, Bool.and_true, Bool.and_eq_true] at hp
  first | (simp [Dev.taskRetry, hp]; done) | (unfold Dev.taskRetry; repeat' (first | (simp [hp]; done) | (simp [hp, Dev.keep_mk]; done) | split | (simp only []; split) | (refine Dev.keep_each _ _ _ _ (fun _ _ => ?_)) | rfl ))
@[simp] theorem Dev.taskFree_keep (ps : List Part) (d : Dev) (die i : Nat) (hp : Part.sub [.regs, .irq, .msix, .evtDropped, .out, .rck, .fresh] ps = true) :
    (Dev.taskFree d die i).keep ps = d.keep ps := by
  simp only [Part.sub_cons, Part.sub_nil, Bool.and_true, Bool.and_eq_true] at hp
  first | (simp [Dev.taskFree, hp]; done) | (unfold Dev.taskFree; repeat' (first | (simp [hp]; done) | (simp [hp, Dev.keep_mk]; done) | split | (simp only []; split) | (refine Dev.keep_each _ _ _ _ (fun _ _ => ?_)) | rfl ))
@[simp] theorem Dev.setTask_keep (ps : List Part) (d : Dev) (die i : Nat) (t : Task) (hp : Part.sub [.regs, .irq, .msix, .evtDropped, .out, .rck] ps = true) :
    (Dev.setTask d die i t).keep ps = d.keep ps := by
  simp only [Part.sub_cons, Part.sub_nil, Bool.and_true, Bool.and_eq_true] at hp
  first | (simp [Dev.setTask, hp]; done) | (unfold Dev.setTask; repeat' (first | (simp [hp]; done) | (simp [hp, Dev.keep_mk]; done) | split | (simp only []; split) | (refine Dev.keep_each _ _ _ _ (fun _ _ => ?_)) | rfl ))
@[simp] theorem Dev.taskDone_keep (ps : List Part) (d : Dev) (die ty : Nat) (hp : Part.sub [.regs, .irq, .msix, .evtDropped, .out, .rck, .fresh] ps = true) :
    (Dev.taskDone d die ty).keep ps = d.keep ps := by
  simp only [Part.sub_cons, Part.sub_nil, Bool.and_true, Bool.and_eq_true] at hp
  first | (simp [Dev.taskDone, hp]; done) | (unfold Dev.taskDone; repeat' (first | (simp [hp]; done) | (simp [hp, Dev.keep_mk]; done) | split | (simp only []; split) | (refine Dev.keep_each _ _ _ _ (fun _ _ => ?_)) | rfl ))
@[simp] theorem Dev.setReck_keep (ps : List Part) (d : Dev) (k : Nat) (x : Reck) (hp : Part.sub [.rck] ps = true) :
    (Dev.setReck d k x).keep ps = d.keep ps := by
  simp only [Part.sub_cons, Part.sub_nil, Bool.and_true, Bool.and_eq_true] at hp
  first | (simp [Dev.setReck, hp]; done) | (unfold Dev.setReck; repeat' (first | (simp [hp]; done) | (simp [hp, Dev.keep_mk]; done) | split | (simp only []; split) | (refine Dev.keep_each _ _ _ _ (fun _ _ => ?_)) | rfl ))
@[simp] theorem Dev.setKState_keep (ps : List Part) (d : Dev) (k st : Nat) (hp : Part.sub [.regs] ps = true) :
    (Dev.setKState d k st).keep ps = d.keep ps := by
  simp only [Part.sub_cons, Part.sub_nil, Bool.and_true, Bool.and_eq_true] at hp
  first | (simp [Dev.setKState, hp]; done) | (unfold Dev.setKState; repeat' (first | (simp [hp]; done) | (simp [hp, Dev.keep_mk]; done) | split | (simp only []; split) | (refine Dev.keep_each _ _ _ _ (fun _ _ => ?_)) | rfl ))
@[simp] theorem Dev.kRestart_keep (ps : List Part) (d : Dev) (k : Nat) (hp : Part.sub [.regs, .rck] ps = true) :
    (Dev.kRestart d k).keep ps = d.keep ps := by
  simp only [Part.sub_cons, Part.sub_nil, Bool.and_true, Bool.and_eq_true] at hp
  first | (simp [Dev.kRestart, hp]; done) | (unfold Dev.kRestart; repeat' (first | (simp [hp]; done) | (simp [hp, Dev.keep_mk]; done) | split | (simp only []; split) | (refine Dev.keep_each _ _ _ _ (fun _ _ => ?_)) | rfl ))
@[simp] theorem Dev.replyRing_keep (ps : List Part) (d : Dev) (r tag : Nat) (noReply : Bool) (status flags tick : Nat) (result : List Byte) (hp : Part.sub [.regs, .irq, .msix, .out] ps = true) :
    (Dev.replyRing d r tag noReply status flags tick result).keep ps = d.keep ps := by
  simp only [Part.sub_cons, Part.sub_nil, Bool.and_true, Bool.and_eq_true] at hp
  first | (simp [Dev.replyRing, hp]; done) | (unfold Dev.replyRing; repeat' (first | (simp [hp]; done) | (simp [hp, Dev.keep_mk]; done) | split | (simp only []; split) | (refine Dev.keep_each _ _ _ _ (fun _ _ => ?_)) | rfl ))
@[simp] theorem Dev.tagDone_keep (ps : List Part) (d : Dev) (k tag : Nat) (hp : Part.sub [.rck] ps = true) :
    (Dev.tagDone d k tag).keep ps = d.keep ps := by
  simp only [Part.sub_cons, Part.sub_nil, Bool.and_true, Bool.and_eq_true] at hp
  first | (simp [Dev.tagDone, hp]; done) | (unfold Dev.tagDone; repeat' (first | (simp [hp]; done) | (simp [hp, Dev.keep_mk]; done) | split | (simp only []; split) | (refine Dev.keep_each _ _ _ _ (fun _ _ => ?_)) | rfl ))
@[simp] theorem Dev.replyTo_keep (ps : List Part) (d : Dev) (src : CmdSrc) (tag : Nat) (noReply : Bool) (status flags tick : Nat) (result : List Byte) (hp : Part.sub [.regs, .irq, .msix, .evtDropped, .out, .jrn, .path, .nrg, .rck, .dom, .host, .fresh] ps = true) :
    (Dev.replyTo d src tag noReply status flags tick result).keep ps = d.keep ps := by
  simp only [Part.sub_cons, Part.sub_nil, Bool.and_true, Bool.and_eq_true] at hp
  first | (simp [Dev.replyTo, hp]; done) | (unfold Dev.replyTo; repeat' (first | (simp [hp]; done) | (simp [hp, Dev.keep_mk]; done) | split | (simp only []; split) | (refine Dev.keep_each _ _ _ _ (fun _ _ => ?_)) | rfl ))
@[simp] theorem Dev.cmdOut_keep (ps : List Part) (d : Dev) (src : CmdSrc) (pos : Nat) (hp : Part.sub [.regs, .host] ps = true) :
    (Dev.cmdOut d src pos).keep ps = d.keep ps := by
  simp only [Part.sub_cons, Part.sub_nil, Bool.and_true, Bool.and_eq_true] at hp
  first | (simp [Dev.cmdOut, hp]; done) | (unfold Dev.cmdOut; repeat' (first | (simp [hp]; done) | (simp [hp, Dev.keep_mk]; done) | split | (simp only []; split) | (refine Dev.keep_each _ _ _ _ (fun _ _ => ?_)) | rfl ))
@[simp] theorem Dev.ctxReply_keep (ps : List Part) (d : Dev) (c : CmdCtx) (status flags tick : Nat) (result : List Byte) (hp : Part.sub [.regs, .irq, .msix, .evtDropped, .out, .jrn, .path, .nrg, .rck, .dom, .host, .fresh] ps = true) :
    (Dev.ctxReply d c status flags tick result).keep ps = d.keep ps := by
  simp only [Part.sub_cons, Part.sub_nil, Bool.and_true, Bool.and_eq_true] at hp
  first | (simp [Dev.ctxReply, hp]; done) | (unfold Dev.ctxReply; repeat' (first | (simp [hp]; done) | (simp [hp, Dev.keep_mk]; done) | split | (simp only []; split) | (refine Dev.keep_each _ _ _ _ (fun _ _ => ?_)) | rfl ))
@[simp] theorem Dev.cmdBuf_keep (ps : List Part) (d : Dev) (c : CmdCtx) (hp : Part.sub [.regs, .irq, .msix, .evtDropped, .out, .host] ps = true) :
    (Dev.cmdBuf d c).keep ps = d.keep ps := by
  simp only [Part.sub_cons, Part.sub_nil, Bool.and_true, Bool.and_eq_true] at hp
  first | (simp [Dev.cmdBuf, hp]; done) | (unfold Dev.cmdBuf; repeat' (first | (simp [hp]; done) | (simp [hp, Dev.keep_mk]; done) | split | (simp only []; split) | (refine Dev.keep_each _ _ _ _ (fun _ _ => ?_)) | rfl ))
@[simp] theorem Dev.cmdEnd_keep (ps : List Part) (d : Dev) (die i : Nat) (t : Task) (c : CmdCtx) (status flags : Nat) (result : List Byte) (hp : Part.sub [.regs, .irq, .msix, .evtDropped, .out, .jrn, .path, .nrg, .rck, .dom, .host, .fresh] ps = true) :
    (Dev.cmdEnd d die i t c status flags result).keep ps = d.keep ps := by
  simp only [Part.sub_cons, Part.sub_nil, Bool.and_true, Bool.and_eq_true] at hp
  first | (simp [Dev.cmdEnd, hp]; done) | (unfold Dev.cmdEnd; repeat' (first | (simp [hp]; done) | (simp [hp, Dev.keep_mk]; done) | split | (simp only []; split) | (refine Dev.keep_each _ _ _ _ (fun _ _ => ?_)) | rfl ))
@[simp] theorem Dev.reply_keep (ps : List Part) (d : Dev) (h : CmdHdr) (opcode status flags : Nat) (result : List Byte) (hp : Part.sub [.regs, .irq, .msix, .evtDropped, .out, .jrn, .path, .nrg, .rck, .dom, .host, .fresh] ps = true) :
    (Dev.reply d h opcode status flags result).keep ps = d.keep ps := by
  simp only [Part.sub_cons, Part.sub_nil, Bool.and_true, Bool.and_eq_true] at hp
  first | (simp [Dev.reply, hp]; done) | (unfold Dev.reply; repeat' (first | (simp [hp]; done) | (simp [hp, Dev.keep_mk]; done) | split | (simp only []; split) | (refine Dev.keep_each _ _ _ _ (fun _ _ => ?_)) | rfl ))
@[simp] theorem Dev.replySt_keep (ps : List Part) (d : Dev) (h : CmdHdr) (opcode status : Nat) (hp : Part.sub [.regs, .irq, .msix, .evtDropped, .out, .jrn, .path, .nrg, .rck, .dom, .host, .fresh] ps = true) :
    (Dev.replySt d h opcode status).keep ps = d.keep ps := by
  simp only [Part.sub_cons, Part.sub_nil, Bool.and_true, Bool.and_eq_true] at hp
  first | (simp [Dev.replySt, hp]; done) | (unfold Dev.replySt; repeat' (first | (simp [hp]; done) | (simp [hp, Dev.keep_mk]; done) | split | (simp only []; split) | (refine Dev.keep_each _ _ _ _ (fun _ _ => ?_)) | rfl ))
@[simp] theorem Dev.replyLater_keep (ps : List Part) (d : Dev) (src : CmdSrc) (tag opcode status flags : Nat) (result : List Byte) (hp : Part.sub [.regs, .irq, .msix, .evtDropped, .out, .jrn, .path, .nrg, .rck, .dom, .host, .fresh] ps = true) :
    (Dev.replyLater d src tag opcode status flags result).keep ps = d.keep ps := by
  simp only [Part.sub_cons, Part.sub_nil, Bool.and_true, Bool.and_eq_true] at hp
  first | (simp [Dev.replyLater, hp]; done) | (unfold Dev.replyLater; repeat' (first | (simp [hp]; done) | (simp [hp, Dev.keep_mk]; done) | split | (simp only []; split) | (refine Dev.keep_each _ _ _ _ (fun _ _ => ?_)) | rfl ))
@[simp] theorem Dev.taskDiscard_keep (ps : List Part) (d : Dev) (die i k : Nat) (t : Task) (hp : Part.sub [.regs, .irq, .msix, .evtDropped, .out, .jrn, .path, .nrg, .rck, .dom, .host, .fresh] ps = true) :
    (Dev.taskDiscard d die i k t).keep ps = d.keep ps := by
  simp only [Part.sub_cons, Part.sub_nil, Bool.and_true, Bool.and_eq_true] at hp
  first | (simp [Dev.taskDiscard, hp]; done) | (unfold Dev.taskDiscard; repeat' (first | (simp [hp]; done) | (simp [hp, Dev.keep_mk]; done) | split | (simp only []; split) | (refine Dev.keep_each _ _ _ _ (fun _ _ => ?_)) | rfl ))
@[simp] theorem Dev.operand_keep (ps : List Part) (d : Dev) (tag v : Nat) (hp : Part.sub [.regs, .irq, .msix, .evtDropped, .out, .rck] ps = true) :
    (Dev.operand d tag v).keep ps = d.keep ps := by
  simp only [Part.sub_cons, Part.sub_nil, Bool.and_true, Bool.and_eq_true] at hp
  first | (simp [Dev.operand, hp]; done) | (unfold Dev.operand; repeat' (first | (simp [hp]; done) | (simp [hp, Dev.keep_mk]; done) | split | (simp only []; split) | (refine Dev.keep_each _ _ _ _ (fun _ _ => ?_)) | rfl ))
@[simp] theorem Dev.nrgRing_keep (ps : List Part) (d : Dev) (bs : List Byte) (hp : Part.sub [.regs, .nrg] ps = true) :
    (Dev.nrgRing d bs).keep ps = d.keep ps := by
  simp only [Part.sub_cons, Part.sub_nil, Bool.and_true, Bool.and_eq_true] at hp
  first | (simp [Dev.nrgRing, hp]; done) | (unfold Dev.nrgRing; repeat' (first | (simp [hp]; done) | (simp [hp, Dev.keep_mk]; done) | split | (simp only []; split) | (refine Dev.keep_each _ _ _ _ (fun _ _ => ?_)) | rfl ))
@[simp] theorem Dev.nrgCheck_keep (ps : List Part) (d : Dev) (sensor estim : Nat) (hp : Part.sub [.regs, .irq, .msix, .evtDropped, .out, .nrg] ps = true) :
    (Dev.nrgCheck d sensor estim).keep ps = d.keep ps := by
  simp only [Part.sub_cons, Part.sub_nil, Bool.and_true, Bool.and_eq_true] at hp
  first | (simp [Dev.nrgCheck, hp]; done) | (unfold Dev.nrgCheck; repeat' (first | (simp [hp]; done) | (simp [hp, Dev.keep_mk]; done) | split | (simp only []; split) | (refine Dev.keep_each _ _ _ _ (fun _ _ => ?_)) | rfl ))
@[simp] theorem Dev.nrgRegs_keep (ps : List Part) (d : Dev) (e : RodEnergy) (rod : Nat) (hp : Part.sub [.regs] ps = true) :
    (Dev.nrgRegs d e rod).keep ps = d.keep ps := by
  simp only [Part.sub_cons, Part.sub_nil, Bool.and_true, Bool.and_eq_true] at hp
  first | (simp [Dev.nrgRegs, hp]; done) | (unfold Dev.nrgRegs; repeat' (first | (simp [hp]; done) | (simp [hp, Dev.keep_mk]; done) | split | (simp only []; split) | (refine Dev.keep_each _ _ _ _ (fun _ _ => ?_)) | rfl ))
@[simp] theorem Dev.nrgKeep_keep (ps : List Part) (d : Dev) (bs : List Byte) (m : RodMeas) (run : Nat) (hp : Part.sub [.nrg, .fresh] ps = true) :
    (Dev.nrgKeep d bs m run).keep ps = d.keep ps := by
  simp only [Part.sub_cons, Part.sub_nil, Bool.and_true, Bool.and_eq_true] at hp
  first | (simp [Dev.nrgKeep, hp]; done) | (unfold Dev.nrgKeep; repeat' (first | (simp [hp]; done) | (simp [hp, Dev.keep_mk]; done) | split | (simp only []; split) | (refine Dev.keep_each _ _ _ _ (fun _ _ => ?_)) | rfl ))
@[simp] theorem Dev.nrgClose_keep (ps : List Part) (d : Dev) (e : RodEnergy) (hp : Part.sub [.regs, .irq, .msix, .evtDropped, .out, .nrg, .fresh] ps = true) :
    (Dev.nrgClose d e).keep ps = d.keep ps := by
  simp only [Part.sub_cons, Part.sub_nil, Bool.and_true, Bool.and_eq_true] at hp
  first | (simp [Dev.nrgClose, hp]; done) | (unfold Dev.nrgClose; repeat' (first | (simp [hp]; done) | (simp [hp, Dev.keep_mk]; done) | split | (simp only []; split) | (refine Dev.keep_each _ _ _ _ (fun _ _ => ?_)) | rfl ))
@[simp] theorem Dev.nrgPlan_keep (ps : List Part) (d : Dev) (demand : List Nat) (hp : Part.sub [.nrg, .fresh] ps = true) :
    (Dev.nrgPlan d demand).keep ps = d.keep ps := by
  simp only [Part.sub_cons, Part.sub_nil, Bool.and_true, Bool.and_eq_true] at hp
  first | (simp [Dev.nrgPlan, hp]; done) | (unfold Dev.nrgPlan; repeat' (first | (simp [hp]; done) | (simp [hp, Dev.keep_mk]; done) | split | (simp only []; split) | (refine Dev.keep_each _ _ _ _ (fun _ _ => ?_)) | rfl ))
@[simp] theorem Dev.nrgReuse_keep (ps : List Part) (d : Dev) (hp : Part.sub [.regs, .irq, .msix, .out, .nrg] ps = true) :
    (Dev.nrgReuse d ).keep ps = d.keep ps := by
  simp only [Part.sub_cons, Part.sub_nil, Bool.and_true, Bool.and_eq_true] at hp
  first | (simp [Dev.nrgReuse, hp]; done) | (unfold Dev.nrgReuse; repeat' (first | (simp [hp]; done) | (simp [hp, Dev.keep_mk]; done) | split | (simp only []; split) | (refine Dev.keep_each _ _ _ _ (fun _ _ => ?_)) | rfl ))
@[simp] theorem Dev.nrgXoff_keep (ps : List Part) (d : Dev) (hp : Part.sub [.regs, .out, .nrg] ps = true) :
    (Dev.nrgXoff d ).keep ps = d.keep ps := by
  simp only [Part.sub_cons, Part.sub_nil, Bool.and_true, Bool.and_eq_true] at hp
  first | (simp [Dev.nrgXoff, hp]; done) | (unfold Dev.nrgXoff; repeat' (first | (simp [hp]; done) | (simp [hp, Dev.keep_mk]; done) | split | (simp only []; split) | (refine Dev.keep_each _ _ _ _ (fun _ _ => ?_)) | rfl ))
@[simp] theorem Dev.nrgApply_keep (ps : List Part) (d : Dev) (hp : Part.sub [.regs, .irq, .msix, .evtDropped, .out, .nrg, .rck, .fresh] ps = true) :
    (Dev.nrgApply d ).keep ps = d.keep ps := by
  simp only [Part.sub_cons, Part.sub_nil, Bool.and_true, Bool.and_eq_true] at hp
  first | (simp [Dev.nrgApply, hp]; done) | (unfold Dev.nrgApply; repeat' (first | (simp [hp]; done) | (simp [hp, Dev.keep_mk]; done) | split | (simp only []; split) | (refine Dev.keep_each _ _ _ _ (fun _ _ => ?_)) | rfl ))
@[simp] theorem Dev.limitWrite_keep (ps : List Part) (d : Dev) (v : Nat) (hp : Part.sub [.regs] ps = true) :
    (Dev.limitWrite d v).keep ps = d.keep ps := by
  simp only [Part.sub_cons, Part.sub_nil, Bool.and_true, Bool.and_eq_true] at hp
  first | (simp [Dev.limitWrite, hp]; done) | (unfold Dev.limitWrite; repeat' (first | (simp [hp]; done) | (simp [hp, Dev.keep_mk]; done) | split | (simp only []; split) | (refine Dev.keep_each _ _ _ _ (fun _ _ => ?_)) | rfl ))
@[simp] theorem Dev.jrnStore_keep (ps : List Part) (d : Dev) (die n : Nat) (hp : Part.sub [.regs, .jrn] ps = true) :
    (Dev.jrnStore d die n).keep ps = d.keep ps := by
  simp only [Part.sub_cons, Part.sub_nil, Bool.and_true, Bool.and_eq_true] at hp
  first | (simp [Dev.jrnStore, hp]; done) | (unfold Dev.jrnStore; repeat' (first | (simp [hp]; done) | (simp [hp, Dev.keep_mk]; done) | split | (simp only []; split) | (refine Dev.keep_each _ _ _ _ (fun _ _ => ?_)) | rfl ))
@[simp] theorem Dev.sumJudge_keep (ps : List Part) (d : Dev) (hp : Part.sub [.regs, .irq, .msix, .evtDropped, .out] ps = true) :
    (Dev.sumJudge d ).keep ps = d.keep ps := by
  simp only [Part.sub_cons, Part.sub_nil, Bool.and_true, Bool.and_eq_true] at hp
  first | (simp [Dev.sumJudge, hp]; done) | (unfold Dev.sumJudge; repeat' (first | (simp [hp]; done) | (simp [hp, Dev.keep_mk]; done) | split | (simp only []; split) | (refine Dev.keep_each _ _ _ _ (fun _ _ => ?_)) | rfl ))
@[simp] theorem Dev.childPut_keep (ps : List Part) (d : Dev) (deck dev status : Nat) (c : List Byte) (hp : Part.sub [.regs, .irq, .msix, .evtDropped, .out, .jrn] ps = true) :
    (Dev.childPut d deck dev status c).keep ps = d.keep ps := by
  simp only [Part.sub_cons, Part.sub_nil, Bool.and_true, Bool.and_eq_true] at hp
  first | (simp [Dev.childPut, hp]; done) | (unfold Dev.childPut; repeat' (first | (simp [hp]; done) | (simp [hp, Dev.keep_mk]; done) | split | (simp only []; split) | (refine Dev.keep_each _ _ _ _ (fun _ _ => ?_)) | rfl ))
@[simp] theorem Dev.sumUp_keep (ps : List Part) (d : Dev) (deck flags : Nat) (c : List Byte) (hp : Part.sub [.regs, .irq, .msix, .evtDropped, .out, .jrn, .path, .nrg, .dom, .host, .fresh] ps = true) :
    (Dev.sumUp d deck flags c).keep ps = d.keep ps := by
  simp only [Part.sub_cons, Part.sub_nil, Bool.and_true, Bool.and_eq_true] at hp
  first | (simp [Dev.sumUp, hp]; done) | (unfold Dev.sumUp; repeat' (first | (simp [hp]; done) | (simp [hp, Dev.keep_mk]; done) | split | (simp only []; split) | (refine Dev.keep_each _ _ _ _ (fun _ _ => ?_)) | rfl ))
@[simp] theorem Dev.sumStore_keep (ps : List Part) (d : Dev) (c : ClosedSet) (hp : Part.sub [.regs, .irq, .msix, .evtDropped, .out, .jrn, .path, .nrg, .dom, .host, .fresh] ps = true) :
    (Dev.sumStore d c).keep ps = d.keep ps := by
  simp only [Part.sub_cons, Part.sub_nil, Bool.and_true, Bool.and_eq_true] at hp
  first | (simp [Dev.sumStore, hp]; done) | (unfold Dev.sumStore; repeat' (first | (simp [hp]; done) | (simp [hp, Dev.keep_mk]; done) | split | (simp only []; split) | (refine Dev.keep_each _ _ _ _ (fun _ _ => ?_)) | rfl ))
@[simp] theorem Dev.setClosed_keep (ps : List Part) (d : Dev) (deck : Nat) (g : ClosedSet → ClosedSet) (hp : Part.sub [.jrn] ps = true) :
    (Dev.setClosed d deck g).keep ps = d.keep ps := by
  simp only [Part.sub_cons, Part.sub_nil, Bool.and_true, Bool.and_eq_true] at hp
  first | (simp [Dev.setClosed, hp]; done) | (unfold Dev.setClosed; repeat' (first | (simp [hp]; done) | (simp [hp, Dev.keep_mk]; done) | split | (simp only []; split) | (refine Dev.keep_each _ _ _ _ (fun _ _ => ?_)) | rfl ))
@[simp] theorem Dev.jrnClose_keep (ps : List Part) (d : Dev) (flags : Nat) (hp : Part.sub [.regs, .irq, .msix, .evtDropped, .out, .jrn, .rck, .fresh] ps = true) :
    (Dev.jrnClose d flags).keep ps = d.keep ps := by
  simp only [Part.sub_cons, Part.sub_nil, Bool.and_true, Bool.and_eq_true] at hp
  first | (simp [Dev.jrnClose, hp]; done) | (unfold Dev.jrnClose; repeat' (first | (simp [hp]; done) | (simp [hp, Dev.keep_mk]; done) | split | (simp only []; split) | (refine Dev.keep_each _ _ _ _ (fun _ _ => ?_)) | rfl ))
@[simp] theorem Dev.gapMark_keep (ps : List Part) (d : Dev) (die : Nat) (hp : Part.sub [.regs, .jrn] ps = true) :
    (Dev.gapMark d die).keep ps = d.keep ps := by
  simp only [Part.sub_cons, Part.sub_nil, Bool.and_true, Bool.and_eq_true] at hp
  first | (simp [Dev.gapMark, hp]; done) | (unfold Dev.gapMark; repeat' (first | (simp [hp]; done) | (simp [hp, Dev.keep_mk]; done) | split | (simp only []; split) | (refine Dev.keep_each _ _ _ _ (fun _ _ => ?_)) | rfl ))
@[simp] theorem Dev.jrnStart_keep (ps : List Part) (d : Dev) (hp : Part.sub [.regs, .jrn] ps = true) :
    (Dev.jrnStart d ).keep ps = d.keep ps := by
  simp only [Part.sub_cons, Part.sub_nil, Bool.and_true, Bool.and_eq_true] at hp
  first | (simp [Dev.jrnStart, hp]; done) | (unfold Dev.jrnStart; repeat' (first | (simp [hp]; done) | (simp [hp, Dev.keep_mk]; done) | split | (simp only []; split) | (refine Dev.keep_each _ _ _ _ (fun _ _ => ?_)) | rfl ))
@[simp] theorem Dev.jrnCtrlWrite_keep (ps : List Part) (d : Dev) (v : Nat) (hp : Part.sub [.regs] ps = true) :
    (Dev.jrnCtrlWrite d v).keep ps = d.keep ps := by
  simp only [Part.sub_cons, Part.sub_nil, Bool.and_true, Bool.and_eq_true] at hp
  first | (simp [Dev.jrnCtrlWrite, hp]; done) | (unfold Dev.jrnCtrlWrite; repeat' (first | (simp [hp]; done) | (simp [hp, Dev.keep_mk]; done) | split | (simp only []; split) | (refine Dev.keep_each _ _ _ _ (fun _ _ => ?_)) | rfl ))
@[simp] theorem Dev.jrnRdWrite_keep (ps : List Part) (d : Dev) (die v : Nat) (hp : Part.sub [.regs, .irq, .msix, .evtDropped, .out, .jrn] ps = true) :
    (Dev.jrnRdWrite d die v).keep ps = d.keep ps := by
  simp only [Part.sub_cons, Part.sub_nil, Bool.and_true, Bool.and_eq_true] at hp
  first | (simp [Dev.jrnRdWrite, hp]; done) | (unfold Dev.jrnRdWrite; repeat' (first | (simp [hp]; done) | (simp [hp, Dev.keep_mk]; done) | split | (simp only []; split) | (refine Dev.keep_each _ _ _ _ (fun _ _ => ?_)) | rfl ))
@[simp] theorem Dev.jrnFrameSent_keep (ps : List Part) (d : Dev) (f : Nat) (hp : Part.sub [.regs, .irq, .msix, .evtDropped, .out, .jrn] ps = true) :
    (Dev.jrnFrameSent d f).keep ps = d.keep ps := by
  simp only [Part.sub_cons, Part.sub_nil, Bool.and_true, Bool.and_eq_true] at hp
  first | (simp [Dev.jrnFrameSent, hp]; done) | (unfold Dev.jrnFrameSent; repeat' (first | (simp [hp]; done) | (simp [hp, Dev.keep_mk]; done) | split | (simp only []; split) | (refine Dev.keep_each _ _ _ _ (fun _ _ => ?_)) | rfl ))
@[simp] theorem Dev.timQueue_keep (ps : List Part) (d : Dev) (p : Nat) (bs : List Byte) (ts unc : Nat) (hp : Part.sub [.regs, .irq, .msix, .evtDropped, .out, .rck, .tim, .fresh] ps = true) :
    (Dev.timQueue d p bs ts unc).keep ps = d.keep ps := by
  simp only [Part.sub_cons, Part.sub_nil, Bool.and_true, Bool.and_eq_true] at hp
  first | (simp [Dev.timQueue, hp]; done) | (unfold Dev.timQueue; repeat' (first | (simp [hp]; done) | (simp [hp, Dev.keep_mk]; done) | split | (simp only []; split) | (refine Dev.keep_each _ _ _ _ (fun _ _ => ?_)) | rfl ))
@[simp] theorem Dev.setDomQ_keep (ps : List Part) (d : Dev) (die : Nat) (l : List DomFrame) (hp : Part.sub [.dom] ps = true) :
    (Dev.setDomQ d die l).keep ps = d.keep ps := by
  simp only [Part.sub_cons, Part.sub_nil, Bool.and_true, Bool.and_eq_true] at hp
  first | (simp [Dev.setDomQ, hp]; done) | (unfold Dev.setDomQ; repeat' (first | (simp [hp]; done) | (simp [hp, Dev.keep_mk]; done) | split | (simp only []; split) | (refine Dev.keep_each _ _ _ _ (fun _ _ => ?_)) | rfl ))
@[simp] theorem Dev.domDrop_keep (ps : List Part) (d : Dev) (p type : Nat) (hp : Part.sub [.regs, .irq, .msix, .evtDropped, .out, .rck, .dom, .fresh] ps = true) :
    (Dev.domDrop d p type).keep ps = d.keep ps := by
  simp only [Part.sub_cons, Part.sub_nil, Bool.and_true, Bool.and_eq_true] at hp
  first | (simp [Dev.domDrop, hp]; done) | (unfold Dev.domDrop; repeat' (first | (simp [hp]; done) | (simp [hp, Dev.keep_mk]; done) | split | (simp only []; split) | (refine Dev.keep_each _ _ _ _ (fun _ _ => ?_)) | rfl ))
@[simp] theorem Dev.floodOn_keep (ps : List Part) (d : Dev) (p : Nat) (bs : List Byte) (hp : Part.sub [.regs, .irq, .msix, .evtDropped, .out, .jrn, .path, .nrg, .dom, .host, .fresh] ps = true) :
    (Dev.floodOn d p bs).keep ps = d.keep ps := by
  simp only [Part.sub_cons, Part.sub_nil, Bool.and_true, Bool.and_eq_true] at hp
  first | (simp [Dev.floodOn, hp]; done) | (unfold Dev.floodOn; repeat' (first | (simp [hp]; done) | (simp [hp, Dev.keep_mk]; done) | split | (simp only []; split) | (refine Dev.keep_each _ _ _ _ (fun _ _ => ?_)) | rfl ))
@[simp] theorem Dev.domQueue_keep (ps : List Part) (d : Dev) (p : Nat) (bs : List Byte) (hp : Part.sub [.regs, .irq, .msix, .evtDropped, .out, .jrn, .path, .nrg, .rck, .dom, .host, .fresh] ps = true) :
    (Dev.domQueue d p bs).keep ps = d.keep ps := by
  simp only [Part.sub_cons, Part.sub_nil, Bool.and_true, Bool.and_eq_true] at hp
  first | (simp [Dev.domQueue, hp]; done) | (unfold Dev.domQueue; repeat' (first | (simp [hp]; done) | (simp [hp, Dev.keep_mk]; done) | split | (simp only []; split) | (refine Dev.keep_each _ _ _ _ (fun _ _ => ?_)) | rfl ))
@[simp] theorem Dev.setPortShaper_keep (ps : List Part) (d : Dev) (p : Nat) (s : Shaper) (hp : Part.sub [.path] ps = true) :
    (Dev.setPortShaper d p s).keep ps = d.keep ps := by
  simp only [Part.sub_cons, Part.sub_nil, Bool.and_true, Bool.and_eq_true] at hp
  first | (simp [Dev.setPortShaper, hp]; done) | (unfold Dev.setPortShaper; repeat' (first | (simp [hp]; done) | (simp [hp, Dev.keep_mk]; done) | split | (simp only []; split) | (refine Dev.keep_each _ _ _ _ (fun _ _ => ?_)) | rfl ))
@[simp] theorem Dev.wheelCnt_keep (ps : List Part) (d : Dev) (die : Nat) (s : Shaper) (hp : Part.sub [.regs] ps = true) :
    (Dev.wheelCnt d die s).keep ps = d.keep ps := by
  simp only [Part.sub_cons, Part.sub_nil, Bool.and_true, Bool.and_eq_true] at hp
  first | (simp [Dev.wheelCnt, hp]; done) | (unfold Dev.wheelCnt; repeat' (first | (simp [hp]; done) | (simp [hp, Dev.keep_mk]; done) | split | (simp only []; split) | (refine Dev.keep_each _ _ _ _ (fun _ _ => ?_)) | rfl ))
@[simp] theorem Dev.schReport_keep (ps : List Part) (d : Dev) (die q : Nat) (hp : Part.sub [.regs] ps = true) :
    (Dev.schReport d die q).keep ps = d.keep ps := by
  simp only [Part.sub_cons, Part.sub_nil, Bool.and_true, Bool.and_eq_true] at hp
  first | (simp [Dev.schReport, hp]; done) | (unfold Dev.schReport; repeat' (first | (simp [hp]; done) | (simp [hp, Dev.keep_mk]; done) | split | (simp only []; split) | (refine Dev.keep_each _ _ _ _ (fun _ _ => ?_)) | rfl ))
@[simp] theorem Dev.wheelRefillQ_keep (ps : List Part) (d : Dev) (die q : Nat) (hp : Part.sub [.regs, .irq, .msix, .evtDropped, .out, .path] ps = true) :
    (Dev.wheelRefillQ d die q).keep ps = d.keep ps := by
  simp only [Part.sub_cons, Part.sub_nil, Bool.and_true, Bool.and_eq_true] at hp
  first | (simp [Dev.wheelRefillQ, hp]; done) | (unfold Dev.wheelRefillQ; repeat' (first | (simp [hp]; done) | (simp [hp, Dev.keep_mk]; done) | split | (simp only []; split) | (refine Dev.keep_each _ _ _ _ (fun _ _ => ?_)) | rfl ))
@[simp] theorem Dev.wheelRefillP_keep (ps : List Part) (d : Dev) (p : Nat) (hp : Part.sub [.regs, .irq, .msix, .evtDropped, .out, .path] ps = true) :
    (Dev.wheelRefillP d p).keep ps = d.keep ps := by
  simp only [Part.sub_cons, Part.sub_nil, Bool.and_true, Bool.and_eq_true] at hp
  first | (simp [Dev.wheelRefillP, hp]; done) | (unfold Dev.wheelRefillP; repeat' (first | (simp [hp]; done) | (simp [hp, Dev.keep_mk]; done) | split | (simp only []; split) | (refine Dev.keep_each _ _ _ _ (fun _ _ => ?_)) | rfl ))
@[simp] theorem Dev.wheelRefill_keep (ps : List Part) (d : Dev) (die i : Nat) (hp : Part.sub [.regs, .irq, .msix, .evtDropped, .out, .path] ps = true) :
    (Dev.wheelRefill d die i).keep ps = d.keep ps := by
  simp only [Part.sub_cons, Part.sub_nil, Bool.and_true, Bool.and_eq_true] at hp
  first | (simp [Dev.wheelRefill, hp]; done) | (unfold Dev.wheelRefill; repeat' (first | (simp [hp]; done) | (simp [hp, Dev.keep_mk]; done) | split | (simp only []; split) | (refine Dev.keep_each _ _ _ _ (fun _ _ => ?_)) | rfl ))
@[simp] theorem Dev.refillPass_keep (ps : List Part) (d : Dev) (die : Nat) (hp : Part.sub [.regs, .irq, .msix, .evtDropped, .out, .path] ps = true) :
    (Dev.refillPass d die).keep ps = d.keep ps := by
  simp only [Part.sub_cons, Part.sub_nil, Bool.and_true, Bool.and_eq_true] at hp
  first | (simp [Dev.refillPass, hp]; done) | (unfold Dev.refillPass; repeat' (first | (simp [hp]; done) | (simp [hp, Dev.keep_mk]; done) | split | (simp only []; split) | (refine Dev.keep_each _ _ _ _ (fun _ _ => ?_)) | rfl ))
@[simp] theorem Dev.coarseStep_keep (ps : List Part) (d : Dev) (die : Nat) (hp : Part.sub [.regs, .path] ps = true) :
    (Dev.coarseStep d die).keep ps = d.keep ps := by
  simp only [Part.sub_cons, Part.sub_nil, Bool.and_true, Bool.and_eq_true] at hp
  first | (simp [Dev.coarseStep, hp]; done) | (unfold Dev.coarseStep; repeat' (first | (simp [hp]; done) | (simp [hp, Dev.keep_mk]; done) | split | (simp only []; split) | (refine Dev.keep_each _ _ _ _ (fun _ _ => ?_)) | rfl ))
@[simp] theorem Dev.dequeueDrop_keep (ps : List Part) (d : Dev) (c : Copy) (reason : Nat) (eport : Nat) (late : Bool) (hp : Part.sub [.regs, .irq, .msix, .evtDropped, .out, .jrn, .path, .host] ps = true) :
    (Dev.dequeueDrop d c reason eport late).keep ps = d.keep ps := by
  simp only [Part.sub_cons, Part.sub_nil, Bool.and_true, Bool.and_eq_true] at hp
  first | (simp [Dev.dequeueDrop, hp]; done) | (unfold Dev.dequeueDrop; repeat' (first | (simp [hp]; done) | (simp [hp, Dev.keep_mk]; done) | split | (simp only []; split) | (refine Dev.keep_each _ _ _ _ (fun _ _ => ?_)) | rfl ))
@[simp] theorem Dev.sendRecord_keep (ps : List Part) (d : Dev) (c : Copy) (tx stamp : Nat) (late : Bool) (hp : Part.sub [.regs, .irq, .msix, .evtDropped, .out, .jrn, .path] ps = true) :
    (Dev.sendRecord d c tx stamp late).1.keep ps = d.keep ps := by
  simp only [Part.sub_cons, Part.sub_nil, Bool.and_true, Bool.and_eq_true] at hp
  first | (simp [Dev.sendRecord, hp]; done) | (unfold Dev.sendRecord; repeat' (first | (simp [hp]; done) | (simp [hp, Dev.keep_mk]; done) | split | (simp only []; split) | (refine Dev.keep_each _ _ _ _ (fun _ _ => ?_)) | rfl ))
@[simp] theorem Dev.guardHold_keep (ps : List Part) (d : Dev) (p q : Nat) (hp : Part.sub [.regs, .path] ps = true) :
    (Dev.guardHold d p q).keep ps = d.keep ps := by
  simp only [Part.sub_cons, Part.sub_nil, Bool.and_true, Bool.and_eq_true] at hp
  first | (simp [Dev.guardHold, hp]; done) | (unfold Dev.guardHold; repeat' (first | (simp [hp]; done) | (simp [hp, Dev.keep_mk]; done) | split | (simp only []; split) | (refine Dev.keep_each _ _ _ _ (fun _ _ => ?_)) | rfl ))
@[simp] theorem Dev.choose_keep (ps : List Part) (d : Dev) (p tx : Nat) (pg : Option Nat) (dt : Nat) (hp : Part.sub [.regs, .path] ps = true) :
    (Dev.choose d p tx pg dt).1.keep ps = d.keep ps := by
  simp only [Part.sub_cons, Part.sub_nil, Bool.and_true, Bool.and_eq_true] at hp
  first | (simp [Dev.choose, hp]; done) | (unfold Dev.choose; repeat' (first | (simp [hp]; done) | (simp [hp, Dev.keep_mk]; done) | split | (simp only []; split) | (refine Dev.keep_each _ _ _ _ (fun _ _ => ?_)) | rfl ))
@[simp] theorem Dev.popHead_keep (ps : List Part) (d : Dev) (p q : Nat) (hp : Part.sub [.path] ps = true) :
    (Dev.popHead d p q).keep ps = d.keep ps := by
  simp only [Part.sub_cons, Part.sub_nil, Bool.and_true, Bool.and_eq_true] at hp
  first | (simp [Dev.popHead, hp]; done) | (unfold Dev.popHead; repeat' (first | (simp [hp]; done) | (simp [hp, Dev.keep_mk]; done) | split | (simp only []; split) | (refine Dev.keep_each _ _ _ _ (fun _ _ => ?_)) | rfl ))
@[simp] theorem Dev.chargeCopy_keep (ps : List Part) (d : Dev) (p q cls n : Nat) (hp : Part.sub [.regs, .path] ps = true) :
    (Dev.chargeCopy d p q cls n).keep ps = d.keep ps := by
  simp only [Part.sub_cons, Part.sub_nil, Bool.and_true, Bool.and_eq_true] at hp
  first | (simp [Dev.chargeCopy, hp]; done) | (unfold Dev.chargeCopy; repeat' (first | (simp [hp]; done) | (simp [hp, Dev.keep_mk]; done) | split | (simp only []; split) | (refine Dev.keep_each _ _ _ _ (fun _ _ => ?_)) | rfl ))
@[simp] theorem Dev.correctCharge_keep (ps : List Part) (d : Dev) (p q cls charged true_ epoch : Nat) (hp : Part.sub [.regs, .path] ps = true) :
    (Dev.correctCharge d p q cls charged true_ epoch).keep ps = d.keep ps := by
  simp only [Part.sub_cons, Part.sub_nil, Bool.and_true, Bool.and_eq_true] at hp
  first | (simp [Dev.correctCharge, hp]; done) | (unfold Dev.correctCharge; repeat' (first | (simp [hp]; done) | (simp [hp, Dev.keep_mk]; done) | split | (simp only []; split) | (refine Dev.keep_each _ _ _ _ (fun _ _ => ?_)) | rfl ))
@[simp] theorem Dev.setTx_keep (ps : List Part) (d : Dev) (p : Nat) (x : Option TxSt) (hp : Part.sub [.path] ps = true) :
    (Dev.setTx d p x).keep ps = d.keep ps := by
  simp only [Part.sub_cons, Part.sub_nil, Bool.and_true, Bool.and_eq_true] at hp
  first | (simp [Dev.setTx, hp]; done) | (unfold Dev.setTx; repeat' (first | (simp [hp]; done) | (simp [hp, Dev.keep_mk]; done) | split | (simp only []; split) | (refine Dev.keep_each _ _ _ _ (fun _ _ => ?_)) | rfl ))
@[simp] theorem Dev.lvlTake_keep (ps : List Part) (d : Dev) (c : Copy) (hp : Part.sub [.regs, .path] ps = true) :
    (Dev.lvlTake d c).keep ps = d.keep ps := by
  simp only [Part.sub_cons, Part.sub_nil, Bool.and_true, Bool.and_eq_true] at hp
  first | (simp [Dev.lvlTake, hp]; done) | (unfold Dev.lvlTake; repeat' (first | (simp [hp]; done) | (simp [hp, Dev.keep_mk]; done) | split | (simp only []; split) | (refine Dev.keep_each _ _ _ _ (fun _ _ => ?_)) | rfl ))
@[simp] theorem Dev.setLvlState_keep (ps : List Part) (d : Dev) (g st : Nat) (hp : Part.sub [.regs] ps = true) :
    (Dev.setLvlState d g st).keep ps = d.keep ps := by
  simp only [Part.sub_cons, Part.sub_nil, Bool.and_true, Bool.and_eq_true] at hp
  first | (simp [Dev.setLvlState, hp]; done) | (unfold Dev.setLvlState; repeat' (first | (simp [hp]; done) | (simp [hp, Dev.keep_mk]; done) | split | (simp only []; split) | (refine Dev.keep_each _ _ _ _ (fun _ _ => ?_)) | rfl ))
@[simp] theorem Dev.lvlDrained_keep (ps : List Part) (d : Dev) (g : Nat) (hp : Part.sub [.regs] ps = true) :
    (Dev.lvlDrained d g).keep ps = d.keep ps := by
  simp only [Part.sub_cons, Part.sub_nil, Bool.and_true, Bool.and_eq_true] at hp
  first | (simp [Dev.lvlDrained, hp]; done) | (unfold Dev.lvlDrained; repeat' (first | (simp [hp]; done) | (simp [hp, Dev.keep_mk]; done) | split | (simp only []; split) | (refine Dev.keep_each _ _ _ _ (fun _ _ => ?_)) | rfl ))
@[simp] theorem Dev.lvlQState_keep (ps : List Part) (d : Dev) (i : Nat) (hp : Part.sub [.regs] ps = true) :
    (Dev.lvlQState d i).keep ps = d.keep ps := by
  simp only [Part.sub_cons, Part.sub_nil, Bool.and_true, Bool.and_eq_true] at hp
  first | (simp [Dev.lvlQState, hp]; done) | (unfold Dev.lvlQState; repeat' (first | (simp [hp]; done) | (simp [hp, Dev.keep_mk]; done) | split | (simp only []; split) | (refine Dev.keep_each _ _ _ _ (fun _ _ => ?_)) | rfl ))
@[simp] theorem Dev.rmdReport_keep (ps : List Part) (d : Dev) (die : Nat) (hp : Part.sub [.regs] ps = true) :
    (Dev.rmdReport d die).keep ps = d.keep ps := by
  simp only [Part.sub_cons, Part.sub_nil, Bool.and_true, Bool.and_eq_true] at hp
  first | (simp [Dev.rmdReport, hp]; done) | (unfold Dev.rmdReport; repeat' (first | (simp [hp]; done) | (simp [hp, Dev.keep_mk]; done) | split | (simp only []; split) | (refine Dev.keep_each _ _ _ _ (fun _ _ => ?_)) | rfl ))
@[simp] theorem Dev.injectNote_keep (ps : List Part) (d : Dev) (f : Nat) (hp : Part.sub [.regs, .irq, .msix, .evtDropped, .out, .rck, .fresh] ps = true) :
    (Dev.injectNote d f).keep ps = d.keep ps := by
  simp only [Part.sub_cons, Part.sub_nil, Bool.and_true, Bool.and_eq_true] at hp
  first | (simp [Dev.injectNote, hp]; done) | (unfold Dev.injectNote; repeat' (first | (simp [hp]; done) | (simp [hp, Dev.keep_mk]; done) | split | (simp only []; split) | (refine Dev.keep_each _ _ _ _ (fun _ _ => ?_)) | rfl ))
@[simp] theorem Dev.rmdEnqueue_keep (ps : List Part) (d : Dev) (k : Pkt) (reason : Nat) (staged : Bool) (hp : Part.sub [.regs, .irq, .msix, .evtDropped, .out, .path, .rck, .fresh] ps = true) :
    (Dev.rmdEnqueue d k reason staged).keep ps = d.keep ps := by
  simp only [Part.sub_cons, Part.sub_nil, Bool.and_true, Bool.and_eq_true] at hp
  first | (simp [Dev.rmdEnqueue, hp]; done) | (unfold Dev.rmdEnqueue; repeat' (first | (simp [hp]; done) | (simp [hp, Dev.keep_mk]; done) | split | (simp only []; split) | (refine Dev.keep_each _ _ _ _ (fun _ _ => ?_)) | rfl ))
@[simp] theorem Dev.replEnqueue_keep (ps : List Part) (d : Dev) (die : Nat) (x : Repl) (hp : Part.sub [.regs, .irq, .msix, .evtDropped, .out, .jrn, .path, .nrg] ps = true) :
    (Dev.replEnqueue d die x).keep ps = d.keep ps := by
  simp only [Part.sub_cons, Part.sub_nil, Bool.and_true, Bool.and_eq_true] at hp
  first | (simp [Dev.replEnqueue, hp]; done) | (unfold Dev.replEnqueue; repeat' (first | (simp [hp]; done) | (simp [hp, Dev.keep_mk]; done) | split | (simp only []; split) | (refine Dev.keep_each _ _ _ _ (fun _ _ => ?_)) | rfl ))
@[simp] theorem Dev.multicast_keep (ps : List Part) (d : Dev) (k : Pkt) (hp : Part.sub [.regs, .irq, .msix, .evtDropped, .out, .jrn, .path, .nrg] ps = true) :
    (Dev.multicast d k).keep ps = d.keep ps := by
  simp only [Part.sub_cons, Part.sub_nil, Bool.and_true, Bool.and_eq_true] at hp
  first | (simp [Dev.multicast, hp]; done) | (unfold Dev.multicast; repeat' (first | (simp [hp]; done) | (simp [hp, Dev.keep_mk]; done) | split | (simp only []; split) | (refine Dev.keep_each _ _ _ _ (fun _ _ => ?_)) | rfl ))
@[simp] theorem Dev.forward_keep (ps : List Part) (d : Dev) (k : Pkt) (hp : Part.sub [.regs, .irq, .msix, .evtDropped, .out, .jrn, .path, .nrg, .fresh] ps = true) :
    (Dev.forward d k).keep ps = d.keep ps := by
  simp only [Part.sub_cons, Part.sub_nil, Bool.and_true, Bool.and_eq_true] at hp
  first | (simp [Dev.forward, hp]; done) | (unfold Dev.forward; repeat' (first | (simp [hp]; done) | (simp [hp, Dev.keep_mk]; done) | split | (simp only []; split) | (refine Dev.keep_each _ _ _ _ (fun _ _ => ?_)) | rfl ))
@[simp] theorem Dev.lateRecord_keep (ps : List Part) (d : Dev) (k : Pkt) (forwarded : Bool) (hp : Part.sub [.regs, .irq, .msix, .evtDropped, .out, .jrn, .path, .fresh] ps = true) :
    (Dev.lateRecord d k forwarded).keep ps = d.keep ps := by
  simp only [Part.sub_cons, Part.sub_nil, Bool.and_true, Bool.and_eq_true] at hp
  first | (simp [Dev.lateRecord, hp]; done) | (unfold Dev.lateRecord; repeat' (first | (simp [hp]; done) | (simp [hp, Dev.keep_mk]; done) | split | (simp only []; split) | (refine Dev.keep_each _ _ _ _ (fun _ _ => ?_)) | rfl ))
@[simp] theorem Dev.settle_keep (ps : List Part) (d : Dev) (k : Pkt) (hp : Part.sub [.regs, .irq, .msix, .evtDropped, .out, .jrn, .path, .nrg, .rck, .host, .fresh] ps = true) :
    (Dev.settle d k).keep ps = d.keep ps := by
  simp only [Part.sub_cons, Part.sub_nil, Bool.and_true, Bool.and_eq_true] at hp
  first | (simp [Dev.settle, hp]; done) | (unfold Dev.settle; repeat' (first | (simp [hp]; done) | (simp [hp, Dev.keep_mk]; done) | split | (simp only []; split) | (refine Dev.keep_each _ _ _ _ (fun _ _ => ?_)) | rfl ))
@[simp] theorem Dev.learnTask_keep (ps : List Part) (d : Dev) (die before : Nat) (hp : Part.sub [.regs, .irq, .msix, .evtDropped, .out, .rck, .fresh] ps = true) :
    (Dev.learnTask d die before).keep ps = d.keep ps := by
  simp only [Part.sub_cons, Part.sub_nil, Bool.and_true, Bool.and_eq_true] at hp
  first | (simp [Dev.learnTask, hp]; done) | (unfold Dev.learnTask; repeat' (first | (simp [hp]; done) | (simp [hp, Dev.keep_mk]; done) | split | (simp only []; split) | (refine Dev.keep_each _ _ _ _ (fun _ _ => ?_)) | rfl ))
@[simp] theorem Dev.recirculate_keep (ps : List Part) (d : Dev) (k : Pkt) (hp : Part.sub [.regs, .irq, .msix, .evtDropped, .out, .path] ps = true) :
    (Dev.recirculate d k).keep ps = d.keep ps := by
  simp only [Part.sub_cons, Part.sub_nil, Bool.and_true, Bool.and_eq_true] at hp
  first | (simp [Dev.recirculate, hp]; done) | (unfold Dev.recirculate; repeat' (first | (simp [hp]; done) | (simp [hp, Dev.keep_mk]; done) | split | (simp only []; split) | (refine Dev.keep_each _ _ _ _ (fun _ _ => ?_)) | rfl ))
@[simp] theorem Dev.openFrame_keep (ps : List Part) (d : Dev) (p len frac : Nat) (hp : Part.sub [.regs, .irq, .msix, .evtDropped, .out, .path, .nrg] ps = true) :
    (Dev.openFrame d p len frac).keep ps = d.keep ps := by
  simp only [Part.sub_cons, Part.sub_nil, Bool.and_true, Bool.and_eq_true] at hp
  first | (simp [Dev.openFrame, hp]; done) | (unfold Dev.openFrame; repeat' (first | (simp [hp]; done) | (simp [hp, Dev.keep_mk]; done) | split | (simp only []; split) | (refine Dev.keep_each _ _ _ _ (fun _ _ => ?_)) | rfl ))
@[simp] theorem Dev.parseOn_keep (ps : List Part) (d : Dev) (p f : Nat) (hp : Part.sub [.path] ps = true) :
    (Dev.parseOn d p f).keep ps = d.keep ps := by
  simp only [Part.sub_cons, Part.sub_nil, Bool.and_true, Bool.and_eq_true] at hp
  first | (simp [Dev.parseOn, hp]; done) | (unfold Dev.parseOn; repeat' (first | (simp [hp]; done) | (simp [hp, Dev.keep_mk]; done) | split | (simp only []; split) | (refine Dev.keep_each _ _ _ _ (fun _ _ => ?_)) | rfl ))
@[simp] theorem Dev.takeSlot_keep (ps : List Part) (d : Dev) (c : Nat) (hp : Part.sub [.path] ps = true) :
    (Dev.takeSlot d c).keep ps = d.keep ps := by
  simp only [Part.sub_cons, Part.sub_nil, Bool.and_true, Bool.and_eq_true] at hp
  first | (simp [Dev.takeSlot, hp]; done) | (unfold Dev.takeSlot; repeat' (first | (simp [hp]; done) | (simp [hp, Dev.keep_mk]; done) | split | (simp only []; split) | (refine Dev.keep_each _ _ _ _ (fun _ _ => ?_)) | rfl ))
@[simp] theorem Dev.issueSlot_keep (ps : List Part) (d : Dev) (c : Nat) (hp : Part.sub [.regs, .irq, .msix, .evtDropped, .out, .path, .nrg] ps = true) :
    (Dev.issueSlot d c).keep ps = d.keep ps := by
  simp only [Part.sub_cons, Part.sub_nil, Bool.and_true, Bool.and_eq_true] at hp
  first | (simp [Dev.issueSlot, hp]; done) | (unfold Dev.issueSlot; repeat' (first | (simp [hp]; done) | (simp [hp, Dev.keep_mk]; done) | split | (simp only []; split) | (refine Dev.keep_each _ _ _ _ (fun _ _ => ?_)) | rfl ))
@[simp] theorem Dev.countParse_keep (ps : List Part) (d : Dev) (die col : Nat) (r : ParseRes) (hp : Part.sub [.regs, .irq, .msix, .evtDropped, .out] ps = true) :
    (Dev.countParse d die col r).keep ps = d.keep ps := by
  simp only [Part.sub_cons, Part.sub_nil, Bool.and_true, Bool.and_eq_true] at hp
  first | (simp [Dev.countParse, hp]; done) | (unfold Dev.countParse; repeat' (first | (simp [hp]; done) | (simp [hp, Dev.keep_mk]; done) | split | (simp only []; split) | (refine Dev.keep_each _ _ _ _ (fun _ _ => ?_)) | rfl ))
@[simp] theorem Dev.oldBank_keep (ps : List Part) (d : Dev) (die : Nat) (hp : Part.sub [.regs] ps = true) :
    (Dev.oldBank d die).keep ps = d.keep ps := by
  simp only [Part.sub_cons, Part.sub_nil, Bool.and_true, Bool.and_eq_true] at hp
  first | (simp [Dev.oldBank, hp]; done) | (unfold Dev.oldBank; repeat' (first | (simp [hp]; done) | (simp [hp, Dev.keep_mk]; done) | split | (simp only []; split) | (refine Dev.keep_each _ _ _ _ (fun _ _ => ?_)) | rfl ))
@[simp] theorem Dev.flowEcc_keep (ps : List Part) (d : Dev) (die : Nat) (fk : FKey) (ecc : Nat) (hp : Part.sub [.regs, .flt, .path] ps = true) :
    (Dev.flowEcc d die fk ecc).keep ps = d.keep ps := by
  simp only [Part.sub_cons, Part.sub_nil, Bool.and_true, Bool.and_eq_true] at hp
  first | (simp [Dev.flowEcc, hp]; done) | (unfold Dev.flowEcc; repeat' (first | (simp [hp]; done) | (simp [hp, Dev.keep_mk]; done) | split | (simp only []; split) | (refine Dev.keep_each _ _ _ _ (fun _ _ => ?_)) | rfl ))
@[simp] theorem Dev.correctFrame_keep (ps : List Part) (d : Dev) (die f len : Nat) (hp : Part.sub [.regs, .path] ps = true) :
    (Dev.correctFrame d die f len).keep ps = d.keep ps := by
  simp only [Part.sub_cons, Part.sub_nil, Bool.and_true, Bool.and_eq_true] at hp
  first | (simp [Dev.correctFrame, hp]; done) | (unfold Dev.correctFrame; repeat' (first | (simp [hp]; done) | (simp [hp, Dev.keep_mk]; done) | split | (simp only []; split) | (refine Dev.keep_each _ _ _ _ (fun _ _ => ?_)) | rfl ))
@[simp] theorem Dev.railRecords_keep (ps : List Part) (d : Dev) (f reason : Nat) (hp : Part.sub [.regs, .irq, .msix, .evtDropped, .out, .jrn, .path] ps = true) :
    (Dev.railRecords d f reason).keep ps = d.keep ps := by
  simp only [Part.sub_cons, Part.sub_nil, Bool.and_true, Bool.and_eq_true] at hp
  first | (simp [Dev.railRecords, hp]; done) | (unfold Dev.railRecords; repeat' (first | (simp [hp]; done) | (simp [hp, Dev.keep_mk]; done) | split | (simp only []; split) | (refine Dev.keep_each _ _ _ _ (fun _ _ => ?_)) | rfl ))
@[simp] theorem Dev.fillDigests_keep (ps : List Part) (d : Dev) (f : Nat) (hp : Part.sub [.jrn] ps = true) :
    (Dev.fillDigests d f).keep ps = d.keep ps := by
  simp only [Part.sub_cons, Part.sub_nil, Bool.and_true, Bool.and_eq_true] at hp
  first | (simp [Dev.fillDigests, hp]; done) | (unfold Dev.fillDigests; repeat' (first | (simp [hp]; done) | (simp [hp, Dev.keep_mk]; done) | split | (simp only []; split) | (refine Dev.keep_each _ _ _ _ (fun _ _ => ?_)) | rfl ))
@[simp] theorem Dev.correctTx_keep (ps : List Part) (d : Dev) (f : Nat) (hp : Part.sub [.regs, .path] ps = true) :
    (Dev.correctTx d f).keep ps = d.keep ps := by
  simp only [Part.sub_cons, Part.sub_nil, Bool.and_true, Bool.and_eq_true] at hp
  first | (simp [Dev.correctTx, hp]; done) | (unfold Dev.correctTx; repeat' (first | (simp [hp]; done) | (simp [hp, Dev.keep_mk]; done) | split | (simp only []; split) | (refine Dev.keep_each _ _ _ _ (fun _ _ => ?_)) | rfl ))
@[simp] theorem Dev.selPrimary_keep (ps : List Part) (d : Dev) (g : Nat) (hp : Part.sub [.deferred] ps = true) :
    (Dev.selPrimary d g).keep ps = d.keep ps := by
  simp only [Part.sub_cons, Part.sub_nil, Bool.and_true, Bool.and_eq_true] at hp
  first | (simp [Dev.selPrimary, hp]; done) | (unfold Dev.selPrimary; repeat' (first | (simp [hp]; done) | (simp [hp, Dev.keep_mk]; done) | split | (simp only []; split) | (refine Dev.keep_each _ _ _ _ (fun _ _ => ?_)) | rfl ))
@[simp] theorem Dev.railRetire_keep (ps : List Part) (d : Dev) (n : Nat) (hp : Part.sub [.regs, .flt, .irq, .msix, .evtDropped, .out, .rail, .deferred] ps = true) :
    (Dev.railRetire d n).keep ps = d.keep ps := by
  simp only [Part.sub_cons, Part.sub_nil, Bool.and_true, Bool.and_eq_true] at hp
  first | (simp [Dev.railRetire, hp]; done) | (unfold Dev.railRetire; repeat' (first | (simp [hp]; done) | (simp [hp, Dev.keep_mk]; done) | split | (simp only []; split) | (refine Dev.keep_each _ _ _ _ (fun _ _ => ?_)) | rfl ))
@[simp] theorem Dev.railCageChange_keep (ps : List Part) (d : Dev) (n : Nat) (hp : Part.sub [.regs, .rail, .fresh] ps = true) :
    (Dev.railCageChange d n).keep ps = d.keep ps := by
  simp only [Part.sub_cons, Part.sub_nil, Bool.and_true, Bool.and_eq_true] at hp
  first | (simp [Dev.railCageChange, hp]; done) | (unfold Dev.railCageChange; repeat' (first | (simp [hp]; done) | (simp [hp, Dev.keep_mk]; done) | split | (simp only []; split) | (refine Dev.keep_each _ _ _ _ (fun _ _ => ?_)) | rfl ))
@[simp] theorem Dev.modDepart_keep (ps : List Part) (d : Dev) (c : Nat) (hp : Part.sub [.regs, .irq, .msix, .evtDropped, .out, .jrn, .port, .rail, .path, .fresh] ps = true) :
    (Dev.modDepart d c).keep ps = d.keep ps := by
  simp only [Part.sub_cons, Part.sub_nil, Bool.and_true, Bool.and_eq_true] at hp
  first | (simp [Dev.modDepart, hp]; done) | (unfold Dev.modDepart; repeat' (first | (simp [hp]; done) | (simp [hp, Dev.keep_mk]; done) | split | (simp only []; split) | (refine Dev.keep_each _ _ _ _ (fun _ _ => ?_)) | rfl ))
@[simp] theorem Dev.scanCage_keep (ps : List Part) (d : Dev) (c : Nat) (line : Option CageLine) (hp : Part.sub [.regs, .irq, .msix, .evtDropped, .out, .jrn, .port, .rail, .path, .deferred, .fresh] ps = true) :
    (Dev.scanCage d c line).keep ps = d.keep ps := by
  simp only [Part.sub_cons, Part.sub_nil, Bool.and_true, Bool.and_eq_true] at hp
  first | (simp [Dev.scanCage, hp]; done) | (unfold Dev.scanCage; repeat' (first | (simp [hp]; done) | (simp [hp, Dev.keep_mk]; done) | split | (simp only []; split) | (refine Dev.keep_each _ _ _ _ (fun _ _ => ?_)) | rfl ))
@[simp] theorem Dev.wmWrite_keep (ps : List Part) (d : Dev) (p q v : Nat) (hp : Part.sub [.regs] ps = true) :
    (Dev.wmWrite d p q v).keep ps = d.keep ps := by
  simp only [Part.sub_cons, Part.sub_nil, Bool.and_true, Bool.and_eq_true] at hp
  first | (simp [Dev.wmWrite, hp]; done) | (unfold Dev.wmWrite; repeat' (first | (simp [hp]; done) | (simp [hp, Dev.keep_mk]; done) | split | (simp only []; split) | (refine Dev.keep_each _ _ _ _ (fun _ _ => ?_)) | rfl ))
@[simp] theorem Dev.pausedRx_keep (ps : List Part) (d : Dev) (p : Nat) (hp : Part.sub [.regs] ps = true) :
    (Dev.pausedRx d p).keep ps = d.keep ps := by
  simp only [Part.sub_cons, Part.sub_nil, Bool.and_true, Bool.and_eq_true] at hp
  first | (simp [Dev.pausedRx, hp]; done) | (unfold Dev.pausedRx; repeat' (first | (simp [hp]; done) | (simp [hp, Dev.keep_mk]; done) | split | (simp only []; split) | (refine Dev.keep_each _ _ _ _ (fun _ _ => ?_)) | rfl ))
@[simp] theorem Dev.rxPause_keep (ps : List Part) (d : Dev) (p q quanta : Nat) (hp : Part.sub [.regs, .port] ps = true) :
    (Dev.rxPause d p q quanta).keep ps = d.keep ps := by
  simp only [Part.sub_cons, Part.sub_nil, Bool.and_true, Bool.and_eq_true] at hp
  first | (simp [Dev.rxPause, hp]; done) | (unfold Dev.rxPause; repeat' (first | (simp [hp]; done) | (simp [hp, Dev.keep_mk]; done) | split | (simp only []; split) | (refine Dev.keep_each _ _ _ _ (fun _ _ => ?_)) | rfl ))
@[simp] theorem Dev.pgCtrlWrite_keep (ps : List Part) (d : Dev) (g v : Nat) (hp : Part.sub [.regs, .irq, .msix, .evtDropped, .out] ps = true) :
    (Dev.pgCtrlWrite d g v).keep ps = d.keep ps := by
  simp only [Part.sub_cons, Part.sub_nil, Bool.and_true, Bool.and_eq_true] at hp
  first | (simp [Dev.pgCtrlWrite, hp]; done) | (unfold Dev.pgCtrlWrite; repeat' (first | (simp [hp]; done) | (simp [hp, Dev.keep_mk]; done) | split | (simp only []; split) | (refine Dev.keep_each _ _ _ _ (fun _ _ => ?_)) | rfl ))
@[simp] theorem Dev.pgServe_keep (ps : List Part) (d : Dev) (g i : Nat) (hp : Part.sub [.regs, .irq, .msix, .evtDropped, .out, .port] ps = true) :
    (Dev.pgServe d g i).keep ps = d.keep ps := by
  simp only [Part.sub_cons, Part.sub_nil, Bool.and_true, Bool.and_eq_true] at hp
  first | (simp [Dev.pgServe, hp]; done) | (unfold Dev.pgServe; repeat' (first | (simp [hp]; done) | (simp [hp, Dev.keep_mk]; done) | split | (simp only []; split) | (refine Dev.keep_each _ _ _ _ (fun _ _ => ?_)) | rfl ))
@[simp] theorem Dev.calApply_keep (ps : List Part) (d : Dev) (hp : Part.sub [.regs, .port] ps = true) :
    (Dev.calApply d ).keep ps = d.keep ps := by
  simp only [Part.sub_cons, Part.sub_nil, Bool.and_true, Bool.and_eq_true] at hp
  first | (simp [Dev.calApply, hp]; done) | (unfold Dev.calApply; repeat' (first | (simp [hp]; done) | (simp [hp, Dev.keep_mk]; done) | split | (simp only []; split) | (refine Dev.keep_each _ _ _ _ (fun _ _ => ?_)) | rfl ))
@[simp] theorem Dev.plainWrite_keep (ps : List Part) (d : Dev) (a v : Nat) (hp : Part.sub [.regs] ps = true) :
    (Dev.plainWrite d a v).keep ps = d.keep ps := by
  simp only [Part.sub_cons, Part.sub_nil, Bool.and_true, Bool.and_eq_true] at hp
  first | (simp [Dev.plainWrite, hp]; done) | (unfold Dev.plainWrite; repeat' (first | (simp [hp]; done) | (simp [hp, Dev.keep_mk]; done) | split | (simp only []; split) | (refine Dev.keep_each _ _ _ _ (fun _ _ => ?_)) | rfl ))
@[simp] theorem Dev.readEffect_keep (ps : List Part) (d : Dev) (a : Nat) (hp : Part.sub [.regs] ps = true) :
    (Dev.readEffect d a).keep ps = d.keep ps := by
  simp only [Part.sub_cons, Part.sub_nil, Bool.and_true, Bool.and_eq_true] at hp
  first | (simp [Dev.readEffect, hp]; done) | (unfold Dev.readEffect; repeat' (first | (simp [hp]; done) | (simp [hp, Dev.keep_mk]; done) | split | (simp only []; split) | (refine Dev.keep_each _ _ _ _ (fun _ _ => ?_)) | rfl ))
@[simp] theorem Dev.setTimPort_keep (ps : List Part) (d : Dev) (p : Nat) (x : TimPort) (hp : Part.sub [.tim] ps = true) :
    (Dev.setTimPort d p x).keep ps = d.keep ps := by
  simp only [Part.sub_cons, Part.sub_nil, Bool.and_true, Bool.and_eq_true] at hp
  first | (simp [Dev.setTimPort, hp]; done) | (unfold Dev.setTimPort; repeat' (first | (simp [hp]; done) | (simp [hp, Dev.keep_mk]; done) | split | (simp only []; split) | (refine Dev.keep_each _ _ _ _ (fun _ _ => ?_)) | rfl ))
@[simp] theorem Dev.setPstate_keep (ps : List Part) (d : Dev) (p st : Nat) (hp : Part.sub [.regs, .tim] ps = true) :
    (Dev.setPstate d p st).keep ps = d.keep ps := by
  simp only [Part.sub_cons, Part.sub_nil, Bool.and_true, Bool.and_eq_true] at hp
  first | (simp [Dev.setPstate, hp]; done) | (unfold Dev.setPstate; repeat' (first | (simp [hp]; done) | (simp [hp, Dev.keep_mk]; done) | split | (simp only []; split) | (refine Dev.keep_each _ _ _ _ (fun _ _ => ?_)) | rfl ))
@[simp] theorem Dev.timLayer_keep (ps : List Part) (d : Dev) (p stepSeen : Nat) (hp : Part.sub [.regs, .irq, .msix, .evtDropped, .out, .port, .tim] ps = true) :
    (Dev.timLayer d p stepSeen).keep ps = d.keep ps := by
  simp only [Part.sub_cons, Part.sub_nil, Bool.and_true, Bool.and_eq_true] at hp
  first | (simp [Dev.timLayer, hp]; done) | (unfold Dev.timLayer; repeat' (first | (simp [hp]; done) | (simp [hp, Dev.keep_mk]; done) | split | (simp only []; split) | (refine Dev.keep_each _ _ _ _ (fun _ _ => ?_)) | rfl ))
@[simp] theorem Dev.timFollow_keep (ps : List Part) (d : Dev) (hp : Part.sub [.regs, .irq, .msix, .evtDropped, .out, .port, .tim] ps = true) :
    (Dev.timFollow d ).keep ps = d.keep ps := by
  simp only [Part.sub_cons, Part.sub_nil, Bool.and_true, Bool.and_eq_true] at hp
  first | (simp [Dev.timFollow, hp]; done) | (unfold Dev.timFollow; repeat' (first | (simp [hp]; done) | (simp [hp, Dev.keep_mk]; done) | split | (simp only []; split) | (refine Dev.keep_each _ _ _ _ (fun _ _ => ?_)) | rfl ))
@[simp] theorem Dev.uRefresh_keep (ps : List Part) (d : Dev) (hp : Part.sub [.regs] ps = true) :
    (Dev.uRefresh d ).keep ps = d.keep ps := by
  simp only [Part.sub_cons, Part.sub_nil, Bool.and_true, Bool.and_eq_true] at hp
  first | (simp [Dev.uRefresh, hp]; done) | (unfold Dev.uRefresh; repeat' (first | (simp [hp]; done) | (simp [hp, Dev.keep_mk]; done) | split | (simp only []; split) | (refine Dev.keep_each _ _ _ _ (fun _ _ => ?_)) | rfl ))
@[simp] theorem Dev.gridRefresh_keep (ps : List Part) (d : Dev) (hp : Part.sub [.regs, .port] ps = true) :
    (Dev.gridRefresh d ).keep ps = d.keep ps := by
  simp only [Part.sub_cons, Part.sub_nil, Bool.and_true, Bool.and_eq_true] at hp
  first | (simp [Dev.gridRefresh, hp]; done) | (unfold Dev.gridRefresh; repeat' (first | (simp [hp]; done) | (simp [hp, Dev.keep_mk]; done) | split | (simp only []; split) | (refine Dev.keep_each _ _ _ _ (fun _ _ => ?_)) | rfl ))
@[simp] theorem Dev.timeLock_keep (ps : List Part) (d : Dev) (hp : Part.sub [.regs, .irq, .msix, .evtDropped, .out, .port] ps = true) :
    (Dev.timeLock d ).keep ps = d.keep ps := by
  simp only [Part.sub_cons, Part.sub_nil, Bool.and_true, Bool.and_eq_true] at hp
  first | (simp [Dev.timeLock, hp]; done) | (unfold Dev.timeLock; repeat' (first | (simp [hp]; done) | (simp [hp, Dev.keep_mk]; done) | split | (simp only []; split) | (refine Dev.keep_each _ _ _ _ (fun _ _ => ?_)) | rfl ))
@[simp] theorem Dev.timeUnlock_keep (ps : List Part) (d : Dev) (hp : Part.sub [.regs, .irq, .msix, .evtDropped, .out, .jrn, .port, .tim] ps = true) :
    (Dev.timeUnlock d ).keep ps = d.keep ps := by
  simp only [Part.sub_cons, Part.sub_nil, Bool.and_true, Bool.and_eq_true] at hp
  first | (simp [Dev.timeUnlock, hp]; done) | (unfold Dev.timeUnlock; repeat' (first | (simp [hp]; done) | (simp [hp, Dev.keep_mk]; done) | split | (simp only []; split) | (refine Dev.keep_each _ _ _ _ (fun _ _ => ?_)) | rfl ))
@[simp] theorem Dev.timDepth_keep (ps : List Part) (d : Dev) (hp : Part.sub [.regs] ps = true) :
    (Dev.timDepth d ).keep ps = d.keep ps := by
  simp only [Part.sub_cons, Part.sub_nil, Bool.and_true, Bool.and_eq_true] at hp
  first | (simp [Dev.timDepth, hp]; done) | (unfold Dev.timDepth; repeat' (first | (simp [hp]; done) | (simp [hp, Dev.keep_mk]; done) | split | (simp only []; split) | (refine Dev.keep_each _ _ _ _ (fun _ _ => ?_)) | rfl ))
@[simp] theorem Dev.setSource_keep (ps : List Part) (d : Dev) (p : Nat) (hp : Part.sub [.regs, .irq, .msix, .evtDropped, .out, .tim] ps = true) :
    (Dev.setSource d p).keep ps = d.keep ps := by
  simp only [Part.sub_cons, Part.sub_nil, Bool.and_true, Bool.and_eq_true] at hp
  first | (simp [Dev.setSource, hp]; done) | (unfold Dev.setSource; repeat' (first | (simp [hp]; done) | (simp [hp, Dev.keep_mk]; done) | split | (simp only []; split) | (refine Dev.keep_each _ _ _ _ (fun _ _ => ?_)) | rfl ))
@[simp] theorem Dev.setFreq_keep (ps : List Part) (d : Dev) (x : Int) (hp : Part.sub [.regs, .tim] ps = true) :
    (Dev.setFreq d x).keep ps = d.keep ps := by
  simp only [Part.sub_cons, Part.sub_nil, Bool.and_true, Bool.and_eq_true] at hp
  first | (simp [Dev.setFreq, hp]; done) | (unfold Dev.setFreq; repeat' (first | (simp [hp]; done) | (simp [hp, Dev.keep_mk]; done) | split | (simp only []; split) | (refine Dev.keep_each _ _ _ _ (fun _ _ => ?_)) | rfl ))
@[simp] theorem Dev.sourceLost_keep (ps : List Part) (d : Dev) (hp : Part.sub [.regs, .irq, .msix, .evtDropped, .out, .tim] ps = true) :
    (Dev.sourceLost d ).keep ps = d.keep ps := by
  simp only [Part.sub_cons, Part.sub_nil, Bool.and_true, Bool.and_eq_true] at hp
  first | (simp [Dev.sourceLost, hp]; done) | (unfold Dev.sourceLost; repeat' (first | (simp [hp]; done) | (simp [hp, Dev.keep_mk]; done) | split | (simp only []; split) | (refine Dev.keep_each _ _ _ _ (fun _ _ => ?_)) | rfl ))
@[simp] theorem Dev.degrade_keep (ps : List Part) (d : Dev) (p : Nat) (hp : Part.sub [.regs, .irq, .msix, .evtDropped, .out, .tim] ps = true) :
    (Dev.degrade d p).keep ps = d.keep ps := by
  simp only [Part.sub_cons, Part.sub_nil, Bool.and_true, Bool.and_eq_true] at hp
  first | (simp [Dev.degrade, hp]; done) | (unfold Dev.degrade; repeat' (first | (simp [hp]; done) | (simp [hp, Dev.keep_mk]; done) | split | (simp only []; split) | (refine Dev.keep_each _ _ _ _ (fun _ _ => ?_)) | rfl ))
@[simp] theorem Dev.timOffset_keep (ps : List Part) (d : Dev) (p : Nat) (e : Int) (hp : Part.sub [.regs, .irq, .msix, .evtDropped, .out, .jrn, .port, .tim] ps = true) :
    (Dev.timOffset d p e).keep ps = d.keep ps := by
  simp only [Part.sub_cons, Part.sub_nil, Bool.and_true, Bool.and_eq_true] at hp
  first | (simp [Dev.timOffset, hp]; done) | (unfold Dev.timOffset; repeat' (first | (simp [hp]; done) | (simp [hp, Dev.keep_mk]; done) | split | (simp only []; split) | (refine Dev.keep_each _ _ _ _ (fun _ _ => ?_)) | rfl ))
@[simp] theorem Dev.timDelay_keep (ps : List Part) (d : Dev) (p : Nat) (m : Int) (hp : Part.sub [.regs, .irq, .msix, .evtDropped, .out, .tim] ps = true) :
    (Dev.timDelay d p m).keep ps = d.keep ps := by
  simp only [Part.sub_cons, Part.sub_nil, Bool.and_true, Bool.and_eq_true] at hp
  first | (simp [Dev.timDelay, hp]; done) | (unfold Dev.timDelay; repeat' (first | (simp [hp]; done) | (simp [hp, Dev.keep_mk]; done) | split | (simp only []; split) | (refine Dev.keep_each _ _ _ _ (fun _ _ => ?_)) | rfl ))
@[simp] theorem Dev.ptpSend_keep (ps : List Part) (d : Dev) (p : Nat) (peer event : Bool) (t : Nat) (m : List Byte) (hp : Part.sub [.regs, .irq, .msix, .evtDropped, .out] ps = true) :
    (Dev.ptpSend d p peer event t m).keep ps = d.keep ps := by
  simp only [Part.sub_cons, Part.sub_nil, Bool.and_true, Bool.and_eq_true] at hp
  first | (simp [Dev.ptpSend, hp]; done) | (unfold Dev.ptpSend; repeat' (first | (simp [hp]; done) | (simp [hp, Dev.keep_mk]; done) | split | (simp only []; split) | (refine Dev.keep_each _ _ _ _ (fun _ _ => ?_)) | rfl ))
@[simp] theorem Dev.syncLeg_keep (ps : List Part) (d : Dev) (p : Nat) (t1 : Int) (t2 : Nat) (corr : Int) (hp : Part.sub [.regs, .irq, .msix, .evtDropped, .out, .jrn, .port, .tim] ps = true) :
    (Dev.syncLeg d p t1 t2 corr).keep ps = d.keep ps := by
  simp only [Part.sub_cons, Part.sub_nil, Bool.and_true, Bool.and_eq_true] at hp
  first | (simp [Dev.syncLeg, hp]; done) | (unfold Dev.syncLeg; repeat' (first | (simp [hp]; done) | (simp [hp, Dev.keep_mk]; done) | split | (simp only []; split) | (refine Dev.keep_each _ _ _ _ (fun _ _ => ?_)) | rfl ))
@[simp] theorem Dev.upLeg_keep (ps : List Part) (d : Dev) (p : Nat) (up : Int) (hp : Part.sub [.regs, .irq, .msix, .evtDropped, .out, .tim] ps = true) :
    (Dev.upLeg d p up).keep ps = d.keep ps := by
  simp only [Part.sub_cons, Part.sub_nil, Bool.and_true, Bool.and_eq_true] at hp
  first | (simp [Dev.upLeg, hp]; done) | (unfold Dev.upLeg; repeat' (first | (simp [hp]; done) | (simp [hp, Dev.keep_mk]; done) | split | (simp only []; split) | (refine Dev.keep_each _ _ _ _ (fun _ _ => ?_)) | rfl ))
@[simp] theorem Dev.peerLeg_keep (ps : List Part) (d : Dev) (p t1 t4 : Nat) (turn corr : Int) (hp : Part.sub [.regs, .irq, .msix, .evtDropped, .out, .tim] ps = true) :
    (Dev.peerLeg d p t1 t4 turn corr).keep ps = d.keep ps := by
  simp only [Part.sub_cons, Part.sub_nil, Bool.and_true, Bool.and_eq_true] at hp
  first | (simp [Dev.peerLeg, hp]; done) | (unfold Dev.peerLeg; repeat' (first | (simp [hp]; done) | (simp [hp, Dev.keep_mk]; done) | split | (simp only []; split) | (refine Dev.keep_each _ _ _ _ (fun _ _ => ?_)) | rfl ))
@[simp] theorem Dev.offsetRemove_keep (ps : List Part) (d : Dev) (e : Int) (mustStep : Bool) (hp : Part.sub [.regs, .trk, .irq, .msix, .evtDropped, .out, .jrn, .port, .tim] ps = true) :
    (Dev.offsetRemove d e mustStep).keep ps = d.keep ps := by
  simp only [Part.sub_cons, Part.sub_nil, Bool.and_true, Bool.and_eq_true] at hp
  first | (simp [Dev.offsetRemove, hp]; done) | (unfold Dev.offsetRemove; repeat' (first | (simp [hp]; done) | (simp [hp, Dev.keep_mk]; done) | split | (simp only []; split) | (refine Dev.keep_each _ _ _ _ (fun _ _ => ?_)) | rfl ))
@[simp] theorem Dev.servo_keep (ps : List Part) (d : Dev) (p : Nat) (e : Int) (log : Int) (hp : Part.sub [.regs, .trk, .irq, .msix, .evtDropped, .out, .jrn, .port, .tim] ps = true) :
    (Dev.servo d p e log).keep ps = d.keep ps := by
  simp only [Part.sub_cons, Part.sub_nil, Bool.and_true, Bool.and_eq_true] at hp
  first | (simp [Dev.servo, hp]; done) | (unfold Dev.servo; repeat' (first | (simp [hp]; done) | (simp [hp, Dev.keep_mk]; done) | split | (simp only []; split) | (refine Dev.keep_each _ _ _ _ (fun _ _ => ?_)) | rfl ))
@[simp] theorem Dev.uDomRod_keep (ps : List Part) (d : Dev) (hp : Part.sub [.regs, .irq, .msix, .evtDropped, .out, .jrn, .port, .tim] ps = true) :
    (Dev.uDomRod d ).keep ps = d.keep ps := by
  simp only [Part.sub_cons, Part.sub_nil, Bool.and_true, Bool.and_eq_true] at hp
  first | (simp [Dev.uDomRod, hp]; done) | (unfold Dev.uDomRod; repeat' (first | (simp [hp]; done) | (simp [hp, Dev.keep_mk]; done) | split | (simp only []; split) | (refine Dev.keep_each _ _ _ _ (fun _ _ => ?_)) | rfl ))
@[simp] theorem Dev.rootSelf_keep (ps : List Part) (d : Dev) (hp : Part.sub [.regs, .irq, .msix, .evtDropped, .out, .port, .tim] ps = true) :
    (Dev.rootSelf d ).keep ps = d.keep ps := by
  simp only [Part.sub_cons, Part.sub_nil, Bool.and_true, Bool.and_eq_true] at hp
  first | (simp [Dev.rootSelf, hp]; done) | (unfold Dev.rootSelf; repeat' (first | (simp [hp]; done) | (simp [hp, Dev.keep_mk]; done) | split | (simp only []; split) | (refine Dev.keep_each _ _ _ _ (fun _ _ => ?_)) | rfl ))
@[simp] theorem Dev.sourceFollow_keep (ps : List Part) (d : Dev) (hp : Part.sub [.regs, .irq, .msix, .evtDropped, .out, .tim] ps = true) :
    (Dev.sourceFollow d ).keep ps = d.keep ps := by
  simp only [Part.sub_cons, Part.sub_nil, Bool.and_true, Bool.and_eq_true] at hp
  first | (simp [Dev.sourceFollow, hp]; done) | (unfold Dev.sourceFollow; repeat' (first | (simp [hp]; done) | (simp [hp, Dev.keep_mk]; done) | split | (simp only []; split) | (refine Dev.keep_each _ _ _ _ (fun _ _ => ?_)) | rfl ))
@[simp] theorem Dev.setAdj_keep (ps : List Part) (d : Dev) (p : Nat) (x : AdjSt) (hp : Part.sub [.dom] ps = true) :
    (Dev.setAdj d p x).keep ps = d.keep ps := by
  simp only [Part.sub_cons, Part.sub_nil, Bool.and_true, Bool.and_eq_true] at hp
  first | (simp [Dev.setAdj, hp]; done) | (unfold Dev.setAdj; repeat' (first | (simp [hp]; done) | (simp [hp, Dev.keep_mk]; done) | split | (simp only []; split) | (refine Dev.keep_each _ _ _ _ (fun _ _ => ?_)) | rfl ))
@[simp] theorem Dev.treeSync_keep (ps : List Part) (d : Dev) (hp : Part.sub [.regs, .irq, .msix, .evtDropped, .out, .port, .tim, .treePorts] ps = true) :
    (Dev.treeSync d ).keep ps = d.keep ps := by
  simp only [Part.sub_cons, Part.sub_nil, Bool.and_true, Bool.and_eq_true] at hp
  first | (simp [Dev.treeSync, hp]; done) | (unfold Dev.treeSync; repeat' (first | (simp [hp]; done) | (simp [hp, Dev.keep_mk]; done) | split | (simp only []; split) | (refine Dev.keep_each _ _ _ _ (fun _ _ => ?_)) | rfl ))
@[simp] theorem Dev.helloAs_keep (ps : List Part) (d : Dev) (st p : Nat) (hp : Part.sub [.regs, .irq, .msix, .evtDropped, .out, .jrn, .path, .nrg, .dom, .host, .fresh] ps = true) :
    (Dev.helloAs d st p).keep ps = d.keep ps := by
  simp only [Part.sub_cons, Part.sub_nil, Bool.and_true, Bool.and_eq_true] at hp
  first | (simp [Dev.helloAs, hp]; done) | (unfold Dev.helloAs; repeat' (first | (simp [hp]; done) | (simp [hp, Dev.keep_mk]; done) | split | (simp only []; split) | (refine Dev.keep_each _ _ _ _ (fun _ _ => ?_)) | rfl ))
@[simp] theorem Dev.hello_keep (ps : List Part) (d : Dev) (p : Nat) (hp : Part.sub [.regs, .irq, .msix, .evtDropped, .out, .jrn, .path, .nrg, .dom, .host, .fresh] ps = true) :
    (Dev.hello d p).keep ps = d.keep ps := by
  simp only [Part.sub_cons, Part.sub_nil, Bool.and_true, Bool.and_eq_true] at hp
  first | (simp [Dev.hello, hp]; done) | (unfold Dev.hello; repeat' (first | (simp [hp]; done) | (simp [hp, Dev.keep_mk]; done) | split | (simp only []; split) | (refine Dev.keep_each _ _ _ _ (fun _ _ => ?_)) | rfl ))
@[simp] theorem Dev.helloAll_keep (ps : List Part) (d : Dev) (hp : Part.sub [.regs, .irq, .msix, .evtDropped, .out, .jrn, .path, .nrg, .dom, .host, .fresh] ps = true) :
    (Dev.helloAll d ).keep ps = d.keep ps := by
  simp only [Part.sub_cons, Part.sub_nil, Bool.and_true, Bool.and_eq_true] at hp
  first | (simp [Dev.helloAll, hp]; done) | (unfold Dev.helloAll; repeat' (first | (simp [hp]; done) | (simp [hp, Dev.keep_mk]; done) | split | (simp only []; split) | (refine Dev.keep_each _ _ _ _ (fun _ _ => ?_)) | rfl ))
@[simp] theorem Dev.helloUp_keep (ps : List Part) (d : Dev) (p : Nat) (hp : Part.sub [.regs, .irq, .msix, .evtDropped, .out, .jrn, .path, .nrg, .dom, .host, .fresh] ps = true) :
    (Dev.helloUp d p).keep ps = d.keep ps := by
  simp only [Part.sub_cons, Part.sub_nil, Bool.and_true, Bool.and_eq_true] at hp
  first | (simp [Dev.helloUp, hp]; done) | (unfold Dev.helloUp; repeat' (first | (simp [hp]; done) | (simp [hp, Dev.keep_mk]; done) | split | (simp only []; split) | (refine Dev.keep_each _ _ _ _ (fun _ _ => ?_)) | rfl ))
@[simp] theorem Dev.domEnter_keep (ps : List Part) (d : Dev) (st : Nat) (hp : Part.sub [.regs, .irq, .msix, .evtDropped, .out, .dom] ps = true) :
    (Dev.domEnter d st).keep ps = d.keep ps := by
  simp only [Part.sub_cons, Part.sub_nil, Bool.and_true, Bool.and_eq_true] at hp
  first | (simp [Dev.domEnter, hp]; done) | (unfold Dev.domEnter; repeat' (first | (simp [hp]; done) | (simp [hp, Dev.keep_mk]; done) | split | (simp only []; split) | (refine Dev.keep_each _ _ _ _ (fun _ _ => ?_)) | rfl ))
@[simp] theorem Dev.sendLeave_keep (ps : List Part) (d : Dev) (p : Nat) (hp : Part.sub [.regs, .irq, .msix, .evtDropped, .out, .jrn, .path, .nrg, .dom, .host, .fresh] ps = true) :
    (Dev.sendLeave d p).keep ps = d.keep ps := by
  simp only [Part.sub_cons, Part.sub_nil, Bool.and_true, Bool.and_eq_true] at hp
  first | (simp [Dev.sendLeave, hp]; done) | (unfold Dev.sendLeave; repeat' (first | (simp [hp]; done) | (simp [hp, Dev.keep_mk]; done) | split | (simp only []; split) | (refine Dev.keep_each _ _ _ _ (fun _ _ => ?_)) | rfl ))
@[simp] theorem Dev.relayOn_keep (ps : List Part) (d : Dev) (p : Nat) (m : DomMsg) (hp : Part.sub [.regs, .irq, .msix, .evtDropped, .out, .jrn, .path, .nrg, .host, .fresh] ps = true) :
    (Dev.relayOn d p m).keep ps = d.keep ps := by
  simp only [Part.sub_cons, Part.sub_nil, Bool.and_true, Bool.and_eq_true] at hp
  first | (simp [Dev.relayOn, hp]; done) | (unfold Dev.relayOn; repeat' (first | (simp [hp]; done) | (simp [hp, Dev.keep_mk]; done) | split | (simp only []; split) | (refine Dev.keep_each _ _ _ _ (fun _ _ => ?_)) | rfl ))
@[simp] theorem Dev.routesDrop_keep (ps : List Part) (d : Dev) (gone : Nat × Nat → Bool) (hp : Part.sub [.dom] ps = true) :
    (Dev.routesDrop d gone).keep ps = d.keep ps := by
  simp only [Part.sub_cons, Part.sub_nil, Bool.and_true, Bool.and_eq_true] at hp
  first | (simp [Dev.routesDrop, hp]; done) | (unfold Dev.routesDrop; repeat' (first | (simp [hp]; done) | (simp [hp, Dev.keep_mk]; done) | split | (simp only []; split) | (refine Dev.keep_each _ _ _ _ (fun _ _ => ?_)) | rfl ))
@[simp] theorem Dev.routesPut_keep (ps : List Part) (d : Dev) (devs : List Nat) (p : Nat) (hp : Part.sub [.dom] ps = true) :
    (Dev.routesPut d devs p).keep ps = d.keep ps := by
  simp only [Part.sub_cons, Part.sub_nil, Bool.and_true, Bool.and_eq_true] at hp
  first | (simp [Dev.routesPut, hp]; done) | (unfold Dev.routesPut; repeat' (first | (simp [hp]; done) | (simp [hp, Dev.keep_mk]; done) | split | (simp only []; split) | (refine Dev.keep_each _ _ _ _ (fun _ _ => ?_)) | rfl ))
@[simp] theorem Dev.sendHeld_keep (ps : List Part) (d : Dev) (hp : Part.sub [.regs, .irq, .msix, .evtDropped, .out, .jrn, .path, .nrg, .dom, .host, .fresh] ps = true) :
    (Dev.sendHeld d ).keep ps = d.keep ps := by
  simp only [Part.sub_cons, Part.sub_nil, Bool.and_true, Bool.and_eq_true] at hp
  first | (simp [Dev.sendHeld, hp]; done) | (unfold Dev.sendHeld; repeat' (first | (simp [hp]; done) | (simp [hp, Dev.keep_mk]; done) | split | (simp only []; split) | (refine Dev.keep_each _ _ _ _ (fun _ _ => ?_)) | rfl ))
@[simp] theorem Dev.domBlock_keep (ps : List Part) (d : Dev) (hp : Part.sub [.regs, .irq, .msix, .evtDropped, .out, .jrn, .port, .path, .nrg, .dom, .tim, .host, .treePorts, .fresh] ps = true) :
    (Dev.domBlock d ).keep ps = d.keep ps := by
  simp only [Part.sub_cons, Part.sub_nil, Bool.and_true, Bool.and_eq_true] at hp
  first | (simp [Dev.domBlock, hp]; done) | (unfold Dev.domBlock; repeat' (first | (simp [hp]; done) | (simp [hp, Dev.keep_mk]; done) | split | (simp only []; split) | (refine Dev.keep_each _ _ _ _ (fun _ _ => ?_)) | rfl ))
@[simp] theorem Dev.adjClear_keep (ps : List Part) (d : Dev) (p : Nat) (hp : Part.sub [.regs, .irq, .msix, .evtDropped, .out, .dom] ps = true) :
    (Dev.adjClear d p).keep ps = d.keep ps := by
  simp only [Part.sub_cons, Part.sub_nil, Bool.and_true, Bool.and_eq_true] at hp
  first | (simp [Dev.adjClear, hp]; done) | (unfold Dev.adjClear; repeat' (first | (simp [hp]; done) | (simp [hp, Dev.keep_mk]; done) | split | (simp only []; split) | (refine Dev.keep_each _ _ _ _ (fun _ _ => ?_)) | rfl ))
@[simp] theorem Dev.domEnable_keep (ps : List Part) (d : Dev) (v : Nat) (hp : Part.sub [.regs, .dom] ps = true) :
    (Dev.domEnable d v).keep ps = d.keep ps := by
  simp only [Part.sub_cons, Part.sub_nil, Bool.and_true, Bool.and_eq_true] at hp
  first | (simp [Dev.domEnable, hp]; done) | (unfold Dev.domEnable; repeat' (first | (simp [hp]; done) | (simp [hp, Dev.keep_mk]; done) | split | (simp only []; split) | (refine Dev.keep_each _ _ _ _ (fun _ _ => ?_)) | rfl ))
@[simp] theorem Dev.domDisable_keep (ps : List Part) (d : Dev) (v : Nat) (hp : Part.sub [.regs, .irq, .msix, .evtDropped, .out, .jrn, .path, .nrg, .dom, .host, .fresh] ps = true) :
    (Dev.domDisable d v).keep ps = d.keep ps := by
  simp only [Part.sub_cons, Part.sub_nil, Bool.and_true, Bool.and_eq_true] at hp
  first | (simp [Dev.domDisable, hp]; done) | (unfold Dev.domDisable; repeat' (first | (simp [hp]; done) | (simp [hp, Dev.keep_mk]; done) | split | (simp only []; split) | (refine Dev.keep_each _ _ _ _ (fun _ _ => ?_)) | rfl ))
@[simp] theorem Dev.followParent_keep (ps : List Part) (d : Dev) (m : DomMsg) (h : HelloBody) (hp : Part.sub [.regs, .irq, .msix, .evtDropped, .out, .jrn, .port, .path, .nrg, .dom, .tim, .host, .treePorts, .fresh] ps = true) :
    (Dev.followParent d m h).keep ps = d.keep ps := by
  simp only [Part.sub_cons, Part.sub_nil, Bool.and_true, Bool.and_eq_true] at hp
  first | (simp [Dev.followParent, hp]; done) | (unfold Dev.followParent; repeat' (first | (simp [hp]; done) | (simp [hp, Dev.keep_mk]; done) | split | (simp only []; split) | (refine Dev.keep_each _ _ _ _ (fun _ _ => ?_)) | rfl ))
@[simp] theorem Dev.parentGone_keep (ps : List Part) (d : Dev) (hp : Part.sub [.regs, .irq, .msix, .evtDropped, .out, .dom] ps = true) :
    (Dev.parentGone d ).keep ps = d.keep ps := by
  simp only [Part.sub_cons, Part.sub_nil, Bool.and_true, Bool.and_eq_true] at hp
  first | (simp [Dev.parentGone, hp]; done) | (unfold Dev.parentGone; repeat' (first | (simp [hp]; done) | (simp [hp, Dev.keep_mk]; done) | split | (simp only []; split) | (refine Dev.keep_each _ _ _ _ (fun _ _ => ?_)) | rfl ))
@[simp] theorem Dev.sendFault_keep (ps : List Part) (d : Dev) (dev cls code tick : Nat) (entry : List Byte) (hp : Part.sub [.regs, .irq, .msix, .evtDropped, .out, .jrn, .path, .nrg, .dom, .host, .fresh] ps = true) :
    (Dev.sendFault d dev cls code tick entry).keep ps = d.keep ps := by
  simp only [Part.sub_cons, Part.sub_nil, Bool.and_true, Bool.and_eq_true] at hp
  first | (simp [Dev.sendFault, hp]; done) | (unfold Dev.sendFault; repeat' (first | (simp [hp]; done) | (simp [hp, Dev.keep_mk]; done) | split | (simp only []; split) | (refine Dev.keep_each _ _ _ _ (fun _ _ => ?_)) | rfl ))
@[simp] theorem Dev.setStack_keep (ps : List Part) (d : Dev) (k : Nat) (x : HbmStack) (hp : Part.sub [.hbm] ps = true) :
    (Dev.setStack d k x).keep ps = d.keep ps := by
  simp only [Part.sub_cons, Part.sub_nil, Bool.and_true, Bool.and_eq_true] at hp
  first | (simp [Dev.setStack, hp]; done) | (unfold Dev.setStack; repeat' (first | (simp [hp]; done) | (simp [hp, Dev.keep_mk]; done) | split | (simp only []; split) | (refine Dev.keep_each _ _ _ _ (fun _ _ => ?_)) | rfl ))
@[simp] theorem Dev.hbmPut_keep (ps : List Part) (d : Dev) (a : Nat) (v : Byte) (hp : Part.sub [.jrn, .path, .hbm] ps = true) :
    (Dev.hbmPut d a v).keep ps = d.keep ps := by
  simp only [Part.sub_cons, Part.sub_nil, Bool.and_true, Bool.and_eq_true] at hp
  first | (simp [Dev.hbmPut, hp]; done) | (unfold Dev.hbmPut; repeat' (first | (simp [hp]; done) | (simp [hp, Dev.keep_mk]; done) | split | (simp only []; split) | (refine Dev.keep_each _ _ _ _ (fun _ _ => ?_)) | rfl ))
@[simp] theorem Dev.hbmWrite_keep (ps : List Part) (d : Dev) (a : Nat) (l : List Byte) (hp : Part.sub [.jrn, .path, .hbm] ps = true) :
    (Dev.hbmWrite d a l).keep ps = d.keep ps := by
  simp only [Part.sub_cons, Part.sub_nil, Bool.and_true, Bool.and_eq_true] at hp
  first | (simp [Dev.hbmWrite, hp]; done) | (unfold Dev.hbmWrite; repeat' (first | (simp [hp]; done) | (simp [hp, Dev.keep_mk]; done) | split | (simp only []; split) | (refine Dev.keep_each _ _ _ _ (fun _ _ => ?_)) | rfl ))
@[simp] theorem Dev.sumSizes_keep (ps : List Part) (d : Dev) (hp : Part.sub [.regs] ps = true) :
    (Dev.sumSizes d ).keep ps = d.keep ps := by
  simp only [Part.sub_cons, Part.sub_nil, Bool.and_true, Bool.and_eq_true] at hp
  first | (simp [Dev.sumSizes, hp]; done) | (unfold Dev.sumSizes; repeat' (first | (simp [hp]; done) | (simp [hp, Dev.keep_mk]; done) | split | (simp only []; split) | (refine Dev.keep_each _ _ _ _ (fun _ _ => ?_)) | rfl ))
@[simp] theorem Dev.partSizes_keep (ps : List Part) (d : Dev) (hp : Part.sub [.regs] ps = true) :
    (Dev.partSizes d ).keep ps = d.keep ps := by
  simp only [Part.sub_cons, Part.sub_nil, Bool.and_true, Bool.and_eq_true] at hp
  first | (simp [Dev.partSizes, hp]; done) | (unfold Dev.partSizes; repeat' (first | (simp [hp]; done) | (simp [hp, Dev.keep_mk]; done) | split | (simp only []; split) | (refine Dev.keep_each _ _ _ _ (fun _ _ => ?_)) | rfl ))
@[simp] theorem Dev.memCommit_keep (ps : List Part) (d : Dev) (hp : Part.sub [.regs, .path, .hbm] ps = true) :
    (Dev.memCommit d ).keep ps = d.keep ps := by
  simp only [Part.sub_cons, Part.sub_nil, Bool.and_true, Bool.and_eq_true] at hp
  first | (simp [Dev.memCommit, hp]; done) | (unfold Dev.memCommit; repeat' (first | (simp [hp]; done) | (simp [hp, Dev.keep_mk]; done) | split | (simp only []; split) | (refine Dev.keep_each _ _ _ _ (fun _ _ => ?_)) | rfl ))
@[simp] theorem Dev.memCtrlWrite_keep (ps : List Part) (d : Dev) (v : Nat) (hp : Part.sub [.regs, .path, .hbm] ps = true) :
    (Dev.memCtrlWrite d v).keep ps = d.keep ps := by
  simp only [Part.sub_cons, Part.sub_nil, Bool.and_true, Bool.and_eq_true] at hp
  first | (simp [Dev.memCtrlWrite, hp]; done) | (unfold Dev.memCtrlWrite; repeat' (first | (simp [hp]; done) | (simp [hp, Dev.keep_mk]; done) | split | (simp only []; split) | (refine Dev.keep_each _ _ _ _ (fun _ _ => ?_)) | rfl ))
@[simp] theorem Dev.hbmFreeze_keep (ps : List Part) (d : Dev) (k kind pc row burst cls req tag syn : Nat) (hp : Part.sub [.regs, .flt, .irq, .msix, .evtDropped, .out, .hbm] ps = true) :
    (Dev.hbmFreeze d k kind pc row burst cls req tag syn).keep ps = d.keep ps := by
  simp only [Part.sub_cons, Part.sub_nil, Bool.and_true, Bool.and_eq_true] at hp
  first | (simp [Dev.hbmFreeze, hp]; done) | (unfold Dev.hbmFreeze; repeat' (first | (simp [hp]; done) | (simp [hp, Dev.keep_mk]; done) | split | (simp only []; split) | (refine Dev.keep_each _ _ _ _ (fun _ _ => ?_)) | rfl ))
@[simp] theorem Dev.hbmCorrected_keep (ps : List Part) (d : Dev) (k pc row burst req : Nat) (superseded : Bool) (hp : Part.sub [.regs, .flt, .irq, .msix, .evtDropped, .out] ps = true) :
    (Dev.hbmCorrected d k pc row burst req superseded).keep ps = d.keep ps := by
  simp only [Part.sub_cons, Part.sub_nil, Bool.and_true, Bool.and_eq_true] at hp
  first | (simp [Dev.hbmCorrected, hp]; done) | (unfold Dev.hbmCorrected; repeat' (first | (simp [hp]; done) | (simp [hp, Dev.keep_mk]; done) | split | (simp only []; split) | (refine Dev.keep_each _ _ _ _ (fun _ _ => ?_)) | rfl ))
@[simp] theorem Dev.qlogRead_keep (ps : List Part) (d : Dev) (k : Nat) (hp : Part.sub [.regs, .bus] ps = true) :
    (Dev.qlogRead d k).keep ps = d.keep ps := by
  simp only [Part.sub_cons, Part.sub_nil, Bool.and_true, Bool.and_eq_true] at hp
  first | (simp [Dev.qlogRead, hp]; done) | (unfold Dev.qlogRead; repeat' (first | (simp [hp]; done) | (simp [hp, Dev.keep_mk]; done) | split | (simp only []; split) | (refine Dev.keep_each _ _ _ _ (fun _ _ => ?_)) | rfl ))
@[simp] theorem Dev.hbmLag_keep (ps : List Part) (d : Dev) (hp : Part.sub [.regs] ps = true) :
    (Dev.hbmLag d ).keep ps = d.keep ps := by
  simp only [Part.sub_cons, Part.sub_nil, Bool.and_true, Bool.and_eq_true] at hp
  first | (simp [Dev.hbmLag, hp]; done) | (unfold Dev.hbmLag; repeat' (first | (simp [hp]; done) | (simp [hp, Dev.keep_mk]; done) | split | (simp only []; split) | (refine Dev.keep_each _ _ _ _ (fun _ _ => ?_)) | rfl ))
@[simp] theorem Dev.refRod_keep (ps : List Part) (d : Dev) (hp : Part.sub [.regs, .irq, .msix, .evtDropped, .out, .hbm] ps = true) :
    (Dev.refRod d ).keep ps = d.keep ps := by
  simp only [Part.sub_cons, Part.sub_nil, Bool.and_true, Bool.and_eq_true] at hp
  first | (simp [Dev.refRod, hp]; done) | (unfold Dev.refRod; repeat' (first | (simp [hp]; done) | (simp [hp, Dev.keep_mk]; done) | split | (simp only []; split) | (refine Dev.keep_each _ _ _ _ (fun _ _ => ?_)) | rfl ))
@[simp] theorem Dev.hbmActivate_keep (ps : List Part) (d : Dev) (a : HbmAct) (hp : Part.sub [.regs, .flt, .irq, .msix, .evtDropped, .out, .hbm] ps = true) :
    (Dev.hbmActivate d a).keep ps = d.keep ps := by
  simp only [Part.sub_cons, Part.sub_nil, Bool.and_true, Bool.and_eq_true] at hp
  first | (simp [Dev.hbmActivate, hp]; done) | (unfold Dev.hbmActivate; repeat' (first | (simp [hp]; done) | (simp [hp, Dev.keep_mk]; done) | split | (simp only []; split) | (refine Dev.keep_each _ _ _ _ (fun _ _ => ?_)) | rfl ))
@[simp] theorem Dev.nfDeck_keep (ps : List Part) (d : Dev) (hp : Part.sub [.regs, .flt, .hbm] ps = true) :
    (Dev.nfDeck d ).keep ps = d.keep ps := by
  simp only [Part.sub_cons, Part.sub_nil, Bool.and_true, Bool.and_eq_true] at hp
  first | (simp [Dev.nfDeck, hp]; done) | (unfold Dev.nfDeck; repeat' (first | (simp [hp]; done) | (simp [hp, Dev.keep_mk]; done) | split | (simp only []; split) | (refine Dev.keep_each _ _ _ _ (fun _ _ => ?_)) | rfl ))
@[simp] theorem Dev.eccDeck_keep (ps : List Part) (d : Dev) (ecc : List Nat) (hp : Part.sub [.regs] ps = true) :
    (Dev.eccDeck d ecc).keep ps = d.keep ps := by
  simp only [Part.sub_cons, Part.sub_nil, Bool.and_true, Bool.and_eq_true] at hp
  first | (simp [Dev.eccDeck, hp]; done) | (unfold Dev.eccDeck; repeat' (first | (simp [hp]; done) | (simp [hp, Dev.keep_mk]; done) | split | (simp only []; split) | (refine Dev.keep_each _ _ _ _ (fun _ _ => ?_)) | rfl ))
@[simp] theorem Dev.setG_keep (ps : List Part) (d : Dev) (k r : Nat) (v : BitVec 64) (hp : Part.sub [.rck] ps = true) :
    (Dev.setG d k r v).keep ps = d.keep ps := by
  simp only [Part.sub_cons, Part.sub_nil, Bool.and_true, Bool.and_eq_true] at hp
  first | (simp [Dev.setG, hp]; done) | (unfold Dev.setG; repeat' (first | (simp [hp]; done) | (simp [hp, Dev.keep_mk]; done) | split | (simp only []; split) | (refine Dev.keep_each _ _ _ _ (fun _ _ => ?_)) | rfl ))
@[simp] theorem Dev.setScratch_keep (ps : List Part) (d : Dev) (k a : Nat) (l : List Byte) (hp : Part.sub [.rck] ps = true) :
    (Dev.setScratch d k a l).keep ps = d.keep ps := by
  simp only [Part.sub_cons, Part.sub_nil, Bool.and_true, Bool.and_eq_true] at hp
  first | (simp [Dev.setScratch, hp]; done) | (unfold Dev.setScratch; repeat' (first | (simp [hp]; done) | (simp [hp, Dev.keep_mk]; done) | split | (simp only []; split) | (refine Dev.keep_each _ _ _ _ (fun _ _ => ?_)) | rfl ))
@[simp] theorem Dev.setPc_keep (ps : List Part) (d : Dev) (k a : Nat) (hp : Part.sub [.regs] ps = true) :
    (Dev.setPc d k a).keep ps = d.keep ps := by
  simp only [Part.sub_cons, Part.sub_nil, Bool.and_true, Bool.and_eq_true] at hp
  first | (simp [Dev.setPc, hp]; done) | (unfold Dev.setPc; repeat' (first | (simp [hp]; done) | (simp [hp, Dev.keep_mk]; done) | split | (simp only []; split) | (refine Dev.keep_each _ _ _ _ (fun _ _ => ?_)) | rfl ))
@[simp] theorem Dev.taskDenied_keep (ps : List Part) (d : Dev) (die i k : Nat) (t : Task) (hp : Part.sub [.regs, .irq, .msix, .evtDropped, .out, .jrn, .path, .nrg, .rck, .dom, .host, .fresh] ps = true) :
    (Dev.taskDenied d die i k t).keep ps = d.keep ps := by
  simp only [Part.sub_cons, Part.sub_nil, Bool.and_true, Bool.and_eq_true] at hp
  first | (simp [Dev.taskDenied, hp]; done) | (unfold Dev.taskDenied; repeat' (first | (simp [hp]; done) | (simp [hp, Dev.keep_mk]; done) | split | (simp only []; split) | (refine Dev.keep_each _ _ _ _ (fun _ _ => ?_)) | rfl ))
@[simp] theorem Dev.microFault_keep (ps : List Part) (d : Dev) (k word cause : Nat) (hp : Part.sub [.regs, .flt, .irq, .msix, .evtDropped, .out, .jrn, .path, .nrg, .rck, .dom, .host, .fresh] ps = true) :
    (Dev.microFault d k word cause).keep ps = d.keep ps := by
  simp only [Part.sub_cons, Part.sub_nil, Bool.and_true, Bool.and_eq_true] at hp
  first | (simp [Dev.microFault, hp]; done) | (unfold Dev.microFault; repeat' (first | (simp [hp]; done) | (simp [hp, Dev.keep_mk]; done) | split | (simp only []; split) | (refine Dev.keep_each _ _ _ _ (fun _ _ => ?_)) | rfl ))
@[simp] theorem Dev.faultBack_keep (ps : List Part) (d : Dev) (w : Micro) (op cause : Nat) (hp : Part.sub [.regs, .flt, .irq, .msix, .evtDropped, .out, .jrn, .path, .nrg, .rck, .dom, .host, .fresh] ps = true) :
    (Dev.faultBack d w op cause).keep ps = d.keep ps := by
  simp only [Part.sub_cons, Part.sub_nil, Bool.and_true, Bool.and_eq_true] at hp
  first | (simp [Dev.faultBack, hp]; done) | (unfold Dev.faultBack; repeat' (first | (simp [hp]; done) | (simp [hp, Dev.keep_mk]; done) | split | (simp only []; split) | (refine Dev.keep_each _ _ _ _ (fun _ _ => ?_)) | rfl ))
@[simp] theorem Dev.jump_keep (ps : List Part) (d : Dev) (w : Micro) (op target : Nat) (hp : Part.sub [.regs, .flt, .irq, .msix, .evtDropped, .out, .jrn, .path, .nrg, .rck, .dom, .host, .fresh] ps = true) :
    (Dev.jump d w op target).keep ps = d.keep ps := by
  simp only [Part.sub_cons, Part.sub_nil, Bool.and_true, Bool.and_eq_true] at hp
  first | (simp [Dev.jump, hp]; done) | (unfold Dev.jump; repeat' (first | (simp [hp]; done) | (simp [hp, Dev.keep_mk]; done) | split | (simp only []; split) | (refine Dev.keep_each _ _ _ _ (fun _ _ => ?_)) | rfl ))
@[simp] theorem Dev.kRelease_keep (ps : List Part) (d : Dev) (k : Nat) (hp : Part.sub [.regs] ps = true) :
    (Dev.kRelease d k).keep ps = d.keep ps := by
  simp only [Part.sub_cons, Part.sub_nil, Bool.and_true, Bool.and_eq_true] at hp
  first | (simp [Dev.kRelease, hp]; done) | (unfold Dev.kRelease; repeat' (first | (simp [hp]; done) | (simp [hp, Dev.keep_mk]; done) | split | (simp only []; split) | (refine Dev.keep_each _ _ _ _ (fun _ _ => ?_)) | rfl ))
@[simp] theorem Dev.takeTag_keep (ps : List Part) (d : Dev) (k : Nat) (x : TagKind) (hp : Part.sub [.rck, .fresh] ps = true) :
    (Dev.takeTag d k x).1.keep ps = d.keep ps := by
  simp only [Part.sub_cons, Part.sub_nil, Bool.and_true, Bool.and_eq_true] at hp
  first | (simp [Dev.takeTag, hp]; done) | (unfold Dev.takeTag; repeat' (first | (simp [hp]; done) | (simp [hp, Dev.keep_mk]; done) | split | (simp only []; split) | (refine Dev.keep_each _ _ _ _ (fun _ _ => ?_)) | rfl ))
@[simp] theorem Dev.inject_keep (ps : List Part) (d : Dev) (addr : Nat) (desc : List Byte) (task : Option Nat) (hp : Part.sub [.regs, .irq, .msix, .evtDropped, .out, .jrn, .path, .nrg, .host, .fresh] ps = true) :
    (Dev.inject d addr desc task).keep ps = d.keep ps := by
  simp only [Part.sub_cons, Part.sub_nil, Bool.and_true, Bool.and_eq_true] at hp
  first | (simp [Dev.inject, hp]; done) | (unfold Dev.inject; repeat' (first | (simp [hp]; done) | (simp [hp, Dev.keep_mk]; done) | split | (simp only []; split) | (refine Dev.keep_each _ _ _ _ (fun _ _ => ?_)) | rfl ))
@[simp] theorem Dev.grant_keep (ps : List Part) (d : Dev) (die i k : Nat) (t : Task) (hp : Part.sub [.regs, .irq, .msix, .evtDropped, .out, .rck, .fresh] ps = true) :
    (Dev.grant d die i k t).keep ps = d.keep ps := by
  simp only [Part.sub_cons, Part.sub_nil, Bool.and_true, Bool.and_eq_true] at hp
  first | (simp [Dev.grant, hp]; done) | (unfold Dev.grant; repeat' (first | (simp [hp]; done) | (simp [hp, Dev.keep_mk]; done) | split | (simp only []; split) | (refine Dev.keep_each _ _ _ _ (fun _ _ => ?_)) | rfl ))
@[simp] theorem Dev.csFind_keep (ps : List Part) (d : Dev) (die addr : Nat) (hp : Part.sub [.flt, .rck] ps = true) :
    (Dev.csFind d die addr).keep ps = d.keep ps := by
  simp only [Part.sub_cons, Part.sub_nil, Bool.and_true, Bool.and_eq_true] at hp
  first | (simp [Dev.csFind, hp]; done) | (unfold Dev.csFind; repeat' (first | (simp [hp]; done) | (simp [hp, Dev.keep_mk]; done) | split | (simp only []; split) | (refine Dev.keep_each _ _ _ _ (fun _ _ => ?_)) | rfl ))
@[simp] theorem Dev.reserveWrite_keep (ps : List Part) (d : Dev) (r : ResvReg) (v : Nat) (hp : Part.sub [.regs, .irq, .msix, .evtDropped, .out] ps = true) :
    (Dev.reserveWrite d r v).keep ps = d.keep ps := by
  simp only [Part.sub_cons, Part.sub_nil, Bool.and_true, Bool.and_eq_true] at hp
  first | (simp [Dev.reserveWrite, hp]; done) | (unfold Dev.reserveWrite; repeat' (first | (simp [hp]; done) | (simp [hp, Dev.keep_mk]; done) | split | (simp only []; split) | (refine Dev.keep_each _ _ _ _ (fun _ _ => ?_)) | rfl ))
@[simp] theorem Dev.auditCount_keep (ps : List Part) (d : Dev) (die f found : Nat) (hp : Part.sub [.regs, .irq, .msix, .evtDropped, .out, .path, .host] ps = true) :
    (Dev.auditCount d die f found).keep ps = d.keep ps := by
  simp only [Part.sub_cons, Part.sub_nil, Bool.and_true, Bool.and_eq_true] at hp
  first | (simp [Dev.auditCount, hp]; done) | (unfold Dev.auditCount; repeat' (first | (simp [hp]; done) | (simp [hp, Dev.keep_mk]; done) | split | (simp only []; split) | (refine Dev.keep_each _ _ _ _ (fun _ _ => ?_)) | rfl ))
@[simp] theorem Dev.auditLeak_keep (ps : List Part) (d : Dev) (die : Nat) (again : List Nat) (hp : Part.sub [.regs, .flt, .irq, .msix, .evtDropped, .out] ps = true) :
    (Dev.auditLeak d die again).keep ps = d.keep ps := by
  simp only [Part.sub_cons, Part.sub_nil, Bool.and_true, Bool.and_eq_true] at hp
  first | (simp [Dev.auditLeak, hp]; done) | (unfold Dev.auditLeak; repeat' (first | (simp [hp]; done) | (simp [hp, Dev.keep_mk]; done) | split | (simp only []; split) | (refine Dev.keep_each _ _ _ _ (fun _ _ => ?_)) | rfl ))
@[simp] theorem Dev.auditUsed_keep (ps : List Part) (d : Dev) (die n : Nat) (hp : Part.sub [.regs, .flt, .irq, .msix, .evtDropped, .out] ps = true) :
    (Dev.auditUsed d die n).keep ps = d.keep ps := by
  simp only [Part.sub_cons, Part.sub_nil, Bool.and_true, Bool.and_eq_true] at hp
  first | (simp [Dev.auditUsed, hp]; done) | (unfold Dev.auditUsed; repeat' (first | (simp [hp]; done) | (simp [hp, Dev.keep_mk]; done) | split | (simp only []; split) | (refine Dev.keep_each _ _ _ _ (fun _ _ => ?_)) | rfl ))
@[simp] theorem Dev.spillReport_keep (ps : List Part) (d : Dev) (die : Nat) (hp : Part.sub [.regs, .irq, .msix, .evtDropped, .out] ps = true) :
    (Dev.spillReport d die).keep ps = d.keep ps := by
  simp only [Part.sub_cons, Part.sub_nil, Bool.and_true, Bool.and_eq_true] at hp
  first | (simp [Dev.spillReport, hp]; done) | (unfold Dev.spillReport; repeat' (first | (simp [hp]; done) | (simp [hp, Dev.keep_mk]; done) | split | (simp only []; split) | (refine Dev.keep_each _ _ _ _ (fun _ _ => ?_)) | rfl ))
@[simp] theorem Dev.headJoin_keep (ps : List Part) (d : Dev) (die q : Nat) (x : QueueSt) (n : Nat) (normal : Bool) (hp : Part.sub [.regs, .irq, .msix, .evtDropped, .out, .path] ps = true) :
    (Dev.headJoin d die q x n normal).keep ps = d.keep ps := by
  simp only [Part.sub_cons, Part.sub_nil, Bool.and_true, Bool.and_eq_true] at hp
  first | (simp [Dev.headJoin, hp]; done) | (unfold Dev.headJoin; repeat' (first | (simp [hp]; done) | (simp [hp, Dev.keep_mk]; done) | split | (simp only []; split) | (refine Dev.keep_each _ _ _ _ (fun _ _ => ?_)) | rfl ))
@[simp] theorem Dev.schReopen_keep (ps : List Part) (d : Dev) (r : SchReg) (v : Nat) (hp : Part.sub [.path] ps = true) :
    (Dev.schReopen d r v).keep ps = d.keep ps := by
  simp only [Part.sub_cons, Part.sub_nil, Bool.and_true, Bool.and_eq_true] at hp
  first | (simp [Dev.schReopen, hp]; done) | (unfold Dev.schReopen; repeat' (first | (simp [hp]; done) | (simp [hp, Dev.keep_mk]; done) | split | (simp only []; split) | (refine Dev.keep_each _ _ _ _ (fun _ _ => ?_)) | rfl ))
@[simp] theorem Dev.schWrite_keep (ps : List Part) (d : Dev) (r : SchReg) (v : Nat) (hp : Part.sub [.regs, .path] ps = true) :
    (Dev.schWrite d r v).keep ps = d.keep ps := by
  simp only [Part.sub_cons, Part.sub_nil, Bool.and_true, Bool.and_eq_true] at hp
  first | (simp [Dev.schWrite, hp]; done) | (unfold Dev.schWrite; repeat' (first | (simp [hp]; done) | (simp [hp, Dev.keep_mk]; done) | split | (simp only []; split) | (refine Dev.keep_each _ _ _ _ (fun _ _ => ?_)) | rfl ))
@[simp] theorem Dev.schView_keep (ps : List Part) (d : Dev) (die q : Nat) (hp : Part.sub [.regs] ps = true) :
    (Dev.schView d die q).keep ps = d.keep ps := by
  simp only [Part.sub_cons, Part.sub_nil, Bool.and_true, Bool.and_eq_true] at hp
  first | (simp [Dev.schView, hp]; done) | (unfold Dev.schView; repeat' (first | (simp [hp]; done) | (simp [hp, Dev.keep_mk]; done) | split | (simp only []; split) | (refine Dev.keep_each _ _ _ _ (fun _ _ => ?_)) | rfl ))
@[simp] theorem Dev.sampleOne_keep (ps : List Part) (d : Dev) (die q tick : Nat) (hp : Part.sub [.regs, .irq, .msix, .evtDropped, .out, .path] ps = true) :
    (Dev.sampleOne d die q tick).keep ps = d.keep ps := by
  simp only [Part.sub_cons, Part.sub_nil, Bool.and_true, Bool.and_eq_true] at hp
  first | (simp [Dev.sampleOne, hp]; done) | (unfold Dev.sampleOne; repeat' (first | (simp [hp]; done) | (simp [hp, Dev.keep_mk]; done) | split | (simp only []; split) | (refine Dev.keep_each _ _ _ _ (fun _ _ => ?_)) | rfl ))
@[simp] theorem Dev.lvlSet_keep (ps : List Part) (d : Dev) (g v : Nat) (hp : Part.sub [.regs] ps = true) :
    (Dev.lvlSet d g v).keep ps = d.keep ps := by
  simp only [Part.sub_cons, Part.sub_nil, Bool.and_true, Bool.and_eq_true] at hp
  first | (simp [Dev.lvlSet, hp]; done) | (unfold Dev.lvlSet; repeat' (first | (simp [hp]; done) | (simp [hp, Dev.keep_mk]; done) | split | (simp only []; split) | (refine Dev.keep_each _ _ _ _ (fun _ _ => ?_)) | rfl ))
@[simp] theorem Dev.lvlGroupWrite_keep (ps : List Part) (d : Dev) (g v : Nat) (hp : Part.sub [.regs] ps = true) :
    (Dev.lvlGroupWrite d g v).keep ps = d.keep ps := by
  simp only [Part.sub_cons, Part.sub_nil, Bool.and_true, Bool.and_eq_true] at hp
  first | (simp [Dev.lvlGroupWrite, hp]; done) | (unfold Dev.lvlGroupWrite; repeat' (first | (simp [hp]; done) | (simp [hp, Dev.keep_mk]; done) | split | (simp only []; split) | (refine Dev.keep_each _ _ _ _ (fun _ _ => ?_)) | rfl ))
@[simp] theorem Dev.lvlQueueWrite_keep (ps : List Part) (d : Dev) (i v : Nat) (hp : Part.sub [.regs] ps = true) :
    (Dev.lvlQueueWrite d i v).keep ps = d.keep ps := by
  simp only [Part.sub_cons, Part.sub_nil, Bool.and_true, Bool.and_eq_true] at hp
  first | (simp [Dev.lvlQueueWrite, hp]; done) | (unfold Dev.lvlQueueWrite; repeat' (first | (simp [hp]; done) | (simp [hp, Dev.keep_mk]; done) | split | (simp only []; split) | (refine Dev.keep_each _ _ _ _ (fun _ _ => ?_)) | rfl ))
@[simp] theorem Dev.setGroup_keep (ps : List Part) (d : Dev) (g : Nat) (x : McGroup) (hp : Part.sub [.tbl] ps = true) :
    (Dev.setGroup d g x).keep ps = d.keep ps := by
  simp only [Part.sub_cons, Part.sub_nil, Bool.and_true, Bool.and_eq_true] at hp
  first | (simp [Dev.setGroup, hp]; done) | (unfold Dev.setGroup; repeat' (first | (simp [hp]; done) | (simp [hp, Dev.keep_mk]; done) | split | (simp only []; split) | (refine Dev.keep_each _ _ _ _ (fun _ _ => ?_)) | rfl ))
@[simp] theorem Dev.modB_keep (ps : List Part) (d : Dev) (die b : Nat) (f : Bucket → Bucket) (hp : Part.sub [.path] ps = true) :
    (Dev.modB d die b f).keep ps = d.keep ps := by
  simp only [Part.sub_cons, Part.sub_nil, Bool.and_true, Bool.and_eq_true] at hp
  first | (simp [Dev.modB, hp]; done) | (unfold Dev.modB; repeat' (first | (simp [hp]; done) | (simp [hp, Dev.keep_mk]; done) | split | (simp only []; split) | (refine Dev.keep_each _ _ _ _ (fun _ _ => ?_)) | rfl ))
@[simp] theorem Dev.natReport_keep (ps : List Part) (d : Dev) (die pool : Nat) (hp : Part.sub [.regs, .irq, .msix, .evtDropped, .out, .path] ps = true) :
    (Dev.natReport d die pool).keep ps = d.keep ps := by
  simp only [Part.sub_cons, Part.sub_nil, Bool.and_true, Bool.and_eq_true] at hp
  first | (simp [Dev.natReport, hp]; done) | (unfold Dev.natReport; repeat' (first | (simp [hp]; done) | (simp [hp, Dev.keep_mk]; done) | split | (simp only []; split) | (refine Dev.keep_each _ _ _ _ (fun _ _ => ?_)) | rfl ))
@[simp] theorem Dev.natTake_keep (ps : List Part) (d : Dev) (die pool h2 : Nat) (hp : Part.sub [.regs, .irq, .msix, .evtDropped, .out, .path, .tbl] ps = true) :
    (Dev.natTake d die pool h2).1.keep ps = d.keep ps := by
  simp only [Part.sub_cons, Part.sub_nil, Bool.and_true, Bool.and_eq_true] at hp
  first | (simp [Dev.natTake, hp]; done) | (unfold Dev.natTake; repeat' (first | (simp [hp]; done) | (simp [hp, Dev.keep_mk]; done) | split | (simp only []; split) | (refine Dev.keep_each _ _ _ _ (fun _ _ => ?_)) | rfl ))
@[simp] theorem Dev.natGive_keep (ps : List Part) (d : Dev) (die key : Nat) (hp : Part.sub [.regs, .irq, .msix, .evtDropped, .out, .path] ps = true) :
    (Dev.natGive d die key).keep ps = d.keep ps := by
  simp only [Part.sub_cons, Part.sub_nil, Bool.and_true, Bool.and_eq_true] at hp
  first | (simp [Dev.natGive, hp]; done) | (unfold Dev.natGive; repeat' (first | (simp [hp]; done) | (simp [hp, Dev.keep_mk]; done) | split | (simp only []; split) | (refine Dev.keep_each _ _ _ _ (fun _ _ => ?_)) | rfl ))
@[simp] theorem Dev.exportPut_keep (ps : List Part) (d : Dev) (die : Nat) (body : List Byte) (lastHit : Nat) (hp : Part.sub [.regs, .irq, .msix, .evtDropped, .out, .path, .rck, .fresh] ps = true) :
    (Dev.exportPut d die body lastHit).keep ps = d.keep ps := by
  simp only [Part.sub_cons, Part.sub_nil, Bool.and_true, Bool.and_eq_true] at hp
  first | (simp [Dev.exportPut, hp]; done) | (unfold Dev.exportPut; repeat' (first | (simp [hp]; done) | (simp [hp, Dev.keep_mk]; done) | split | (simp only []; split) | (refine Dev.keep_each _ _ _ _ (fun _ _ => ?_)) | rfl ))
@[simp] theorem Dev.recChange_keep (ps : List Part) (d : Dev) (die : Nat) (fk : FKey) (f : List Byte → List Byte) (hp : Part.sub [.regs, .irq, .msix, .evtDropped, .out, .path] ps = true) :
    (Dev.recChange d die fk f).keep ps = d.keep ps := by
  simp only [Part.sub_cons, Part.sub_nil, Bool.and_true, Bool.and_eq_true] at hp
  first | (simp [Dev.recChange, hp]; done) | (unfold Dev.recChange; repeat' (first | (simp [hp]; done) | (simp [hp, Dev.keep_mk]; done) | split | (simp only []; split) | (refine Dev.keep_each _ _ _ _ (fun _ _ => ?_)) | rfl ))
@[simp] theorem Dev.recDelete_keep (ps : List Part) (d : Dev) (die b s : Nat) (y : FSlot) (hp : Part.sub [.regs, .irq, .msix, .evtDropped, .out, .path, .rck, .fresh] ps = true) :
    (Dev.recDelete d die b s y).keep ps = d.keep ps := by
  simp only [Part.sub_cons, Part.sub_nil, Bool.and_true, Bool.and_eq_true] at hp
  first | (simp [Dev.recDelete, hp]; done) | (unfold Dev.recDelete; repeat' (first | (simp [hp]; done) | (simp [hp, Dev.keep_mk]; done) | split | (simp only []; split) | (refine Dev.keep_each _ _ _ _ (fun _ _ => ?_)) | rfl ))
@[simp] theorem Dev.reserve_keep (ps : List Part) (d : Dev) (die : Nat) (dest : Nat × Nat) (moves : List (Nat × Nat × Nat × Nat)) (hp : Part.sub [.path] ps = true) :
    (Dev.reserve d die dest moves).keep ps = d.keep ps := by
  simp only [Part.sub_cons, Part.sub_nil, Bool.and_true, Bool.and_eq_true] at hp
  first | (simp [Dev.reserve, hp]; done) | (unfold Dev.reserve; repeat' (first | (simp [hp]; done) | (simp [hp, Dev.keep_mk]; done) | split | (simp only []; split) | (refine Dev.keep_each _ _ _ _ (fun _ _ => ?_)) | rfl ))
@[simp] theorem Dev.setOps_keep (ps : List Part) (d : Dev) (die : Nat) (l : List EngOp) (hp : Part.sub [.path] ps = true) :
    (Dev.setOps d die l).keep ps = d.keep ps := by
  simp only [Part.sub_cons, Part.sub_nil, Bool.and_true, Bool.and_eq_true] at hp
  first | (simp [Dev.setOps, hp]; done) | (unfold Dev.setOps; repeat' (first | (simp [hp]; done) | (simp [hp, Dev.keep_mk]; done) | split | (simp only []; split) | (refine Dev.keep_each _ _ _ _ (fun _ _ => ?_)) | rfl ))
@[simp] theorem Dev.setLearns_keep (ps : List Part) (d : Dev) (die : Nat) (l : List LearnEnt) (hp : Part.sub [.regs, .path] ps = true) :
    (Dev.setLearns d die l).keep ps = d.keep ps := by
  simp only [Part.sub_cons, Part.sub_nil, Bool.and_true, Bool.and_eq_true] at hp
  first | (simp [Dev.setLearns, hp]; done) | (unfold Dev.setLearns; repeat' (first | (simp [hp]; done) | (simp [hp, Dev.keep_mk]; done) | split | (simp only []; split) | (refine Dev.keep_each _ _ _ _ (fun _ _ => ?_)) | rfl ))
@[simp] theorem Dev.insFail_keep (ps : List Part) (d : Dev) (die : Nat) (o : EngOp) (hp : Part.sub [.regs, .irq, .msix, .evtDropped, .out, .jrn, .path, .nrg, .rck, .dom, .host, .fresh] ps = true) :
    (Dev.insFail d die o).keep ps = d.keep ps := by
  simp only [Part.sub_cons, Part.sub_nil, Bool.and_true, Bool.and_eq_true] at hp
  first | (simp [Dev.insFail, hp]; done) | (unfold Dev.insFail; repeat' (first | (simp [hp]; done) | (simp [hp, Dev.keep_mk]; done) | split | (simp only []; split) | (refine Dev.keep_each _ _ _ _ (fun _ _ => ?_)) | rfl ))
@[simp] theorem Dev.moveSwitch_keep (ps : List Part) (d : Dev) (die : Nat) (m : Nat × Nat × Nat × Nat) (last : Bool) (hp : Part.sub [.regs, .irq, .msix, .evtDropped, .out, .path] ps = true) :
    (Dev.moveSwitch d die m last).keep ps = d.keep ps := by
  simp only [Part.sub_cons, Part.sub_nil, Bool.and_true, Bool.and_eq_true] at hp
  first | (simp [Dev.moveSwitch, hp]; done) | (unfold Dev.moveSwitch; repeat' (first | (simp [hp]; done) | (simp [hp, Dev.keep_mk]; done) | split | (simp only []; split) | (refine Dev.keep_each _ _ _ _ (fun _ _ => ?_)) | rfl ))
@[simp] theorem Dev.opRelease_keep (ps : List Part) (d : Dev) (die : Nat) (o : EngOp) (hp : Part.sub [.regs, .irq, .msix, .evtDropped, .out, .jrn, .path, .nrg, .rck, .dom, .host, .fresh] ps = true) :
    (Dev.opRelease d die o).keep ps = d.keep ps := by
  simp only [Part.sub_cons, Part.sub_nil, Bool.and_true, Bool.and_eq_true] at hp
  first | (simp [Dev.opRelease, hp]; done) | (unfold Dev.opRelease; repeat' (first | (simp [hp]; done) | (simp [hp, Dev.keep_mk]; done) | split | (simp only []; split) | (refine Dev.keep_each _ _ _ _ (fun _ _ => ?_)) | rfl ))
@[simp] theorem Dev.reKeyAll_keep (ps : List Part) (d : Dev) (die : Nat) (hp : Part.sub [.path] ps = true) :
    (Dev.reKeyAll d die).keep ps = d.keep ps := by
  simp only [Part.sub_cons, Part.sub_nil, Bool.and_true, Bool.and_eq_true] at hp
  first | (simp [Dev.reKeyAll, hp]; done) | (unfold Dev.reKeyAll; repeat' (first | (simp [hp]; done) | (simp [hp, Dev.keep_mk]; done) | split | (simp only []; split) | (refine Dev.keep_each _ _ _ _ (fun _ _ => ?_)) | rfl ))
@[simp] theorem Dev.dualNow_keep (ps : List Part) (d : Dev) (die h1 h2 : Nat) (hp : Part.sub [.regs, .path] ps = true) :
    (Dev.dualNow d die h1 h2).keep ps = d.keep ps := by
  simp only [Part.sub_cons, Part.sub_nil, Bool.and_true, Bool.and_eq_true] at hp
  first | (simp [Dev.dualNow, hp]; done) | (unfold Dev.dualNow; repeat' (first | (simp [hp]; done) | (simp [hp, Dev.keep_mk]; done) | split | (simp only []; split) | (refine Dev.keep_each _ _ _ _ (fun _ _ => ?_)) | rfl ))
@[simp] theorem Dev.singleNow_keep (ps : List Part) (d : Dev) (die : Nat) (hp : Part.sub [.regs, .path] ps = true) :
    (Dev.singleNow d die).keep ps = d.keep ps := by
  simp only [Part.sub_cons, Part.sub_nil, Bool.and_true, Bool.and_eq_true] at hp
  first | (simp [Dev.singleNow, hp]; done) | (unfold Dev.singleNow; repeat' (first | (simp [hp]; done) | (simp [hp, Dev.keep_mk]; done) | split | (simp only []; split) | (refine Dev.keep_each _ _ _ _ (fun _ _ => ?_)) | rfl ))
@[simp] theorem Dev.setKills_keep (ps : List Part) (d : Dev) (die : Nat) (l : List KillEnt) (hp : Part.sub [.regs, .path] ps = true) :
    (Dev.setKills d die l).keep ps = d.keep ps := by
  simp only [Part.sub_cons, Part.sub_nil, Bool.and_true, Bool.and_eq_true] at hp
  first | (simp [Dev.setKills, hp]; done) | (unfold Dev.setKills; repeat' (first | (simp [hp]; done) | (simp [hp, Dev.keep_mk]; done) | split | (simp only []; split) | (refine Dev.keep_each _ _ _ _ (fun _ _ => ?_)) | rfl ))
@[simp] theorem Dev.freeBytes_keep (ps : List Part) (d : Dev) (n : Nat) (hp : Part.sub [.fresh] ps = true) :
    (Dev.freeBytes d n).1.keep ps = d.keep ps := by
  simp only [Part.sub_cons, Part.sub_nil, Bool.and_true, Bool.and_eq_true] at hp
  first | (simp [Dev.freeBytes, hp]; done) | (unfold Dev.freeBytes; repeat' (first | (simp [hp]; done) | (simp [hp, Dev.keep_mk]; done) | split | (simp only []; split) | (refine Dev.keep_each _ _ _ _ (fun _ _ => ?_)) | rfl ))
@[simp] theorem Dev.ipfixSend_keep (ps : List Part) (d : Dev) (die set : Nat) (body : List Byte) (hp : Part.sub [.regs, .irq, .msix, .evtDropped, .out, .jrn, .path, .nrg, .host, .fresh] ps = true) :
    (Dev.ipfixSend d die set body).keep ps = d.keep ps := by
  simp only [Part.sub_cons, Part.sub_nil, Bool.and_true, Bool.and_eq_true] at hp
  first | (simp [Dev.ipfixSend, hp]; done) | (unfold Dev.ipfixSend; repeat' (first | (simp [hp]; done) | (simp [hp, Dev.keep_mk]; done) | split | (simp only []; split) | (refine Dev.keep_each _ _ _ _ (fun _ _ => ?_)) | rfl ))
@[simp] theorem Dev.sweepHome_keep (ps : List Part) (d : Dev) (die b : Nat) (hp : Part.sub [.regs, .path, .nrg] ps = true) :
    (Dev.sweepHome d die b).keep ps = d.keep ps := by
  simp only [Part.sub_cons, Part.sub_nil, Bool.and_true, Bool.and_eq_true] at hp
  first | (simp [Dev.sweepHome, hp]; done) | (unfold Dev.sweepHome; repeat' (first | (simp [hp]; done) | (simp [hp, Dev.keep_mk]; done) | split | (simp only []; split) | (refine Dev.keep_each _ _ _ _ (fun _ _ => ?_)) | rfl ))
@[simp] theorem Dev.sweepVisit_keep (ps : List Part) (d : Dev) (die : Nat) (hp : Part.sub [.regs, .path, .nrg] ps = true) :
    (Dev.sweepVisit d die).keep ps = d.keep ps := by
  simp only [Part.sub_cons, Part.sub_nil, Bool.and_true, Bool.and_eq_true] at hp
  first | (simp [Dev.sweepVisit, hp]; done) | (unfold Dev.sweepVisit; repeat' (first | (simp [hp]; done) | (simp [hp, Dev.keep_mk]; done) | split | (simp only []; split) | (refine Dev.keep_each _ _ _ _ (fun _ _ => ?_)) | rfl ))
@[simp] theorem Dev.retireStep_keep (ps : List Part) (d : Dev) (die : Nat) (hp : Part.sub [.regs, .irq, .msix, .evtDropped, .out, .jrn, .path, .nrg, .rck, .dom, .host, .fresh] ps = true) :
    (Dev.retireStep d die).keep ps = d.keep ps := by
  simp only [Part.sub_cons, Part.sub_nil, Bool.and_true, Bool.and_eq_true] at hp
  first | (simp [Dev.retireStep, hp]; done) | (unfold Dev.retireStep; repeat' (first | (simp [hp]; done) | (simp [hp, Dev.keep_mk]; done) | split | (simp only []; split) | (refine Dev.keep_each _ _ _ _ (fun _ _ => ?_)) | rfl ))
@[simp] theorem Dev.flowKill_keep (ps : List Part) (d : Dev) (h : CmdHdr) (op die : Nat) (fk : FKey) (on : Bool) (hp : Part.sub [.regs, .irq, .msix, .evtDropped, .out, .jrn, .path, .nrg, .rck, .dom, .host, .fresh] ps = true) :
    (Dev.flowKill d h op die fk on).keep ps = d.keep ps := by
  simp only [Part.sub_cons, Part.sub_nil, Bool.and_true, Bool.and_eq_true] at hp
  first | (simp [Dev.flowKill, hp]; done) | (unfold Dev.flowKill; repeat' (first | (simp [hp]; done) | (simp [hp, Dev.keep_mk]; done) | split | (simp only []; split) | (refine Dev.keep_each _ _ _ _ (fun _ _ => ?_)) | rfl ))
@[simp] theorem Dev.tblReport_keep (ps : List Part) (d : Dev) (die no : Nat) (hp : Part.sub [.regs] ps = true) :
    (Dev.tblReport d die no).keep ps = d.keep ps := by
  simp only [Part.sub_cons, Part.sub_nil, Bool.and_true, Bool.and_eq_true] at hp
  first | (simp [Dev.tblReport, hp]; done) | (unfold Dev.tblReport; repeat' (first | (simp [hp]; done) | (simp [hp, Dev.keep_mk]; done) | split | (simp only []; split) | (refine Dev.keep_each _ _ _ _ (fun _ _ => ?_)) | rfl ))
@[simp] theorem Dev.setTable_keep (ps : List Part) (d : Dev) (die no : Nat) (x : Option Table) (hp : Part.sub [.regs, .tbl] ps = true) :
    (Dev.setTable d die no x).keep ps = d.keep ps := by
  simp only [Part.sub_cons, Part.sub_nil, Bool.and_true, Bool.and_eq_true] at hp
  first | (simp [Dev.setTable, hp]; done) | (unfold Dev.setTable; repeat' (first | (simp [hp]; done) | (simp [hp, Dev.keep_mk]; done) | split | (simp only []; split) | (refine Dev.keep_each _ _ _ _ (fun _ _ => ?_)) | rfl ))
@[simp] theorem Dev.holeCheck_keep (ps : List Part) (d : Dev) (die no : Nat) (t : Table) (row : Nat) (hp : Part.sub [.regs, .irq, .msix, .evtDropped, .out, .tbl] ps = true) :
    (Dev.holeCheck d die no t row).keep ps = d.keep ps := by
  simp only [Part.sub_cons, Part.sub_nil, Bool.and_true, Bool.and_eq_true] at hp
  first | (simp [Dev.holeCheck, hp]; done) | (unfold Dev.holeCheck; repeat' (first | (simp [hp]; done) | (simp [hp, Dev.keep_mk]; done) | split | (simp only []; split) | (refine Dev.keep_each _ _ _ _ (fun _ _ => ?_)) | rfl ))
@[simp] theorem Dev.tblNoRoom_keep (ps : List Part) (d : Dev) (die no : Nat) (hp : Part.sub [.regs, .irq, .msix, .evtDropped, .out] ps = true) :
    (Dev.tblNoRoom d die no).keep ps = d.keep ps := by
  simp only [Part.sub_cons, Part.sub_nil, Bool.and_true, Bool.and_eq_true] at hp
  first | (simp [Dev.tblNoRoom, hp]; done) | (unfold Dev.tblNoRoom; repeat' (first | (simp [hp]; done) | (simp [hp, Dev.keep_mk]; done) | split | (simp only []; split) | (refine Dev.keep_each _ _ _ _ (fun _ _ => ?_)) | rfl ))
@[simp] theorem Dev.jobReply_keep (ps : List Part) (d : Dev) (j : InsJob) (hp : Part.sub [.regs, .irq, .msix, .evtDropped, .out, .jrn, .path, .nrg, .rck, .dom, .host, .fresh] ps = true) :
    (Dev.jobReply d j).keep ps = d.keep ps := by
  simp only [Part.sub_cons, Part.sub_nil, Bool.and_true, Bool.and_eq_true] at hp
  first | (simp [Dev.jobReply, hp]; done) | (unfold Dev.jobReply; repeat' (first | (simp [hp]; done) | (simp [hp, Dev.keep_mk]; done) | split | (simp only []; split) | (refine Dev.keep_each _ _ _ _ (fun _ _ => ?_)) | rfl ))
@[simp] theorem Dev.tblDelete_keep (ps : List Part) (d : Dev) (die no plen handle : Nat) (key : List Byte) (hp : Part.sub [.regs, .tbl] ps = true) :
    (Dev.tblDelete d die no plen handle key).keep ps = d.keep ps := by
  simp only [Part.sub_cons, Part.sub_nil, Bool.and_true, Bool.and_eq_true] at hp
  first | (simp [Dev.tblDelete, hp]; done) | (unfold Dev.tblDelete; repeat' (first | (simp [hp]; done) | (simp [hp, Dev.keep_mk]; done) | split | (simp only []; split) | (refine Dev.keep_each _ _ _ _ (fun _ _ => ?_)) | rfl ))
@[simp] theorem Dev.keepBind_keep (ps : List Part) (d : Dev) (die no : Nat) (t : Table) (hp : Part.sub [.tbl] ps = true) :
    (Dev.keepBind d die no t).keep ps = d.keep ps := by
  simp only [Part.sub_cons, Part.sub_nil, Bool.and_true, Bool.and_eq_true] at hp
  first | (simp [Dev.keepBind, hp]; done) | (unfold Dev.keepBind; repeat' (first | (simp [hp]; done) | (simp [hp, Dev.keep_mk]; done) | split | (simp only []; split) | (refine Dev.keep_each _ _ _ _ (fun _ _ => ?_)) | rfl ))
@[simp] theorem Dev.setBind_keep (ps : List Part) (d : Dev) (die no : Nat) (b : Option (Nat × Nat × Nat)) (segs : Option (List Byte)) (hp : Part.sub [.regs, .tbl] ps = true) :
    (Dev.setBind d die no b segs).keep ps = d.keep ps := by
  simp only [Part.sub_cons, Part.sub_nil, Bool.and_true, Bool.and_eq_true] at hp
  first | (simp [Dev.setBind, hp]; done) | (unfold Dev.setBind; repeat' (first | (simp [hp]; done) | (simp [hp, Dev.keep_mk]; done) | split | (simp only []; split) | (refine Dev.keep_each _ _ _ _ (fun _ _ => ?_)) | rfl ))
@[simp] theorem Dev.tblBind_keep (ps : List Part) (d : Dev) (die no dir stage slot : Nat) (segs : List Byte) (hp : Part.sub [.regs, .tbl] ps = true) :
    (Dev.tblBind d die no dir stage slot segs).keep ps = d.keep ps := by
  simp only [Part.sub_cons, Part.sub_nil, Bool.and_true, Bool.and_eq_true] at hp
  first | (simp [Dev.tblBind, hp]; done) | (unfold Dev.tblBind; repeat' (first | (simp [hp]; done) | (simp [hp, Dev.keep_mk]; done) | split | (simp only []; split) | (refine Dev.keep_each _ _ _ _ (fun _ _ => ?_)) | rfl ))
@[simp] theorem Dev.tblUnbind_keep (ps : List Part) (d : Dev) (die no : Nat) (hp : Part.sub [.regs, .tbl] ps = true) :
    (Dev.tblUnbind d die no).keep ps = d.keep ps := by
  simp only [Part.sub_cons, Part.sub_nil, Bool.and_true, Bool.and_eq_true] at hp
  first | (simp [Dev.tblUnbind, hp]; done) | (unfold Dev.tblUnbind; repeat' (first | (simp [hp]; done) | (simp [hp, Dev.keep_mk]; done) | split | (simp only []; split) | (refine Dev.keep_each _ _ _ _ (fun _ _ => ?_)) | rfl ))
@[simp] theorem Dev.profileWrite_keep (ps : List Part) (d : Dev) (die dir stage slot p : Nat) (entry : List Byte) (hp : Part.sub [.tbl] ps = true) :
    (Dev.profileWrite d die dir stage slot p entry).keep ps = d.keep ps := by
  simp only [Part.sub_cons, Part.sub_nil, Bool.and_true, Bool.and_eq_true] at hp
  first | (simp [Dev.profileWrite, hp]; done) | (unfold Dev.profileWrite; repeat' (first | (simp [hp]; done) | (simp [hp, Dev.keep_mk]; done) | split | (simp only []; split) | (refine Dev.keep_each _ _ _ _ (fun _ _ => ?_)) | rfl ))
@[simp] theorem Dev.setVersion_keep (ps : List Part) (d : Dev) (v prev : Nat) (hp : Part.sub [.regs] ps = true) :
    (Dev.setVersion d v prev).keep ps = d.keep ps := by
  simp only [Part.sub_cons, Part.sub_nil, Bool.and_true, Bool.and_eq_true] at hp
  first | (simp [Dev.setVersion, hp]; done) | (unfold Dev.setVersion; repeat' (first | (simp [hp]; done) | (simp [hp, Dev.keep_mk]; done) | split | (simp only []; split) | (refine Dev.keep_each _ _ _ _ (fun _ _ => ?_)) | rfl ))
@[simp] theorem Dev.poisonFault_keep (ps : List Part) (d : Dev) (die : Nat) (no : Option Nat) (entry : Nat) (hp : Part.sub [.regs, .flt, .irq, .msix, .evtDropped, .out] ps = true) :
    (Dev.poisonFault d die no entry).keep ps = d.keep ps := by
  simp only [Part.sub_cons, Part.sub_nil, Bool.and_true, Bool.and_eq_true] at hp
  first | (simp [Dev.poisonFault, hp]; done) | (unfold Dev.poisonFault; repeat' (first | (simp [hp]; done) | (simp [hp, Dev.keep_mk]; done) | split | (simp only []; split) | (refine Dev.keep_each _ _ _ _ (fun _ _ => ?_)) | rfl ))
@[simp] theorem Dev.scrubFound_keep (ps : List Part) (d : Dev) (die : Nat) (f : ScrubFind) (hp : Part.sub [.regs, .flt, .irq, .msix, .evtDropped, .out, .tbl] ps = true) :
    (Dev.scrubFound d die f).keep ps = d.keep ps := by
  simp only [Part.sub_cons, Part.sub_nil, Bool.and_true, Bool.and_eq_true] at hp
  first | (simp [Dev.scrubFound, hp]; done) | (unfold Dev.scrubFound; repeat' (first | (simp [hp]; done) | (simp [hp, Dev.keep_mk]; done) | split | (simp only []; split) | (refine Dev.keep_each _ _ _ _ (fun _ _ => ?_)) | rfl ))
@[simp] theorem Dev.scrubLag_keep (ps : List Part) (d : Dev) (die : Nat) (hp : Part.sub [.regs] ps = true) :
    (Dev.scrubLag d die).keep ps = d.keep ps := by
  simp only [Part.sub_cons, Part.sub_nil, Bool.and_true, Bool.and_eq_true] at hp
  first | (simp [Dev.scrubLag, hp]; done) | (unfold Dev.scrubLag; repeat' (first | (simp [hp]; done) | (simp [hp, Dev.keep_mk]; done) | split | (simp only []; split) | (refine Dev.keep_each _ _ _ _ (fun _ _ => ?_)) | rfl ))
@[simp] theorem Dev.setScrub_keep (ps : List Part) (d : Dev) (die : Nat) (f : Nat × Nat → Nat × Nat) (hp : Part.sub [.regs, .tbl] ps = true) :
    (Dev.setScrub d die f).keep ps = d.keep ps := by
  simp only [Part.sub_cons, Part.sub_nil, Bool.and_true, Bool.and_eq_true] at hp
  first | (simp [Dev.setScrub, hp]; done) | (unfold Dev.setScrub; repeat' (first | (simp [hp]; done) | (simp [hp, Dev.keep_mk]; done) | split | (simp only []; split) | (refine Dev.keep_each _ _ _ _ (fun _ _ => ?_)) | rfl ))
@[simp] theorem Dev.swapWrite_keep (ps : List Part) (d : Dev) (die v : Nat) (hp : Part.sub [.regs, .deferred] ps = true) :
    (Dev.swapWrite d die v).keep ps = d.keep ps := by
  simp only [Part.sub_cons, Part.sub_nil, Bool.and_true, Bool.and_eq_true] at hp
  first | (simp [Dev.swapWrite, hp]; done) | (unfold Dev.swapWrite; repeat' (first | (simp [hp]; done) | (simp [hp, Dev.keep_mk]; done) | split | (simp only []; split) | (refine Dev.keep_each _ _ _ _ (fun _ _ => ?_)) | rfl ))
@[simp] theorem Dev.setBatch_keep (ps : List Part) (d : Dev) (id : Nat) (b : Option Batch) (hp : Part.sub [.host] ps = true) :
    (Dev.setBatch d id b).keep ps = d.keep ps := by
  simp only [Part.sub_cons, Part.sub_nil, Bool.and_true, Bool.and_eq_true] at hp
  first | (simp [Dev.setBatch, hp]; done) | (unfold Dev.setBatch; repeat' (first | (simp [hp]; done) | (simp [hp, Dev.keep_mk]; done) | split | (simp only []; split) | (refine Dev.keep_each _ _ _ _ (fun _ _ => ?_)) | rfl ))
@[simp] theorem Dev.swapReport_keep (ps : List Part) (d : Dev) (hp : Part.sub [.regs] ps = true) :
    (Dev.swapReport d ).keep ps = d.keep ps := by
  simp only [Part.sub_cons, Part.sub_nil, Bool.and_true, Bool.and_eq_true] at hp
  first | (simp [Dev.swapReport, hp]; done) | (unfold Dev.swapReport; repeat' (first | (simp [hp]; done) | (simp [hp, Dev.keep_mk]; done) | split | (simp only []; split) | (refine Dev.keep_each _ _ _ _ (fun _ _ => ?_)) | rfl ))
@[simp] theorem Dev.commitAsk_keep (ps : List Part) (d : Dev) (id : Nat) (b : Batch) (r : CmdSrc × Nat × Nat) (hp : Part.sub [.regs, .irq, .msix, .evtDropped, .out, .host] ps = true) :
    (Dev.commitAsk d id b r).keep ps = d.keep ps := by
  simp only [Part.sub_cons, Part.sub_nil, Bool.and_true, Bool.and_eq_true] at hp
  first | (simp [Dev.commitAsk, hp]; done) | (unfold Dev.commitAsk; repeat' (first | (simp [hp]; done) | (simp [hp, Dev.keep_mk]; done) | split | (simp only []; split) | (refine Dev.keep_each _ _ _ _ (fun _ _ => ?_)) | rfl ))
@[simp] theorem Dev.ctxEnd_keep (ps : List Part) (d : Dev) (c : CmdCtx) (status : Nat) (hp : Part.sub [.regs, .irq, .msix, .evtDropped, .out, .jrn, .path, .nrg, .rck, .dom, .host, .fresh] ps = true) :
    (Dev.ctxEnd d c status).keep ps = d.keep ps := by
  simp only [Part.sub_cons, Part.sub_nil, Bool.and_true, Bool.and_eq_true] at hp
  first | (simp [Dev.ctxEnd, hp]; done) | (unfold Dev.ctxEnd; repeat' (first | (simp [hp]; done) | (simp [hp, Dev.keep_mk]; done) | split | (simp only []; split) | (refine Dev.keep_each _ _ _ _ (fun _ _ => ?_)) | rfl ))
@[simp] theorem Dev.cmdTaskMake_keep (ps : List Part) (d : Dev) (die : Nat) (c : CmdCtx) (deadline : Nat) (hp : Part.sub [.regs, .irq, .msix, .evtDropped, .out, .rck, .fresh] ps = true) :
    (Dev.cmdTaskMake d die c deadline).keep ps = d.keep ps := by
  simp only [Part.sub_cons, Part.sub_nil, Bool.and_true, Bool.and_eq_true] at hp
  first | (simp [Dev.cmdTaskMake, hp]; done) | (unfold Dev.cmdTaskMake; repeat' (first | (simp [hp]; done) | (simp [hp, Dev.keep_mk]; done) | split | (simp only []; split) | (refine Dev.keep_each _ _ _ _ (fun _ _ => ?_)) | rfl ))
@[simp] theorem Dev.cmdRelay_keep (ps : List Part) (d : Dev) (die : Nat) (c : CmdCtx) (p : List Byte) (hp : Part.sub [.regs, .irq, .msix, .evtDropped, .out, .jrn, .path, .nrg, .rck, .dom, .host, .fresh] ps = true) :
    (Dev.cmdRelay d die c p).keep ps = d.keep ps := by
  simp only [Part.sub_cons, Part.sub_nil, Bool.and_true, Bool.and_eq_true] at hp
  first | (simp [Dev.cmdRelay, hp]; done) | (unfold Dev.cmdRelay; repeat' (first | (simp [hp]; done) | (simp [hp, Dev.keep_mk]; done) | split | (simp only []; split) | (refine Dev.keep_each _ _ _ _ (fun _ _ => ?_)) | rfl ))
@[simp] theorem Dev.cmdRun_keep (ps : List Part) (d : Dev) (die : Nat) (c : CmdCtx) (p : List Byte) (hp : Part.sub [.regs, .irq, .msix, .evtDropped, .out, .jrn, .path, .nrg, .rck, .dom, .host, .fresh] ps = true) :
    (Dev.cmdRun d die c p).keep ps = d.keep ps := by
  simp only [Part.sub_cons, Part.sub_nil, Bool.and_true, Bool.and_eq_true] at hp
  first | (simp [Dev.cmdRun, hp]; done) | (unfold Dev.cmdRun; repeat' (first | (simp [hp]; done) | (simp [hp, Dev.keep_mk]; done) | split | (simp only []; split) | (refine Dev.keep_each _ _ _ _ (fun _ _ => ?_)) | rfl ))
@[simp] theorem Dev.cmdAccept_keep (ps : List Part) (d : Dev) (die : Nat) (c : CmdCtx) (p : List Byte) (slot : Option Nat) (hp : Part.sub [.regs, .irq, .msix, .evtDropped, .out, .jrn, .path, .nrg, .rck, .dom, .host, .fresh] ps = true) :
    (Dev.cmdAccept d die c p slot).keep ps = d.keep ps := by
  simp only [Part.sub_cons, Part.sub_nil, Bool.and_true, Bool.and_eq_true] at hp
  first | (simp [Dev.cmdAccept, hp]; done) | (unfold Dev.cmdAccept; repeat' (first | (simp [hp]; done) | (simp [hp, Dev.keep_mk]; done) | split | (simp only []; split) | (refine Dev.keep_each _ _ _ _ (fun _ _ => ?_)) | rfl ))
@[simp] theorem Dev.ringErr_keep (ps : List Part) (d : Dev) (r cause : Nat) (hp : Part.sub [.regs, .irq, .msix, .evtDropped, .out] ps = true) :
    (Dev.ringErr d r cause).keep ps = d.keep ps := by
  simp only [Part.sub_cons, Part.sub_nil, Bool.and_true, Bool.and_eq_true] at hp
  first | (simp [Dev.ringErr, hp]; done) | (unfold Dev.ringErr; repeat' (first | (simp [hp]; done) | (simp [hp, Dev.keep_mk]; done) | split | (simp only []; split) | (refine Dev.keep_each _ _ _ _ (fun _ _ => ?_)) | rfl ))
@[simp] theorem Dev.prodWrite_keep (ps : List Part) (d : Dev) (r v : Nat) (hp : Part.sub [.regs, .irq, .msix, .evtDropped, .out] ps = true) :
    (Dev.prodWrite d r v).keep ps = d.keep ps := by
  simp only [Part.sub_cons, Part.sub_nil, Bool.and_true, Bool.and_eq_true] at hp
  first | (simp [Dev.prodWrite, hp]; done) | (unfold Dev.prodWrite; repeat' (first | (simp [hp]; done) | (simp [hp, Dev.keep_mk]; done) | split | (simp only []; split) | (refine Dev.keep_each _ _ _ _ (fun _ _ => ?_)) | rfl ))
@[simp] theorem Dev.rrRdWrite_keep (ps : List Part) (d : Dev) (r v : Nat) (hp : Part.sub [.regs, .irq, .msix, .evtDropped, .out] ps = true) :
    (Dev.rrRdWrite d r v).keep ps = d.keep ps := by
  simp only [Part.sub_cons, Part.sub_nil, Bool.and_true, Bool.and_eq_true] at hp
  first | (simp [Dev.rrRdWrite, hp]; done) | (unfold Dev.rrRdWrite; repeat' (first | (simp [hp]; done) | (simp [hp, Dev.keep_mk]; done) | split | (simp only []; split) | (refine Dev.keep_each _ _ _ _ (fun _ _ => ?_)) | rfl ))
@[simp] theorem Dev.schedRelease_keep (ps : List Part) (d : Dev) (hp : Part.sub [.regs, .irq, .msix, .evtDropped, .out, .jrn, .path, .nrg, .rck, .dom, .host, .fresh] ps = true) :
    (Dev.schedRelease d ).keep ps = d.keep ps := by
  simp only [Part.sub_cons, Part.sub_nil, Bool.and_true, Bool.and_eq_true] at hp
  first | (simp [Dev.schedRelease, hp]; done) | (unfold Dev.schedRelease; repeat' (first | (simp [hp]; done) | (simp [hp, Dev.keep_mk]; done) | split | (simp only []; split) | (refine Dev.keep_each _ _ _ _ (fun _ _ => ?_)) | rfl ))
@[simp] theorem Dev.punt_keep (ps : List Part) (d : Dev) (die : Nat) (e : RmdDesc) (hp : Part.sub [.regs, .irq, .msix, .evtDropped, .out, .host] ps = true) :
    (Dev.punt d die e).keep ps = d.keep ps := by
  simp only [Part.sub_cons, Part.sub_nil, Bool.and_true, Bool.and_eq_true] at hp
  first | (simp [Dev.punt, hp]; done) | (unfold Dev.punt; repeat' (first | (simp [hp]; done) | (simp [hp, Dev.keep_mk]; done) | split | (simp only []; split) | (refine Dev.keep_each _ _ _ _ (fun _ _ => ?_)) | rfl ))
@[simp] theorem Dev.setChan_keep (ps : List Part) (d : Dev) (n : Nat) (x : ChanSt) (hp : Part.sub [.host] ps = true) :
    (Dev.setChan d n x).keep ps = d.keep ps := by
  simp only [Part.sub_cons, Part.sub_nil, Bool.and_true, Bool.and_eq_true] at hp
  first | (simp [Dev.setChan, hp]; done) | (unfold Dev.setChan; repeat' (first | (simp [hp]; done) | (simp [hp, Dev.keep_mk]; done) | split | (simp only []; split) | (refine Dev.keep_each _ _ _ _ (fun _ _ => ?_)) | rfl ))
@[simp] theorem Dev.setChanState_keep (ps : List Part) (d : Dev) (n st : Nat) (hp : Part.sub [.regs] ps = true) :
    (Dev.setChanState d n st).keep ps = d.keep ps := by
  simp only [Part.sub_cons, Part.sub_nil, Bool.and_true, Bool.and_eq_true] at hp
  first | (simp [Dev.setChanState, hp]; done) | (unfold Dev.setChanState; repeat' (first | (simp [hp]; done) | (simp [hp, Dev.keep_mk]; done) | split | (simp only []; split) | (refine Dev.keep_each _ _ _ _ (fun _ _ => ?_)) | rfl ))
@[simp] theorem Dev.chanHalt_keep (ps : List Part) (d : Dev) (n cause addr : Nat) (write onDesc : Bool) (hp : Part.sub [.regs, .irq, .msix, .evtDropped, .out] ps = true) :
    (Dev.chanHalt d n cause addr write onDesc).keep ps = d.keep ps := by
  simp only [Part.sub_cons, Part.sub_nil, Bool.and_true, Bool.and_eq_true] at hp
  first | (simp [Dev.chanHalt, hp]; done) | (unfold Dev.chanHalt; repeat' (first | (simp [hp]; done) | (simp [hp, Dev.keep_mk]; done) | split | (simp only []; split) | (refine Dev.keep_each _ _ _ _ (fun _ _ => ?_)) | rfl ))
@[simp] theorem Dev.dmaMove_keep (ps : List Part) (d : Dev) (ss src ds dst len : Nat) (data : List Byte) (hp : Part.sub [.out, .jrn, .path, .hbm, .host] ps = true) :
    (Dev.dmaMove d ss src ds dst len data).keep ps = d.keep ps := by
  simp only [Part.sub_cons, Part.sub_nil, Bool.and_true, Bool.and_eq_true] at hp
  first | (simp [Dev.dmaMove, hp]; done) | (unfold Dev.dmaMove; repeat' (first | (simp [hp]; done) | (simp [hp, Dev.keep_mk]; done) | split | (simp only []; split) | (refine Dev.keep_each _ _ _ _ (fun _ _ => ?_)) | rfl ))
@[simp] theorem Dev.chanFields_keep (ps : List Part) (d : Dev) (n v : Nat) (hp : Part.sub [.regs] ps = true) :
    (Dev.chanFields d n v).keep ps = d.keep ps := by
  simp only [Part.sub_cons, Part.sub_nil, Bool.and_true, Bool.and_eq_true] at hp
  first | (simp [Dev.chanFields, hp]; done) | (unfold Dev.chanFields; repeat' (first | (simp [hp]; done) | (simp [hp, Dev.keep_mk]; done) | split | (simp only []; split) | (refine Dev.keep_each _ _ _ _ (fun _ _ => ?_)) | rfl ))
@[simp] theorem Dev.chanStart_keep (ps : List Part) (d : Dev) (n : Nat) (hp : Part.sub [.regs, .irq, .msix, .evtDropped, .out, .host] ps = true) :
    (Dev.chanStart d n).keep ps = d.keep ps := by
  simp only [Part.sub_cons, Part.sub_nil, Bool.and_true, Bool.and_eq_true] at hp
  first | (simp [Dev.chanStart, hp]; done) | (unfold Dev.chanStart; repeat' (first | (simp [hp]; done) | (simp [hp, Dev.keep_mk]; done) | split | (simp only []; split) | (refine Dev.keep_each _ _ _ _ (fun _ _ => ?_)) | rfl ))
@[simp] theorem Dev.chanDisable_keep (ps : List Part) (d : Dev) (n : Nat) (hp : Part.sub [.regs, .fresh] ps = true) :
    (Dev.chanDisable d n).keep ps = d.keep ps := by
  simp only [Part.sub_cons, Part.sub_nil, Bool.and_true, Bool.and_eq_true] at hp
  first | (simp [Dev.chanDisable, hp]; done) | (unfold Dev.chanDisable; repeat' (first | (simp [hp]; done) | (simp [hp, Dev.keep_mk]; done) | split | (simp only []; split) | (refine Dev.keep_each _ _ _ _ (fun _ _ => ?_)) | rfl ))
@[simp] theorem Dev.chanWrite_keep (ps : List Part) (d : Dev) (n v : Nat) (hp : Part.sub [.regs, .irq, .msix, .evtDropped, .out, .host, .fresh] ps = true) :
    (Dev.chanWrite d n v).keep ps = d.keep ps := by
  simp only [Part.sub_cons, Part.sub_nil, Bool.and_true, Bool.and_eq_true] at hp
  first | (simp [Dev.chanWrite, hp]; done) | (unfold Dev.chanWrite; repeat' (first | (simp [hp]; done) | (simp [hp, Dev.keep_mk]; done) | split | (simp only []; split) | (refine Dev.keep_each _ _ _ _ (fun _ _ => ?_)) | rfl ))
@[simp] theorem Dev.tailWrite_keep (ps : List Part) (d : Dev) (n v : Nat) (hp : Part.sub [.regs, .host] ps = true) :
    (Dev.tailWrite d n v).keep ps = d.keep ps := by
  simp only [Part.sub_cons, Part.sub_nil, Bool.and_true, Bool.and_eq_true] at hp
  first | (simp [Dev.tailWrite, hp]; done) | (unfold Dev.tailWrite; repeat' (first | (simp [hp]; done) | (simp [hp, Dev.keep_mk]; done) | split | (simp only []; split) | (refine Dev.keep_each _ _ _ _ (fun _ _ => ?_)) | rfl ))
@[simp] theorem Dev.descStatus_keep (ps : List Part) (d : Dev) (at_ st : Nat) (hp : Part.sub [.out] ps = true) :
    (Dev.descStatus d at_ st).keep ps = d.keep ps := by
  simp only [Part.sub_cons, Part.sub_nil, Bool.and_true, Bool.and_eq_true] at hp
  first | (simp [Dev.descStatus, hp]; done) | (unfold Dev.descStatus; repeat' (first | (simp [hp]; done) | (simp [hp, Dev.keep_mk]; done) | split | (simp only []; split) | (refine Dev.keep_each _ _ _ _ (fun _ _ => ?_)) | rfl ))
@[simp] theorem Dev.descNext_keep (ps : List Part) (d : Dev) (n at_ ctl next : Nat) (hp : Part.sub [.regs, .irq, .msix, .evtDropped, .out, .host] ps = true) :
    (Dev.descNext d n at_ ctl next).keep ps = d.keep ps := by
  simp only [Part.sub_cons, Part.sub_nil, Bool.and_true, Bool.and_eq_true] at hp
  first | (simp [Dev.descNext, hp]; done) | (unfold Dev.descNext; repeat' (first | (simp [hp]; done) | (simp [hp, Dev.keep_mk]; done) | split | (simp only []; split) | (refine Dev.keep_each _ _ _ _ (fun _ _ => ?_)) | rfl ))
@[simp] theorem Dev.chanStop_keep (ps : List Part) (d : Dev) (n cause addr : Nat) (write onDesc : Bool) (desc : List Byte) (moved : Nat) (data : List Byte) (hp : Part.sub [.regs, .irq, .msix, .evtDropped, .out, .jrn, .path, .hbm, .host] ps = true) :
    (Dev.chanStop d n cause addr write onDesc desc moved data).keep ps = d.keep ps := by
  simp only [Part.sub_cons, Part.sub_nil, Bool.and_true, Bool.and_eq_true] at hp
  first | (simp [Dev.chanStop, hp]; done) | (unfold Dev.chanStop; repeat' (first | (simp [hp]; done) | (simp [hp, Dev.keep_mk]; done) | split | (simp only []; split) | (refine Dev.keep_each _ _ _ _ (fun _ _ => ?_)) | rfl ))
@[simp] theorem Dev.hostReset_keep (ps : List Part) (d : Dev) (hp : Part.sub [.regs, .irq, .msix, .evtDropped, .out, .rck, .host, .fresh] ps = true) :
    (Dev.hostReset d ).keep ps = d.keep ps := by
  simp only [Part.sub_cons, Part.sub_nil, Bool.and_true, Bool.and_eq_true] at hp
  first | (simp [Dev.hostReset, hp]; done) | (unfold Dev.hostReset; repeat' (first | (simp [hp]; done) | (simp [hp, Dev.keep_mk]; done) | split | (simp only []; split) | (refine Dev.keep_each _ _ _ _ (fun _ _ => ?_)) | rfl ))
@[simp] theorem Dev.splitWrite_keep (ps : List Part) (d : Dev) (die v : Nat) (hp : Part.sub [.regs] ps = true) :
    (Dev.splitWrite d die v).keep ps = d.keep ps := by
  simp only [Part.sub_cons, Part.sub_nil, Bool.and_true, Bool.and_eq_true] at hp
  first | (simp [Dev.splitWrite, hp]; done) | (unfold Dev.splitWrite; repeat' (first | (simp [hp]; done) | (simp [hp, Dev.keep_mk]; done) | split | (simp only []; split) | (refine Dev.keep_each _ _ _ _ (fun _ _ => ?_)) | rfl ))
@[simp] theorem Dev.minWrite_keep (ps : List Part) (d : Dev) (die o : Nat) (b : Bool) (v : Nat) (hp : Part.sub [.regs] ps = true) :
    (Dev.minWrite d die o b v).keep ps = d.keep ps := by
  simp only [Part.sub_cons, Part.sub_nil, Bool.and_true, Bool.and_eq_true] at hp
  first | (simp [Dev.minWrite, hp]; done) | (unfold Dev.minWrite; repeat' (first | (simp [hp]; done) | (simp [hp, Dev.keep_mk]; done) | split | (simp only []; split) | (refine Dev.keep_each _ _ _ _ (fun _ _ => ?_)) | rfl ))
@[simp] theorem Dev.poolTick_keep (ps : List Part) (d : Dev) (hp : Part.sub [.regs, .irq, .msix, .evtDropped, .out, .host] ps = true) :
    (Dev.poolTick d ).keep ps = d.keep ps := by
  simp only [Part.sub_cons, Part.sub_nil, Bool.and_true, Bool.and_eq_true] at hp
  first | (simp [Dev.poolTick, hp]; done) | (unfold Dev.poolTick; repeat' (first | (simp [hp]; done) | (simp [hp, Dev.keep_mk]; done) | split | (simp only []; split) | (refine Dev.keep_each _ _ _ _ (fun _ _ => ?_)) | rfl ))
@[simp] theorem Dev.setLog_keep (ps : List Part) (d : Dev) (die i : Nat) (e : Option LogEntry) (hp : Part.sub [.flt] ps = true) :
    (Dev.setLog d die i e).keep ps = d.keep ps := by
  simp only [Part.sub_cons, Part.sub_nil, Bool.and_true, Bool.and_eq_true] at hp
  first | (simp [Dev.setLog, hp]; done) | (unfold Dev.setLog; repeat' (first | (simp [hp]; done) | (simp [hp, Dev.keep_mk]; done) | split | (simp only []; split) | (refine Dev.keep_each _ _ _ _ (fun _ _ => ?_)) | rfl ))
@[simp] theorem Dev.modLog_keep (ps : List Part) (d : Dev) (die i : Nat) (g : LogEntry → LogEntry) (hp : Part.sub [.flt] ps = true) :
    (Dev.modLog d die i g).keep ps = d.keep ps := by
  simp only [Part.sub_cons, Part.sub_nil, Bool.and_true, Bool.and_eq_true] at hp
  first | (simp [Dev.modLog, hp]; done) | (unfold Dev.modLog; repeat' (first | (simp [hp]; done) | (simp [hp, Dev.keep_mk]; done) | split | (simp only []; split) | (refine Dev.keep_each _ _ _ _ (fun _ _ => ?_)) | rfl ))
@[simp] theorem Dev.fltSync_keep (ps : List Part) (d : Dev) (hp : Part.sub [.regs] ps = true) :
    (Dev.fltSync d ).keep ps = d.keep ps := by
  simp only [Part.sub_cons, Part.sub_nil, Bool.and_true, Bool.and_eq_true] at hp
  first | (simp [Dev.fltSync, hp]; done) | (unfold Dev.fltSync; repeat' (first | (simp [hp]; done) | (simp [hp, Dev.keep_mk]; done) | split | (simp only []; split) | (refine Dev.keep_each _ _ _ _ (fun _ _ => ?_)) | rfl ))
@[simp] theorem Dev.fltEvent_keep (ps : List Part) (d : Dev) (die ev code idx : Nat) (hp : Part.sub [.regs, .irq, .msix, .evtDropped, .out] ps = true) :
    (Dev.fltEvent d die ev code idx).keep ps = d.keep ps := by
  simp only [Part.sub_cons, Part.sub_nil, Bool.and_true, Bool.and_eq_true] at hp
  first | (simp [Dev.fltEvent, hp]; done) | (unfold Dev.fltEvent; repeat' (first | (simp [hp]; done) | (simp [hp, Dev.keep_mk]; done) | split | (simp only []; split) | (refine Dev.keep_each _ _ _ _ (fun _ _ => ?_)) | rfl ))
@[simp] theorem Dev.logOpen_keep (ps : List Part) (d : Dev) (die cls cap : Nat) (r : FaultRep) (hp : Part.sub [.regs, .flt, .irq, .msix, .evtDropped, .out] ps = true) :
    (Dev.logOpen d die cls cap r).1.keep ps = d.keep ps := by
  simp only [Part.sub_cons, Part.sub_nil, Bool.and_true, Bool.and_eq_true] at hp
  first | (simp [Dev.logOpen, hp]; done) | (unfold Dev.logOpen; repeat' (first | (simp [hp]; done) | (simp [hp, Dev.keep_mk]; done) | split | (simp only []; split) | (refine Dev.keep_each _ _ _ _ (fun _ _ => ?_)) | rfl ))
@[simp] theorem Dev.faultMark_keep (ps : List Part) (d : Dev) (die cls idx : Nat) (code : Nat) (bytes : List Byte) (hp : Part.sub [.regs, .flt, .jrn] ps = true) :
    (Dev.faultMark d die cls idx code bytes).keep ps = d.keep ps := by
  simp only [Part.sub_cons, Part.sub_nil, Bool.and_true, Bool.and_eq_true] at hp
  first | (simp [Dev.faultMark, hp]; done) | (unfold Dev.faultMark; repeat' (first | (simp [hp]; done) | (simp [hp, Dev.keep_mk]; done) | split | (simp only []; split) | (refine Dev.keep_each _ _ _ _ (fun _ _ => ?_)) | rfl ))
@[simp] theorem Dev.tellC_keep (ps : List Part) (d : Dev) (die idx code tick : Nat) (bytes : List Byte) (hp : Part.sub [.regs, .flt, .irq, .msix, .evtDropped, .out, .jrn, .path, .nrg, .dom, .host, .fresh] ps = true) :
    (Dev.tellC d die idx code tick bytes).keep ps = d.keep ps := by
  simp only [Part.sub_cons, Part.sub_nil, Bool.and_true, Bool.and_eq_true] at hp
  first | (simp [Dev.tellC, hp]; done) | (unfold Dev.tellC; repeat' (first | (simp [hp]; done) | (simp [hp, Dev.keep_mk]; done) | split | (simp only []; split) | (refine Dev.keep_each _ _ _ _ (fun _ _ => ?_)) | rfl ))
@[simp] theorem Dev.safeFault_keep (ps : List Part) (d : Dev) (x : SafeDue) (hp : Part.sub [.regs, .flt, .irq, .msix, .evtDropped, .out] ps = true) :
    (Dev.safeFault d x).keep ps = d.keep ps := by
  simp only [Part.sub_cons, Part.sub_nil, Bool.and_true, Bool.and_eq_true] at hp
  first | (simp [Dev.safeFault, hp]; done) | (unfold Dev.safeFault; repeat' (first | (simp [hp]; done) | (simp [hp, Dev.keep_mk]; done) | split | (simp only []; split) | (refine Dev.keep_each _ _ _ _ (fun _ _ => ?_)) | rfl ))
@[simp] theorem Dev.takeUp_keep (ps : List Part) (d : Dev) (die idx since : Nat) (e : LogEntry) (hp : Part.sub [.regs, .flt, .irq, .msix, .evtDropped, .out, .jrn, .path, .nrg, .dom, .host, .fresh] ps = true) :
    (Dev.takeUp d die idx since e).keep ps = d.keep ps := by
  simp only [Part.sub_cons, Part.sub_nil, Bool.and_true, Bool.and_eq_true] at hp
  first | (simp [Dev.takeUp, hp]; done) | (unfold Dev.takeUp; repeat' (first | (simp [hp]; done) | (simp [hp, Dev.keep_mk]; done) | split | (simp only []; split) | (refine Dev.keep_each _ _ _ _ (fun _ _ => ?_)) | rfl ))
@[simp] theorem Dev.faultJoin_keep (ps : List Part) (d : Dev) (die cls : Nat) (r : FaultRep) (t : Nat × HandRec) (hp : Part.sub [.regs, .flt, .irq, .msix, .evtDropped, .out, .jrn, .path, .nrg, .dom, .host, .fresh] ps = true) :
    (Dev.faultJoin d die cls r t).keep ps = d.keep ps := by
  simp only [Part.sub_cons, Part.sub_nil, Bool.and_true, Bool.and_eq_true] at hp
  first | (simp [Dev.faultJoin, hp]; done) | (unfold Dev.faultJoin; repeat' (first | (simp [hp]; done) | (simp [hp, Dev.keep_mk]; done) | split | (simp only []; split) | (refine Dev.keep_each _ _ _ _ (fun _ _ => ?_)) | rfl ))
@[simp] theorem Dev.agentActs_keep (ps : List Part) (d : Dev) (r : FaultRep) (hp : Part.sub [.jrn] ps = true) :
    (Dev.agentActs d r).keep ps = d.keep ps := by
  simp only [Part.sub_cons, Part.sub_nil, Bool.and_true, Bool.and_eq_true] at hp
  first | (simp [Dev.agentActs, hp]; done) | (unfold Dev.agentActs; repeat' (first | (simp [hp]; done) | (simp [hp, Dev.keep_mk]; done) | split | (simp only []; split) | (refine Dev.keep_each _ _ _ _ (fun _ _ => ?_)) | rfl ))
@[simp] theorem Dev.armedCheck_keep (ps : List Part) (d : Dev) (die id : Nat) (hp : Part.sub [.regs, .flt, .irq, .msix, .evtDropped, .out] ps = true) :
    (Dev.armedCheck d die id).1.keep ps = d.keep ps := by
  simp only [Part.sub_cons, Part.sub_nil, Bool.and_true, Bool.and_eq_true] at hp
  first | (simp [Dev.armedCheck, hp]; done) | (unfold Dev.armedCheck; repeat' (first | (simp [hp]; done) | (simp [hp, Dev.keep_mk]; done) | split | (simp only []; split) | (refine Dev.keep_each _ _ _ _ (fun _ _ => ?_)) | rfl ))
@[simp] theorem Dev.fltEnd_keep (ps : List Part) (d : Dev) (die : Nat) (hp : Part.sub [.regs, .flt] ps = true) :
    (Dev.fltEnd d die).keep ps = d.keep ps := by
  simp only [Part.sub_cons, Part.sub_nil, Bool.and_true, Bool.and_eq_true] at hp
  first | (simp [Dev.fltEnd, hp]; done) | (unfold Dev.fltEnd; repeat' (first | (simp [hp]; done) | (simp [hp, Dev.keep_mk]; done) | split | (simp only []; split) | (refine Dev.keep_each _ _ _ _ (fun _ _ => ?_)) | rfl ))
@[simp] theorem Dev.fltTick_keep (ps : List Part) (d : Dev) (hp : Part.sub [.regs, .flt] ps = true) :
    (Dev.fltTick d ).keep ps = d.keep ps := by
  simp only [Part.sub_cons, Part.sub_nil, Bool.and_true, Bool.and_eq_true] at hp
  first | (simp [Dev.fltTick, hp]; done) | (unfold Dev.fltTick; repeat' (first | (simp [hp]; done) | (simp [hp, Dev.keep_mk]; done) | split | (simp only []; split) | (refine Dev.keep_each _ _ _ _ (fun _ _ => ?_)) | rfl ))
@[simp] theorem Dev.unitDone_keep (ps : List Part) (d : Dev) (die code : Nat) (hp : Part.sub [.regs, .flt] ps = true) :
    (Dev.unitDone d die code).keep ps = d.keep ps := by
  simp only [Part.sub_cons, Part.sub_nil, Bool.and_true, Bool.and_eq_true] at hp
  first | (simp [Dev.unitDone, hp]; done) | (unfold Dev.unitDone; repeat' (first | (simp [hp]; done) | (simp [hp, Dev.keep_mk]; done) | split | (simp only []; split) | (refine Dev.keep_each _ _ _ _ (fun _ _ => ?_)) | rfl ))
@[simp] theorem Dev.idleLanes_keep (ps : List Part) (d : Dev) (a n : Nat) (hp : Part.sub [.regs, .port] ps = true) :
    (Dev.idleLanes d a n).keep ps = d.keep ps := by
  simp only [Part.sub_cons, Part.sub_nil, Bool.and_true, Bool.and_eq_true] at hp
  first | (simp [Dev.idleLanes, hp]; done) | (unfold Dev.idleLanes; repeat' (first | (simp [hp]; done) | (simp [hp, Dev.keep_mk]; done) | split | (simp only []; split) | (refine Dev.keep_each _ _ _ _ (fun _ _ => ?_)) | rfl ))
@[simp] theorem Dev.safeReport_keep (ps : List Part) (d : Dev) (x : SafeDue) (hp : Part.sub [.regs, .flt, .out, .dom] ps = true) :
    (Dev.safeReport d x).keep ps = d.keep ps := by
  simp only [Part.sub_cons, Part.sub_nil, Bool.and_true, Bool.and_eq_true] at hp
  first | (simp [Dev.safeReport, hp]; done) | (unfold Dev.safeReport; repeat' (first | (simp [hp]; done) | (simp [hp, Dev.keep_mk]; done) | split | (simp only []; split) | (refine Dev.keep_each _ _ _ _ (fun _ _ => ?_)) | rfl ))
@[simp] theorem Dev.kmodeWrite_keep (ps : List Part) (d : Dev) (v : Nat) (hp : Part.sub [.regs] ps = true) :
    (Dev.kmodeWrite d v).keep ps = d.keep ps := by
  simp only [Part.sub_cons, Part.sub_nil, Bool.and_true, Bool.and_eq_true] at hp
  first | (simp [Dev.kmodeWrite, hp]; done) | (unfold Dev.kmodeWrite; repeat' (first | (simp [hp]; done) | (simp [hp, Dev.keep_mk]; done) | split | (simp only []; split) | (refine Dev.keep_each _ _ _ _ (fun _ _ => ?_)) | rfl ))
@[simp] theorem Dev.kCtrlWrite_keep (ps : List Part) (d : Dev) (v : Nat) (hp : Part.sub [.regs] ps = true) :
    (Dev.kCtrlWrite d v).keep ps = d.keep ps := by
  simp only [Part.sub_cons, Part.sub_nil, Bool.and_true, Bool.and_eq_true] at hp
  first | (simp [Dev.kCtrlWrite, hp]; done) | (unfold Dev.kCtrlWrite; repeat' (first | (simp [hp]; done) | (simp [hp, Dev.keep_mk]; done) | split | (simp only []; split) | (refine Dev.keep_each _ _ _ _ (fun _ _ => ?_)) | rfl ))
@[simp] theorem Dev.ovfWrite_keep (ps : List Part) (d : Dev) (j v : Nat) (hp : Part.sub [.regs] ps = true) :
    (Dev.ovfWrite d j v).keep ps = d.keep ps := by
  simp only [Part.sub_cons, Part.sub_nil, Bool.and_true, Bool.and_eq_true] at hp
  first | (simp [Dev.ovfWrite, hp]; done) | (unfold Dev.ovfWrite; repeat' (first | (simp [hp]; done) | (simp [hp, Dev.keep_mk]; done) | split | (simp only []; split) | (refine Dev.keep_each _ _ _ _ (fun _ _ => ?_)) | rfl ))
@[simp] theorem Dev.cntCtrlWrite_keep (ps : List Part) (d : Dev) (v : Nat) (hp : Part.sub [.regs] ps = true) :
    (Dev.cntCtrlWrite d v).keep ps = d.keep ps := by
  simp only [Part.sub_cons, Part.sub_nil, Bool.and_true, Bool.and_eq_true] at hp
  first | (simp [Dev.cntCtrlWrite, hp]; done) | (unfold Dev.cntCtrlWrite; repeat' (first | (simp [hp]; done) | (simp [hp, Dev.keep_mk]; done) | split | (simp only []; split) | (refine Dev.keep_each _ _ _ _ (fun _ _ => ?_)) | rfl ))
@[simp] theorem Dev.setLink_keep (ps : List Part) (d : Dev) (k : Nat) (x : LinkDir) (hp : Part.sub [.links] ps = true) :
    (Dev.setLink d k x).keep ps = d.keep ps := by
  simp only [Part.sub_cons, Part.sub_nil, Bool.and_true, Bool.and_eq_true] at hp
  first | (simp [Dev.setLink, hp]; done) | (unfold Dev.setLink; repeat' (first | (simp [hp]; done) | (simp [hp, Dev.keep_mk]; done) | split | (simp only []; split) | (refine Dev.keep_each _ _ _ _ (fun _ _ => ?_)) | rfl ))
@[simp] theorem Dev.laneRepair_keep (ps : List Part) (d : Dev) (k lane : Nat) (hp : Part.sub [.links] ps = true) :
    (Dev.laneRepair d k lane).1.keep ps = d.keep ps := by
  simp only [Part.sub_cons, Part.sub_nil, Bool.and_true, Bool.and_eq_true] at hp
  first | (simp [Dev.laneRepair, hp]; done) | (unfold Dev.laneRepair; repeat' (first | (simp [hp]; done) | (simp [hp, Dev.keep_mk]; done) | split | (simp only []; split) | (refine Dev.keep_each _ _ _ _ (fun _ _ => ?_)) | rfl ))
@[simp] theorem Dev.blindAll_keep (ps : List Part) (d : Dev) (hp : Part.sub [.regs, .jrn, .rail] ps = true) :
    (Dev.blindAll d ).keep ps = d.keep ps := by
  simp only [Part.sub_cons, Part.sub_nil, Bool.and_true, Bool.and_eq_true] at hp
  first | (simp [Dev.blindAll, hp]; done) | (unfold Dev.blindAll; repeat' (first | (simp [hp]; done) | (simp [hp, Dev.keep_mk]; done) | split | (simp only []; split) | (refine Dev.keep_each _ _ _ _ (fun _ _ => ?_)) | rfl ))
@[simp] theorem Dev.imageLoad_keep (ps : List Part) (d : Dev) (l : List Byte) (isOpen : Bool) (hp : Part.sub [.rck] ps = true) :
    (Dev.imageLoad d l isOpen).keep ps = d.keep ps := by
  simp only [Part.sub_cons, Part.sub_nil, Bool.and_true, Bool.and_eq_true] at hp
  first | (simp [Dev.imageLoad, hp]; done) | (unfold Dev.imageLoad; repeat' (first | (simp [hp]; done) | (simp [hp, Dev.keep_mk]; done) | split | (simp only []; split) | (refine Dev.keep_each _ _ _ _ (fun _ _ => ?_)) | rfl ))
@[simp] theorem Dev.vendorLoad_keep (ps : List Part) (d : Dev) (l : List Byte) (hp : Part.sub [.regs, .rck, .fresh] ps = true) :
    (Dev.vendorLoad d l).keep ps = d.keep ps := by
  simp only [Part.sub_cons, Part.sub_nil, Bool.and_true, Bool.and_eq_true] at hp
  first | (simp [Dev.vendorLoad, hp]; done) | (unfold Dev.vendorLoad; repeat' (first | (simp [hp]; done) | (simp [hp, Dev.keep_mk]; done) | split | (simp only []; split) | (refine Dev.keep_each _ _ _ _ (fun _ _ => ?_)) | rfl ))
@[simp] theorem Dev.bootSync_keep (ps : List Part) (d : Dev) (hp : Part.sub [.regs] ps = true) :
    (Dev.bootSync d ).keep ps = d.keep ps := by
  simp only [Part.sub_cons, Part.sub_nil, Bool.and_true, Bool.and_eq_true] at hp
  first | (simp [Dev.bootSync, hp]; done) | (unfold Dev.bootSync; repeat' (first | (simp [hp]; done) | (simp [hp, Dev.keep_mk]; done) | split | (simp only []; split) | (refine Dev.keep_each _ _ _ _ (fun _ _ => ?_)) | rfl ))
@[simp] theorem Dev.stepEnd_keep (ps : List Part) (d : Dev) (k us : Nat) (hp : Part.sub [.regs, .board] ps = true) :
    (Dev.stepEnd d k us).keep ps = d.keep ps := by
  simp only [Part.sub_cons, Part.sub_nil, Bool.and_true, Bool.and_eq_true] at hp
  first | (simp [Dev.stepEnd, hp]; done) | (unfold Dev.stepEnd; repeat' (first | (simp [hp]; done) | (simp [hp, Dev.keep_mk]; done) | split | (simp only []; split) | (refine Dev.keep_each _ _ _ _ (fun _ _ => ?_)) | rfl ))
@[simp] theorem Dev.bootStop_keep (ps : List Part) (d : Dev) (hp : Part.sub [.board] ps = true) :
    (Dev.bootStop d ).keep ps = d.keep ps := by
  simp only [Part.sub_cons, Part.sub_nil, Bool.and_true, Bool.and_eq_true] at hp
  first | (simp [Dev.bootStop, hp]; done) | (unfold Dev.bootStop; repeat' (first | (simp [hp]; done) | (simp [hp, Dev.keep_mk]; done) | split | (simp only []; split) | (refine Dev.keep_each _ _ _ _ (fun _ _ => ?_)) | rfl ))
@[simp] theorem Dev.otpSense_keep (ps : List Part) (d : Dev) (o : OtpBanks) (us : Nat) (hp : Part.sub [.regs, .flt, .board] ps = true) :
    (Dev.otpSense d o us).keep ps = d.keep ps := by
  simp only [Part.sub_cons, Part.sub_nil, Bool.and_true, Bool.and_eq_true] at hp
  first | (simp [Dev.otpSense, hp]; done) | (unfold Dev.otpSense; repeat' (first | (simp [hp]; done) | (simp [hp, Dev.keep_mk]; done) | split | (simp only []; split) | (refine Dev.keep_each _ _ _ _ (fun _ _ => ?_)) | rfl ))
@[simp] theorem Dev.custDom_keep (ps : List Part) (d : Dev) (hp : Part.sub [.regs] ps = true) :
    (Dev.custDom d ).keep ps = d.keep ps := by
  simp only [Part.sub_cons, Part.sub_nil, Bool.and_true, Bool.and_eq_true] at hp
  first | (simp [Dev.custDom, hp]; done) | (unfold Dev.custDom; repeat' (first | (simp [hp]; done) | (simp [hp, Dev.keep_mk]; done) | split | (simp only []; split) | (refine Dev.keep_each _ _ _ _ (fun _ _ => ?_)) | rfl ))
@[simp] theorem Dev.custNrg_keep (ps : List Part) (d : Dev) (hp : Part.sub [.regs] ps = true) :
    (Dev.custNrg d ).keep ps = d.keep ps := by
  simp only [Part.sub_cons, Part.sub_nil, Bool.and_true, Bool.and_eq_true] at hp
  first | (simp [Dev.custNrg, hp]; done) | (unfold Dev.custNrg; repeat' (first | (simp [hp]; done) | (simp [hp, Dev.keep_mk]; done) | split | (simp only []; split) | (refine Dev.keep_each _ _ _ _ (fun _ _ => ?_)) | rfl ))
@[simp] theorem Dev.custSettings_keep (ps : List Part) (d : Dev) (hp : Part.sub [.regs] ps = true) :
    (Dev.custSettings d ).keep ps = d.keep ps := by
  simp only [Part.sub_cons, Part.sub_nil, Bool.and_true, Bool.and_eq_true] at hp
  first | (simp [Dev.custSettings, hp]; done) | (unfold Dev.custSettings; repeat' (first | (simp [hp]; done) | (simp [hp, Dev.keep_mk]; done) | split | (simp only []; split) | (refine Dev.keep_each _ _ _ _ (fun _ _ => ?_)) | rfl ))
@[simp] theorem Dev.readyTick_keep (ps : List Part) (d : Dev) (hp : Part.sub [.regs, .board] ps = true) :
    (Dev.readyTick d ).keep ps = d.keep ps := by
  simp only [Part.sub_cons, Part.sub_nil, Bool.and_true, Bool.and_eq_true] at hp
  first | (simp [Dev.readyTick, hp]; done) | (unfold Dev.readyTick; repeat' (first | (simp [hp]; done) | (simp [hp, Dev.keep_mk]; done) | split | (simp only []; split) | (refine Dev.keep_each _ _ _ _ (fun _ _ => ?_)) | rfl ))
@[simp] theorem Dev.domArm_keep (ps : List Part) (d : Dev) (hp : Part.sub [.regs, .board, .dom] ps = true) :
    (Dev.domArm d ).keep ps = d.keep ps := by
  simp only [Part.sub_cons, Part.sub_nil, Bool.and_true, Bool.and_eq_true] at hp
  first | (simp [Dev.domArm, hp]; done) | (unfold Dev.domArm; repeat' (first | (simp [hp]; done) | (simp [hp, Dev.keep_mk]; done) | split | (simp only []; split) | (refine Dev.keep_each _ _ _ _ (fun _ _ => ?_)) | rfl ))
@[simp] theorem Dev.winRead_keep (ps : List Part) (d : Dev) (o : OtpBanks) (hp : Part.sub [.regs, .bus] ps = true) :
    (Dev.winRead d o).keep ps = d.keep ps := by
  simp only [Part.sub_cons, Part.sub_nil, Bool.and_true, Bool.and_eq_true] at hp
  first | (simp [Dev.winRead, hp]; done) | (unfold Dev.winRead; repeat' (first | (simp [hp]; done) | (simp [hp, Dev.keep_mk]; done) | split | (simp only []; split) | (refine Dev.keep_each _ _ _ _ (fun _ _ => ?_)) | rfl ))
@[simp] theorem Dev.jtag_keep (ps : List Part) (d : Dev) (ir out : Nat) (hp : Part.sub [.board] ps = true) :
    (Dev.jtag d ir out).keep ps = d.keep ps := by
  simp only [Part.sub_cons, Part.sub_nil, Bool.and_true, Bool.and_eq_true] at hp
  first | (simp [Dev.jtag, hp]; done) | (unfold Dev.jtag; repeat' (first | (simp [hp]; done) | (simp [hp, Dev.keep_mk]; done) | split | (simp only []; split) | (refine Dev.keep_each _ _ _ _ (fun _ _ => ?_)) | rfl ))
@[simp] theorem Dev.refUse_keep (ps : List Part) (d : Dev) (i : Nat) (hp : Part.sub [.regs, .irq, .msix, .evtDropped, .out] ps = true) :
    (Dev.refUse d i).keep ps = d.keep ps := by
  simp only [Part.sub_cons, Part.sub_nil, Bool.and_true, Bool.and_eq_true] at hp
  first | (simp [Dev.refUse, hp]; done) | (unfold Dev.refUse; repeat' (first | (simp [hp]; done) | (simp [hp, Dev.keep_mk]; done) | split | (simp only []; split) | (refine Dev.keep_each _ _ _ _ (fun _ _ => ?_)) | rfl ))
@[simp] theorem Dev.setTrig_keep (ps : List Part) (d : Dev) (n : Nat) (x : TrigSt) (hp : Part.sub [.tim] ps = true) :
    (Dev.setTrig d n x).keep ps = d.keep ps := by
  simp only [Part.sub_cons, Part.sub_nil, Bool.and_true, Bool.and_eq_true] at hp
  first | (simp [Dev.setTrig, hp]; done) | (unfold Dev.setTrig; repeat' (first | (simp [hp]; done) | (simp [hp, Dev.keep_mk]; done) | split | (simp only []; split) | (refine Dev.keep_each _ _ _ _ (fun _ _ => ?_)) | rfl ))
@[simp] theorem Dev.trigMiss_keep (ps : List Part) (d : Dev) (k : Nat) (hp : Part.sub [.regs, .irq, .msix, .evtDropped, .out] ps = true) :
    (Dev.trigMiss d k).keep ps = d.keep ps := by
  simp only [Part.sub_cons, Part.sub_nil, Bool.and_true, Bool.and_eq_true] at hp
  first | (simp [Dev.trigMiss, hp]; done) | (unfold Dev.trigMiss; repeat' (first | (simp [hp]; done) | (simp [hp, Dev.keep_mk]; done) | split | (simp only []; split) | (refine Dev.keep_each _ _ _ _ (fun _ _ => ?_)) | rfl ))
@[simp] theorem Dev.trigArm_keep (ps : List Part) (d : Dev) (n t : Nat) (hp : Part.sub [.regs, .irq, .msix, .evtDropped, .out, .tim] ps = true) :
    (Dev.trigArm d n t).keep ps = d.keep ps := by
  simp only [Part.sub_cons, Part.sub_nil, Bool.and_true, Bool.and_eq_true] at hp
  first | (simp [Dev.trigArm, hp]; done) | (unfold Dev.trigArm; repeat' (first | (simp [hp]; done) | (simp [hp, Dev.keep_mk]; done) | split | (simp only []; split) | (refine Dev.keep_each _ _ _ _ (fun _ _ => ?_)) | rfl ))
@[simp] theorem Dev.trigStep_keep (ps : List Part) (d : Dev) (hp : Part.sub [.regs, .irq, .msix, .evtDropped, .out, .tim] ps = true) :
    (Dev.trigStep d ).keep ps = d.keep ps := by
  simp only [Part.sub_cons, Part.sub_nil, Bool.and_true, Bool.and_eq_true] at hp
  first | (simp [Dev.trigStep, hp]; done) | (unfold Dev.trigStep; repeat' (first | (simp [hp]; done) | (simp [hp, Dev.keep_mk]; done) | split | (simp only []; split) | (refine Dev.keep_each _ _ _ _ (fun _ _ => ?_)) | rfl ))
@[simp] theorem Dev.trigWrite_keep (ps : List Part) (d : Dev) (n : Nat) (r : TrigReg) (v : Nat) (hp : Part.sub [.regs, .irq, .msix, .evtDropped, .out, .tim] ps = true) :
    (Dev.trigWrite d n r v).keep ps = d.keep ps := by
  simp only [Part.sub_cons, Part.sub_nil, Bool.and_true, Bool.and_eq_true] at hp
  first | (simp [Dev.trigWrite, hp]; done) | (unfold Dev.trigWrite; repeat' (first | (simp [hp]; done) | (simp [hp, Dev.keep_mk]; done) | split | (simp only []; split) | (refine Dev.keep_each _ _ _ _ (fun _ _ => ?_)) | rfl ))
@[simp] theorem Dev.setCapt_keep (ps : List Part) (d : Dev) (n : Nat) (x : CaptSt) (hp : Part.sub [.regs, .tim] ps = true) :
    (Dev.setCapt d n x).keep ps = d.keep ps := by
  simp only [Part.sub_cons, Part.sub_nil, Bool.and_true, Bool.and_eq_true] at hp
  first | (simp [Dev.setCapt, hp]; done) | (unfold Dev.setCapt; repeat' (first | (simp [hp]; done) | (simp [hp, Dev.keep_mk]; done) | split | (simp only []; split) | (refine Dev.keep_each _ _ _ _ (fun _ _ => ?_)) | rfl ))
@[simp] theorem Dev.ppsOffset_keep (ps : List Part) (d : Dev) (t : Nat) (hp : Part.sub [.regs, .irq, .msix, .evtDropped, .out, .jrn, .port, .tim] ps = true) :
    (Dev.ppsOffset d t).keep ps = d.keep ps := by
  simp only [Part.sub_cons, Part.sub_nil, Bool.and_true, Bool.and_eq_true] at hp
  first | (simp [Dev.ppsOffset, hp]; done) | (unfold Dev.ppsOffset; repeat' (first | (simp [hp]; done) | (simp [hp, Dev.keep_mk]; done) | split | (simp only []; split) | (refine Dev.keep_each _ _ _ _ (fun _ _ => ?_)) | rfl ))
@[simp] theorem Dev.captPop_keep (ps : List Part) (d : Dev) (n : Nat) (hp : Part.sub [.regs, .bus, .tim] ps = true) :
    (Dev.captPop d n).keep ps = d.keep ps := by
  simp only [Part.sub_cons, Part.sub_nil, Bool.and_true, Bool.and_eq_true] at hp
  first | (simp [Dev.captPop, hp]; done) | (unfold Dev.captPop; repeat' (first | (simp [hp]; done) | (simp [hp, Dev.keep_mk]; done) | split | (simp only []; split) | (refine Dev.keep_each _ _ _ _ (fun _ _ => ?_)) | rfl ))
@[simp] theorem Dev.nowLatch_keep (ps : List Part) (d : Dev) (hp : Part.sub [.regs, .bus] ps = true) :
    (Dev.nowLatch d ).keep ps = d.keep ps := by
  simp only [Part.sub_cons, Part.sub_nil, Bool.and_true, Bool.and_eq_true] at hp
  first | (simp [Dev.nowLatch, hp]; done) | (unfold Dev.nowLatch; repeat' (first | (simp [hp]; done) | (simp [hp, Dev.keep_mk]; done) | split | (simp only []; split) | (refine Dev.keep_each _ _ _ _ (fun _ _ => ?_)) | rfl ))
@[simp] theorem Dev.inForce_keep (ps : List Part) (d : Dev) (a : Nat) (hp : Part.sub [.live] ps = true) :
    (Dev.inForce d a).keep ps = d.keep ps := by
  simp only [Part.sub_cons, Part.sub_nil, Bool.and_true, Bool.and_eq_true] at hp
  first | (simp [Dev.inForce, hp]; done) | (unfold Dev.inForce; repeat' (first | (simp [hp]; done) | (simp [hp, Dev.keep_mk]; done) | split | (simp only []; split) | (refine Dev.keep_each _ _ _ _ (fun _ _ => ?_)) | rfl ))
@[simp] theorem Dev.timTick_keep (ps : List Part) (d : Dev) (hp : Part.sub [.regs, .irq, .msix, .evtDropped, .out, .port, .tim] ps = true) :
    (Dev.timTick d ).keep ps = d.keep ps := by
  simp only [Part.sub_cons, Part.sub_nil, Bool.and_true, Bool.and_eq_true] at hp
  first | (simp [Dev.timTick, hp]; done) | (unfold Dev.timTick; repeat' (first | (simp [hp]; done) | (simp [hp, Dev.keep_mk]; done) | split | (simp only []; split) | (refine Dev.keep_each _ _ _ _ (fun _ _ => ?_)) | rfl ))
@[simp] theorem Dev.timDeck_keep (ps : List Part) (d : Dev) (hp : Part.sub [.tim] ps = true) :
    (Dev.timDeck d ).keep ps = d.keep ps := by
  simp only [Part.sub_cons, Part.sub_nil, Bool.and_true, Bool.and_eq_true] at hp
  first | (simp [Dev.timDeck, hp]; done) | (unfold Dev.timDeck; repeat' (first | (simp [hp]; done) | (simp [hp, Dev.keep_mk]; done) | split | (simp only []; split) | (refine Dev.keep_each _ _ _ _ (fun _ _ => ?_)) | rfl ))
@[simp] theorem Dev.chkDesc_keep (ps : List Part) (d : Dev) (hp : Part.sub [.regs] ps = true) :
    (Dev.chkDesc d ).keep ps = d.keep ps := by
  simp only [Part.sub_cons, Part.sub_nil, Bool.and_true, Bool.and_eq_true] at hp
  first | (simp [Dev.chkDesc, hp]; done) | (unfold Dev.chkDesc; repeat' (first | (simp [hp]; done) | (simp [hp, Dev.keep_mk]; done) | split | (simp only []; split) | (refine Dev.keep_each _ _ _ _ (fun _ _ => ?_)) | rfl ))
@[simp] theorem Dev.irqRetry_keep (ps : List Part) (d : Dev) (src : Nat) (hp : Part.sub [.irq, .msix, .out] ps = true) :
    (Dev.irqRetry d src).keep ps = d.keep ps := by
  simp only [Part.sub_cons, Part.sub_nil, Bool.and_true, Bool.and_eq_true] at hp
  first | (simp [Dev.irqRetry, hp]; done) | (unfold Dev.irqRetry; repeat' (first | (simp [hp]; done) | (simp [hp, Dev.keep_mk]; done) | split | (simp only []; split) | (refine Dev.keep_each _ _ _ _ (fun _ _ => ?_)) | rfl ))
@[simp] theorem Dev.traceSize_keep (ps : List Part) (d : Dev) (old : Nat) (hp : Part.sub [.regs, .rck] ps = true) :
    (Dev.traceSize d old).keep ps = d.keep ps := by
  simp only [Part.sub_cons, Part.sub_nil, Bool.and_true, Bool.and_eq_true] at hp
  first | (simp [Dev.traceSize, hp]; done) | (unfold Dev.traceSize; repeat' (first | (simp [hp]; done) | (simp [hp, Dev.keep_mk]; done) | split | (simp only []; split) | (refine Dev.keep_each _ _ _ _ (fun _ _ => ?_)) | rfl ))
@[simp] theorem Dev.afterWrite_keep (ps : List Part) (d : Dev) (k i v oldTrace oldRing : Nat) (hp : Part.sub [.regs, .irq, .msix, .out, .nrg, .rck] ps = true) :
    (Dev.afterWrite d k i v oldTrace oldRing).keep ps = d.keep ps := by
  simp only [Part.sub_cons, Part.sub_nil, Bool.and_true, Bool.and_eq_true] at hp
  first | (simp [Dev.afterWrite, hp]; done) | (unfold Dev.afterWrite; repeat' (first | (simp [hp]; done) | (simp [hp, Dev.keep_mk]; done) | split | (simp only []; split) | (refine Dev.keep_each _ _ _ _ (fun _ _ => ?_)) | rfl ))
@[simp] theorem Dev.pairWrite_keep (ps : List Part) (d : Dev) (k i a v : Nat) (hp : Part.sub [.regs, .bus, .irq, .msix, .evtDropped, .out, .jrn] ps = true) :
    (Dev.pairWrite d k i a v).keep ps = d.keep ps := by
  simp only [Part.sub_cons, Part.sub_nil, Bool.and_true, Bool.and_eq_true] at hp
  first | (simp [Dev.pairWrite, hp]; done) | (unfold Dev.pairWrite; repeat' (first | (simp [hp]; done) | (simp [hp, Dev.keep_mk]; done) | split | (simp only []; split) | (refine Dev.keep_each _ _ _ _ (fun _ _ => ?_)) | rfl ))
@[simp] theorem Dev.answer_keep (ps : List Part) (d : Dev) (v : Word) (hp : Part.sub [.bus] ps = true) :
    (Dev.answer d v).keep ps = d.keep ps := by
  simp only [Part.sub_cons, Part.sub_nil, Bool.and_true, Bool.and_eq_true] at hp
  first | (simp [Dev.answer, hp]; done) | (unfold Dev.answer; repeat' (first | (simp [hp]; done) | (simp [hp, Dev.keep_mk]; done) | split | (simp only []; split) | (refine Dev.keep_each _ _ _ _ (fun _ _ => ?_)) | rfl ))
@[simp] theorem Dev.hold_keep (ps : List Part) (d : Dev) (a : Nat) (hp : Part.sub [.bus] ps = true) :
    (Dev.hold d a).keep ps = d.keep ps := by
  simp only [Part.sub_cons, Part.sub_nil, Bool.and_true, Bool.and_eq_true] at hp
  first | (simp [Dev.hold, hp]; done) | (unfold Dev.hold; repeat' (first | (simp [hp]; done) | (simp [hp, Dev.keep_mk]; done) | split | (simp only []; split) | (refine Dev.keep_each _ _ _ _ (fun _ _ => ?_)) | rfl ))
@[simp] theorem Dev.heldRead_keep (ps : List Part) (d : Dev) (a : Nat) (hp : Part.sub [.bus] ps = true) :
    (Dev.heldRead d a).keep ps = d.keep ps := by
  simp only [Part.sub_cons, Part.sub_nil, Bool.and_true, Bool.and_eq_true] at hp
  first | (simp [Dev.heldRead, hp]; done) | (unfold Dev.heldRead; repeat' (first | (simp [hp]; done) | (simp [hp, Dev.keep_mk]; done) | split | (simp only []; split) | (refine Dev.keep_each _ _ _ _ (fun _ _ => ?_)) | rfl ))
@[simp] theorem Dev.snapRead_keep (ps : List Part) (d : Dev) (a k : Nat) (hp : Part.sub [.bus] ps = true) :
    (Dev.snapRead d a k).keep ps = d.keep ps := by
  simp only [Part.sub_cons, Part.sub_nil, Bool.and_true, Bool.and_eq_true] at hp
  first | (simp [Dev.snapRead, hp]; done) | (unfold Dev.snapRead; repeat' (first | (simp [hp]; done) | (simp [hp, Dev.keep_mk]; done) | split | (simp only []; split) | (refine Dev.keep_each _ _ _ _ (fun _ _ => ?_)) | rfl ))
@[simp] theorem Dev.keyRead_keep (ps : List Part) (d : Dev) (o : OtpBanks) (a k i j : Nat) (hp : Part.sub [.regs, .bus, .tim] ps = true) :
    (Dev.keyRead d o a k i j).keep ps = d.keep ps := by
  simp only [Part.sub_cons, Part.sub_nil, Bool.and_true, Bool.and_eq_true] at hp
  first | (simp [Dev.keyRead, hp]; done) | (unfold Dev.keyRead; repeat' (first | (simp [hp]; done) | (simp [hp, Dev.keep_mk]; done) | split | (simp only []; split) | (refine Dev.keep_each _ _ _ _ (fun _ _ => ?_)) | rfl ))
@[simp] theorem Dev.regRead_keep (ps : List Part) (d : Dev) (o : OtpBanks) (a : Nat) (hp : Part.sub [.regs, .bus, .tim] ps = true) :
    (Dev.regRead d o a).keep ps = d.keep ps := by
  simp only [Part.sub_cons, Part.sub_nil, Bool.and_true, Bool.and_eq_true] at hp
  first | (simp [Dev.regRead, hp]; done) | (unfold Dev.regRead; repeat' (first | (simp [hp]; done) | (simp [hp, Dev.keep_mk]; done) | split | (simp only []; split) | (refine Dev.keep_each _ _ _ _ (fun _ _ => ?_)) | rfl ))
@[simp] theorem Dev.narrow_keep (ps : List Part) (d : Dev) (a width : Nat) (hp : Part.sub [.bus, .fresh] ps = true) :
    (Dev.narrow d a width).keep ps = d.keep ps := by
  simp only [Part.sub_cons, Part.sub_nil, Bool.and_true, Bool.and_eq_true] at hp
  first | (simp [Dev.narrow, hp]; done) | (unfold Dev.narrow; repeat' (first | (simp [hp]; done) | (simp [hp, Dev.keep_mk]; done) | split | (simp only []; split) | (refine Dev.keep_each _ _ _ _ (fun _ _ => ?_)) | rfl ))
@[simp] theorem Dev.hostRead_keep (ps : List Part) (d : Dev) (o : OtpBanks) (a width : Nat) (hp : Part.sub [.regs, .bus, .tim, .fresh] ps = true) :
    (Dev.hostRead d o a width).keep ps = d.keep ps := by
  simp only [Part.sub_cons, Part.sub_nil, Bool.and_true, Bool.and_eq_true] at hp
  first | (simp [Dev.hostRead, hp]; done) | (unfold Dev.hostRead; repeat' (first | (simp [hp]; done) | (simp [hp, Dev.keep_mk]; done) | split | (simp only []; split) | (refine Dev.keep_each _ _ _ _ (fun _ _ => ?_)) | rfl ))
@[simp] theorem Dev.msixWrite_keep (ps : List Part) (d : Dev) (a v : Nat) (hp : Part.sub [.msix, .out] ps = true) :
    (Dev.msixWrite d a v).keep ps = d.keep ps := by
  simp only [Part.sub_cons, Part.sub_nil, Bool.and_true, Bool.and_eq_true] at hp
  first | (simp [Dev.msixWrite, hp]; done) | (unfold Dev.msixWrite; repeat' (first | (simp [hp]; done) | (simp [hp, Dev.keep_mk]; done) | split | (simp only []; split) | (refine Dev.keep_each _ _ _ _ (fun _ _ => ?_)) | rfl ))
@[simp] theorem Dev.regsClear_keep (ps : List Part) (d : Dev) (block : Nat) (dies : List Nat) (hp : Part.sub [.regs] ps = true) :
    (Dev.regsClear d block dies).keep ps = d.keep ps := by
  simp only [Part.sub_cons, Part.sub_nil, Bool.and_true, Bool.and_eq_true] at hp
  first | (simp [Dev.regsClear, hp]; done) | (unfold Dev.regsClear; repeat' (first | (simp [hp]; done) | (simp [hp, Dev.keep_mk]; done) | split | (simp only []; split) | (refine Dev.keep_each _ _ _ _ (fun _ _ => ?_)) | rfl ))
@[simp] theorem Dev.prtReset_keep (ps : List Part) (d : Dev) (dies : List Nat) (hp : Part.sub [.regs, .irq, .msix, .evtDropped, .out, .jrn, .port, .rail, .path] ps = true) :
    (Dev.prtReset d dies).keep ps = d.keep ps := by
  simp only [Part.sub_cons, Part.sub_nil, Bool.and_true, Bool.and_eq_true] at hp
  first | (simp [Dev.prtReset, hp]; done) | (unfold Dev.prtReset; repeat' (first | (simp [hp]; done) | (simp [hp, Dev.keep_mk]; done) | split | (simp only []; split) | (refine Dev.keep_each _ _ _ _ (fun _ _ => ?_)) | rfl ))
@[simp] theorem Dev.parReset_keep (ps : List Part) (d : Dev) (die : Nat) (hp : Part.sub [.regs, .irq, .msix, .evtDropped, .out, .path, .host] ps = true) :
    (Dev.parReset d die).keep ps = d.keep ps := by
  simp only [Part.sub_cons, Part.sub_nil, Bool.and_true, Bool.and_eq_true] at hp
  first | (simp [Dev.parReset, hp]; done) | (unfold Dev.parReset; repeat' (first | (simp [hp]; done) | (simp [hp, Dev.keep_mk]; done) | split | (simp only []; split) | (refine Dev.keep_each _ _ _ _ (fun _ _ => ?_)) | rfl ))
@[simp] theorem Dev.carryStore_keep (ps : List Part) (d : Dev) (die : Nat) (c : Carry) (hp : Part.sub [.path] ps = true) :
    (Dev.carryStore d die c).keep ps = d.keep ps := by
  simp only [Part.sub_cons, Part.sub_nil, Bool.and_true, Bool.and_eq_true] at hp
  first | (simp [Dev.carryStore, hp]; done) | (unfold Dev.carryStore; repeat' (first | (simp [hp]; done) | (simp [hp, Dev.keep_mk]; done) | split | (simp only []; split) | (refine Dev.keep_each _ _ _ _ (fun _ _ => ?_)) | rfl ))
@[simp] theorem Dev.flwReset_keep (ps : List Part) (d : Dev) (die : Nat) (hp : Part.sub [.regs, .path] ps = true) :
    (Dev.flwReset d die).keep ps = d.keep ps := by
  simp only [Part.sub_cons, Part.sub_nil, Bool.and_true, Bool.and_eq_true] at hp
  first | (simp [Dev.flwReset, hp]; done) | (unfold Dev.flwReset; repeat' (first | (simp [hp]; done) | (simp [hp, Dev.keep_mk]; done) | split | (simp only []; split) | (refine Dev.keep_each _ _ _ _ (fun _ _ => ?_)) | rfl ))
@[simp] theorem Dev.schReset_keep (ps : List Part) (d : Dev) (die : Nat) (hp : Part.sub [.regs, .path] ps = true) :
    (Dev.schReset d die).keep ps = d.keep ps := by
  simp only [Part.sub_cons, Part.sub_nil, Bool.and_true, Bool.and_eq_true] at hp
  first | (simp [Dev.schReset, hp]; done) | (unfold Dev.schReset; repeat' (first | (simp [hp]; done) | (simp [hp, Dev.keep_mk]; done) | split | (simp only []; split) | (refine Dev.keep_each _ _ _ _ (fun _ _ => ?_)) | rfl ))
@[simp] theorem Dev.timReset_keep (ps : List Part) (d : Dev) (hp : Part.sub [.regs, .irq, .msix, .evtDropped, .out, .jrn, .port, .tim] ps = true) :
    (Dev.timReset d ).keep ps = d.keep ps := by
  simp only [Part.sub_cons, Part.sub_nil, Bool.and_true, Bool.and_eq_true] at hp
  first | (simp [Dev.timReset, hp]; done) | (unfold Dev.timReset; repeat' (first | (simp [hp]; done) | (simp [hp, Dev.keep_mk]; done) | split | (simp only []; split) | (refine Dev.keep_each _ _ _ _ (fun _ _ => ?_)) | rfl ))
@[simp] theorem Dev.nrgReset_keep (ps : List Part) (d : Dev) (hp : Part.sub [.regs, .nrg] ps = true) :
    (Dev.nrgReset d ).keep ps = d.keep ps := by
  simp only [Part.sub_cons, Part.sub_nil, Bool.and_true, Bool.and_eq_true] at hp
  first | (simp [Dev.nrgReset, hp]; done) | (unfold Dev.nrgReset; repeat' (first | (simp [hp]; done) | (simp [hp, Dev.keep_mk]; done) | split | (simp only []; split) | (refine Dev.keep_each _ _ _ _ (fun _ _ => ?_)) | rfl ))
@[simp] theorem Dev.cntReset_keep (ps : List Part) (d : Dev) (dies : List Nat) (hp : Part.sub [.regs] ps = true) :
    (Dev.cntReset d dies).keep ps = d.keep ps := by
  simp only [Part.sub_cons, Part.sub_nil, Bool.and_true, Bool.and_eq_true] at hp
  first | (simp [Dev.cntReset, hp]; done) | (unfold Dev.cntReset; repeat' (first | (simp [hp]; done) | (simp [hp, Dev.keep_mk]; done) | split | (simp only []; split) | (refine Dev.keep_each _ _ _ _ (fun _ _ => ?_)) | rfl ))
@[simp] theorem Dev.otpReset_keep (ps : List Part) (d : Dev) (hp : Part.sub [.regs] ps = true) :
    (Dev.otpReset d ).keep ps = d.keep ps := by
  simp only [Part.sub_cons, Part.sub_nil, Bool.and_true, Bool.and_eq_true] at hp
  first | (simp [Dev.otpReset, hp]; done) | (unfold Dev.otpReset; repeat' (first | (simp [hp]; done) | (simp [hp, Dev.keep_mk]; done) | split | (simp only []; split) | (refine Dev.keep_each _ _ _ _ (fun _ _ => ?_)) | rfl ))
@[simp] theorem Dev.agentRead_keep (ps : List Part) (d : Dev) (o : OtpBanks) (a : Nat) (hp : Part.sub [.regs, .bus, .tim] ps = true) :
    (Dev.agentRead d o a).1.keep ps = d.keep ps := by
  simp only [Part.sub_cons, Part.sub_nil, Bool.and_true, Bool.and_eq_true] at hp
  first | (simp [Dev.agentRead, hp]; done) | (unfold Dev.agentRead; repeat' (first | (simp [hp]; done) | (simp [hp, Dev.keep_mk]; done) | split | (simp only []; split) | (refine Dev.keep_each _ _ _ _ (fun _ _ => ?_)) | rfl ))
@[simp] theorem Dev.cmdHand_keep (ps : List Part) (d : Dev) (die i : Nat) (t : Task) (hp : Part.sub [.regs, .irq, .msix, .evtDropped, .out, .rck, .fresh] ps = true) :
    (Dev.cmdHand d die i t).keep ps = d.keep ps := by
  simp only [Part.sub_cons, Part.sub_nil, Bool.and_true, Bool.and_eq_true] at hp
  first | (simp [Dev.cmdHand, hp]; done) | (unfold Dev.cmdHand; repeat' (first | (simp [hp]; done) | (simp [hp, Dev.keep_mk]; done) | split | (simp only []; split) | (refine Dev.keep_each _ _ _ _ (fun _ _ => ?_)) | rfl ))
@[simp] theorem Dev.hashOut_keep (ps : List Part) (d : Dev) (st l : List Byte) (hp : Part.sub [.fresh] ps = true) :
    (Dev.hashOut d st l).1.keep ps = d.keep ps := by
  simp only [Part.sub_cons, Part.sub_nil, Bool.and_true, Bool.and_eq_true] at hp
  first | (simp [Dev.hashOut, hp]; done) | (unfold Dev.hashOut; repeat' (first | (simp [hp]; done) | (simp [hp, Dev.keep_mk]; done) | split | (simp only []; split) | (refine Dev.keep_each _ _ _ _ (fun _ _ => ?_)) | rfl ))
@[simp] theorem Dev.columnSlots_keep (ps : List Part) (d : Dev) (c : Nat) (hp : Part.sub [.regs, .irq, .msix, .evtDropped, .out] ps = true) :
    (Dev.columnSlots d c).keep ps = d.keep ps := by
  simp only [Part.sub_cons, Part.sub_nil, Bool.and_true, Bool.and_eq_true] at hp
  first | (simp [Dev.columnSlots, hp]; done) | (unfold Dev.columnSlots; repeat' (first | (simp [hp]; done) | (simp [hp, Dev.keep_mk]; done) | split | (simp only []; split) | (refine Dev.keep_each _ _ _ _ (fun _ _ => ?_)) | rfl ))
@[simp] theorem Dev.tickCount_keep (ps : List Part) (d : Dev) (hp : Part.sub [.regs, .irq, .msix, .evtDropped, .out, .path, .rck, .msgSeen, .fresh] ps = true) :
    (Dev.tickCount d ).keep ps = d.keep ps := by
  simp only [Part.sub_cons, Part.sub_nil, Bool.and_true, Bool.and_eq_true] at hp
  first | (simp [Dev.tickCount, hp]; done) | (unfold Dev.tickCount; repeat' (first | (simp [hp]; done) | (simp [hp, Dev.keep_mk]; done) | split | (simp only []; split) | (refine Dev.keep_each _ _ _ _ (fun _ _ => ?_)) | rfl ))
@[simp] theorem Dev.snapTake_keep (ps : List Part) (d : Dev) (hp : Part.sub [.regs, .snap, .irq, .msix, .evtDropped, .out] ps = true) :
    (Dev.snapTake d ).keep ps = d.keep ps := by
  simp only [Part.sub_cons, Part.sub_nil, Bool.and_true, Bool.and_eq_true] at hp
  first | (simp [Dev.snapTake, hp]; done) | (unfold Dev.snapTake; repeat' (first | (simp [hp]; done) | (simp [hp, Dev.keep_mk]; done) | split | (simp only []; split) | (refine Dev.keep_each _ _ _ _ (fun _ _ => ?_)) | rfl ))
@[simp] theorem Dev.tickRegs_keep (ps : List Part) (d : Dev) (hp : Part.sub [.regs] ps = true) :
    (Dev.tickRegs d ).keep ps = d.keep ps := by
  simp only [Part.sub_cons, Part.sub_nil, Bool.and_true, Bool.and_eq_true] at hp
  first | (simp [Dev.tickRegs, hp]; done) | (unfold Dev.tickRegs; repeat' (first | (simp [hp]; done) | (simp [hp, Dev.keep_mk]; done) | split | (simp only []; split) | (refine Dev.keep_each _ _ _ _ (fun _ _ => ?_)) | rfl ))
@[simp] theorem Dev.tickNext_keep (ps : List Part) (d : Dev) (hp : Part.sub [.regs, .trk] ps = true) :
    (Dev.tickNext d ).keep ps = d.keep ps := by
  simp only [Part.sub_cons, Part.sub_nil, Bool.and_true, Bool.and_eq_true] at hp
  first | (simp [Dev.tickNext, hp]; done) | (unfold Dev.tickNext; repeat' (first | (simp [hp]; done) | (simp [hp, Dev.keep_mk]; done) | split | (simp only []; split) | (refine Dev.keep_each _ _ _ _ (fun _ _ => ?_)) | rfl ))
@[simp] theorem Dev.lvlChange_keep (ps : List Part) (d : Dev) (hp : Part.sub [.regs] ps = true) :
    (Dev.lvlChange d ).keep ps = d.keep ps := by
  simp only [Part.sub_cons, Part.sub_nil, Bool.and_true, Bool.and_eq_true] at hp
  first | (simp [Dev.lvlChange, hp]; done) | (unfold Dev.lvlChange; repeat' (first | (simp [hp]; done) | (simp [hp, Dev.keep_mk]; done) | split | (simp only []; split) | (refine Dev.keep_each _ _ _ _ (fun _ _ => ?_)) | rfl ))
@[simp] theorem Dev.userTick_keep (ps : List Part) (d : Dev) (hp : Part.sub [.regs] ps = true) :
    (Dev.userTick d ).keep ps = d.keep ps := by
  simp only [Part.sub_cons, Part.sub_nil, Bool.and_true, Bool.and_eq_true] at hp
  first | (simp [Dev.userTick, hp]; done) | (unfold Dev.userTick; repeat' (first | (simp [hp]; done) | (simp [hp, Dev.keep_mk]; done) | split | (simp only []; split) | (refine Dev.keep_each _ _ _ _ (fun _ _ => ?_)) | rfl ))
@[simp] theorem Dev.wredTick_keep (ps : List Part) (d : Dev) (die : Nat) (hp : Part.sub [.path, .fresh] ps = true) :
    (Dev.wredTick d die).keep ps = d.keep ps := by
  simp only [Part.sub_cons, Part.sub_nil, Bool.and_true, Bool.and_eq_true] at hp
  first | (simp [Dev.wredTick, hp]; done) | (unfold Dev.wredTick; repeat' (first | (simp [hp]; done) | (simp [hp, Dev.keep_mk]; done) | split | (simp only []; split) | (refine Dev.keep_each _ _ _ _ (fun _ _ => ?_)) | rfl ))
@[simp] theorem Dev.fcEval_keep (ps : List Part) (d : Dev) (p q : Nat) (hp : Part.sub [.regs, .out, .port] ps = true) :
    (Dev.fcEval d p q).keep ps = d.keep ps := by
  simp only [Part.sub_cons, Part.sub_nil, Bool.and_true, Bool.and_eq_true] at hp
  first | (simp [Dev.fcEval, hp]; done) | (unfold Dev.fcEval; repeat' (first | (simp [hp]; done) | (simp [hp, Dev.keep_mk]; done) | split | (simp only []; split) | (refine Dev.keep_each _ _ _ _ (fun _ _ => ?_)) | rfl ))
@[simp] theorem Dev.fcTick_keep (ps : List Part) (d : Dev) (hp : Part.sub [.regs, .out, .port] ps = true) :
    (Dev.fcTick d ).keep ps = d.keep ps := by
  simp only [Part.sub_cons, Part.sub_nil, Bool.and_true, Bool.and_eq_true] at hp
  first | (simp [Dev.fcTick, hp]; done) | (unfold Dev.fcTick; repeat' (first | (simp [hp]; done) | (simp [hp, Dev.keep_mk]; done) | split | (simp only []; split) | (refine Dev.keep_each _ _ _ _ (fun _ _ => ?_)) | rfl ))
@[simp] theorem Dev.presentTick_keep (ps : List Part) (d : Dev) (p : Nat) (hp : Part.sub [.regs] ps = true) :
    (Dev.presentTick d p).keep ps = d.keep ps := by
  simp only [Part.sub_cons, Part.sub_nil, Bool.and_true, Bool.and_eq_true] at hp
  first | (simp [Dev.presentTick, hp]; done) | (unfold Dev.presentTick; repeat' (first | (simp [hp]; done) | (simp [hp, Dev.keep_mk]; done) | split | (simp only []; split) | (refine Dev.keep_each _ _ _ _ (fun _ _ => ?_)) | rfl ))
@[simp] theorem Dev.blindTick_keep (ps : List Part) (d : Dev) (g : Nat) (hp : Part.sub [.regs, .jrn, .rail] ps = true) :
    (Dev.blindTick d g).keep ps = d.keep ps := by
  simp only [Part.sub_cons, Part.sub_nil, Bool.and_true, Bool.and_eq_true] at hp
  first | (simp [Dev.blindTick, hp]; done) | (unfold Dev.blindTick; repeat' (first | (simp [hp]; done) | (simp [hp, Dev.keep_mk]; done) | split | (simp only []; split) | (refine Dev.keep_each _ _ _ _ (fun _ _ => ?_)) | rfl ))
@[simp] theorem Dev.wtrTick_keep (ps : List Part) (d : Dev) (g : Nat) (hp : Part.sub [.regs] ps = true) :
    (Dev.wtrTick d g).keep ps = d.keep ps := by
  simp only [Part.sub_cons, Part.sub_nil, Bool.and_true, Bool.and_eq_true] at hp
  first | (simp [Dev.wtrTick, hp]; done) | (unfold Dev.wtrTick; repeat' (first | (simp [hp]; done) | (simp [hp, Dev.keep_mk]; done) | split | (simp only []; split) | (refine Dev.keep_each _ _ _ _ (fun _ _ => ?_)) | rfl ))
@[simp] theorem Dev.portTick_keep (ps : List Part) (d : Dev) (hp : Part.sub [.regs, .jrn, .rail] ps = true) :
    (Dev.portTick d ).keep ps = d.keep ps := by
  simp only [Part.sub_cons, Part.sub_nil, Bool.and_true, Bool.and_eq_true] at hp
  first | (simp [Dev.portTick, hp]; done) | (unfold Dev.portTick; repeat' (first | (simp [hp]; done) | (simp [hp, Dev.keep_mk]; done) | split | (simp only []; split) | (refine Dev.keep_each _ _ _ _ (fun _ _ => ?_)) | rfl ))
@[simp] theorem Dev.gridTick_keep (ps : List Part) (d : Dev) (hp : Part.sub [.regs] ps = true) :
    (Dev.gridTick d ).keep ps = d.keep ps := by
  simp only [Part.sub_cons, Part.sub_nil, Bool.and_true, Bool.and_eq_true] at hp
  first | (simp [Dev.gridTick, hp]; done) | (unfold Dev.gridTick; repeat' (first | (simp [hp]; done) | (simp [hp, Dev.keep_mk]; done) | split | (simp only []; split) | (refine Dev.keep_each _ _ _ _ (fun _ _ => ?_)) | rfl ))
@[simp] theorem Dev.lvlFlush_keep (ps : List Part) (d : Dev) (g : Nat) (hp : Part.sub [.regs, .path] ps = true) :
    (Dev.lvlFlush d g).keep ps = d.keep ps := by
  simp only [Part.sub_cons, Part.sub_nil, Bool.and_true, Bool.and_eq_true] at hp
  first | (simp [Dev.lvlFlush, hp]; done) | (unfold Dev.lvlFlush; repeat' (first | (simp [hp]; done) | (simp [hp, Dev.keep_mk]; done) | split | (simp only []; split) | (refine Dev.keep_each _ _ _ _ (fun _ _ => ?_)) | rfl ))
@[simp] theorem Dev.lvlGroupTick_keep (ps : List Part) (d : Dev) (g : Nat) (hp : Part.sub [.regs, .irq, .msix, .evtDropped, .out, .path] ps = true) :
    (Dev.lvlGroupTick d g).keep ps = d.keep ps := by
  simp only [Part.sub_cons, Part.sub_nil, Bool.and_true, Bool.and_eq_true] at hp
  first | (simp [Dev.lvlGroupTick, hp]; done) | (unfold Dev.lvlGroupTick; repeat' (first | (simp [hp]; done) | (simp [hp, Dev.keep_mk]; done) | split | (simp only []; split) | (refine Dev.keep_each _ _ _ _ (fun _ _ => ?_)) | rfl ))
@[simp] theorem Dev.lvlQTick_keep (ps : List Part) (d : Dev) (i : Nat) (hp : Part.sub [.regs] ps = true) :
    (Dev.lvlQTick d i).keep ps = d.keep ps := by
  simp only [Part.sub_cons, Part.sub_nil, Bool.and_true, Bool.and_eq_true] at hp
  first | (simp [Dev.lvlQTick, hp]; done) | (unfold Dev.lvlQTick; repeat' (first | (simp [hp]; done) | (simp [hp, Dev.keep_mk]; done) | split | (simp only []; split) | (refine Dev.keep_each _ _ _ _ (fun _ _ => ?_)) | rfl ))
@[simp] theorem Dev.lvlTick_keep (ps : List Part) (d : Dev) (hp : Part.sub [.regs, .irq, .msix, .evtDropped, .out, .path] ps = true) :
    (Dev.lvlTick d ).keep ps = d.keep ps := by
  simp only [Part.sub_cons, Part.sub_nil, Bool.and_true, Bool.and_eq_true] at hp
  first | (simp [Dev.lvlTick, hp]; done) | (unfold Dev.lvlTick; repeat' (first | (simp [hp]; done) | (simp [hp, Dev.keep_mk]; done) | split | (simp only []; split) | (refine Dev.keep_each _ _ _ _ (fun _ _ => ?_)) | rfl ))
@[simp] theorem Dev.condPass_keep (ps : List Part) (d : Dev) (deck : Bool) (hp : Part.sub [.rck] ps = true) :
    (Dev.condPass d deck).keep ps = d.keep ps := by
  simp only [Part.sub_cons, Part.sub_nil, Bool.and_true, Bool.and_eq_true] at hp
  first | (simp [Dev.condPass, hp]; done) | (unfold Dev.condPass; repeat' (first | (simp [hp]; done) | (simp [hp, Dev.keep_mk]; done) | split | (simp only []; split) | (refine Dev.keep_each _ _ _ _ (fun _ _ => ?_)) | rfl ))
@[simp] theorem Dev.slewTo_keep (ps : List Part) (d : Dev) (e : Int) (hp : Part.sub [.regs, .trk] ps = true) :
    (Dev.slewTo d e).keep ps = d.keep ps := by
  simp only [Part.sub_cons, Part.sub_nil, Bool.and_true, Bool.and_eq_true] at hp
  first | (simp [Dev.slewTo, hp]; done) | (unfold Dev.slewTo; repeat' (first | (simp [hp]; done) | (simp [hp, Dev.keep_mk]; done) | split | (simp only []; split) | (refine Dev.keep_each _ _ _ _ (fun _ _ => ?_)) | rfl ))
@[simp] theorem Dev.stepDrop_keep (ps : List Part) (d : Dev) (hp : Part.sub [.regs, .trk, .port] ps = true) :
    (Dev.stepDrop d ).keep ps = d.keep ps := by
  simp only [Part.sub_cons, Part.sub_nil, Bool.and_true, Bool.and_eq_true] at hp
  first | (simp [Dev.stepDrop, hp]; done) | (unfold Dev.stepDrop; repeat' (first | (simp [hp]; done) | (simp [hp, Dev.keep_mk]; done) | split | (simp only []; split) | (refine Dev.keep_each _ _ _ _ (fun _ _ => ?_)) | rfl ))
@[simp] theorem Dev.sweepRod_keep (ps : List Part) (d : Dev) (die : Nat) (hp : Part.sub [.regs, .irq, .msix, .evtDropped, .out, .path] ps = true) :
    (Dev.sweepRod d die).keep ps = d.keep ps := by
  simp only [Part.sub_cons, Part.sub_nil, Bool.and_true, Bool.and_eq_true] at hp
  first | (simp [Dev.sweepRod, hp]; done) | (unfold Dev.sweepRod; repeat' (first | (simp [hp]; done) | (simp [hp, Dev.keep_mk]; done) | split | (simp only []; split) | (refine Dev.keep_each _ _ _ _ (fun _ _ => ?_)) | rfl ))
@[simp] theorem Dev.rodReset_keep (ps : List Part) (d : Dev) (die : Nat) (hp : Part.sub [.regs, .path, .rck] ps = true) :
    (Dev.rodReset d die).keep ps = d.keep ps := by
  simp only [Part.sub_cons, Part.sub_nil, Bool.and_true, Bool.and_eq_true] at hp
  first | (simp [Dev.rodReset, hp]; done) | (unfold Dev.rodReset; repeat' (first | (simp [hp]; done) | (simp [hp, Dev.keep_mk]; done) | split | (simp only []; split) | (refine Dev.keep_each _ _ _ _ (fun _ _ => ?_)) | rfl ))
@[simp] theorem Dev.rodActions_keep (ps : List Part) (d : Dev) (e : RodEnergy) (hp : Part.sub [.regs, .irq, .msix, .evtDropped, .out, .jrn, .port, .path, .nrg, .hbm, .rck, .tim, .fresh] ps = true) :
    (Dev.rodActions d e).keep ps = d.keep ps := by
  simp only [Part.sub_cons, Part.sub_nil, Bool.and_true, Bool.and_eq_true] at hp
  first | (simp [Dev.rodActions, hp]; done) | (unfold Dev.rodActions; repeat' (first | (simp [hp]; done) | (simp [hp, Dev.keep_mk]; done) | split | (simp only []; split) | (refine Dev.keep_each _ _ _ _ (fun _ _ => ?_)) | rfl ))
@[simp] theorem Dev.lagDeck_keep (ps : List Part) (d : Dev) (die : Nat) (hp : Part.sub [.regs, .flt, .path] ps = true) :
    (Dev.lagDeck d die).keep ps = d.keep ps := by
  simp only [Part.sub_cons, Part.sub_nil, Bool.and_true, Bool.and_eq_true] at hp
  first | (simp [Dev.lagDeck, hp]; done) | (unfold Dev.lagDeck; repeat' (first | (simp [hp]; done) | (simp [hp, Dev.keep_mk]; done) | split | (simp only []; split) | (refine Dev.keep_each _ _ _ _ (fun _ _ => ?_)) | rfl ))
@[simp] theorem Dev.followers_keep (ps : List Part) (d : Dev) (quiet differs : List (Fin 4)) (hp : Part.sub [.regs, .flt] ps = true) :
    (Dev.followers d quiet differs).keep ps = d.keep ps := by
  simp only [Part.sub_cons, Part.sub_nil, Bool.and_true, Bool.and_eq_true] at hp
  first | (simp [Dev.followers, hp]; done) | (unfold Dev.followers; repeat' (first | (simp [hp]; done) | (simp [hp, Dev.keep_mk]; done) | split | (simp only []; split) | (refine Dev.keep_each _ _ _ _ (fun _ _ => ?_)) | rfl ))
@[simp] theorem Dev.aliveDeck_keep (ps : List Part) (d : Dev) (check : Bool) (hp : Part.sub [.regs, .flt] ps = true) :
    (Dev.aliveDeck d check).keep ps = d.keep ps := by
  simp only [Part.sub_cons, Part.sub_nil, Bool.and_true, Bool.and_eq_true] at hp
  first | (simp [Dev.aliveDeck, hp]; done) | (unfold Dev.aliveDeck; repeat' (first | (simp [hp]; done) | (simp [hp, Dev.keep_mk]; done) | split | (simp only []; split) | (refine Dev.keep_each _ _ _ _ (fun _ _ => ?_)) | rfl ))
@[simp] theorem Dev.lvlStep_keep (ps : List Part) (d : Dev) (s : Int) (hp : Part.sub [.path] ps = true) :
    (Dev.lvlStep d s).keep ps = d.keep ps := by
  simp only [Part.sub_cons, Part.sub_nil, Bool.and_true, Bool.and_eq_true] at hp
  first | (simp [Dev.lvlStep, hp]; done) | (unfold Dev.lvlStep; repeat' (first | (simp [hp]; done) | (simp [hp, Dev.keep_mk]; done) | split | (simp only []; split) | (refine Dev.keep_each _ _ _ _ (fun _ _ => ?_)) | rfl ))
@[simp] theorem Dev.staleMark_keep (ps : List Part) (d : Dev) (hp : Part.sub [.path] ps = true) :
    (Dev.staleMark d ).keep ps = d.keep ps := by
  simp only [Part.sub_cons, Part.sub_nil, Bool.and_true, Bool.and_eq_true] at hp
  first | (simp [Dev.staleMark, hp]; done) | (unfold Dev.staleMark; repeat' (first | (simp [hp]; done) | (simp [hp, Dev.keep_mk]; done) | split | (simp only []; split) | (refine Dev.keep_each _ _ _ _ (fun _ _ => ?_)) | rfl ))
@[simp] theorem Dev.stepBy_keep (ps : List Part) (d : Dev) (e : Int) (hp : Part.sub [.regs, .trk, .irq, .msix, .evtDropped, .out, .jrn, .port, .path, .tim] ps = true) :
    (Dev.stepBy d e).keep ps = d.keep ps := by
  simp only [Part.sub_cons, Part.sub_nil, Bool.and_true, Bool.and_eq_true] at hp
  first | (simp [Dev.stepBy, hp]; done) | (unfold Dev.stepBy; repeat' (first | (simp [hp]; done) | (simp [hp, Dev.keep_mk]; done) | split | (simp only []; split) | (refine Dev.keep_each _ _ _ _ (fun _ _ => ?_)) | rfl ))

/-! ### From the lemmas to frames -/

theorem Part.has_iff (p : Part) (ps : List Part) : p.has ps = true ↔ p ∈ ps := by
  induction ps with
  | nil => simp [Part.has]
  | cons q l ih => simp only [Part.has, List.mem_cons]; split <;> simp_all

theorem Dev.keep_at_regs (ps : List Part) (d : Dev) : (d.keep ps).regs = if Part.has .regs ps then ({} : Dev).regs else d.regs := rfl
theorem Dev.keep_at_live (ps : List Part) (d : Dev) : (d.keep ps).live = if Part.has .live ps then ({} : Dev).live else d.live := rfl
theorem Dev.keep_at_bus (ps : List Part) (d : Dev) : (d.keep ps).bus = if Part.has .bus ps then ({} : Dev).bus else d.bus := rfl
theorem Dev.keep_at_snap (ps : List Part) (d : Dev) : (d.keep ps).snap = if Part.has .snap ps then ({} : Dev).snap else d.snap := rfl
theorem Dev.keep_at_trk (ps : List Part) (d : Dev) : (d.keep ps).trk = if Part.has .trk ps then ({} : Dev).trk else d.trk := rfl
theorem Dev.keep_at_links (ps : List Part) (d : Dev) : (d.keep ps).links = if Part.has .links ps then ({} : Dev).links else d.links := rfl
theorem Dev.keep_at_flt (ps : List Part) (d : Dev) : (d.keep ps).flt = if Part.has .flt ps then ({} : Dev).flt else d.flt := rfl
theorem Dev.keep_at_board (ps : List Part) (d : Dev) : (d.keep ps).board = if Part.has .board ps then ({} : Dev).board else d.board := rfl
theorem Dev.keep_at_irq (ps : List Part) (d : Dev) : (d.keep ps).irq = if Part.has .irq ps then ({} : Dev).irq else d.irq := rfl
theorem Dev.keep_at_msix (ps : List Part) (d : Dev) : (d.keep ps).msix = if Part.has .msix ps then ({} : Dev).msix else d.msix := rfl
theorem Dev.keep_at_evtDropped (ps : List Part) (d : Dev) : (d.keep ps).evtDropped = if Part.has .evtDropped ps then ({} : Dev).evtDropped else d.evtDropped := rfl
theorem Dev.keep_at_out (ps : List Part) (d : Dev) : (d.keep ps).out = if Part.has .out ps then ({} : Dev).out else d.out := rfl
theorem Dev.keep_at_jrn (ps : List Part) (d : Dev) : (d.keep ps).jrn = if Part.has .jrn ps then ({} : Dev).jrn else d.jrn := rfl
theorem Dev.keep_at_port (ps : List Part) (d : Dev) : (d.keep ps).port = if Part.has .port ps then ({} : Dev).port else d.port := rfl
theorem Dev.keep_at_rail (ps : List Part) (d : Dev) : (d.keep ps).rail = if Part.has .rail ps then ({} : Dev).rail else d.rail := rfl
theorem Dev.keep_at_path (ps : List Part) (d : Dev) : (d.keep ps).path = if Part.has .path ps then ({} : Dev).path else d.path := rfl
theorem Dev.keep_at_tbl (ps : List Part) (d : Dev) : (d.keep ps).tbl = if Part.has .tbl ps then ({} : Dev).tbl else d.tbl := rfl
theorem Dev.keep_at_nrg (ps : List Part) (d : Dev) : (d.keep ps).nrg = if Part.has .nrg ps then ({} : Dev).nrg else d.nrg := rfl
theorem Dev.keep_at_hbm (ps : List Part) (d : Dev) : (d.keep ps).hbm = if Part.has .hbm ps then ({} : Dev).hbm else d.hbm := rfl
theorem Dev.keep_at_rck (ps : List Part) (d : Dev) : (d.keep ps).rck = if Part.has .rck ps then ({} : Dev).rck else d.rck := rfl
theorem Dev.keep_at_dom (ps : List Part) (d : Dev) : (d.keep ps).dom = if Part.has .dom ps then ({} : Dev).dom else d.dom := rfl
theorem Dev.keep_at_tim (ps : List Part) (d : Dev) : (d.keep ps).tim = if Part.has .tim ps then ({} : Dev).tim else d.tim := rfl
theorem Dev.keep_at_host (ps : List Part) (d : Dev) : (d.keep ps).host = if Part.has .host ps then ({} : Dev).host else d.host := rfl
theorem Dev.keep_at_deferred (ps : List Part) (d : Dev) : (d.keep ps).deferred = if Part.has .deferred ps then ({} : Dev).deferred else d.deferred := rfl
theorem Dev.keep_at_baseMac (ps : List Part) (d : Dev) : (d.keep ps).baseMac = if Part.has .baseMac ps then ({} : Dev).baseMac else d.baseMac := rfl
theorem Dev.keep_at_cert (ps : List Part) (d : Dev) : (d.keep ps).cert = if Part.has .cert ps then ({} : Dev).cert else d.cert := rfl
theorem Dev.keep_at_treePorts (ps : List Part) (d : Dev) : (d.keep ps).treePorts = if Part.has .treePorts ps then ({} : Dev).treePorts else d.treePorts := rfl
theorem Dev.keep_at_msgSeen (ps : List Part) (d : Dev) : (d.keep ps).msgSeen = if Part.has .msgSeen ps then ({} : Dev).msgSeen else d.msgSeen := rfl
theorem Dev.keep_at_fresh (ps : List Part) (d : Dev) : (d.keep ps).fresh = if Part.has .fresh ps then ({} : Dev).fresh else d.fresh := rfl

/-- A part that is not blanked out is the same. -/
theorem Part.same_of_keep {ps : List Part} {d e : Dev} (h : e.keep ps = d.keep ps) (p : Part) (hp : p ∉ ps) : p.same d e := by
  have hn : p.has ps = false := by
    cases hh : p.has ps
    · rfl
    · exact absurd ((Part.has_iff p ps).1 hh) hp
  cases p with
  | regs =>
    have k := congrArg Dev.regs h
    rw [Dev.keep_at_regs, Dev.keep_at_regs, hn] at k
    exact k
  | live =>
    have k := congrArg Dev.live h
    rw [Dev.keep_at_live, Dev.keep_at_live, hn] at k
    exact k
  | bus =>
    have k := congrArg Dev.bus h
    rw [Dev.keep_at_bus, Dev.keep_at_bus, hn] at k
    exact k
  | snap =>
    have k := congrArg Dev.snap h
    rw [Dev.keep_at_snap, Dev.keep_at_snap, hn] at k
    exact k
  | trk =>
    have k := congrArg Dev.trk h
    rw [Dev.keep_at_trk, Dev.keep_at_trk, hn] at k
    exact k
  | links =>
    have k := congrArg Dev.links h
    rw [Dev.keep_at_links, Dev.keep_at_links, hn] at k
    exact k
  | flt =>
    have k := congrArg Dev.flt h
    rw [Dev.keep_at_flt, Dev.keep_at_flt, hn] at k
    exact k
  | board =>
    have k := congrArg Dev.board h
    rw [Dev.keep_at_board, Dev.keep_at_board, hn] at k
    exact k
  | irq =>
    have k := congrArg Dev.irq h
    rw [Dev.keep_at_irq, Dev.keep_at_irq, hn] at k
    exact k
  | msix =>
    have k := congrArg Dev.msix h
    rw [Dev.keep_at_msix, Dev.keep_at_msix, hn] at k
    exact k
  | evtDropped =>
    have k := congrArg Dev.evtDropped h
    rw [Dev.keep_at_evtDropped, Dev.keep_at_evtDropped, hn] at k
    exact k
  | out =>
    have k := congrArg Dev.out h
    rw [Dev.keep_at_out, Dev.keep_at_out, hn] at k
    exact k
  | jrn =>
    have k := congrArg Dev.jrn h
    rw [Dev.keep_at_jrn, Dev.keep_at_jrn, hn] at k
    exact k
  | port =>
    have k := congrArg Dev.port h
    rw [Dev.keep_at_port, Dev.keep_at_port, hn] at k
    exact k
  | rail =>
    have k := congrArg Dev.rail h
    rw [Dev.keep_at_rail, Dev.keep_at_rail, hn] at k
    exact k
  | path =>
    have k := congrArg Dev.path h
    rw [Dev.keep_at_path, Dev.keep_at_path, hn] at k
    exact k
  | tbl =>
    have k := congrArg Dev.tbl h
    rw [Dev.keep_at_tbl, Dev.keep_at_tbl, hn] at k
    exact k
  | nrg =>
    have k := congrArg Dev.nrg h
    rw [Dev.keep_at_nrg, Dev.keep_at_nrg, hn] at k
    exact k
  | hbm =>
    have k := congrArg Dev.hbm h
    rw [Dev.keep_at_hbm, Dev.keep_at_hbm, hn] at k
    exact k
  | rck =>
    have k := congrArg Dev.rck h
    rw [Dev.keep_at_rck, Dev.keep_at_rck, hn] at k
    exact k
  | dom =>
    have k := congrArg Dev.dom h
    rw [Dev.keep_at_dom, Dev.keep_at_dom, hn] at k
    exact k
  | tim =>
    have k := congrArg Dev.tim h
    rw [Dev.keep_at_tim, Dev.keep_at_tim, hn] at k
    exact k
  | host =>
    have k := congrArg Dev.host h
    rw [Dev.keep_at_host, Dev.keep_at_host, hn] at k
    exact k
  | deferred =>
    have k := congrArg Dev.deferred h
    rw [Dev.keep_at_deferred, Dev.keep_at_deferred, hn] at k
    exact k
  | baseMac =>
    have k := congrArg Dev.baseMac h
    rw [Dev.keep_at_baseMac, Dev.keep_at_baseMac, hn] at k
    exact k
  | cert =>
    have k := congrArg Dev.cert h
    rw [Dev.keep_at_cert, Dev.keep_at_cert, hn] at k
    exact k
  | treePorts =>
    have k := congrArg Dev.treePorts h
    rw [Dev.keep_at_treePorts, Dev.keep_at_treePorts, hn] at k
    exact k
  | msgSeen =>
    have k := congrArg Dev.msgSeen h
    rw [Dev.keep_at_msgSeen, Dev.keep_at_msgSeen, hn] at k
    exact k
  | fresh =>
    have k := congrArg Dev.fresh h
    rw [Dev.keep_at_fresh, Dev.keep_at_fresh, hn] at k
    exact k

/-- The frame of a command that is an effect on the device. -/
theorem FrameIs.of_keep {ps : List Part} {i : Instr} {f : State → Dev → Dev} (h : ∀ s, exec i s = onDev s (f s))
    (k : ∀ s d, (f s d).keep ps = d.keep ps) : FrameIs ps i := by
  intro s t hs
  rw [h, onDev] at hs
  cases hs
  exact ⟨rfl, fun p hp => Part.same_of_keep (k s s.dev) p hp⟩

end Sys2Proof.Machine
end

