-- ==== Sys2Proof/Tests/Slice0.lean ====
section
/-! SUPPORT. Tests/Slice0.lean: the premises of every statement met by a concrete state, ill-formed commands refused, and
steps checked against the worked examples of the spec. Expected results are the spec's own figures. -/
namespace Sys2Proof.Machine
open Sys2Proof

/-- A device whose live registers are its registers. -/
def Dev.testLive (d : Dev) : Dev := { d with live := d.regs }
/-- The reset state with another device. -/
def testState (d : Dev) : State := { State.reset with dev := d }
/-- A command header: ring 0, tag 0. -/
def testHdr : CmdHdr := { src := .ring 0, tag := 0, noReply := false, batch := none }
/-- A microcode word of K engine 0. -/
def testWord : Micro := { k := 0, d := 1, a := 2, imm := 0, ecc := 0 }
/-- A device ready for commands, its host link up. -/
def testReady : Dev := { (({} : Dev).sf rOTP_BOOT_STATUS fOTP_BOOT_STATUS_COMMAND_READY 1) with host := { linkUp := true } }
/-- A packet of frame 0. -/
def testPkt : Pkt := { frame := 0, die := 0, port := 0, col := 0, pr := {}, md := mdReset 0, rw := [], ver := 0 }
/-- A copy of it. -/
def testCopy : Copy := { pkt := testPkt, port := 0, pg := none, queue := 0, cells := 1, est := 64, grant := 0 }
/-- A copy in transmission. -/
def testTx : TxSt := { copy := testCopy, port := 0, stamp := 0, seq := none, trailer := false, cls := 0, charged := 84 }
/-- A flow key. -/
def testKey : FKey := { profile := 0, key := zeros 40, h1 := 0, h2 := 0 }
/-- An exact-match table. -/
def testTable : Table := { desc := [4, 0x40, 2, 0, 1] ++ zeros 27 }

set_option maxRecDepth 20000

theorem zeros_getD (n i : Nat) : (zeros n).getD i 0 = 0 := by
  unfold zeros; rw [List.getD_eq_getElem?_getD, List.getElem?_replicate]; split <;> rfl

theorem testTable_only (x : Table) (die : Nat) (t : Table)
    (h : TblMem.table { tables := [(0, some x)] } die 0 = some t) : t = x := by
  rw [TblMem.table, kvGet] at h
  split at h
  · exact (Option.some.inj h).symm
  · exact nomatch h

theorem testTable_noCompanion (die : Nat) : TblMem.isCompanion { tables := [(0, some testTable)] } die 0 = false := by
  have e : decide (testTable.companion = some 0) = false := by decide
  simp [TblMem.isCompanion, e]

theorem kvGet_beyond (n : Nat) : ∀ m : Mem, (∀ e ∈ m, e.1 < n) → ∀ i, n ≤ i → memByte m i = 0
  | [], _, _, _ => rfl
  | (k, v) :: m, h, i, hi => by
    have h1 : k < n := h (k, v) (List.mem_cons_self ..)
    have h2 := kvGet_beyond n m (fun e he => h e (List.mem_cons_of_mem _ he)) i hi
    show kvGet 0 ((k, v) :: m) i = 0
    rw [kvGet, if_neg (by omega)]
    exact h2

theorem reset_otp : OtpInForm State.reset.otp :=
  ⟨by unfold kvWf; decide, by unfold kvWf; decide, by unfold kvWf; decide, kvGet_beyond 768 _ (by decide),
    kvGet_beyond 256 _ (by decide), kvGet_beyond 1024 _ (by decide)⟩

/-! ### Premises of the statements -/

/-- Premises of O1 met together. -/
theorem witness_StepRunsFront : ∃ (s : State), s.pending = [] :=
  ⟨testState ({} : Dev), by decide⟩

/-- Premises of O2 met together. -/
theorem witness_QueueIsFifo : ∃ (s : State) (t : State) (c : Instr) (rest : List Instr), s.pending = c :: rest ∧ stepsTo s t :=
  ⟨{ State.reset with pending := [.bypass] }, { State.reset with dev := { State.reset.dev with board := { State.reset.dev.board with jtagIr := 0, jtagOut := 0 } } }, .bypass, [], rfl, rfl⟩

/-- Premises of O4 met together, clause by clause. -/
theorem witness_OtpBitsOnlyBurn :
    (∃ (s : State) (t : _), stepsTo s t) ∧
    (∃ (s : State) (t : _), Runs s t) :=
  ⟨⟨State.reset, State.reset, rfl⟩,
   ⟨State.reset, State.reset, .refl _⟩⟩

/-- Premises of O5 met together. -/
theorem witness_OtpBanksInForm : ∃ (s : State) (t : _), OtpInForm s.otp ∧ stepsTo s t :=
  ⟨State.reset, State.reset, reset_otp, rfl⟩

/-- Premises of O6 met together, clause by clause. -/
theorem witness_ReplyWritten :
    (∃ (d : Dev) (h : CmdHdr) (r : Nat) (opcode : Nat) (status : Nat), r < 32 ∧ h.src = .ring r ∧ d.cmdTask h.src h.tag opcode = none ∧ d.b (rDMA_CR_CFG r) fDMA_CR_CFG_EN = true ∧ ((h.noReply = false ∨ status ≠ 0))) ∧
    (∃ (d : Dev) (h : CmdHdr) (r : Nat) (opcode : Nat), h.src = .ring r ∧ d.cmdTask h.src h.tag opcode = none ∧ d.b (rDMA_CR_CFG r) fDMA_CR_CFG_EN = false) ∧
    (∃ (d : Dev) (h : CmdHdr) (r : Nat) (opcode : Nat), h.src = .ring r ∧ h.noReply = true ∧ d.cmdTask h.src h.tag opcode = none) :=
  ⟨⟨(({} : Dev).sf (rDMA_CR_CFG 31) fDMA_CR_CFG_EN 1), { testHdr with src := .ring 31 }, 31, 0, 0, by decide⟩,
   ⟨({} : Dev), testHdr, 0, 0, by decide⟩,
   ⟨({} : Dev), { testHdr with noReply := true }, 0, 0, by decide⟩⟩

/-- Premises of O7 met together. -/
theorem witness_SafeStateStops : ∃ (s : State), s.dev.b rFLT_STATUS fFLT_STATUS_SAFE = true :=
  ⟨testState (({} : Dev).sf rFLT_STATUS fFLT_STATUS_SAFE 1).testLive, by decide⟩

/-- Premises of O8 met together. -/
theorem witness_RegisterFieldTypes : ∃ (a : Nat) (r : RDesc), regAt a = some r :=
  ⟨rTCK_CTRL, (regAt rTCK_CTRL).get (by decide), by decide⟩

/-- Premises of O9 met together, clause by clause. -/
theorem witness_NarrowAccess :
    (∃ (s : State) (a : Nat) (w : Nat), s.dev.barOpen a = true ∧ (w ≠ 32 ∨ a % 4 ≠ 0)) ∧
    (∃ (s : State) (a : Nat), s.dev.barOpen a = false) ∧
    (∃ (s : State) (a : Nat) (w : Nat), w ≤ 16 ∧ w + 8 * (a % 4) ≤ 32 ∧ s.dev.barOpen a = true ∧ s.dev.barOpen (a / 4 * 4) = true) :=
  ⟨⟨testState (let d := (({} : Dev).sf rOTP_BOOT_STATUS fOTP_BOOT_STATUS_COMMAND_READY 1); ({ d with host := { d.host with linkUp := true } } : Dev)).testLive, rTCK_CTRL, 16, by decide⟩,
   ⟨testState ({} : Dev), 0, by decide⟩,
   ⟨testState (let d := (({} : Dev).sf rOTP_BOOT_STATUS fOTP_BOOT_STATUS_COMMAND_READY 1); ({ d with host := { d.host with linkUp := true } } : Dev)).testLive, rTCK_CTRL + 2, 16, by decide⟩⟩

/-- Premises of O10 met together, clause by clause. -/
theorem witness_OrdinaryRegisters :
    (∃ (s : State) (a : Nat) (k : _) (idx : _) (r : _), s.dev.barOpen a = true ∧ a % 4 = 0 ∧ s.dev.inReset (a / 0x100000) = false ∧ s.dev.portAbsent a = false ∧ regKey a = some (k, idx) ∧ regAt a = some r ∧ isHigh k = false ∧ isLow k = false ∧ (∀ i j w, s.dev.special1 k i j w = none) ∧ (∀ i j w, s.dev.special2 k i j w = none) ∧ fieldRules k = [] ∧ ((∀ i w, s.dev.writeHeld k i w = false ∧ s.dev.heldFields k i = [])) ∧ pageLows.contains k = false ∧ irqEnables.contains k = false ∧ k ≠ rDMA_IRQ_MAP 0 ∧ k ≠ rRCK_TRACE_CFG ∧ k ≠ rTCK_CTRL) ∧
    (∃ (s : State) (a : Nat) (k : _) (idx : _) (r : _), s.dev.barOpen a = true ∧ a % 4 = 0 ∧ s.dev.portAbsent a = false ∧ snapCopy a = false ∧ regKey a = some (k, idx) ∧ regAt a = some r ∧ isHigh k = false ∧ isLow k = false ∧ k ∉ [rTIM_NOW_SEC_LO, rTIM_CAPT_SEC_LO 0, rMEM_QLOG_DATA 0, rOTP_WIN_DATA, rRCK_ENTRY_DATA, rFLT_CHK_DESC, rTIM_UNC, rTCK_POS, rTCK_NUM_LO]) :=
  ⟨⟨testState (let d := (({} : Dev).sf rOTP_BOOT_STATUS fOTP_BOOT_STATUS_COMMAND_READY 1); ({ d with host := { d.host with linkUp := true } } : Dev)).testLive, rTCK_STEP_THRESH, rTCK_STEP_THRESH, [], (regAt rTCK_STEP_THRESH).get (by decide), by decide, by decide, by decide, by decide, by decide, by decide, by decide, by decide, fun _ _ _ => rfl, fun _ _ _ => rfl, by decide, fun _ _ => ⟨rfl, rfl⟩, by decide, by decide, by decide, by decide, by decide⟩,
   ⟨testState (let d := (({} : Dev).sf rOTP_BOOT_STATUS fOTP_BOOT_STATUS_COMMAND_READY 1); ({ d with host := { d.host with linkUp := true } } : Dev)).testLive, rTCK_STEP_THRESH, rTCK_STEP_THRESH, [], (regAt rTCK_STEP_THRESH).get (by decide), by decide⟩⟩

/-- Premises of O11 met together, clause by clause. -/
theorem witness_RegisterPairs :
    (∃ (s : State) (a : Nat) (k : _) (idx : _) (r : _), s.dev.barOpen a = true ∧ a % 4 = 0 ∧ s.dev.portAbsent a = false ∧ snapCopy a = false ∧ regKey a = some (k, idx) ∧ regAt a = some r ∧ isLow k = true ∧ isHigh k = false ∧ k ∉ [rTIM_CAPT_SEC_LO 0, rMEM_QLOG_DATA 0, rTIM_NOW_SEC_LO, rTCK_NUM_LO]) ∧
    (∃ (s : State) (n : _), n < 64 ∧ s.dev.barOpen (rDMA_CH_SRC_HI n) = true) ∧
    (∃ (s : State) (n : _) (hi : _) (v : _), n < 64 ∧ s.dev.barOpen (rDMA_CH_SRC_HI n) = true ∧ s.dev.inReset 13 = false ∧ exec (.registerWrite false (rDMA_CH_SRC_HI n) 32 hi) s = .next { s with dev := v }) ∧
    (∃ (s : State) (n : _), n < 64 ∧ s.dev.barOpen (rDMA_CH_SRC_LO n) = true ∧ s.dev.barOpen (rDMA_CH_SRC_HI n) = true ∧ s.dev.inReset 13 = false ∧ s.dev.chanState n ≠ 1) :=
  ⟨⟨testState (let d := (({} : Dev).sf rOTP_BOOT_STATUS fOTP_BOOT_STATUS_COMMAND_READY 1); ({ d with host := { d.host with linkUp := true } } : Dev)).testLive, rDMA_CH_SRC_LO 63, rDMA_CH_SRC_LO 0, [63], (regAt (rDMA_CH_SRC_LO 63)).get (by decide), by decide⟩,
   ⟨testState (let d := (({} : Dev).sf rOTP_BOOT_STATUS fOTP_BOOT_STATUS_COMMAND_READY 1); ({ d with host := { d.host with linkUp := true } } : Dev)).testLive, 63, by decide⟩,
   ⟨testState testReady, 63, 7, testReady.regWrite (rDMA_CH_SRC_HI 63) 7, by decide, by decide, by decide, rfl⟩,
   ⟨testState (let d := (({} : Dev).sf rOTP_BOOT_STATUS fOTP_BOOT_STATUS_COMMAND_READY 1); ({ d with host := { d.host with linkUp := true } } : Dev)).testLive, 63, by decide⟩⟩

/-- Premises of O12 met together, clause by clause. -/
theorem witness_ClockBoundaries :
    (∃ (s : State), s.dev.board.clock = true ∧ s.dev.trk.rodDue = false ∧ s.dev.trk.deckDue = false ∧ s.dev.trk.stepDue = none ∧ s.dev.trk.stepped = false ∧ s.dev.deferred = []) ∧
    (∃ (s : State), (s.dev.board.clock = false ∨ s.dev.trk.rodDue = true ∨ s.dev.trk.deckDue = true)) ∧
    (∃ (s : State), s.dev.trk.rodDue = true) ∧
    (∃ (s : State), s.dev.trk.rodDue = false) ∧
    (∃ (s : State), s.dev.trk.deckDue = true ∧ s.dev.trk.rodDue = false) ∧
    (∃ (s : State), (s.dev.trk.deckDue = false ∨ s.dev.trk.rodDue = true)) :=
  ⟨⟨testState (let d := ({} : Dev); ({ d with board := { d.board with clock := true } } : Dev)).testLive, by decide⟩,
   ⟨testState ({} : Dev), by decide⟩,
   ⟨testState (let d := ({} : Dev); ({ d with trk := { d.trk with rodDue := true } } : Dev)).testLive, by decide⟩,
   ⟨testState ({} : Dev), by decide⟩,
   ⟨testState (let d := ({} : Dev); ({ d with trk := { d.trk with deckDue := true } } : Dev)).testLive, by decide⟩,
   ⟨testState ({} : Dev), by decide⟩⟩

/-- Premises of O13 met together, clause by clause. -/
theorem witness_StepsSlewsPulses :
    (∃ (s : State) (o : _), s.dev.trk.stepDue = some o ∧ s.dev.board.clock = true ∧ s.dev.trk.rodDue = false ∧ s.dev.trk.deckDue = false ∧ s.dev.locked = false ∧ s.dev.lb rTCK_CTRL fTCK_CTRL_STEP_EN = true) ∧
    (∃ (s : State), (s.dev.trk.stepDue = none ∨ s.dev.locked = true)) ∧
    (∃ (s : State), s.dev.b rTCK_STATUS fTCK_STATUS_SLEWING = true) ∧
    (∃ (s : State), s.dev.b rFLT_STATUS fFLT_STATUS_SAFE = false ∧ s.dev.trk.tick % 100000000 = 0 ∧ s.dev.lb rTIM_PPS_OUT fTIM_PPS_OUT_EN = true ∧ ((s.dev.locked = true ∨ s.dev.lb rTIM_PPS_OUT fTIM_PPS_OUT_GATE = false))) ∧
    (∃ (s : State), s.dev.b rFLT_STATUS fFLT_STATUS_SAFE = false ∧ s.dev.tim.ppsHigh = true ∧ s.dev.tim.ppsRise + 100 * s.dev.lf rTIM_PPS_WIDTH fTIM_PPS_WIDTH_WIDTH_US ≤ s.dev.trk.tick) ∧
    (∃ (s : State) (p : _) (x : _), s.dev.port.ports = [(p, x)] ∧ s.dev.trk.tick % 32 = 0 ∧ s.dev.b rTCK_GRID fTCK_GRID_GRID_VALID = true ∧ s.dev.isUp p = true ∧ s.dev.anchored p = true ∧ (s.dev.portSt p).gridSet = false) ∧
    (∃ (s : State), s.dev.trk.tick % 32 ≠ 0) :=
  ⟨⟨testState (let d := (let d := ({} : Dev); ({ d with trk := { d.trk with stepDue := some 655360 } } : Dev)); ({ d with board := { d.board with clock := true } } : Dev)).testLive, 655360, by decide⟩,
   ⟨testState ({} : Dev), by decide⟩,
   ⟨testState (({} : Dev).sf rTCK_STATUS fTCK_STATUS_SLEWING 1).testLive, by decide⟩,
   ⟨testState ((({} : Dev).sf rTIM_PPS_OUT fTIM_PPS_OUT_EN 1).sf rTIM_PPS_OUT fTIM_PPS_OUT_GATE 0).testLive, by decide⟩,
   ⟨testState (let d := (let d := ({} : Dev); ({ d with tim := { d.tim with ppsHigh := true } } : Dev)); ({ d with trk := { d.trk with tick := 100000000 } } : Dev)).testLive, by decide⟩,
   ⟨testState (let d := (((({} : Dev).sf (rPRT_STATUS 0) fPRT_STATUS_STATE 5).sf rTCK_GRID fTCK_GRID_GRID_VALID 1).sf (rPRT_CFG 0) fPRT_CFG_GRID_EN 1); ({ d with port := { d.port with ports := [(0, { mode := 1 })] } } : Dev)).testLive, 0, { mode := 1 }, by decide⟩,
   ⟨testState (let d := ({} : Dev); ({ d with trk := { d.trk with tick := 31 } } : Dev)).testLive, by decide⟩⟩

/-- Premises of O14 met together, clause by clause. -/
theorem witness_LatePaths :
    (∃ (s : State) (col : Fin 16) (i : _), s.dev.path.injects.find? (fun x => decide (x.col = col.val)) = some i ∧ i.tick + s.dev.lf rTCK_INJECT_WAIT fTCK_INJECT_WAIT_WAIT ≤ s.dev.trk.tick) ∧
    (∃ (s : State) (col : Fin 16) (i : _), s.dev.path.injects.find? (fun x => decide (x.col = col.val)) = some i ∧ s.dev.trk.tick < i.tick + s.dev.lf rTCK_INJECT_WAIT fTCK_INJECT_WAIT_WAIT) ∧
    (∃ (s : State), Live s ∧ s.dev.trk.rodDue = true ∧ s.dev.nrg.due = true ∧ s.dev.nrg.next = none) ∧
    (∃ (s : State), (s.dev.trk.rodDue = false ∨ s.dev.nrg.due = false ∨ s.dev.nrg.next.isSome = true)) ∧
    (∃ (s : State) (c : _), Live s ∧ s.dev.jrn.closed.find? (fun c => c.sum.isNone && decide (c.deck + 1 < s.dev.deck) && decide (bits c.flags 3 3 = 0)) = some c) ∧
    (∃ (s : State) (die : Fin 2) (h : _) (c : _), (s.dev.rckD die).held.find? (fun h => h.cmd.any fun c => decide (c.deck ≠ 0) && decide (c.deck < s.dev.deck)) = some h ∧ h.cmd = some c) :=
  ⟨⟨testState (let d := (let d := ({} : Dev); ({ d with path := { d.path with injects := [({ col := 0, port := 0, state := none, bytes := [], task := none, tick := 0 } : Inject)] } } : Dev)); ({ d with trk := { d.trk with tick := 100000 } } : Dev)).testLive, 0, ({ col := 0, port := 0, state := none, bytes := [], task := none, tick := 0 } : Inject), by decide⟩,
   ⟨testState (let d := ({} : Dev); ({ d with path := { d.path with injects := [({ col := 0, port := 0, state := none, bytes := [], task := none, tick := 0 } : Inject)] } } : Dev)).testLive, 0, ({ col := 0, port := 0, state := none, bytes := [], task := none, tick := 0 } : Inject), by decide⟩,
   ⟨testState (let d := (let d := ({} : Dev); ({ d with trk := { d.trk with rodDue := true } } : Dev)); ({ d with nrg := { d.nrg with due := true } } : Dev)).testLive, by decide⟩,
   ⟨testState (let d := ({} : Dev); ({ d with nrg := { d.nrg with next := some {} } } : Dev)).testLive, by decide⟩,
   ⟨testState (let d := (let d := ({} : Dev); ({ d with jrn := { d.jrn with closed := [({ deck := 1, flags := 0, first0 := 0, first1 := 0, recs0 := [], recs1 := [] } : ClosedSet)] } } : Dev)); ({ d with trk := { d.trk with tick := 300000 } } : Dev)).testLive, ({ deck := 1, flags := 0, first0 := 0, first1 := 0, recs0 := [], recs1 := [] } : ClosedSet), by decide⟩,
   ⟨testState (let d := (let d := ({} : Dev); ({ d with rck := { d.rck with die0 := { held := [({ type := 0x101, ops := [], cmd := some { src := .ring 0, tag := 0, flags := 0, opcode := 0x101, batch := 0, deck := 1, params := [] } } : TaskReq)] } } } : Dev)); ({ d with trk := { d.trk with tick := 200000 } } : Dev)).testLive, 0, ({ type := 0x101, ops := [], cmd := some { src := .ring 0, tag := 0, flags := 0, opcode := 0x101, batch := 0, deck := 1, params := [] } } : TaskReq), { src := .ring 0, tag := 0, flags := 0, opcode := 0x101, batch := 0, deck := 1, params := [] }, by decide⟩⟩

/-- Premises of O15 met together, clause by clause. -/
theorem witness_LinksAndSupervisors :
    (∃ (s : State) (dir : Fin 6) (lane : Fin 1024), (s.dev.link dir).retired.contains (lane.val / 64) = false ∧ (s.dev.link dir).failed.contains lane.val = false ∧ (s.dev.link dir).redundant.contains (lane.val / 32) = false) ∧
    (∃ (s : State) (dir : Fin 6) (lane : Fin 1024), (s.dev.link dir).retired.contains (lane.val / 64) = false ∧ (s.dev.link dir).failed.contains lane.val = false ∧ (s.dev.link dir).redundant.contains (lane.val / 32) = true) ∧
    (∃ (s : State) (dir : Fin 6) (lane : Fin 1024), (s.dev.link dir).failed.contains lane.val = true) ∧
    (∃ (s : State) (dir : Fin 6), (s.dev.link dir).stopped = true) ∧
    (∃ (s : State) (dir : Fin 6), (s.dev.link dir).stopped = false) ∧
    (∃ (cls : _), 0xA < cls) ∧
    (∃ (cls : _), cls ≤ 0xA) ∧
    (∃ (s : State) (block : _) (mask : _), s.dev.resetRefused block mask = none) :=
  ⟨⟨testState ({} : Dev), 0, 0, by decide⟩,
   ⟨testState (({} : Dev).setLink 0 { redundant := [1] }).testLive, 0, 63, by decide⟩,
   ⟨testState (({} : Dev).setLink 0 { failed := [63] }).testLive, 0, 63, by decide⟩,
   ⟨testState (({} : Dev).setLink 0 { stopped := true }).testLive, 0, by decide⟩,
   ⟨testState ({} : Dev), 0, by decide⟩,
   ⟨0xB, by decide⟩,
   ⟨0, by decide⟩,
   ⟨testState ({} : Dev), 0, 1, by decide⟩⟩

/-- Premises of O16 met together, clause by clause. -/
theorem witness_FramesArriveAndLeave :
    (∃ (s : State) (p : Fin 512), Live s ∧ s.dev.isUp p = true ∧ s.dev.colStopped p = false ∧ s.dev.upStopped p = false) ∧
    (∃ (s : State) (p : Fin 512) (f : _), Live s ∧ s.dev.isUp p = true ∧ s.dev.rxOf p = some f ∧ (s.dev.fr f).last = false) ∧
    (∃ (s : State) (p : Fin 512), s.dev.isUp p = false) ∧
    (∃ (s : State) (p : Fin 512) (f : _), Live s ∧ s.dev.rxOf p = some f ∧ (s.dev.fr f).last = true) ∧
    (∃ (s : State) (p : Fin 512) (dt : Nat) (q : _) (pg : _) (d1 : _) (cls : _) (n : _) (c : _) (c1 : _) (ce : _), Live s ∧ s.dev.txOf p = none ∧ s.dev.colStopped p = false ∧ s.dev.running = true ∧ s.dev.servedBy p = some (q, pg) ∧ s.dev.earliest (s.dev.lvlOfPort q pg) = none ∧ s.dev.choose q p pg dt = (d1, .take cls n) ∧ d1.headOf q n = some c ∧ d1.isUp p = true ∧ d1.queueTripped q p n = false ∧ (((d1.popHead q n).pev (18 + dieOf q) 0x14).egress p c).2 = .send c1 ce) ∧
    (∃ (s : State) (p : Fin 512) (t : _), Live s ∧ s.dev.txOf p = some t ∧ (s.dev.fr t.copy.pkt.frame).ended = true) ∧
    (∃ (s : State) (p : Fin 512) (t : _) (l : _), Live s ∧ kvGet [] s.dev.path.gate p = t :: l ∧ s.dev.txOf p = none ∧ stampTime t.stamp < s.dev.nowT + 655360 ∧ s.dev.isUp p = true) ∧
    (∃ (s : State) (die : Fin 2) (x : _) (l : _), Live s ∧ (s.dev.buf die).repl = x :: l) ∧
    (∃ (s : State) (die : Fin 2) (n : Fin 4352), Live s ∧ n.val < 4096 ∧ ((s.dev.buf die).dueShapers s.dev.trk.tick).contains n.val = true) ∧
    (∃ (s : State) (die : Fin 2) (n : Fin 4352), Live s ∧ ((s.dev.buf die).dueShapers s.dev.trk.tick).contains n.val = false) :=
  ⟨⟨testState (({} : Dev).sf (rPRT_STATUS 0) fPRT_STATUS_STATE 5).testLive, 0, by decide⟩,
   ⟨testState (let d := (({} : Dev).sf (rPRT_STATUS 0) fPRT_STATUS_STATE 5); ({ d with path := { d.path with frames := [(0, some ({ port := 0, bytes := [], total := 64, ts := 0, unc := 0 } : Frame))], nextFrame := 1, rx := [(0, some 0)] } } : Dev)).testLive, 0, 0, by decide⟩,
   ⟨testState ({} : Dev), 0, by decide⟩,
   ⟨testState (let d := ({} : Dev); ({ d with path := { d.path with frames := [(0, some ({ port := 0, bytes := zeros 60, total := 64, last := true, ended := true, ts := 0, unc := 0 } : Frame))], nextFrame := 1, rx := [(0, some 0)] } } : Dev)).testLive, 0, 0, by decide⟩,
   ⟨testState (let d := ((({} : Dev).sf (rPRT_STATUS 0) fPRT_STATUS_STATE 5).sf rOTP_BOOT_STATUS fOTP_BOOT_STATUS_COMMAND_READY 1); ({ d with path := { d.path with frames := [(0, some ({ port := 0, bytes := zeros 60, total := 64, last := true, ended := true, ts := 0, unc := 0 } : Frame))], buf0 := { queues := [(0, { copies := [testCopy] })], chains := [(0, { refs := 1, parts := [], pri := 0 })] } } } : Dev)).testLive, 0, 0, 0, none, (((testState (let d := ((({} : Dev).sf (rPRT_STATUS 0) fPRT_STATUS_STATE 5).sf rOTP_BOOT_STATUS fOTP_BOOT_STATUS_COMMAND_READY 1); ({ d with path := { d.path with frames := [(0, some ({ port := 0, bytes := zeros 60, total := 64, last := true, ended := true, ts := 0, unc := 0 } : Frame))], buf0 := { queues := [(0, { copies := [testCopy] })], chains := [(0, { refs := 1, parts := [], pri := 0 })] } } } : Dev)).testLive)).dev.choose 0 0 none 0).1, 4, 0, testCopy, testCopy, false, by decide⟩,
   ⟨testState (let d := ({} : Dev); ({ d with path := { d.path with frames := [(0, some ({ port := 0, bytes := zeros 60, total := 64, last := true, ended := true, ts := 0, unc := 0 } : Frame))], tx := [(0, some testTx)] } } : Dev)).testLive, 0, testTx, by decide⟩,
   ⟨testState (let d := (({} : Dev).sf (rPRT_STATUS 0) fPRT_STATUS_STATE 5); ({ d with path := { d.path with gate := [(0, [testTx])] } } : Dev)).testLive, 0, testTx, [], by decide⟩,
   ⟨testState (let d := ({} : Dev); ({ d with path := { d.path with buf0 := { repl := [{ pkt := testPkt, est := 64 }] } } } : Dev)).testLive, 0, { pkt := testPkt, est := 64 }, [], by decide⟩,
   ⟨testState (let d := ({} : Dev); ({ d with path := { d.path with buf0 := { queues := [(0, { shaper := { wheel := some (0, true) } })], ring := [(0, (0, true))] } } } : Dev)).testLive, 0, 0, by decide⟩,
   ⟨testState ({} : Dev), 0, 0, by decide⟩⟩

/-- Premises of O17 met together, clause by clause. -/
theorem witness_FlowDataReturns :
    (∃ (s : State) (die : Fin 2) (n : Nat) (l : _), Live s ∧ (s.dev.flw die).lookups[n]? = some l ∧ l.tag = true ∧ l.fill = none ∧ (s.dev.hbmFind die l.fk).1 = none) ∧
    (∃ (s : State) (die : Fin 2) (n : Nat) (l : FLookup) (b : Nat) (sl : Nat) (y : FSlot) (e1 : Dev), Live s ∧ (s.dev.flw die).lookups[n]? = some l ∧ l.tag = true ∧ l.fill = none ∧ s.dev.hbmFind die l.fk = (some (b, sl, y), false) ∧ s.dev.cacheFill die l.fk (slotLine die b sl y) = some e1) ∧
    (∃ (s : State) (die : Fin 2) (n : Nat) (l : _), (s.dev.flw die).lookups[n]? = some l ∧ l.tag = false) ∧
    (∃ (s : State) (col : Fin 16) (x : _), Live s ∧ (s.dev.flw (col.val / 8)).parked.find? (fun x => decide (x.pkt.col = col.val) && decide (x.ready ≠ .waiting)) = some x) :=
  ⟨⟨testState (let d := ({} : Dev); ({ d with path := { d.path with flw0 := { lookups := [{ fk := testKey, tag := true, fill := none }] } } } : Dev)).testLive, 0, 0, { fk := testKey, tag := true, fill := none }, by decide⟩,
   ⟨testState (let d := ({} : Dev); ({ d with path := { d.path with flw0 := { lookups := [({ fk := (Dev.fkey {} 0 15 []), tag := true, fill := none } : FLookup)], buckets := [(0, { occ := 1, slots := [(6, some ({ fp := fingerprint (Dev.fkey {} 0 15 []), lastHit := 0, valid := true, pinned := false, moving := false, kind := 0, second := false, body := zeros 40 ++ [15] ++ zeros 23 } : FSlot))] })] } } } : Dev)).testLive, 0, 0, ({ fk := (Dev.fkey {} 0 15 []), tag := true, fill := none } : FLookup), 0, 6, ({ fp := fingerprint (Dev.fkey {} 0 15 []), lastHit := 0, valid := true, pinned := false, moving := false, kind := 0, second := false, body := zeros 40 ++ [15] ++ zeros 23 } : FSlot), ((((testState (let d := ({} : Dev); ({ d with path := { d.path with flw0 := { lookups := [({ fk := (Dev.fkey {} 0 15 []), tag := true, fill := none } : FLookup)], buckets := [(0, { occ := 1, slots := [(6, some ({ fp := fingerprint (Dev.fkey {} 0 15 []), lastHit := 0, valid := true, pinned := false, moving := false, kind := 0, second := false, body := zeros 40 ++ [15] ++ zeros 23 } : FSlot))] })] } } } : Dev)).testLive)).dev.cacheFill 0 (Dev.fkey {} 0 15 []) (slotLine 0 0 6 ({ fp := fingerprint (Dev.fkey {} 0 15 []), lastHit := 0, valid := true, pinned := false, moving := false, kind := 0, second := false, body := zeros 40 ++ [15] ++ zeros 23 } : FSlot))).get (by decide)), by decide⟩,
   ⟨testState (let d := ({} : Dev); ({ d with path := { d.path with flw0 := { lookups := [{ fk := testKey, tag := false, fill := none }] } } } : Dev)).testLive, 0, 0, { fk := testKey, tag := false, fill := none }, by decide⟩,
   ⟨testState (let d := ({} : Dev); ({ d with path := { d.path with flw0 := { parked := [({ pkt := testPkt, fk := testKey, tick := 0, ready := .noRecord } : Parked)] } } } : Dev)).testLive, 0, ({ pkt := testPkt, fk := testKey, tick := 0, ready := .noRecord } : Parked), by decide⟩⟩

/-- Premises of O18 met together, clause by clause. -/
theorem witness_ColumnsIssue :
    (∃ (s : State) (p : Fin 512) (c : _) (res : _) (part : _), Live s ∧ s.dev.slotsOf (s.dev.column p) < 16 ∧ s.dev.colStopped p = false ∧ s.dev.running = true ∧ s.dev.path.recirc.find? (fun k => decide (k.col = s.dev.column p)) = none ∧ (s.dev.par (dieOf p)).ctxs.find? (fun c => decide (c.port = p.val)) = some c ∧ c.res = some res ∧ ((s.dev.fr c.frame).last && !(s.dev.fr c.frame).ended) = false ∧ s.dev.taken p (s.dev.fr c.frame) = false ∧ (res.flowEn && s.dev.lb (rFLW_CTRL (dieOf p)) fFLW_CTRL_EN && s.dev.flowHold (dieOf p)) = false ∧ courseOf (((s.dev.par (dieOf p)).bank c.bank).profile res.profile) res = .stages part) ∧
    (∃ (s : State) (p : Fin 512) (k : _), Live s ∧ s.dev.slotsOf (s.dev.column p) < 16 ∧ s.dev.colStopped p = false ∧ s.dev.running = true ∧ s.dev.path.recirc.find? (fun k => decide (k.col = s.dev.column p)) = some k) ∧
    (∃ (s : State) (p : Fin 512), 16 ≤ s.dev.slotsOf (s.dev.column p)) ∧
    (∃ (s : State) (col : Fin 16) (i : _), Live s ∧ s.dev.slotsOf col < 16 ∧ s.dev.colRetired col = false ∧ s.dev.flt.stoppedCols.contains col.val = false ∧ s.dev.running = true ∧ s.dev.slotWanted col = false ∧ s.dev.path.injects.find? (fun i => decide (i.col = col.val)) = some i) ∧
    (∃ (s : State) (col : Fin 16) (x : _), Live s ∧ (s.dev.flw (col.val / 8)).parked.find? (fun x => decide (x.pkt.col = col.val) && decide (x.ready ≠ .waiting)) = some x) ∧
    (∃ (s : State) (col : Fin 16) (x : _), Live s ∧ (s.dev.flw (col.val / 8)).parked.find? (fun x => decide (x.pkt.col = col.val) && decide (x.ready = .waiting) && decide (x.tick + 48 ≤ s.dev.trk.tick)) = some x) :=
  ⟨⟨testState (let d := (({} : Dev).sf rOTP_BOOT_STATUS fOTP_BOOT_STATUS_COMMAND_READY 1); ({ d with path := { d.path with frames := [(0, some ({ port := 0, bytes := zeros 60, total := 64, last := true, ended := true, ts := 0, unc := 0 } : Frame))], rx := [(0, some 0)], par0 := { ctxs := [({ port := 0, frame := 0, bank := 0, res := some {} } : ParseCtx)] } } } : Dev)).testLive, 0, ({ port := 0, frame := 0, bank := 0, res := some {} } : ParseCtx), {}, false, by decide⟩,
   ⟨testState (let d := (({} : Dev).sf rOTP_BOOT_STATUS fOTP_BOOT_STATUS_COMMAND_READY 1); ({ d with path := { d.path with recirc := [testPkt] } } : Dev)).testLive, 0, testPkt, by decide⟩,
   ⟨testState (let d := ({} : Dev); ({ d with path := { d.path with slots := [(0, 16)] } } : Dev)).testLive, 0, by decide⟩,
   ⟨testState (let d := (({} : Dev).sf rOTP_BOOT_STATUS fOTP_BOOT_STATUS_COMMAND_READY 1); ({ d with path := { d.path with injects := [({ col := 0, port := 0, state := none, bytes := [], task := none, tick := 0 } : Inject)] } } : Dev)).testLive, 0, ({ col := 0, port := 0, state := none, bytes := [], task := none, tick := 0 } : Inject), by decide⟩,
   ⟨testState (let d := ({} : Dev); ({ d with path := { d.path with flw0 := { parked := [({ pkt := testPkt, fk := testKey, tick := 0, ready := .noRecord } : Parked)] } } } : Dev)).testLive, 0, ({ pkt := testPkt, fk := testKey, tick := 0, ready := .noRecord } : Parked), by decide⟩,
   ⟨testState (let d := (let d := ({} : Dev); ({ d with path := { d.path with flw0 := { parked := [({ pkt := testPkt, fk := testKey, tick := 0 } : Parked)] } } } : Dev)); ({ d with trk := { d.trk with tick := 48 } } : Dev)).testLive, 0, ({ pkt := testPkt, fk := testKey, tick := 0 } : Parked), by decide⟩⟩

/-- Premises of O19 met together, clause by clause. -/
theorem witness_PortConfiguration :
    (∃ (s : State) (p : Fin 512) (v : BitVec 32), s.dev.insidePort p = false ∧ bits v.toNat 30 27 ≠ 0 ∧ bits v.toNat 31 31 = 0 ∧ bits (s.dev.rn (rPRT_CFG p)) 31 31 = 0) ∧
    (∃ (s : State) (p : Fin 512) (v : BitVec 32), s.dev.insidePort p = false ∧ bits (s.dev.rn (rPRT_CFG p)) 31 31 = 0 ∧ s.dev.b rFLT_KMODE fFLT_KMODE_ACTIVE = false ∧ s.dev.enCheck p (prtCfgMerge (s.dev.rn (rPRT_CFG p)) (putBits v.toNat 31 31 1)) = true) ∧
    (∃ (s : State) (p : Fin 512) (v : BitVec 32), s.dev.insidePort p = false ∧ bits (s.dev.rn (rPRT_CFG p)) 31 31 = 0 ∧ s.dev.b rFLT_KMODE fFLT_KMODE_ACTIVE = false ∧ s.dev.enCheck p (prtCfgMerge (s.dev.rn (rPRT_CFG p)) (putBits v.toNat 31 31 1)) = false) ∧
    (∃ (s : State) (p : Fin 512), s.dev.insidePort p = false ∧ bits (s.dev.rn (rPRT_CFG p)) 31 31 = 1) ∧
    (∃ (s : State) (p : Fin 512), s.dev.insidePort p = false ∧ bits (s.dev.rn (rPRT_CFG p)) 31 31 = 0) ∧
    (∃ (s : State) (p : Fin 512), s.dev.insidePort p = true) :=
  ⟨⟨testState ({} : Dev), 0, BitVec.ofNat 32 (2 ^ 27), by decide⟩,
   ⟨testState (({} : Dev).sf (rPRT_CFG 0) fPRT_CFG_MODE 1).testLive, 0, BitVec.ofNat 32 (2 ^ 31 + 2 ^ 27), by decide⟩,
   ⟨testState ({} : Dev), 0, 0, by decide⟩,
   ⟨testState (({} : Dev).sf (rPRT_CFG 511) fPRT_CFG_EN 1).testLive, 511, by decide⟩,
   ⟨testState ({} : Dev), 0, by decide⟩,
   ⟨testState ((({} : Dev).sf (rPRT_CFG 0) fPRT_CFG_EN 1).sf (rPRT_CFG 0) fPRT_CFG_MODE 12).testLive, 1, by decide⟩⟩

/-- Premises of O20 met together, clause by clause. -/
theorem witness_PortStates :
    (∃ (s : State) (p : Fin 512), s.dev.pState p = 1 ∧ s.dev.cageOf p = none) ∧
    (∃ (s : State) (p : Fin 512) (partner : List Nat) (m : _), s.dev.pState p = 2 ∧ anResolve (s.dev.cfgMode p) partner = some m) ∧
    (∃ (s : State) (p : Fin 512) (partner : List Nat), s.dev.pState p = 2 ∧ anResolve (s.dev.cfgMode p) partner = none ∧ (s.dev.portSt p).noCommon = true) ∧
    (∃ (s : State) (p : Fin 512), s.dev.pState p = 3) ∧
    (∃ (s : State) (p : Fin 512), s.dev.pState p = 4) ∧
    (∃ (s : State) (p : Fin 512), (s.dev.pState p = 5 ∨ s.dev.pState p = 6)) ∧
    (∃ (s : State) (p : Fin 512), s.dev.pState p = 5) ∧
    (∃ (s : State) (p : Fin 512), s.dev.pState p = 6) ∧
    (∃ (s : State) (p : Fin 512), s.dev.pState p = 5 ∧ (s.dev.portSt p).layers = 1 ∧ (s.dev.portSt p).upTick + 10000 ≤ s.dev.trk.tick) ∧
    (∃ (s : State) (p : Fin 512), s.dev.pState p = 0) :=
  ⟨⟨testState (({} : Dev).sf (rPRT_STATUS 511) fPRT_STATUS_STATE 1).testLive, 511, by decide⟩,
   ⟨testState ((({} : Dev).sf (rPRT_STATUS 0) fPRT_STATUS_STATE 2).sf (rPRT_CFG 0) fPRT_CFG_MODE 1).testLive, 0, [1], 1, by decide⟩,
   ⟨testState (let d := ((({} : Dev).sf (rPRT_STATUS 0) fPRT_STATUS_STATE 2).sf (rPRT_CFG 0) fPRT_CFG_MODE 1); ({ d with port := { d.port with ports := [(0, { noCommon := true })] } } : Dev)).testLive, 0, [], by decide⟩,
   ⟨testState (({} : Dev).sf (rPRT_STATUS 511) fPRT_STATUS_STATE 3).testLive, 511, by decide⟩,
   ⟨testState (({} : Dev).sf (rPRT_STATUS 511) fPRT_STATUS_STATE 4).testLive, 511, by decide⟩,
   ⟨testState (({} : Dev).sf (rPRT_STATUS 511) fPRT_STATUS_STATE 5).testLive, 511, by decide⟩,
   ⟨testState (({} : Dev).sf (rPRT_STATUS 511) fPRT_STATUS_STATE 5).testLive, 511, by decide⟩,
   ⟨testState (({} : Dev).sf (rPRT_STATUS 511) fPRT_STATUS_STATE 6).testLive, 511, by decide⟩,
   ⟨testState (let d := (let d := (({} : Dev).sf (rPRT_STATUS 0) fPRT_STATUS_STATE 5); ({ d with port := { d.port with ports := [(0, { layers := 1 })] } } : Dev)); ({ d with trk := { d.trk with tick := 10000 } } : Dev)).testLive, 0, by decide⟩,
   ⟨testState ({} : Dev), 0, by decide⟩⟩

/-- Premises of O21 met together, clause by clause. -/
theorem witness_Modules :
    (∃ (s : State) (c : Fin 256) (l : CageLine), s.dev.b rPRT_SCAN fPRT_SCAN_EN = true ∧ (l.cage : Nat) = c ∧ (s.dev.listedIdx (rPRT_CAGE 0) 8 256).filter (fun k => s.dev.b (rPRT_CAGE k) fPRT_CAGE_VALID && decide (k < 64 * min 4 (s.dev.f rPRT_SCAN fPRT_SCAN_CHAINS))) = [c.val]) ∧
    (∃ (s : State), s.dev.b rPRT_SCAN fPRT_SCAN_EN = false) ∧
    (∃ (s : State) (c : Fin 256), s.dev.mstate c = 3) ∧
    (∃ (s : State) (c : Fin 256), s.dev.mstate c = 4) ∧
    (∃ (s : State) (c : Fin 256), s.dev.b (rPRT_CAGE_STATE c) fPRT_CAGE_STATE_PRESENT = true ∧ s.dev.b (rPRT_CAGE_STATE c) fPRT_CAGE_STATE_INT = true) ∧
    (∃ (s : State) (c : Fin 256), s.dev.b (rPRT_CAGE_STATE c) fPRT_CAGE_STATE_PRESENT = false) :=
  ⟨⟨testState (((({} : Dev).sf rPRT_SCAN fPRT_SCAN_EN 1).sf rPRT_SCAN fPRT_SCAN_CHAINS 4).sf (rPRT_CAGE 255) fPRT_CAGE_VALID 1).testLive, 255, { cage := 255, int := false, info := { supported := true, rev := 0x50, apps := [], copper := false } }, by decide⟩,
   ⟨testState (({} : Dev).sf rPRT_SCAN fPRT_SCAN_EN 0).testLive, by decide⟩,
   ⟨testState (({} : Dev).sf (rPRT_CAGE_STATE 255) fPRT_CAGE_STATE_MSTATE 3).testLive, 255, by decide⟩,
   ⟨testState (({} : Dev).sf (rPRT_CAGE_STATE 255) fPRT_CAGE_STATE_MSTATE 4).testLive, 255, by decide⟩,
   ⟨testState ((({} : Dev).sf (rPRT_CAGE_STATE 255) fPRT_CAGE_STATE_PRESENT 1).sf (rPRT_CAGE_STATE 255) fPRT_CAGE_STATE_INT 1).testLive, 255, by decide⟩,
   ⟨testState ({} : Dev), 0, by decide⟩⟩

/-- Premises of O22 met together, clause by clause. -/
theorem witness_FlowControl :
    (∃ (s : State) (p : Fin 512) (v : BitVec 32), s.dev.cfgMode p ≠ 0 ∧ s.dev.insidePort p = false ∧ ((bits v.toNat 31 16 = 0 ∨ bits v.toNat 15 0 < bits v.toNat 31 16))) ∧
    (∃ (s : State) (p : Fin 512) (v : BitVec 32), s.dev.cfgMode p ≠ 0 ∧ s.dev.insidePort p = false ∧ bits v.toNat 31 16 ≠ 0 ∧ bits v.toNat 31 16 ≤ bits v.toNat 15 0) ∧
    (∃ (s : State) (p : Fin 512) (q : Fin 8), s.dev.isUp p = true ∧ bits (s.dev.portSt p).xoffSent q q = 1) ∧
    (∃ (s : State) (p : Fin 512), s.dev.isUp p = false) ∧
    (∃ (s : State) (p : Fin 512) (n : _), s.dev.isUp p = true ∧ s.dev.lf (rPRT_CFG p) fPRT_CFG_FC_MODE = 1 ∧ n ≠ 0 ∧ s.dev.wdTripped p 0 = false ∧ (s.dev.portSt p).stops = []) ∧
    (∃ (s : State) (p : Fin 512) (q : Fin 8) (a : _) (b : _), (s.dev.portSt p).stops = [(q.val, a, b)] ∧ b ≤ s.dev.trk.tick) ∧
    (∃ (s : State) (p : Fin 512), (s.dev.portSt p).stops = []) ∧
    (∃ (s : State) (p : Fin 512) (q : Fin 8) (t : _), (s.dev.portSt p).stopSince.find? (fun o => o.1 = q.val) = some (q.val, t) ∧ s.dev.lf (rPRT_PFC_WD p) fPRT_PFC_WD_WD_MS ≠ 0 ∧ t + s.dev.lf (rPRT_PFC_WD p) fPRT_PFC_WD_WD_MS * 100000 ≤ s.dev.trk.tick ∧ s.dev.wdTripped p q = false) ∧
    (∃ (s : State) (p : Fin 512) (q : Fin 8), s.dev.wdTripped p q = true ∧ kvGet 0 (s.dev.portSt p).lastXoff q + max 1 (s.dev.lf (rPRT_PFC_WD p) fPRT_PFC_WD_RESTORE_MS * 100000) ≤ s.dev.trk.tick) ∧
    (∃ (s : State) (p : Fin 512) (q : Fin 8), s.dev.wdTripped p q = false) :=
  ⟨⟨testState (({} : Dev).sf (rPRT_CFG 511) fPRT_CFG_MODE 1).testLive, 511, 0x10000, by decide⟩,
   ⟨testState (({} : Dev).sf (rPRT_CFG 511) fPRT_CFG_MODE 1).testLive, 511, 0x10001, by decide⟩,
   ⟨testState (let d := (({} : Dev).sf (rPRT_STATUS 0) fPRT_STATUS_STATE 5); ({ d with port := { d.port with ports := [(0, { xoffSent := 128 })] } } : Dev)).testLive, 0, 7, by decide⟩,
   ⟨testState ({} : Dev), 0, by decide⟩,
   ⟨testState ((({} : Dev).sf (rPRT_STATUS 0) fPRT_STATUS_STATE 5).sf (rPRT_CFG 0) fPRT_CFG_FC_MODE 1).testLive, 0, 1, by decide⟩,
   ⟨testState (let d := (let d := ({} : Dev); ({ d with port := { d.port with ports := [(0, { stops := [(7, 0, 5)] })] } } : Dev)); ({ d with trk := { d.trk with tick := 5 } } : Dev)).testLive, 0, 7, 0, 5, by decide⟩,
   ⟨testState ({} : Dev), 0, by decide⟩,
   ⟨testState (let d := (let d := (({} : Dev).sf (rPRT_PFC_WD 0) fPRT_PFC_WD_WD_MS 1); ({ d with port := { d.port with ports := [(0, { stopSince := [(0, 0)] })] } } : Dev)); ({ d with trk := { d.trk with tick := 100000 } } : Dev)).testLive, 0, 0, 0, by decide⟩,
   ⟨testState (let d := ((({} : Dev).sf (rPRT_STATUS 0) fPRT_STATUS_PFC_WD_TRIP 1).sf (rPRT_PFC_WD 0) fPRT_PFC_WD_RESTORE_MS 1); ({ d with trk := { d.trk with tick := 100000000 } } : Dev)).testLive, 0, 0, by decide⟩,
   ⟨testState ({} : Dev), 0, 0, by decide⟩⟩

/-- Premises of O23 met together, clause by clause. -/
theorem witness_LanesShedAndWake :
    (∃ (s : State) (p : Fin 512) (tx : Nat) (rx : Nat), s.dev.shedOk p = true ∧ s.dev.lf (rPRT_SHED p) fPRT_SHED_WINDOW_RODS ≠ 0 ∧ tx < s.dev.lf (rPRT_SHED p) fPRT_SHED_SHED_PCT ∧ rx < s.dev.lf (rPRT_SHED p) fPRT_SHED_SHED_PCT ∧ (s.dev.portSt p).shedBlocked ≤ s.dev.rod ∧ (s.dev.portSt p).shedAsked = none ∧ (s.dev.portSt p).shedRod = none) ∧
    (∃ (s : State) (p : Fin 512), s.dev.shedOk p = false) ∧
    (∃ (s : State) (p : Fin 512) (r : _) (n : _), (s.dev.portSt p).shedRod = some r ∧ s.dev.rod = r ∧ s.dev.f (rPRT_STATUS p) fPRT_STATUS_ACTIVE_LANES_LOG2 = n + 1) ∧
    (∃ (s : State) (p : Fin 512) (tx : Nat), s.dev.isUp p = true ∧ s.dev.f (rPRT_STATUS p) fPRT_STATUS_ACTIVE_LANES_LOG2 < log2Lanes (modeLanes (s.dev.portSt p).mode) ∧ (s.dev.portSt p).wakeRod = none ∧ s.dev.lf (rPRT_SHED p) fPRT_SHED_WAKE_PCT < tx) ∧
    (∃ (s : State) (p : Fin 512) (r : _), (s.dev.portSt p).wakeRod = some r ∧ s.dev.rod = r) ∧
    (∃ (s : State) (p : Fin 512) (rod : Nat) (lanes : Nat) (tx : Nat) (rx : Nat), s.dev.shedOk p = true ∧ tx < s.dev.lf (rPRT_SHED p) fPRT_SHED_SHED_PCT ∧ rx < s.dev.lf (rPRT_SHED p) fPRT_SHED_SHED_PCT ∧ s.dev.rod < rod ∧ lanes * 2 = 2 ^ s.dev.f (rPRT_STATUS p) fPRT_STATUS_ACTIVE_LANES_LOG2 ∧ s.dev.domQ (dieOf p) = []) ∧
    (∃ (s : State) (p : Fin 512) (rod : Nat), (s.dev.portSt p).shedAsked = some rod) ∧
    (∃ (s : State) (p : Fin 512) (idle : Nat), s.dev.isUp p = true ∧ s.dev.lb (rPRT_CFG p) fPRT_CFG_EEE_EN = true ∧ (s.dev.portSt p).eee = true ∧ (s.dev.portSt p).mode ∈ [1, 2, 4] ∧ s.dev.levelMember p = false ∧ s.dev.pgOf p = none ∧ s.dev.railOfPort p = [] ∧ s.dev.anchored p = false ∧ s.dev.lf (rPRT_EEE p) fPRT_EEE_IDLE_TICKS ≠ 0 ∧ s.dev.lf (rPRT_EEE p) fPRT_EEE_IDLE_TICKS ≤ idle ∧ (s.dev.portSt p).sending = none) ∧
    (∃ (s : State) (p : Fin 512) (idle : Nat), idle < s.dev.lf (rPRT_EEE p) fPRT_EEE_IDLE_TICKS) :=
  ⟨⟨testState ((((((((({} : Dev).sf (rPRT_STATUS 0) fPRT_STATUS_STATE 5).sf (rPRT_CFG 0) fPRT_CFG_SHED_EN 1).sf (rPRT_PARTNER 0) fPRT_PARTNER_JEVAR 1).sf (rPRT_PARTNER 0) fPRT_PARTNER_SHED_CAP 1).sf rTIM_STATUS fTIM_STATUS_TIME_LOCKED 1).sf (rPRT_STATUS 0) fPRT_STATUS_ACTIVE_LANES_LOG2 3).sf (rPRT_SHED 0) fPRT_SHED_WINDOW_RODS 1).sf (rPRT_SHED 0) fPRT_SHED_SHED_PCT 1).testLive, 0, 0, 0, by decide⟩,
   ⟨testState ({} : Dev), 0, by decide⟩,
   ⟨testState (let d := (({} : Dev).sf (rPRT_STATUS 0) fPRT_STATUS_ACTIVE_LANES_LOG2 3); ({ d with port := { d.port with ports := [(0, { shedRod := some 0 })] } } : Dev)).testLive, 0, 0, 2, by decide⟩,
   ⟨testState (let d := (({} : Dev).sf (rPRT_STATUS 0) fPRT_STATUS_STATE 5); ({ d with port := { d.port with ports := [(0, { mode := 12 })] } } : Dev)).testLive, 0, 101, by decide⟩,
   ⟨testState (let d := ({} : Dev); ({ d with port := { d.port with ports := [(0, { wakeRod := some 0 })] } } : Dev)).testLive, 0, 0, by decide⟩,
   ⟨testState ((((((((({} : Dev).sf (rPRT_STATUS 0) fPRT_STATUS_STATE 5).sf (rPRT_CFG 0) fPRT_CFG_SHED_EN 1).sf (rPRT_PARTNER 0) fPRT_PARTNER_JEVAR 1).sf (rPRT_PARTNER 0) fPRT_PARTNER_SHED_CAP 1).sf rTIM_STATUS fTIM_STATUS_TIME_LOCKED 1).sf (rPRT_STATUS 0) fPRT_STATUS_ACTIVE_LANES_LOG2 3).sf (rPRT_SHED 0) fPRT_SHED_WINDOW_RODS 1).sf (rPRT_SHED 0) fPRT_SHED_SHED_PCT 1).testLive, 0, 1, 4, 0, 0, by decide⟩,
   ⟨testState (let d := ({} : Dev); ({ d with port := { d.port with ports := [(0, { shedAsked := some 2 })] } } : Dev)).testLive, 0, 2, by decide⟩,
   ⟨testState (let d := (((({} : Dev).sf (rPRT_STATUS 0) fPRT_STATUS_STATE 5).sf (rPRT_CFG 0) fPRT_CFG_EEE_EN 1).sf (rPRT_EEE 0) fPRT_EEE_IDLE_TICKS 1); ({ d with port := { d.port with ports := [(0, { mode := 1, eee := true })] } } : Dev)).testLive, 0, 1, by decide⟩,
   ⟨testState ({} : Dev), 0, 0, by decide⟩⟩

/-- Premises of O24 met together, clause by clause. -/
theorem witness_ProtectionAndCalibration :
    (∃ (s : State) (g : Fin 128) (v : BitVec 32), bits (s.dev.rn (rPRT_PG_CTRL g)) 31 31 = 0 ∧ s.dev.b (rPRT_PG_STATUS g) fPRT_PG_STATUS_CFG_ERR = false ∧ s.dev.pgCheck g (putBits (putBits v.toNat 31 31 1) 27 24 0) = true) ∧
    (∃ (s : State) (g : Fin 128) (v : BitVec 32), bits (s.dev.rn (rPRT_PG_CTRL g)) 31 31 = 0 ∧ s.dev.pgCheck g (putBits (putBits v.toNat 31 31 1) 27 24 0) = false) ∧
    (∃ (s : State) (g : Fin 128) (t : _) (m : _), (s.dev.pgSt g).switchAt = some t ∧ t ≤ s.dev.trk.tick ∧ (s.dev.pgMembers g).find? (fun m => s.dev.isUp m.2) = some m) ∧
    (∃ (s : State) (g : Fin 128), (s.dev.pgSt g).switchAt = none) ∧
    (∃ (s : State) (g : Fin 128) (m : _), s.dev.lb (rPRT_PG_CTRL g) fPRT_PG_CTRL_EN = true ∧ s.dev.lb (rPRT_PG_CTRL g) fPRT_PG_CTRL_REVERTIVE = true ∧ (s.dev.pgMembers g).find? (fun m => decide (m.1 < s.dev.f (rPRT_PG_STATUS g) fPRT_PG_STATUS_ACTIVE_IDX) && s.dev.isUp m.2 && decide ((s.dev.portSt m.2).upTick + s.dev.lf (rPRT_PG_CTRL g) fPRT_PG_CTRL_WTR_DECKS * 100000 ≤ s.dev.trk.tick)) = some m) ∧
    (∃ (s : State) (g : Fin 128), s.dev.lb (rPRT_PG_CTRL g) fPRT_PG_CTRL_REVERTIVE = false) ∧
    (∃ (s : State) (n : Fin 512) (temp : Nat), s.dev.calDue n temp = true ∧ (s.dev.nrgTake 9).2 = true) ∧
    (∃ (s : State) (n : Fin 512), n.val ∈ s.dev.port.calRunning) ∧
    (∃ (s : State) (n : Fin 512), n.val ∉ s.dev.port.calRunning) ∧
    (∃ (s : State) (n : Fin 512) (temp : Nat), (s.dev.calDue n temp = false ∨ (s.dev.nrgTake 9).2 = false)) :=
  ⟨⟨testState (((((({} : Dev).sf (rPRT_CFG 0) fPRT_CFG_MODE 1).sf (rPRT_CFG 1) fPRT_CFG_MODE 1).sf (rPRT_PG_MEMB01 0) fPRT_PG_MEMB01_V0 1).sf (rPRT_PG_MEMB01 0) fPRT_PG_MEMB01_V1 1).sf (rPRT_PG_MEMB01 0) fPRT_PG_MEMB01_PORT1 1).testLive, 0, 0, by decide⟩,
   ⟨testState ({} : Dev), 0, 0, by decide⟩,
   ⟨testState (let d := (let d := ((((((({} : Dev).sf (rPRT_CFG 0) fPRT_CFG_MODE 1).sf (rPRT_CFG 1) fPRT_CFG_MODE 1).sf (rPRT_PG_MEMB01 0) fPRT_PG_MEMB01_V0 1).sf (rPRT_PG_MEMB01 0) fPRT_PG_MEMB01_V1 1).sf (rPRT_PG_MEMB01 0) fPRT_PG_MEMB01_PORT1 1).sf (rPRT_STATUS 1) fPRT_STATUS_STATE 5); ({ d with port := { d.port with groups := [(0, { switchAt := some 7 })] } } : Dev)); ({ d with trk := { d.trk with tick := 7 } } : Dev)).testLive, 0, 7, (1, 1), by decide⟩,
   ⟨testState ({} : Dev), 0, by decide⟩,
   ⟨testState (let d := (((((((((({} : Dev).sf (rPRT_CFG 0) fPRT_CFG_MODE 1).sf (rPRT_CFG 1) fPRT_CFG_MODE 1).sf (rPRT_PG_MEMB01 0) fPRT_PG_MEMB01_V0 1).sf (rPRT_PG_MEMB01 0) fPRT_PG_MEMB01_V1 1).sf (rPRT_PG_MEMB01 0) fPRT_PG_MEMB01_PORT1 1).sf (rPRT_STATUS 0) fPRT_STATUS_STATE 5).sf (rPRT_PG_CTRL 0) fPRT_PG_CTRL_EN 1).sf (rPRT_PG_CTRL 0) fPRT_PG_CTRL_REVERTIVE 1).sf (rPRT_PG_STATUS 0) fPRT_PG_STATUS_ACTIVE_IDX 1); ({ d with trk := { d.trk with tick := 1000000000 } } : Dev)).testLive, 0, (0, 0), by decide⟩,
   ⟨testState ({} : Dev), 0, by decide⟩,
   ⟨testState ({} : Dev), 0, 0, by decide⟩,
   ⟨testState (let d := ({} : Dev); ({ d with port := { d.port with calRunning := [511] } } : Dev)).testLive, 511, by decide⟩,
   ⟨testState ({} : Dev), 0, by decide⟩,
   ⟨testState (let d := ({} : Dev); ({ d with port := { d.port with calTemp := [(0, 5)] } } : Dev)).testLive, 0, 4, by decide⟩⟩

/-- Premises of O25 met together, clause by clause. -/
theorem witness_RailGroups_1 :
    (∃ (s : State) (g : Fin 128) (v : BitVec 32), bits (s.dev.rn (rRAIL_GRP_CFG g)) 31 31 = 0 ∧ s.dev.railCheck g (railCfgMerge (s.dev.rn (rRAIL_GRP_CFG g)) (putBits v.toNat 31 31 1)) = true) ∧
    (∃ (s : State) (g : Fin 128) (v : BitVec 32), bits (s.dev.rn (rRAIL_GRP_CFG g)) 31 31 = 0 ∧ s.dev.railCheck g (railCfgMerge (s.dev.rn (rRAIL_GRP_CFG g)) (putBits v.toNat 31 31 1)) = false) ∧
    (∃ (s : State) (g : Fin 128), bits (s.dev.rn (rRAIL_GRP_CFG g)) 31 31 = 1) ∧
    (∃ (s : State) (n : Fin 512) (v : BitVec 32), bits v.toNat 31 31 = 1 ∧ s.dev.railDstOk (bits v.toNat 6 0) n = true ∧ s.dev.railDest n = false) ∧
    (∃ (s : State) (n : Fin 512) (v : BitVec 32), bits v.toNat 31 31 = 1 ∧ s.dev.railDstOk (bits v.toNat 6 0) n = false) ∧
    (∃ (s : State) (n : Fin 512), s.dev.railDest n = true ∧ (s.dev.railD n).starting = true ∧ (s.dev.railD n).retired = false ∧ s.dev.railState (s.dev.f (rRAIL_DST_CFG n) fRAIL_DST_CFG_GROUP) = 2) ∧
    (∃ (s : State) (n : Fin 512), (s.dev.railD n).starting = false) ∧
    (∃ (s : State) (g : Fin 128), s.dev.railReady g = true) ∧
    (∃ (s : State) (g : Fin 128), s.dev.railReady g = false) ∧
    (∃ (s : State) (g : Fin 128), s.dev.railState g = 2) :=
  ⟨⟨testState (((((({} : Dev).sf (rRAIL_DST_CFG 5) fRAIL_DST_CFG_VALID 1).sf (rPRT_CFG 0) fPRT_CFG_MODE 1).sf (rPRT_CFG 0) fPRT_CFG_EN 1).sf (rPRT_CFG 0) fPRT_CFG_AN_EN 0).sf (rPRT_CFG 0) fPRT_CFG_FEC 0).testLive, 0, 0, by decide⟩,
   ⟨testState ({} : Dev), 0, 0, by decide⟩,
   ⟨testState (({} : Dev).sf (rRAIL_GRP_CFG 0) fRAIL_GRP_CFG_EN 1).testLive, 0, by decide⟩,
   ⟨testState ({} : Dev), 0, BitVec.ofNat 32 (2 ^ 31), by decide⟩,
   ⟨testState ({} : Dev), 511, BitVec.ofNat 32 (2 ^ 31), by decide⟩,
   ⟨testState (let d := ((({} : Dev).sf (rRAIL_DST_CFG 5) fRAIL_DST_CFG_VALID 1).sf (rRAIL_GRP_STATUS 0) fRAIL_GRP_STATUS_STATE 2); ({ d with rail := { d.rail with dsts := [(5, { starting := true })] } } : Dev)).testLive, 5, by decide⟩,
   ⟨testState ({} : Dev), 0, by decide⟩,
   ⟨testState ((let d := (({} : Dev).sf (rRAIL_GRP_STATUS 127) fRAIL_GRP_STATUS_STATE 1); ({ d with port := { d.port with cdr := [0] } } : Dev)).setRailG 127 { calDone := [0] }).testLive, 127, by decide⟩,
   ⟨testState ({} : Dev), 0, by decide⟩,
   ⟨testState (({} : Dev).sf (rRAIL_GRP_STATUS 127) fRAIL_GRP_STATUS_STATE 2).testLive, 127, by decide⟩⟩

/-- Premises of O25 met together, clause by clause. -/
theorem witness_RailGroups_2 :
    (∃ (s : State) (g : Fin 128), s.dev.railState g = 3 ∧ s.dev.b (rRAIL_GRP_CFG g) fRAIL_GRP_CFG_ALT_EN = true ∧ s.dev.railOther g ∈ s.dev.port.cdr) ∧
    (∃ (s : State) (g : Fin 128), s.dev.railState g = 3 ∧ s.dev.b (rRAIL_GRP_CFG g) fRAIL_GRP_CFG_ALT_EN = false) ∧
    (∃ (s : State) (g : Fin 128), s.dev.railState g ≠ 3) ∧
    (∃ (s : State) (g : Fin 128), s.dev.b (rRAIL_GRP_STATUS g) fRAIL_GRP_STATUS_ON_ALT = true ∧ s.dev.railOther g ∈ s.dev.port.cdr) ∧
    (∃ (s : State) (g : Fin 128), s.dev.railOther g ∉ s.dev.port.cdr) ∧
    (∃ (s : State) (n : Fin 512), s.dev.railDest n = true ∧ (s.dev.railD n).retired = false) ∧
    (∃ (s : State) (n : Fin 512) (pos : _) (x : _), (s.dev.railD n).target = some (pos, x) ∧ pos < 4096) ∧
    (∃ (s : State) (n : Fin 512), (s.dev.railD n).target = none) :=
  ⟨⟨testState (let d := (((({} : Dev).sf (rRAIL_GRP_STATUS 0) fRAIL_GRP_STATUS_STATE 3).sf (rRAIL_GRP_CFG 0) fRAIL_GRP_CFG_ALT_EN 1).sf (rRAIL_GRP_CFG 0) fRAIL_GRP_CFG_ALT_SRC 9); ({ d with port := { d.port with cdr := [9] } } : Dev)).testLive, 0, by decide⟩,
   ⟨testState (({} : Dev).sf (rRAIL_GRP_STATUS 127) fRAIL_GRP_STATUS_STATE 3).testLive, 127, by decide⟩,
   ⟨testState ({} : Dev), 0, by decide⟩,
   ⟨testState (let d := ((({} : Dev).sf (rRAIL_GRP_STATUS 0) fRAIL_GRP_STATUS_ON_ALT 1).sf (rRAIL_GRP_CFG 0) fRAIL_GRP_CFG_SRC 9); ({ d with port := { d.port with cdr := [9] } } : Dev)).testLive, 0, by decide⟩,
   ⟨testState ({} : Dev), 0, by decide⟩,
   ⟨testState (({} : Dev).sf (rRAIL_DST_CFG 5) fRAIL_DST_CFG_VALID 1).testLive, 5, by decide⟩,
   ⟨testState (let d := ({} : Dev); ({ d with rail := { d.rail with dsts := [(5, { target := some (4095, 3) })] } } : Dev)).testLive, 5, 4095, 3, by decide⟩,
   ⟨testState ({} : Dev), 0, by decide⟩⟩

/-- Premises of O26 met together, clause by clause. -/
theorem witness_ParserAndTableEngine_1 :
    (∃ (s : State) (die : Fin 2) (v : BitVec 32), bits v.toNat 0 0 = 1 ∧ s.dev.b (rPAR_STATUS die) fPAR_STATUS_OLD_BANK_BUSY = false ∧ .parSwap die.val ∉ s.dev.deferred) ∧
    (∃ (s : State) (die : Fin 2) (v : BitVec 32), bits v.toNat 0 0 = 1 ∧ s.dev.b (rPAR_STATUS die) fPAR_STATUS_OLD_BANK_BUSY = true) ∧
    (∃ (v : BitVec 32), bits v.toNat 0 0 = 0) ∧
    (∃ (s : State) (die : Fin 2) (tn : Fin 128) (t : _) (j : _) (m : _) (x : _) (l : _), s.dev.tbl.mem.table die tn = some t ∧ s.dev.jobOf die tn = some j ∧ j.moves = m :: x :: l ∧ t.type = 1) ∧
    (∃ (s : State) (die : Fin 2) (tn : Fin 128) (t : _) (j : _) (m : _) (x : _) (l : _), s.dev.tbl.mem.table die tn = some t ∧ s.dev.jobOf die tn = some j ∧ j.moves = m :: x :: l ∧ t.type = 4) ∧
    (∃ (s : State) (die : Fin 2) (tn : Fin 128) (t : _) (j : _) (m : _), s.dev.tbl.mem.table die tn = some t ∧ s.dev.jobOf die tn = some j ∧ j.moves = [m] ∧ t.type = 1) ∧
    (∃ (s : State) (die : Fin 2) (tn : Fin 128), s.dev.jobOf die tn = none) ∧
    (∃ (s : State) (die : Fin 2) (tn : Fin 128) (t : _) (h : _), (die.val, tn.val) ∈ s.dev.tbl.respace ∧ s.dev.lb (rTBL_CTRL die) fTBL_CTRL_RESPACE_EN = true ∧ kvGet none s.dev.nrg.units 10 = none ∧ s.dev.tbl.mem.table die tn = some t ∧ t.holes = some h) ∧
    (∃ (s : State) (die : Fin 2) (tcam : Bool), s.dev.scrubOn die tcam = true ∧ kvGet none s.dev.nrg.units 7 = none) ∧
    (∃ (s : State) (die : Fin 2) (tcam : _) (no : Nat) (t : _), s.dev.scrubOn die tcam = true ∧ kvGet none s.dev.nrg.units 7 = none ∧ s.dev.tbl.mem.table die no = some t) :=
  ⟨⟨testState ({} : Dev), 0, 1, by decide⟩,
   ⟨testState (({} : Dev).sf (rPAR_STATUS 0) fPAR_STATUS_OLD_BANK_BUSY 1).testLive, 0, 1, by decide⟩,
   ⟨0, by decide⟩,
   ⟨testState (let d := ({} : Dev); ({ d with tbl := { d.tbl with jobs := [({ die := 0, table := 0, moves := [(3, 4), (4, 5)], entry := ({ place := 3, key := [], result := [] } : TblEntry) } : InsJob)], mem := { tables := [(0, some ({ desc := [1, 0, 1, 0, 0, 0], entries := [({ place := 3, key := [], result := [] } : TblEntry)] } : Table))] } } } : Dev)).testLive, 0, 0, ({ desc := [1, 0, 1, 0, 0, 0], entries := [({ place := 3, key := [], result := [] } : TblEntry)] } : Table), ({ die := 0, table := 0, moves := [(3, 4), (4, 5)], entry := ({ place := 3, key := [], result := [] } : TblEntry) } : InsJob), (3, 4), (4, 5), [], by decide⟩,
   ⟨testState (let d := ({} : Dev); ({ d with tbl := { d.tbl with jobs := [({ die := 0, table := 0, moves := [(3, 4), (4, 5)], entry := ({ place := 3, key := [], result := [] } : TblEntry) } : InsJob)], mem := { tables := [(0, some ({ desc := [4, 0x40, 2, 0, 1] ++ zeros 27, entries := [({ place := 3, key := [], result := [] } : TblEntry)] } : Table))] } } } : Dev)).testLive, 0, 0, ({ desc := [4, 0x40, 2, 0, 1] ++ zeros 27, entries := [({ place := 3, key := [], result := [] } : TblEntry)] } : Table), ({ die := 0, table := 0, moves := [(3, 4), (4, 5)], entry := ({ place := 3, key := [], result := [] } : TblEntry) } : InsJob), (3, 4), (4, 5), [], by decide⟩,
   ⟨testState (let d := ({} : Dev); ({ d with tbl := { d.tbl with jobs := [({ die := 0, table := 0, moves := [(3, 4)], entry := ({ place := 3, key := [], result := [] } : TblEntry) } : InsJob)], mem := { tables := [(0, some ({ desc := [1, 0, 1, 0, 0, 0], entries := [({ place := 3, key := [], result := [] } : TblEntry)] } : Table))] } } } : Dev)).testLive, 0, 0, ({ desc := [1, 0, 1, 0, 0, 0], entries := [({ place := 3, key := [], result := [] } : TblEntry)] } : Table), ({ die := 0, table := 0, moves := [(3, 4)], entry := ({ place := 3, key := [], result := [] } : TblEntry) } : InsJob), (3, 4), by decide⟩,
   ⟨testState ({} : Dev), 0, 0, by decide⟩,
   ⟨testState (let d := (({} : Dev).sf (rTBL_CTRL 0) fTBL_CTRL_RESPACE_EN 1); ({ d with tbl := { d.tbl with respace := [(0, 0)], mem := { tables := [(0, some ({ desc := [1, 0, 1, 0, 0, 0], entries := [({ place := 3, key := [], result := [] } : TblEntry)] } : Table))] } } } : Dev)).testLive, 0, 0, ({ desc := [1, 0, 1, 0, 0, 0], entries := [({ place := 3, key := [], result := [] } : TblEntry)] } : Table), 1, by decide⟩,
   ⟨testState ({} : Dev), 0, false, by decide⟩,
   ⟨testState (let d := ((({} : Dev).sf (rTBL_CTRL 0) fTBL_CTRL_SCRUB_EN 1).sf (rTBL_SCRUB 0) fTBL_SCRUB_TCAM_DECKS 1); ({ d with tbl := { d.tbl with mem := { tables := [(0, some ({ desc := [0, 0, 1], entries := [({ place := 3, key := [], result := [] } : TblEntry)] } : Table))] } } } : Dev)).testLive, 0, true, 0, ({ desc := [0, 0, 1], entries := [({ place := 3, key := [], result := [] } : TblEntry)] } : Table), by decide⟩⟩

/-- Premises of O26 met together, clause by clause. -/
theorem witness_ParserAndTableEngine_2 :
    (∃ (s : State) (die : Fin 2) (tcam : Bool), s.dev.scrubOn die tcam = false) ∧
    (∃ (s : State), s.dev.prevHeld = true ∧ s.dev.tbl.commitTick + 8 ≤ s.dev.trk.tick ∧ s.dev.verInIngress (s.dev.verPrev 0) = false ∧ s.dev.batches = []) ∧
    (∃ (s : State), s.dev.prevHeld = false) :=
  ⟨⟨testState (({} : Dev).sf (rTBL_CTRL 0) fTBL_CTRL_SCRUB_EN 0).testLive, 0, true, by decide⟩,
   ⟨testState (let d := (({} : Dev).sf (rTBL_STATUS 0) fTBL_STATUS_PREV_HELD 1); ({ d with trk := { d.trk with tick := 8 } } : Dev)).testLive, by decide⟩,
   ⟨testState ({} : Dev), by decide⟩⟩

/-- Premises of O27 met together, clause by clause. -/
theorem witness_TransitionsByIndex :
    (∃ (b : ParBank) (sel : Nat) (base : Nat) (count : Nat) (i : Nat), base ≤ i ∧ i < base + count ∧ ebit (b.transition i) 9 7 = true ∧ Nat.land sel (beAt (b.transition i) 4 4) = beAt (b.transition i) 0 4 ∧ ((∀ j, base ≤ j → j < i → ¬ (ebit (b.transition j) 9 7 = true ∧ Nat.land sel (beAt (b.transition j) 4 4) = beAt (b.transition j) 0 4)))) ∧
    (∃ (b : ParBank) (e : List Byte) (data : List Byte) (h : Nat) (i : Nat), ebit e 0 5 = false ∧ eb e 17 ≠ 0 ∧ beAt e 26 2 ≤ i ∧ i < beAt e 26 2 + beAt e 28 2 ∧ ebit (b.transition i) 9 7 = true ∧ Nat.land (Nat.land (beAt data (h + eb e 16) (eb e 17)) (beAt e 20 4)) (beAt (b.transition i) 4 4) = beAt (b.transition i) 0 4 ∧ ((∀ j, beAt e 26 2 ≤ j → j < i → ¬ (ebit (b.transition j) 9 7 = true ∧ Nat.land (Nat.land (beAt data (h + eb e 16) (eb e 17)) (beAt e 20 4)) (beAt (b.transition j) 4 4) = beAt (b.transition j) 0 4)))) :=
  ⟨⟨({ trans := [(5, zeros 9 ++ [128] ++ zeros 6)] } : ParBank), 0, 5, 1, 5, by decide, by decide, by decide, by decide, fun j h1 h2 => by omega⟩,
   ⟨({ trans := [(5, zeros 9 ++ [128] ++ zeros 6)] } : ParBank), zeros 17 ++ [1] ++ zeros 8 ++ [0, 5, 0, 1], [], 0, 5, by decide, by decide, by decide, by decide, by decide, by decide, fun j h1 h2 => by have e : beAt (zeros 17 ++ [1] ++ zeros 8 ++ [0, 5, 0, 1]) 26 2 = 5 := (by decide); rw [e] at h1; omega⟩⟩

/-- Premises of O28 met together, clause by clause. -/
theorem witness_FlowEngineWork_1 :
    (∃ (s : State), Live s) ∧
    (∃ (s : State) (die : Fin 2) (n : Nat) (x : _), Live s ∧ (s.dev.flw die).kills[n]? = some x ∧ (∀ l ∈ (s.dev.flw die).lookups, l.fk.key ≠ x.key) ∧ x.stored + 50 ≤ s.dev.trk.tick) ∧
    (∃ (s : State) (die : Fin 2) (n : Nat) (x : _), (s.dev.flw die).kills[n]? = some x ∧ s.dev.trk.tick < x.stored + 50) ∧
    (∃ (s : State) (die : Fin 2) (loc : BitVec 32) (y : _) (body : _) (hit : _) (l : _), Live s ∧ ((s.dev.flw die).bucket (locBucket loc.toNat)).slot (locSlot loc.toNat) = some y ∧ s.dev.recSeen die (s.dev.recFk die y.body) = some (body, hit, l) ∧ (s.dev.flw die).exports.length < 65536 ∧ s.dev.lf (rFLW_IPFIX_CFG die) fFLW_IPFIX_CFG_ACTIVE_DECKS ≠ 0 ∧ (s.dev.deck + 2 ^ 32 - beAt body 60 4) % 2 ^ 32 ≠ 0 ∧ (s.dev.deck + 2 ^ 32 - beAt body 60 4) % 2 ^ 32 % s.dev.lf (rFLW_IPFIX_CFG die) fFLW_IPFIX_CFG_ACTIVE_DECKS = 0 ∧ s.dev.exported die body = true) ∧
    (∃ (s : State) (die : Fin 2) (p : _), Live s ∧ s.dev.lb (rFLW_CTRL die) fFLW_CTRL_EXPORT_EN = true ∧ s.dev.deck % 1000 = 0 ∧ (List.range 16).filter (fun p => s.dev.lb (rFLW_PROF_B die p) fFLW_PROF_B_EXPORT || decide (s.dev.lf (rFLW_PROF_A die p) fFLW_PROF_A_KIND = 3)) = [p]) ∧
    (∃ (s : State), s.dev.deck % 1000 ≠ 0) ∧
    (∃ (s : State) (die : Fin 2), Live s ∧ (s.dev.flw die).exports ≠ [] ∧ kvGet none s.dev.nrg.units 3 = none) ∧
    (∃ (s : State) (die : Fin 2) (x : _) (y : _), Live s ∧ (s.dev.flw die).learns.find? (fun e => !e.started) = some x ∧ (s.dev.flw die).ops.length < 4096 ∧ s.dev.opOn die x.fk = none ∧ (s.dev.hbmFind die (s.dev.fkey die x.fk.profile x.fk.key)).1 = some y) ∧
    (∃ (s : State) (die : Fin 2) (n : Nat) (o : _) (b : _) (sl : _) (second : _), Live s ∧ (s.dev.flw die).ops[n]? = some o ∧ o.moves = [] ∧ o.dest = some (b, sl, second)) ∧
    (∃ (s : State) (die : Fin 2) (n : Nat) (x : _) (r : _), Live s ∧ (s.dev.flw die).learns[n]? = some x ∧ x.hold = some r ∧ r ≤ s.dev.rod) :=
  ⟨⟨testState ({} : Dev), by decide⟩,
   ⟨testState (let d := (let d := ({} : Dev); ({ d with path := { d.path with flw0 := { kills := [({ profile := 0, h1 := 0, h2 := 0, key := [], stored := 0, set := false } : KillEnt)] } } } : Dev)); ({ d with trk := { d.trk with tick := 50 } } : Dev)).testLive, 0, 0, ({ profile := 0, h1 := 0, h2 := 0, key := [], stored := 0, set := false } : KillEnt), by decide⟩,
   ⟨testState (let d := (let d := ({} : Dev); ({ d with path := { d.path with flw0 := { kills := [({ profile := 0, h1 := 0, h2 := 0, key := [], stored := 0, set := false } : KillEnt)] } } } : Dev)); ({ d with trk := { d.trk with tick := 49 } } : Dev)).testLive, 0, 0, ({ profile := 0, h1 := 0, h2 := 0, key := [], stored := 0, set := false } : KillEnt), by decide⟩,
   ⟨testState (let d := (let d := (((({} : Dev).sf (rFLW_CTRL 0) fFLW_CTRL_EXPORT_EN 1).sf (rFLW_PROF_B 0 15) fFLW_PROF_B_EXPORT 1).sf (rFLW_IPFIX_CFG 0) fFLW_IPFIX_CFG_ACTIVE_DECKS 1); ({ d with trk := { d.trk with tick := 100000 } } : Dev)); ({ d with path := { d.path with flw0 := { buckets := [(0, { occ := 1, slots := [(6, some ({ fp := fingerprint (Dev.fkey {} 0 15 []), lastHit := 0, valid := true, pinned := false, moving := false, kind := 0, second := false, body := zeros 40 ++ [15] ++ zeros 23 } : FSlot))] })] } } } : Dev)).testLive, 0, 6, ({ fp := fingerprint (Dev.fkey {} 0 15 []), lastHit := 0, valid := true, pinned := false, moving := false, kind := 0, second := false, body := zeros 40 ++ [15] ++ zeros 23 } : FSlot), zeros 40 ++ [15] ++ zeros 23, 0, ((((testState (let d := (let d := (((({} : Dev).sf (rFLW_CTRL 0) fFLW_CTRL_EXPORT_EN 1).sf (rFLW_PROF_B 0 15) fFLW_PROF_B_EXPORT 1).sf (rFLW_IPFIX_CFG 0) fFLW_IPFIX_CFG_ACTIVE_DECKS 1); ({ d with trk := { d.trk with tick := 100000 } } : Dev)); ({ d with path := { d.path with flw0 := { buckets := [(0, { occ := 1, slots := [(6, some ({ fp := fingerprint (Dev.fkey {} 0 15 []), lastHit := 0, valid := true, pinned := false, moving := false, kind := 0, second := false, body := zeros 40 ++ [15] ++ zeros 23 } : FSlot))] })] } } } : Dev)).testLive)).dev.recSeen 0 (Dev.fkey {} 0 15 [])).get (by decide)).2.2, by decide⟩,
   ⟨testState ((({} : Dev).sf (rFLW_CTRL 0) fFLW_CTRL_EXPORT_EN 1).sf (rFLW_PROF_B 0 15) fFLW_PROF_B_EXPORT 1).testLive, 0, 15, by decide⟩,
   ⟨testState (let d := ({} : Dev); ({ d with trk := { d.trk with tick := 100000 } } : Dev)).testLive, by decide⟩,
   ⟨testState (let d := ({} : Dev); ({ d with path := { d.path with flw0 := { exports := [({ profile := 0, body := zeros 128, lastHit := 0 } : ExportRec)] } } } : Dev)).testLive, 0, by decide⟩,
   ⟨testState (let d := ({} : Dev); ({ d with path := { d.path with flw0 := { learns := [({ fk := (Dev.fkey {} 0 15 []), pkt := testPkt, len := 64, tick := 0 } : LearnEnt)], buckets := [(0, { occ := 1, slots := [(6, some ({ fp := fingerprint (Dev.fkey {} 0 15 []), lastHit := 0, valid := true, pinned := false, moving := false, kind := 0, second := false, body := zeros 40 ++ [15] ++ zeros 23 } : FSlot))] })] } } } : Dev)).testLive, 0, ({ fk := (Dev.fkey {} 0 15 []), pkt := testPkt, len := 64, tick := 0 } : LearnEnt), (0, 6, ({ fp := fingerprint (Dev.fkey {} 0 15 []), lastHit := 0, valid := true, pinned := false, moving := false, kind := 0, second := false, body := zeros 40 ++ [15] ++ zeros 23 } : FSlot)), by decide⟩,
   ⟨testState (let d := ({} : Dev); ({ d with path := { d.path with flw0 := { ops := [({ fk := testKey, body := zeros 104, lastHit := 0, learned := false, dest := some (1, 2, false) } : EngOp)] } } } : Dev)).testLive, 0, 0, ({ fk := testKey, body := zeros 104, lastHit := 0, learned := false, dest := some (1, 2, false) } : EngOp), 1, 2, false, by decide⟩,
   ⟨testState (let d := ({} : Dev); ({ d with path := { d.path with flw0 := { learns := [({ fk := testKey, pkt := testPkt, len := 64, tick := 0, hold := some 0 } : LearnEnt)] } } } : Dev)).testLive, 0, 0, ({ fk := testKey, pkt := testPkt, len := 64, tick := 0, hold := some 0 } : LearnEnt), 0, by decide⟩⟩

/-- Premises of O28 met together, clause by clause. -/
theorem witness_FlowEngineWork_2 :
    (∃ (s : State) (die : Fin 2), Live s ∧ s.dev.lb (rFLW_AGE_CFG die) fFLW_AGE_CFG_EN = true ∧ s.dev.buckets die ≠ 0 ∧ s.dev.b (rFLW_STATUS die) fFLW_STATUS_READY = true ∧ kvGet none s.dev.nrg.units 5 = none) ∧
    (∃ (s : State) (die : Fin 2), s.dev.lb (rFLW_AGE_CFG die) fFLW_AGE_CFG_EN = false) ∧
    (∃ (s : State) (die : Fin 2) (loc : _) (hit : _) (l : _), Live s ∧ (s.dev.flw die).cads = (loc, hit) :: l) :=
  ⟨⟨testState (((({} : Dev).sf (rFLW_AGE_CFG 0) fFLW_AGE_CFG_EN 1).sf (rFLW_REGION 0) fFLW_REGION_UNITS 1).sf (rFLW_STATUS 0) fFLW_STATUS_READY 1).testLive, 0, by decide⟩,
   ⟨testState ({} : Dev), 0, by decide⟩,
   ⟨testState (let d := ({} : Dev); ({ d with path := { d.path with flw0 := { cads := [(0, 0)] } } } : Dev)).testLive, 0, 0, 0, [], by decide⟩⟩

/-- Premises of O29 met together, clause by clause. -/
theorem witness_FlowMovesAndRehash :
    (∃ (s : State) (die : Fin 2) (n : Nat) (o : _) (m : _) (l : _) (d1 : _), Live s ∧ (s.dev.flw die).ops[n]? = some o ∧ o.moving = none ∧ o.moves = m :: l ∧ s.dev.moveCopy die m = some d1) ∧
    (∃ (s : State) (die : Fin 2) (n : Nat) (o : _) (t : _) (m : _) (l : _) (y : _), Live s ∧ (s.dev.flw die).ops[n]? = some o ∧ o.moving = some t ∧ o.moves = m :: l ∧ o.moveOnly = false ∧ ((s.dev.flw die).bucket m.2.2.1).slot m.2.2.2 = some y ∧ (m.1, m.2.1) ≠ (m.2.2.1, m.2.2.2)) ∧
    (∃ (s : State) (die : Fin 2) (n : Nat), (s.dev.flw die).ops[n]? = none) ∧
    (∃ (s : State) (die : Fin 2) (j : _), Live s ∧ (s.dev.flw die).retire = some j ∧ j.row + 1 < j.rows) ∧
    (∃ (s : State) (die : Fin 2) (j : _), Live s ∧ (s.dev.flw die).retire = some j ∧ j.rows ≤ j.row + 1) ∧
    (∃ (s : State) (die : Fin 2), (s.dev.flw die).retire = none) ∧
    (∃ (s : State) (die : Fin 2), Live s ∧ (s.dev.flw die).rehashOn = true ∧ s.dev.flwDual die = true ∧ s.dev.lf (rFLW_REHASH_CFG die) fFLW_REHASH_CFG_RATE ≠ 0 ∧ s.dev.f (rFLW_REHASH_PTR die) fFLW_REHASH_PTR_BUCKET + 1 < s.dev.buckets die) ∧
    (∃ (s : State) (die : Fin 2), (s.dev.flw die).rehashOn = false) ∧
    (∃ (s : State) (die : Fin 2) (n : _), (s.dev.flw die).flushSet = some n ∧ n + 1 < 16384 ∧ (s.dev.flw die).wbs.length + ((s.dev.flw die).set n).countP (fun l => s.dev.needsWb die l) ≤ 12288) ∧
    (∃ (s : State) (die : Fin 2), (s.dev.flw die).flushSet = none) :=
  ⟨⟨testState (let d := ({} : Dev); ({ d with path := { d.path with flw0 := { ops := [({ fk := testKey, body := zeros 104, lastHit := 0, learned := false, moves := [(1, 2, 3, 4)] } : EngOp)], buckets := [(1, ({ slots := [(2, some ({ fp := 0, lastHit := 0, valid := true, pinned := false, moving := false, kind := 0, second := false, body := zeros 104 } : FSlot))] } : Bucket))] } } } : Dev)).testLive, 0, 0, ({ fk := testKey, body := zeros 104, lastHit := 0, learned := false, moves := [(1, 2, 3, 4)] } : EngOp), (1, 2, 3, 4), [], ((((testState (let d := ({} : Dev); ({ d with path := { d.path with flw0 := { ops := [({ fk := testKey, body := zeros 104, lastHit := 0, learned := false, moves := [(1, 2, 3, 4)] } : EngOp)], buckets := [(1, ({ slots := [(2, some ({ fp := 0, lastHit := 0, valid := true, pinned := false, moving := false, kind := 0, second := false, body := zeros 104 } : FSlot))] } : Bucket))] } } } : Dev)).testLive)).dev.moveCopy 0 (1, 2, 3, 4)).get (by decide)), by decide⟩,
   ⟨testState (let d := ({} : Dev); ({ d with path := { d.path with flw0 := { ops := [({ fk := testKey, body := zeros 104, lastHit := 0, learned := false, moves := [(3, 4, 1, 2)], moving := some 0 } : EngOp)], buckets := [(1, ({ slots := [(2, some ({ fp := 0, lastHit := 0, valid := true, pinned := false, moving := false, kind := 0, second := false, body := zeros 104 } : FSlot))] } : Bucket))] } } } : Dev)).testLive, 0, 0, ({ fk := testKey, body := zeros 104, lastHit := 0, learned := false, moves := [(3, 4, 1, 2)], moving := some 0 } : EngOp), 0, (3, 4, 1, 2), [], ({ fp := 0, lastHit := 0, valid := true, pinned := false, moving := false, kind := 0, second := false, body := zeros 104 } : FSlot), by decide⟩,
   ⟨testState ({} : Dev), 0, 0, by decide⟩,
   ⟨testState (let d := ({} : Dev); ({ d with path := { d.path with flw0 := { retire := some ({ pc := 0, row := 0, rows := 2 } : RetireJob) } } } : Dev)).testLive, 0, ({ pc := 0, row := 0, rows := 2 } : RetireJob), by decide⟩,
   ⟨testState (let d := ({} : Dev); ({ d with path := { d.path with flw0 := { retire := some ({ pc := 0, row := 0, rows := 1 } : RetireJob) } } } : Dev)).testLive, 0, ({ pc := 0, row := 0, rows := 1 } : RetireJob), by decide⟩,
   ⟨testState ({} : Dev), 0, by decide⟩,
   ⟨testState (let d := (((({} : Dev).sf (rFLW_REHASH 0) fFLW_REHASH_STATE 1).sf (rFLW_REHASH_CFG 0) fFLW_REHASH_CFG_RATE 1).sf (rFLW_REGION 0) fFLW_REGION_UNITS 1); ({ d with path := { d.path with flw0 := { rehashOn := true } } } : Dev)).testLive, 0, by decide⟩,
   ⟨testState ({} : Dev), 0, by decide⟩,
   ⟨testState (let d := ({} : Dev); ({ d with path := { d.path with flw0 := { flushSet := some 16382 } } } : Dev)).testLive, 0, 16382, by decide⟩,
   ⟨testState ({} : Dev), 0, by decide⟩⟩

/-- Premises of O30 met together, clause by clause. -/
theorem witness_BufferAndLevelSettings_1 :
    (∃ (s : State) (r : ResvReg) (v : BitVec 32), s.dev.deepRefused r v.toNat = false ∧ (∀ die ∈ resvDies r, resvIn (s.dev.plainWrite (resvAddr r) v.toNat).regs s.dev.treePorts die ≤ 294912)) ∧
    (∃ (s : State) (die : Fin 2) (v : BitVec 32), 294912 < resvIn (s.dev.plainWrite (rBUF_LEVEL_POOL die) v.toNat).regs s.dev.treePorts die) ∧
    (∃ (s : State) (die : Fin 2), s.dev.lb (rBUF_AUDIT_CFG die) fBUF_AUDIT_CFG_EN = true ∧ s.dev.lf (rBUF_AUDIT_CFG die) fBUF_AUDIT_CFG_PERIOD_DECKS ≠ 0 ∧ (s.dev.buf die).auditTick + s.dev.lf (rBUF_AUDIT_CFG die) fBUF_AUDIT_CFG_PERIOD_DECKS * 100000 ≤ s.dev.trk.tick ∧ kvGet none s.dev.nrg.units 8 = none) ∧
    (∃ (s : State) (die : Fin 2) (n : Nat), s.dev.lb (rBUF_AUDIT_CFG die) fBUF_AUDIT_CFG_EN = true ∧ s.dev.lf (rBUF_AUDIT_CFG die) fBUF_AUDIT_CFG_PERIOD_DECKS ≠ 0 ∧ (s.dev.buf die).auditTick + s.dev.lf (rBUF_AUDIT_CFG die) fBUF_AUDIT_CFG_PERIOD_DECKS * 100000 ≤ s.dev.trk.tick ∧ kvGet none s.dev.nrg.units 8 = none ∧ 0 < n) ∧
    (∃ (s : State) (die : Fin 2), s.dev.lb (rBUF_AUDIT_CFG die) fBUF_AUDIT_CFG_EN = false) ∧
    (∃ (s : State) (die : Fin 2) (q : Fin 4096), Live s ∧ (s.dev.queue die q).spilled = true ∧ 4 ≤ (s.dev.queue die q).tailCells ∧ ((s.dev.buf die).queues.map (·.2.rows)).sum < s.dev.spillRows ∧ (s.dev.buf die).queues.any (fun e => s.dev.readbackDue die e.2) = false ∧ kvGet none s.dev.nrg.units 0 = none) ∧
    (∃ (s : State) (die : Fin 2) (q : Fin 4096), (s.dev.queue die q).spilled = false) ∧
    (∃ (s : State) (die : Fin 2) (q : Fin 4096) (n : _), Live s ∧ s.dev.readbackDue die (s.dev.queue die q) = true ∧ (s.dev.queue die q).rows = n + 2 ∧ kvGet none s.dev.nrg.units 0 = none) ∧
    (∃ (s : State) (r : SchReg) (v : BitVec 32), s.dev.schCheck r v.toNat = .ok ∧ (∀ die, r ≠ .smpCfg die)) ∧
    (∃ (s : State) (r : SchReg) (v : BitVec 32), s.dev.schCheck r v.toNat = .ignored) :=
  ⟨⟨testState ({} : Dev), .headroom 511, 2, by decide⟩,
   ⟨testState ({} : Dev), 0, BitVec.ofNat 32 (2 ^ 20 - 1), by decide⟩,
   ⟨testState (let d := ((({} : Dev).sf (rBUF_AUDIT_CFG 0) fBUF_AUDIT_CFG_EN 1).sf (rBUF_AUDIT_CFG 0) fBUF_AUDIT_CFG_PERIOD_DECKS 1); ({ d with trk := { d.trk with tick := 100000 } } : Dev)).testLive, 0, by decide⟩,
   ⟨testState (let d := ((({} : Dev).sf (rBUF_AUDIT_CFG 0) fBUF_AUDIT_CFG_EN 1).sf (rBUF_AUDIT_CFG 0) fBUF_AUDIT_CFG_PERIOD_DECKS 1); ({ d with trk := { d.trk with tick := 100000 } } : Dev)).testLive, 0, 1, by decide⟩,
   ⟨testState (({} : Dev).sf (rBUF_AUDIT_CFG 0) fBUF_AUDIT_CFG_EN 0).testLive, 0, by decide⟩,
   ⟨testState (((let d := ({} : Dev); ({ d with path := { d.path with buf0 := { queues := [(4095, { spilled := true, tailCells := 4 })] } } } : Dev)).sf rMEM_PART_A fMEM_PART_A_SPILL 1).sf rMEM_STATUS fMEM_STATUS_COMMITTED 1).testLive, 0, 4095, by decide⟩,
   ⟨testState ({} : Dev), 0, 0, by decide⟩,
   ⟨testState ((let d := ({} : Dev); ({ d with path := { d.path with buf0 := { queues := [(4095, { spilled := true, rows := 2 })] } } } : Dev)).sf (rBUF_SPILL_CFG 0) fBUF_SPILL_CFG_HEAD_CELLS 64).testLive, 0, 4095, 0, by decide⟩,
   ⟨testState ({} : Dev), .qCfg 1 4095, 1, by decide, (fun die h => nomatch h)⟩,
   ⟨testState ({} : Dev), .smpCfg 1, 0, by decide⟩⟩

/-- Premises of O30 met together, clause by clause. -/
theorem witness_BufferAndLevelSettings_2 :
    (∃ (s : State) (r : SchReg) (v : BitVec 32) (a : _), s.dev.schCheck r v.toNat = .err a) ∧
    (∃ (s : State) (die : Fin 2) (n : Nat), Live s ∧ s.dev.lf (rSCH_SMP_CFG die) fSCH_SMP_CFG_PERIOD_RODS ≠ 0 ∧ s.dev.rod % s.dev.lf (rSCH_SMP_CFG die) fSCH_SMP_CFG_PERIOD_RODS = 0 ∧ s.dev.committed = true ∧ kvGet none s.dev.nrg.units 4 = none ∧ ((List.range 4096).filter fun q => s.dev.lb (rSCH_Q_CFG die q) fSCH_Q_CFG_SMP).length = n ∧ (s.dev.rn (rSCH_SMP_WR die) + 2 ^ 32 - s.dev.rn (rSCH_SMP_RD die)) % 2 ^ 32 + n ≤ 2 ^ s.dev.f (rSCH_SMP_CFG die) fSCH_SMP_CFG_RING_LOG2) ∧
    (∃ (s : State) (die : Fin 2), s.dev.lf (rSCH_SMP_CFG die) fSCH_SMP_CFG_PERIOD_RODS = 0) ∧
    (∃ (s : State) (g : Fin 1024) (v : BitVec 32), 60 ≤ bits v.toNat 16 0 ∧ bits v.toNat 16 0 ≤ 100000 ∧ bits v.toNat 28 27 < 2 ∧ s.dev.b (rLVL_GRP_CFG g) fLVL_GRP_CFG_EN = false) ∧
    (∃ (v : BitVec 32), (bits v.toNat 16 0 < 60 ∨ 100000 < bits v.toNat 16 0)) ∧
    (∃ (s : State) (n : Fin 1024) (v : BitVec 32), s.dev.lvlQueueOk n v.toNat = true) ∧
    (∃ (s : State) (n : Fin 1024) (v : BitVec 32), s.dev.lvlQueueOk n v.toNat = false) :=
  ⟨⟨testState ({} : Dev), .qCfg 1 4095, 0, true, by decide⟩,
   ⟨testState ((({} : Dev).sf (rSCH_SMP_CFG 0) fSCH_SMP_CFG_RING_LOG2 12).sf rMEM_STATUS fMEM_STATUS_COMMITTED 1).testLive, 0, _, by decide, by decide, by decide, by decide, by decide, rfl, by exact Nat.le_trans (Nat.add_le_add_left (Nat.le_trans (List.length_filter_le _ _) (Nat.le_of_eq List.length_range)) _) (by decide)⟩,
   ⟨testState (({} : Dev).sf (rSCH_SMP_CFG 0) fSCH_SMP_CFG_PERIOD_RODS 0).testLive, 0, by decide⟩,
   ⟨testState ({} : Dev), 1023, 60, by decide⟩,
   ⟨0, by decide⟩,
   ⟨testState ({} : Dev), 0, 0, by decide⟩,
   ⟨testState ({} : Dev), 0, 256, by decide⟩⟩

/-- Premises of O31 met together, clause by clause. -/
theorem witness_JtagAndBoard :
    (∃ (s : State), memByte s.otp.factory 2 = 0xA1) ∧
    (∃ (s : State), s.dev.board.perst = true) ∧
    (∃ (s : State), s.dev.board.perst = false) ∧
    (∃ (s : State), s.dev.b rOTP_BOOT_STATUS fOTP_BOOT_STATUS_COMMAND_READY = true) ∧
    (∃ (temps : Vector (BitVec 8) 48), (∀ t ∈ temps.toList, t.toNat < 100)) ∧
    (∃ (temps : Vector (BitVec 8) 48), (∃ t ∈ temps.toList, 115 ≤ t.toNat)) ∧
    (∃ (s : State) (gen : Fin 7) (width : Fin 17), s.dev.stepDone 1 = true ∧ s.dev.board.perst = false ∧ s.dev.host.linkUp = false ∧ 1 ≤ gen.val ∧ (gen.val ≤ (if bits (beAt s.dev.board.gen 5 1) 2 0 = 0 ∨ bits (beAt s.dev.board.gen 5 1) 2 0 = 7 then 6 else bits (beAt s.dev.board.gen 5 1) 2 0)) ∧ width.val ∈ (if bits (beAt s.dev.board.gen 5 1) 3 3 = 1 then [8] else [1, 2, 4, 8, 16])) ∧
    (∃ (k : _), k < 32) :=
  ⟨⟨testState ({} : Dev), by decide⟩,
   ⟨testState ({} : Dev), by decide⟩,
   ⟨testState (let d := ({} : Dev); ({ d with board := { d.board with perst := false } } : Dev)).testLive, by decide⟩,
   ⟨testState (({} : Dev).sf rOTP_BOOT_STATUS fOTP_BOOT_STATUS_COMMAND_READY 1).testLive, by decide⟩,
   ⟨0, by decide⟩,
   ⟨.replicate _ 115, by decide⟩,
   ⟨testState (let d := ({} : Dev); ({ d with board := { d.board with perst := false, ended := [1] } } : Dev)).testLive, 6, 16, by decide⟩,
   ⟨0, by decide⟩⟩

/-- Premises of O32 met together, clause by clause. -/
theorem witness_PtpMessages :
    (∃ (s : State) (p : Fin 512) (bytes : List (BitVec 8)), Live s ∧ s.dev.isUp p = true ∧ s.dev.isPtp p bytes = true ∧ dieOf p = 0 ∧ s.dev.tim.q0.length < 1024) ∧
    (∃ (s : State) (p : Fin 512) (bytes : List (BitVec 8)), s.dev.isPtp p bytes = false) ∧
    (∃ (s : State) (f : _) (l : _), Live s ∧ s.dev.tim.q0 = f :: l) ∧
    (∃ (s : State) (p : Fin 512), Live s ∧ s.dev.isUp p = true ∧ s.dev.ptpOn p = true ∧ s.dev.pstate p = 2) ∧
    (∃ (s : State) (p : Fin 512), Live s ∧ s.dev.isUp p = true ∧ s.dev.ptpOn p = true ∧ s.dev.f (rPRT_PARTNER p) fPRT_PARTNER_DELAY_MECH = 1 ∧ (s.dev.pstate p = 3 ∨ s.dev.pstate p = 5)) ∧
    (∃ (s : State) (p : Fin 512), Live s ∧ s.dev.isUp p = true ∧ s.dev.ptpOn p = true ∧ s.dev.f (rPRT_PARTNER p) fPRT_PARTNER_DELAY_MECH = 2) ∧
    (∃ (s : State) (p : Fin 512), s.dev.isUp p = false) :=
  ⟨⟨testState ((({} : Dev).sf (rPRT_STATUS 0) fPRT_STATUS_STATE 5).sf (rTIM_PORT_STATE 0) fTIM_PORT_STATE_PSTATE 2).testLive, 0, ([1, 0x80, 0xC2, 0, 0, 0xE] ++ zeros 6 ++ [0x88, 0xF7] ++ zeros 50 : List Byte), by decide⟩,
   ⟨testState ({} : Dev), 0, [], by decide⟩,
   ⟨testState (let d := ({} : Dev); ({ d with tim := { d.tim with q0 := [({ port := 0, bytes := [], ts := 0, unc := 0 } : TimFrame)] } } : Dev)).testLive, ({ port := 0, bytes := [], ts := 0, unc := 0 } : TimFrame), [], by decide⟩,
   ⟨testState ((((({} : Dev).sf (rPRT_STATUS 0) fPRT_STATUS_STATE 5).sf (rTIM_PORT_CFG 0) fTIM_PORT_CFG_PTP_EN 1).sf (rTIM_PORT_STATE 0) fTIM_PORT_STATE_PSTATE 2).sf (rPRT_PARTNER 0) fPRT_PARTNER_DELAY_MECH 0).testLive, 0, by decide⟩,
   ⟨testState ((((({} : Dev).sf (rPRT_STATUS 0) fPRT_STATUS_STATE 5).sf (rTIM_PORT_CFG 0) fTIM_PORT_CFG_PTP_EN 1).sf (rTIM_PORT_STATE 0) fTIM_PORT_STATE_PSTATE 3).sf (rPRT_PARTNER 0) fPRT_PARTNER_DELAY_MECH 1).testLive, 0, by decide, by decide, by decide, by decide, by decide⟩,
   ⟨testState ((((({} : Dev).sf (rPRT_STATUS 0) fPRT_STATUS_STATE 5).sf (rTIM_PORT_CFG 0) fTIM_PORT_CFG_PTP_EN 1).sf (rTIM_PORT_STATE 0) fTIM_PORT_STATE_PSTATE 3).sf (rPRT_PARTNER 0) fPRT_PARTNER_DELAY_MECH 2).testLive, 0, by decide⟩,
   ⟨testState ({} : Dev), 0, by decide⟩⟩

/-- Premises of O33 met together, clause by clause. -/
theorem witness_TimeSources :
    (∃ (s : State) (p : _) (o : _) (log : _) (l : _), s.dev.tim.waiting = (p, o, log) :: l) ∧
    (∃ (s : State), s.dev.tim.waiting = []) ∧
    (∃ (s : State) (p : Fin 512), s.dev.b (rTIM_PORT_STATE p) fTIM_PORT_STATE_EXCLUDED = true ∧ (s.dev.timPort p).exclDeck + s.dev.lrn rTIM_EXCL_REINST ≤ s.dev.deck) ∧
    (∃ (s : State), s.dev.srcGone = true ∧ s.dev.bestMonitor = none) ∧
    (∃ (s : State), s.dev.srcGone = false) ∧
    (∃ (s : State) (i : Fin 3), s.dev.tim.refFail.contains i.val = false) ∧
    (∃ (s : State) (i : _), s.dev.lb rTIM_REF fTIM_REF_AUTO = true ∧ s.dev.refOk (s.dev.f rTIM_STATUS fTIM_STATUS_REF_ACTIVE) = false ∧ [2, 1, 0].find? s.dev.refOk = some i) ∧
    (∃ (s : State), s.dev.lb rTIM_REF fTIM_REF_AUTO = false) :=
  ⟨⟨testState (let d := ({} : Dev); ({ d with tim := { d.tim with waiting := [(0, 5, 0)] } } : Dev)).testLive, 0, 5, 0, [], by decide⟩,
   ⟨testState ({} : Dev), by decide⟩,
   ⟨testState ((({} : Dev).sf (rTIM_PORT_STATE 511) fTIM_PORT_STATE_EXCLUDED 1).wn rTIM_EXCL_REINST 0).testLive, 511, by decide⟩,
   ⟨testState (({} : Dev).sf rTIM_STATUS fTIM_STATUS_SRC_VALID 1).testLive, by decide⟩,
   ⟨testState ({} : Dev), by decide⟩,
   ⟨testState ({} : Dev), 0, by decide⟩,
   ⟨testState (let d := (({} : Dev).sf rTIM_REF fTIM_REF_AUTO 1); ({ d with tim := { d.tim with refFail := [0, 2] } } : Dev)).testLive, 1, by decide⟩,
   ⟨testState (({} : Dev).sf rTIM_REF fTIM_REF_AUTO 0).testLive, by decide⟩⟩

/-- Premises of O34 met together, clause by clause. -/
theorem witness_TriggersCaptures :
    (∃ (s : State) (n : Fin 8) (r : TrigReg) (v : BitVec 32), s.dev.trigOk n r v.toNat = false) ∧
    (∃ (s : State) (n : Fin 8) (r : TrigReg) (v : BitVec 32), (r = .secLo ∨ r = .period ∨ r = .width) ∧ s.dev.trigOk n r v.toNat = true ∧ s.dev.b (rTIM_TRIG_CFG n) fTIM_TRIG_CFG_EN = false) ∧
    (∃ (s : State) (n : Fin 8), Live s ∧ s.dev.b (rTIM_TRIG_CFG n) fTIM_TRIG_CFG_EN = true ∧ ((∀ c, s.dev.trigPulses n = some c → (s.dev.trig n).next < 2 * c)) ∧ s.dev.trigEdge n (s.dev.trig n).next / 10 = s.dev.trk.tick) ∧
    (∃ (s : State) (n : Fin 8), s.dev.b (rTIM_TRIG_CFG n) fTIM_TRIG_CFG_EN = false) ∧
    (∃ (s : State) (n : Fin 9), n.val ≠ 8 ∧ s.dev.lb (rTIM_CAPT_CFG n) fTIM_CAPT_CFG_EN = true ∧ s.dev.lf (rTIM_CAPT_CFG n) fTIM_CAPT_CFG_EDGE ≠ 2 ∧ (s.dev.capt n).last = none ∧ (s.dev.capt n).fifo.length < 64 ∧ s.dev.lb (rTIM_CAPT_CFG n) fTIM_CAPT_CFG_JRN = false) ∧
    (∃ (s : State) (n : Fin 9), s.dev.lb (rTIM_CAPT_CFG n) fTIM_CAPT_CFG_EN = false) ∧
    (∃ (s : State) (n : Fin 9) (testState : _) (u : _) (fall : _) (l : _), (s.dev.capt n).fifo = (testState, u, fall) :: l) ∧
    (∃ (s : State) (n : Fin 9), (s.dev.capt n).fifo = []) :=
  ⟨⟨testState ({} : Dev), 7, .ns, 1000000000, by decide⟩,
   ⟨testState ({} : Dev), 7, .secLo, 1, by decide⟩,
   ⟨testState (({} : Dev).sf (rTIM_TRIG_CFG 7) fTIM_TRIG_CFG_EN 1).testLive, 7, by decide, by decide, fun c h => (by have h3 : 1 = c := Option.some.inj h; rw [← h3]; decide), by decide⟩,
   ⟨testState ({} : Dev), 0, by decide⟩,
   ⟨testState (({} : Dev).sf (rTIM_CAPT_CFG 7) fTIM_CAPT_CFG_EN 1).testLive, 7, by decide⟩,
   ⟨testState ({} : Dev), 0, by decide⟩,
   ⟨testState (let d := ({} : Dev); ({ d with tim := { d.tim with capts := [(8, { fifo := [(1, 2, false)] })] } } : Dev)).testLive, 8, 1, 2, false, [], by decide⟩,
   ⟨testState ({} : Dev), 0, by decide⟩⟩

/-- Premises of O35 met together, clause by clause. -/
theorem witness_TimeCommands :
    (∃ (s : State) (ns : BitVec 32), Live s ∧ s.dev.isRoot = true ∧ s.dev.srcValid = false ∧ ns.toNat ≤ 999999999) ∧
    (∃ (s : State), Live s ∧ s.dev.isRoot = false) ∧
    (∃ (s : State) (p : BitVec 16) (testState : BitVec 8), Live s ∧ s.dev.lf rTIM_CTRL fTIM_CTRL_STATE_SRC = 1 ∧ p.toNat < 512 ∧ testState.toNat ≤ 6 ∧ s.dev.ptpOn p.toNat = true) ∧
    (∃ (s : State), Live s ∧ s.dev.lf rTIM_CTRL fTIM_CTRL_STATE_SRC ≠ 1) ∧
    (∃ (s : State) (o : BitVec 8) (ns : BitVec 32) (per : BitVec 32) (wid : BitVec 32) (cnt : BitVec 32), Live s ∧ o.toNat < 8 ∧ ns.toNat ≤ 999999999 ∧ cnt.toNat ≤ 16777215 ∧ trigShape per.toNat wid.toNat = true) ∧
    (∃ (s : State) (wid : BitVec 32), Live s ∧ 1 ≤ wid.toNat / 1000 ∧ wid.toNat / 1000 ≤ 999999) ∧
    (∃ (s : State) (p : BitVec 16), Live s ∧ p.toNat < 512) ∧
    (∃ (s : State) (p : BitVec 16), Live s ∧ 512 ≤ p.toNat) ∧
    (∃ (s : State), Live s) :=
  ⟨⟨testState (({} : Dev).sf rDOM_STATUS fDOM_STATUS_STATE 4).testLive, 999999999, by decide⟩,
   ⟨testState ({} : Dev), by decide⟩,
   ⟨testState ((({} : Dev).sf rTIM_CTRL fTIM_CTRL_STATE_SRC 1).sf (rTIM_PORT_CFG 511) fTIM_PORT_CFG_PTP_EN 1).testLive, 511, 6, by decide⟩,
   ⟨testState ({} : Dev), by decide⟩,
   ⟨testState ({} : Dev), 7, 999999999, 4000000000, 10, 16777215, by decide⟩,
   ⟨testState ({} : Dev), 1000, by decide⟩,
   ⟨testState ({} : Dev), 0, by decide⟩,
   ⟨testState ({} : Dev), 512, by decide⟩,
   ⟨testState ({} : Dev), by decide⟩⟩

/-- Premises of O36 met together, clause by clause. -/
theorem witness_JournalWork_1 :
    (∃ (s : State) (v : BitVec 32), bits v.toNat 31 31 = 1 ∧ s.dev.f rJRN_STATUS fJRN_STATUS_STATE = 0) ∧
    (∃ (s : State) (v : BitVec 32), bits v.toNat 31 31 = 0 ∧ s.dev.f rJRN_STATUS fJRN_STATUS_STATE = 1) ∧
    (∃ (s : State) (v : BitVec 32), bits v.toNat 31 31 = 0 ∧ s.dev.f rJRN_STATUS fJRN_STATUS_STATE = 2) ∧
    (∃ (s : State) (die : Fin 2), (s.dev.jrn.die die).staging ≠ []) ∧
    (∃ (s : State) (c : _), Live s ∧ s.dev.jrn.closed.find? (fun c => c.root0.isNone) = some c) ∧
    (∃ (s : State) (c : _), Live s ∧ s.dev.jrn.closed.find? (fun c => c.root1.isNone) = some c) ∧
    (∃ (s : State) (c : _), Live s ∧ s.dev.jrn.closed.find? (fun c => c.sum.isNone) = some c ∧ c.root0.isSome = true ∧ c.root1.isSome = true) ∧
    (∃ (s : State) (c : _), Live s ∧ s.dev.jrn.closed.find? (fun c => c.sum.isSome && !c.waiting.isEmpty && decide (s.dev.sumDeadline c.deck s.dev.sumDepth < s.dev.deck)) = some c) ∧
    (∃ (s : State), Live s ∧ s.dev.f rJRN_CTRL fJRN_CTRL_DRAIN = 1 ∧ s.dev.host.drainOff = false ∧ s.dev.f (rDMA_CH_STATUS (s.dev.f rJRN_DMA_CFG fJRN_DMA_CFG_CHANNEL)) fDMA_CH_STATUS_STATE ≠ 2) ∧
    (∃ (s : State) (die : Fin 2) (v : BitVec 64), s.dev.f rJRN_CTRL fJRN_CTRL_DRAIN = 0 ∧ s.dev.jrnRd die ≤ v.toNat ∧ v.toNat ≤ s.dev.jrnWr die) :=
  ⟨⟨testState ({} : Dev), 0x80000000, by decide⟩,
   ⟨testState (({} : Dev).sf rJRN_STATUS fJRN_STATUS_STATE 1).testLive, 0, by decide⟩,
   ⟨testState (({} : Dev).sf rJRN_STATUS fJRN_STATUS_STATE 2).testLive, 0, by decide⟩,
   ⟨testState (let d := ({} : Dev); ({ d with jrn := { d.jrn with die0 := { staging := [[]] } } } : Dev)).testLive, 0, by decide⟩,
   ⟨testState (let d := ({} : Dev); ({ d with jrn := { d.jrn with closed := [({ deck := 1, flags := 0, first0 := 0, first1 := 0, recs0 := [], recs1 := [] } : ClosedSet)] } } : Dev)).testLive, ({ deck := 1, flags := 0, first0 := 0, first1 := 0, recs0 := [], recs1 := [] } : ClosedSet), by decide⟩,
   ⟨testState (let d := ({} : Dev); ({ d with jrn := { d.jrn with closed := [({ deck := 1, flags := 0, first0 := 0, first1 := 0, recs0 := [], recs1 := [] } : ClosedSet)] } } : Dev)).testLive, ({ deck := 1, flags := 0, first0 := 0, first1 := 0, recs0 := [], recs1 := [] } : ClosedSet), by decide⟩,
   ⟨testState (let d := ({} : Dev); ({ d with jrn := { d.jrn with closed := [({ deck := 1, flags := 0, first0 := 0, first1 := 0, recs0 := [], recs1 := [], root0 := some [], root1 := some [] } : ClosedSet)] } } : Dev)).testLive, ({ deck := 1, flags := 0, first0 := 0, first1 := 0, recs0 := [], recs1 := [], root0 := some [], root1 := some [] } : ClosedSet), by decide⟩,
   ⟨testState (let d := (let d := ({} : Dev); ({ d with jrn := { d.jrn with closed := [({ deck := 1, flags := 0, first0 := 0, first1 := 0, recs0 := [], recs1 := [], sum := some [], waiting := [3] } : ClosedSet)] } } : Dev)); ({ d with trk := { d.trk with tick := 100000000 } } : Dev)).testLive, ({ deck := 1, flags := 0, first0 := 0, first1 := 0, recs0 := [], recs1 := [], sum := some [], waiting := [3] } : ClosedSet), by decide⟩,
   ⟨testState (({} : Dev).sf rJRN_CTRL fJRN_CTRL_DRAIN 1).testLive, by decide⟩,
   ⟨testState ({} : Dev), 0, 0, by decide⟩⟩

/-- Premises of O36 met together, clause by clause. -/
theorem witness_JournalWork_2 :
    (∃ (s : State) (die : Fin 2) (v : BitVec 64), s.dev.f rJRN_CTRL fJRN_CTRL_DRAIN = 0 ∧ s.dev.jrnWr die < v.toNat) ∧
    (∃ (s : State), s.dev.f rJRN_CTRL fJRN_CTRL_DRAIN ≠ 0) :=
  ⟨⟨testState ({} : Dev), 0, 1, by decide⟩,
   ⟨testState (({} : Dev).sf rJRN_CTRL fJRN_CTRL_DRAIN 1).testLive, by decide⟩⟩

/-- Premises of O37 met together, clause by clause. -/
theorem witness_JournalCommands :
    (∃ (s : State) (die : BitVec 8) (count : BitVec 16) (first : BitVec 64), s.dev.f rJRN_STATUS fJRN_STATUS_STATE ≠ 0 ∧ die.toNat < 2 ∧ 0 < count.toNat ∧ count.toNat ≤ 64 ∧ first.toNat % 2 = die.toNat ∧ (first.toNat - die.toNat) / 2 + count.toNat ≤ s.dev.jrnWr die.toNat ∧ s.dev.jrnWr die.toNat ≤ (first.toNat - die.toNat) / 2 + s.dev.jrnSize die.toNat) ∧
    (∃ (s : State), s.dev.f rJRN_STATUS fJRN_STATUS_STATE = 0) ∧
    (∃ (s : State) (deck : BitVec 64) (k : _) (x : _), s.dev.jrn.sums.find? (fun e => decide (beAt e.2 0 8 = deck.toNat)) = some (k, x)) ∧
    (∃ (s : State) (deck : BitVec 64), s.dev.jrn.sums.find? (fun e => decide (beAt e.2 0 8 = deck.toNat)) = none) ∧
    (∃ (s : State) (deck : BitVec 64) (k : _) (x : _), s.dev.jrn.childs.filter (fun e => decide (beAt e.2 0 8 = deck.toNat)) = [(k, x)]) ∧
    (∃ (s : State) (deck : BitVec 64), (∀ e ∈ s.dev.jrn.childs, beAt e.2 0 8 ≠ deck.toNat)) ∧
    (∃ (s : State) (port : BitVec 16) (recs : BitVec 8), Live s ∧ port.toNat < 512 ∧ 0 < recs.toNat ∧ recs.toNat ≤ 140) ∧
    (∃ (s : State) (port : BitVec 16) (recs : BitVec 8), Live s ∧ (512 ≤ port.toNat ∨ recs.toNat = 0 ∨ 140 < recs.toNat)) :=
  ⟨⟨testState ((((({} : Dev).sf rJRN_STATUS fJRN_STATUS_STATE 1).sf rMEM_STATUS fMEM_STATUS_COMMITTED 1).wn (rJRN_SIZE 0) 64).wn (rJRN_WR_LO 0) 64).testLive, 0, 64, 0, by decide⟩,
   ⟨testState ({} : Dev), by decide⟩,
   ⟨testState (let d := ({} : Dev); ({ d with jrn := { d.jrn with sums := [(0, zeros 32)] } } : Dev)).testLive, 0, 0, zeros 32, by decide⟩,
   ⟨testState ({} : Dev), 0, by decide⟩,
   ⟨testState (let d := ({} : Dev); ({ d with jrn := { d.jrn with childs := [(0, zeros 48)] } } : Dev)).testLive, 0, 0, zeros 48, by decide⟩,
   ⟨testState ({} : Dev), 0, by decide⟩,
   ⟨testState ({} : Dev), 511, 140, by decide⟩,
   ⟨testState ({} : Dev), 0, 0, by decide⟩⟩

/-- Premises of O38 met together, clause by clause. -/
theorem witness_HbmEvents :
    (∃ (s : State) (v : BitVec 32), bits v.toNat 0 0 = 1 ∧ s.dev.b rMEM_STATUS fMEM_STATUS_COMMITTED = false ∧ s.dev.partSum ≤ 512 ∧ s.dev.spareRows ≤ s.dev.f rMEM_PART_B fMEM_PART_B_AUX * 1024) ∧
    (∃ (s : State) (v : BitVec 32), bits v.toNat 0 0 = 1 ∧ s.dev.b rMEM_STATUS fMEM_STATUS_COMMITTED = false ∧ 512 < s.dev.partSum) ∧
    (∃ (s : State), s.dev.b rMEM_STATUS fMEM_STATUS_CLEARING = true) ∧
    (∃ (s : State) (k : Fin 4), s.dev.lb rMEM_CTRL fMEM_CTRL_SCRUB_EN = true ∧ s.dev.lrn rMEM_SCRUB ≠ 0 ∧ s.dev.frozen k = false ∧ s.dev.b (rMEM_S_STATUS k) fMEM_S_STATUS_TRAINED = true ∧ kvGet none s.dev.nrg.units 6 = none) ∧
    (∃ (s : State) (k : Fin 4) (pc : Fin 64) (row : Fin 524288), (s.dev.stack k).targets.contains (pc.val, row.val) = true) ∧
    (∃ (s : State) (k : Fin 4), (s.dev.stack k).rhStart + 3200000 ≤ s.dev.trk.tick) ∧
    (∃ (s : State) (k : Fin 4), s.dev.frozen k = false) ∧
    (∃ (s : State) (a : HbmAct), s.dev.trk.tick % 2 = 0 ∧ s.dev.frozen a.stack = false ∧ (s.dev.stack a.stack).throttled = [] ∧ s.dev.lb rMEM_CTRL fMEM_CTRL_RH_EN = false ∧ a.err = .none) ∧
    (∃ (s : State), s.dev.trk.tick % 2 = 1) :=
  ⟨⟨testState ((({} : Dev).wn rMEM_PART_A 0).wn rMEM_PART_B 0).testLive, 1, by decide⟩,
   ⟨testState (({} : Dev).sf rMEM_PART_A fMEM_PART_A_FLOW 255).testLive, 1, by decide⟩,
   ⟨testState (({} : Dev).sf rMEM_STATUS fMEM_STATUS_CLEARING 1).testLive, by decide⟩,
   ⟨testState (((({} : Dev).sf rMEM_CTRL fMEM_CTRL_SCRUB_EN 1).wn rMEM_SCRUB 1).sf (rMEM_S_STATUS 3) fMEM_S_STATUS_TRAINED 1).testLive, 3, by decide⟩,
   ⟨testState (let d := ({} : Dev); ({ d with hbm := { d.hbm with stk := [(3, { targets := [(63, 524287)] })] } } : Dev)).testLive, 3, 63, 524287, by decide⟩,
   ⟨testState (let d := ({} : Dev); ({ d with trk := { d.trk with tick := 3200000 } } : Dev)).testLive, 0, by decide⟩,
   ⟨testState ({} : Dev), 0, by decide⟩,
   ⟨testState (({} : Dev).sf rMEM_CTRL fMEM_CTRL_RH_EN 0).testLive, { stack := 3, pc := 63, row := 524287, req := 0 }, by decide⟩,
   ⟨testState (let d := ({} : Dev); ({ d with trk := { d.trk with tick := 1 } } : Dev)).testLive, by decide⟩⟩

/-- Premises of O39 met together, clause by clause. -/
theorem witness_AluResults :
    (∃ (s : State) (w : Micro), Fetches s w ∧ HasNext s w) ∧
    (∃ (s : State) (w : Micro), Fetches s w ∧ HasNext s w ∧ w.imm.toNat < 32) ∧
    (∃ (s : State) (w : Micro), Fetches s w ∧ HasNext s w ∧ w.imm.toNat = 0 ∧ s.dev.ga w = 0) ∧
    (∃ (s : State) (w : Micro) (n : Nat), Fetches s w ∧ HasNext s w ∧ (s.dev.ga w).getLsbD n = true ∧ ((∀ j, j < n → (s.dev.ga w).getLsbD j = false))) ∧
    (∃ (s : State) (w : Micro), Fetches s w ∧ HasNext s w ∧ w.imm.toNat < 64) ∧
    (∃ (s : State) (w : Micro) (p : Nat) (n : Nat), Fetches s w ∧ HasNext s w ∧ w.imm.toNat = (n - 1) * 64 + p ∧ p < 64 ∧ 1 ≤ n ∧ p + n ≤ 64) ∧
    (∃ (s : State) (w : Micro) (n : Nat), Fetches s w ∧ HasNext s w ∧ w.imm.toNat % 16 = n ∧ 1 ≤ n ∧ n ≤ 8) :=
  ⟨⟨testState ({} : Dev), testWord, by decide⟩,
   ⟨testState ({} : Dev), testWord, by decide⟩,
   ⟨testState ({} : Dev), testWord, by decide⟩,
   ⟨testState (let d := ({} : Dev); ({ d with rck := { d.rck with recks := [(0, { g := [(2, 1 <<< 63)] })] } } : Dev)).testLive, testWord, 63, by decide⟩,
   ⟨testState ({} : Dev), testWord, by decide⟩,
   ⟨testState ({} : Dev), { testWord with imm := 63 }, 63, 1, by decide⟩,
   ⟨testState ({} : Dev), { testWord with imm := 8 }, 8, by decide⟩⟩

/-- Premises of O40 met together, clause by clause. -/
theorem witness_BranchesAndWaits_1 :
    (∃ (s : State) (w : Micro) (t : Nat), Fetches s w ∧ w.imm.toNat % 2 ^ 15 = t ∧ (¬ (0x6000 ≤ s.dev.pc w.k ∧ t < 0x6000))) ∧
    (∃ (s : State) (w : Micro) (t : Nat), Fetches s w ∧ w.imm.toNat % 2 ^ 15 = t ∧ s.dev.ga w = 0) ∧
    (∃ (s : State) (w : Micro) (t : Nat), Fetches s w ∧ w.imm.toNat % 2 ^ 15 = t ∧ s.dev.ga w ≠ 0) ∧
    (∃ (s : State) (w : Micro) (t : Nat), Fetches s w ∧ w.imm.toNat % 2 ^ 15 = t ∧ HasNext s w ∧ s.dev.ga w ≠ 0) ∧
    (∃ (s : State) (w : Micro) (t : Nat), Fetches s w ∧ w.imm.toNat % 2 ^ 15 = t ∧ (¬ (0x6000 ≤ s.dev.pc w.k ∧ 0x100 ≤ t ∧ t < 0x6000))) ∧
    (∃ (s : State) (w : Micro) (t : Nat), Fetches s w ∧ (¬ (0x6000 ≤ s.dev.pc w.k ∧ t < 0x6000)) ∧ (s.dev.ga w).toNat % 2 ^ 15 = t) ∧
    (∃ (s : State) (w : Micro) (t : Nat), Fetches s w ∧ (¬ (0x6000 ≤ s.dev.pc w.k ∧ t < 0x6000)) ∧ (s.dev.ga w + w.imm.signExtend 64).toNat % 2 ^ 15 = t) ∧
    (∃ (s : State) (w : Micro), Fetches s w ∧ 1 ≤ w.d.val ∧ w.d.val ≤ 26) ∧
    (∃ (s : State) (w : Micro) (c : Cond), Fetches s w ∧ HasNext s w ∧ s.dev.condOf w = some c ∧ s.dev.condHolds w.k c = true) ∧
    (∃ (s : State) (w : Micro) (c : Cond), Fetches s w ∧ HasNext s w ∧ s.dev.condOf w = some c ∧ s.dev.condHolds w.k c = false) :=
  ⟨⟨testState ({} : Dev), testWord, 0, by decide⟩,
   ⟨testState ({} : Dev), testWord, 0, by decide⟩,
   ⟨testState (let d := ({} : Dev); ({ d with rck := { d.rck with recks := [(0, { g := [(2, 1)] })] } } : Dev)).testLive, testWord, 0, by decide⟩,
   ⟨testState (let d := ({} : Dev); ({ d with rck := { d.rck with recks := [(0, { g := [(2, 1)] })] } } : Dev)).testLive, testWord, 0, by decide⟩,
   ⟨testState ({} : Dev), testWord, 0, by decide⟩,
   ⟨testState ({} : Dev), testWord, 0, by decide⟩,
   ⟨testState ({} : Dev), testWord, 0, by decide⟩,
   ⟨testState ({} : Dev), testWord, by decide⟩,
   ⟨testState (({} : Dev).sf (rRCK_K_STATUS 127) fRCK_K_STATUS_KSTATE 1).testLive, { k := 127, d := 31, a := 30, imm := 0x3000, ecc := 0 }, .tags, by decide⟩,
   ⟨testState (({} : Dev).sf (rRCK_K_STATUS 127) fRCK_K_STATUS_KSTATE 1).testLive, { k := 127, d := 31, a := 30, imm := 0x1FFF, ecc := 0 }, .tick 4096, by decide⟩⟩

/-- Premises of O40 met together, clause by clause. -/
theorem witness_BranchesAndWaits_2 :
    (∃ (s : State) (k : Fin 128) (c : Cond), (s.dev.reck k).wait = some c ∧ s.dev.kState k = 2 ∧ s.dev.condHolds k c = true) ∧
    (∃ (s : State) (k : Fin 128) (c : Cond), (s.dev.reck k).wait = some c ∧ s.dev.kState k = 2 ∧ s.dev.condHolds k c = false) ∧
    (∃ (s : State) (w : Micro) (c : Cond) (i : Nat) (t : Task), Fetches s w ∧ HasNext s w ∧ s.dev.condOf w = some c ∧ (∀ v, c ≠ .tag v) ∧ c ≠ .tags ∧ s.dev.kTask w.k = some (i, t)) ∧
    (∃ (s : State) (die : Fin 2) (i : Fin 16384) (t : Task) (j : _), (s.dev.rckD die).task i = some t ∧ t.st = .parked (.operand j) ∧ bits t.present j j = 1) ∧
    (∃ (s : State) (die : Fin 2) (i : Fin 16384) (t : Task), (s.dev.rckD die).task i = some t ∧ (t.st = .parked (.tick 0) ∨ t.st = .parked (.deck 0))) ∧
    (∃ (s : State) (die : Fin 2) (i : Fin 16384) (t : Task) (n : _), (s.dev.rckD die).task i = some t ∧ 0 < n ∧ (t.st = .parked (.tick n) ∨ t.st = .parked (.deck n))) ∧
    (∃ (s : State) (die : Fin 2) (i : Fin 16384) (t : Task), (s.dev.rckD die).task i = some t ∧ (∀ c, t.st ≠ .parked c)) :=
  ⟨⟨testState (let d := (({} : Dev).sf (rRCK_K_STATUS 127) fRCK_K_STATUS_KSTATE 2); ({ d with rck := { d.rck with recks := [(127, { wait := some .tags })] } } : Dev)).testLive, 127, .tags, by decide⟩,
   ⟨testState (let d := (({} : Dev).sf (rRCK_K_STATUS 127) fRCK_K_STATUS_KSTATE 2); ({ d with rck := { d.rck with recks := [(127, { wait := some (.tick 1) })] } } : Dev)).testLive, 127, .tick 1, by decide⟩,
   ⟨testState (let d := (((({} : Dev).sf (rRCK_K_STATUS 127) fRCK_K_STATUS_KSTATE 1).sf (rRCK_K_TASK 127) fRCK_K_TASK_VALID 1).sf (rRCK_K_TASK 127) fRCK_K_TASK_INDEX 16383); ({ d with rck := { d.rck with die1 := { tasks := [(16383, some ({ type := 1, gen := 0, deadline := 0, budget := 1, st := .running 127 } : Task))] } } } : Dev)).testLive, { k := 127, d := 31, a := 30, imm := 0x1FFF, ecc := 0 }, .tick 4096, 16383, ({ type := 1, gen := 0, deadline := 0, budget := 1, st := .running 127 } : Task), by decide, by decide, by decide, (fun v h => nomatch h), by decide, by decide⟩,
   ⟨testState (let d := ({} : Dev); ({ d with rck := { d.rck with die1 := { tasks := [(16383, some ({ type := 1, gen := 0, deadline := 0, budget := 1, st := .parked (.operand 3), present := 8 } : Task))] } } } : Dev)).testLive, 1, 16383, ({ type := 1, gen := 0, deadline := 0, budget := 1, st := .parked (.operand 3), present := 8 } : Task), 3, by decide⟩,
   ⟨testState (let d := ({} : Dev); ({ d with rck := { d.rck with die1 := { tasks := [(16383, some ({ type := 1, gen := 0, deadline := 0, budget := 1, st := .parked (.deck 0), present := 8 } : Task))] } } } : Dev)).testLive, 1, 16383, ({ type := 1, gen := 0, deadline := 0, budget := 1, st := .parked (.deck 0), present := 8 } : Task), by decide⟩,
   ⟨testState (let d := ({} : Dev); ({ d with rck := { d.rck with die1 := { tasks := [(16383, some ({ type := 1, gen := 0, deadline := 0, budget := 1, st := .parked (.tick 1), present := 8 } : Task))] } } } : Dev)).testLive, 1, 16383, ({ type := 1, gen := 0, deadline := 0, budget := 1, st := .parked (.tick 1), present := 8 } : Task), 1, by decide⟩,
   ⟨testState (let d := ({} : Dev); ({ d with rck := { d.rck with die1 := { tasks := [(16383, some ({ type := 1, gen := 0, deadline := 0, budget := 1, st := .ready } : Task))] } } } : Dev)).testLive, 1, 16383, ({ type := 1, gen := 0, deadline := 0, budget := 1, st := .ready } : Task), by decide, fun c h => nomatch h⟩⟩

/-- Premises of O41 met together, clause by clause. -/
theorem witness_ScratchPoolAndHbm_1 :
    (∃ (s : State) (w : Micro) (a : Nat), Fetches s w ∧ HasNext s w ∧ (s.dev.ga w + w.imm.signExtend 64).toNat = a ∧ a % 8 = 0 ∧ a + 8 ≤ 4096) ∧
    (∃ (s : State) (w : Micro) (a : Nat), Fetches s w ∧ HasNext s w ∧ a % 8 = 0 ∧ a < 2 ^ 32 ∧ bits a 30 23 = 0 ∧ bits a 22 0 + 8 ≤ 0x800000 ∧ ((s.dev.pc w.k < 0x6000 ∨ s.dev.poolOwner a = some (s.dev.f rRCK_OPEN_CTRL fRCK_OPEN_CTRL_OWNER))) ∧ (s.dev.ga w + w.imm.signExtend 64).toNat = a) ∧
    (∃ (s : State) (w : Micro) (a : Nat), Fetches s w ∧ HasNext s w ∧ a % 8 = 0 ∧ a < 2 ^ 32 ∧ bits a 30 23 = 0 ∧ bits a 22 0 + 8 ≤ 0x800000 ∧ ((s.dev.pc w.k < 0x6000 ∨ s.dev.poolOwner a = some (s.dev.f rRCK_OPEN_CTRL fRCK_OPEN_CTRL_OWNER))) ∧ (s.dev.ga w + w.imm.setWidth 64).toNat = a) ∧
    (∃ (s : State) (w : Micro) (a : Nat), Fetches s w ∧ HasNext s w ∧ (s.dev.ga w).toNat = a ∧ s.dev.pc w.k < 0x6000 ∧ bits a 58 0 % 64 = 0 ∧ w.imm.toNat % 64 = 0 ∧ w.imm.toNat ≤ 4032 ∧ 1 ≤ bits a 63 61 ∧ bits a 63 61 ≤ 5 ∧ s.dev.hbmIn a 64 = true) ∧
    (∃ (s : State) (w : Micro) (a : Nat), Fetches s w ∧ HasNext s w ∧ (s.dev.ga w).toNat = a ∧ s.dev.pc w.k < 0x6000 ∧ bits a 58 0 % 64 = 0 ∧ w.imm.toNat % 64 = 0 ∧ w.imm.toNat ≤ 4032 ∧ 1 ≤ bits a 63 61 ∧ bits a 63 61 ≤ 5 ∧ s.dev.hbmIn a 64 = true ∧ s.dev.frozen (bits a 60 59) = false ∧ bits a 63 61 ≠ 2 ∧ bits a 63 61 ≠ 4) ∧
    (∃ (s : State) (k : Fin 128) (tag : BitVec 32) (stack : Nat) (a : Nat) (data : List Byte), ((s.dev.reck k).tags.find? fun t => decide (t.1 = tag.toNat)) = some (tag.toNat, .read stack a data) ∧ s.dev.frozen stack = false) ∧
    (∃ (s : State) (k : Fin 128) (tag : BitVec 32) (stack : Nat) (a : Nat) (data : List Byte), ((s.dev.reck k).tags.find? fun t => decide (t.1 = tag.toNat)) = some (tag.toNat, .read stack a data) ∧ s.dev.frozen stack = true) ∧
    (∃ (s : State) (w : Micro) (sc : Nat) (a : Nat), Fetches s w ∧ HasNext s w ∧ s.dev.pc w.k < 0x6000 ∧ (s.dev.ga w).toNat = sc ∧ sc % 8 = 0 ∧ sc + 64 ≤ 4096 ∧ beAt (s.dev.scratch w.k sc 64) 0 4 = a ∧ w.imm.toNat % 2048 = 0 ∧ w.imm.toNat / 2048 < 20 ∧ a / 0x100000 = w.imm.toNat / 2048 ∧ a % 4 = 0) ∧
    (∃ (s : State) (w : Micro) (sc : Nat) (a : Nat) (len : _), Fetches s w ∧ HasNext s w ∧ s.dev.pc w.k < 0x6000 ∧ (s.dev.ga w).toNat = sc ∧ sc % 8 = 0 ∧ sc + 64 ≤ 4096 ∧ beAt (s.dev.scratch w.k sc 64) 0 4 = a ∧ w.imm.toNat = 20 * 2048 ∧ beAt (s.dev.scratch w.k sc 64) 4 2 = len ∧ len % 64 = 0 ∧ a < 2 ^ 32 ∧ bits a 30 23 = 0 ∧ bits a 22 0 + len ≤ 0x800000) ∧
    (∃ (s : State) (k : Fin 128) (tag : BitVec 32) (a : Nat) (answer : List Byte), ((s.dev.reck k).tags.find? fun t => decide (t.1 = tag.toNat)) = some (tag.toNat, .block a answer)) :=
  ⟨⟨testState ({} : Dev), testWord, 0, by decide⟩,
   ⟨testState ({} : Dev), testWord, 0, by decide⟩,
   ⟨testState ({} : Dev), testWord, 0, by decide⟩,
   ⟨testState (let d := (((((({} : Dev).sf (rRCK_K_STATUS 127) fRCK_K_STATUS_KSTATE 1).sf rMEM_STATUS fMEM_STATUS_COMMITTED 1).sf rMEM_PART_A fMEM_PART_A_FLOW 1).sf rMEM_PART_A fMEM_PART_A_SPILL 1).sf rMEM_PART_A fMEM_PART_A_TALLY 1); ({ d with rck := { d.rck with recks := [(127, { g := [(30, 1 <<< 61)] })] } } : Dev)).testLive, { k := 127, d := 31, a := 30, imm := 4032, ecc := 0 }, 2 ^ 61, by decide⟩,
   ⟨testState (let d := (((((({} : Dev).sf (rRCK_K_STATUS 127) fRCK_K_STATUS_KSTATE 1).sf rMEM_STATUS fMEM_STATUS_COMMITTED 1).sf rMEM_PART_A fMEM_PART_A_FLOW 1).sf rMEM_PART_A fMEM_PART_A_SPILL 1).sf rMEM_PART_A fMEM_PART_A_TALLY 1); ({ d with rck := { d.rck with recks := [(127, { g := [(30, 1 <<< 61)] })] } } : Dev)).testLive, { k := 127, d := 31, a := 30, imm := 4032, ecc := 0 }, 2 ^ 61, by decide⟩,
   ⟨testState (let d := ({} : Dev); ({ d with rck := { d.rck with recks := [(127, { tags := [(5, .read 3 4032 [])] })] } } : Dev)).testLive, 127, 5, 3, 4032, [], by decide⟩,
   ⟨testState ((let d := ({} : Dev); ({ d with rck := { d.rck with recks := [(127, { tags := [(5, .read 3 4032 [])] })] } } : Dev)).sf (rMEM_S_STATUS 3) fMEM_S_STATUS_FROZEN 1).testLive, 127, 5, 3, 4032, [], by decide⟩,
   ⟨testState ({} : Dev), testWord, 0, 0, by decide⟩,
   ⟨testState (let d := (({} : Dev).sf (rRCK_K_STATUS 127) fRCK_K_STATUS_KSTATE 1); ({ d with rck := { d.rck with recks := [(127, { scratch := [(4, 0x80)] })] } } : Dev)).testLive, { k := 127, d := 31, a := 30, imm := 0xA000, ecc := 0 }, 0, 0, 0x8000, by decide⟩,
   ⟨testState (let d := ({} : Dev); ({ d with rck := { d.rck with recks := [(127, { tags := [(5, .block 4088 [])] })] } } : Dev)).testLive, 127, 5, 4088, [], by decide⟩⟩

/-- Premises of O41 met together, clause by clause. -/
theorem witness_ScratchPoolAndHbm_2 : ∃ (s : State) (w : Micro) (a : Nat) (len : Nat) (port : Nat) (b : List Byte), Fetches s w ∧ HasNext s w ∧ (s.dev.ga w).toNat = a ∧ w.imm.toNat % 8 = 0 ∧ w.imm.toNat + 16 ≤ 4096 ∧ s.dev.scratch w.k w.imm.toNat 16 = b ∧ beAt b 0 1 = 0 ∧ beAt b 2 2 = port ∧ port < 512 ∧ beAt b 4 2 = len ∧ 64 ≤ len ∧ len ≤ 16383 ∧ a < 2 ^ 32 ∧ bits a 30 23 = 0 ∧ bits a 22 0 + len ≤ 0x800000 :=
  ⟨testState (let d := (({} : Dev).sf (rRCK_K_STATUS 127) fRCK_K_STATUS_KSTATE 1); ({ d with rck := { d.rck with recks := [(127, { scratch := [(5, 64)] })] } } : Dev)).testLive, { k := 127, d := 31, a := 30, imm := 0, ecc := 0 }, 0, 64, 0, [0, 0, 0, 0, 0, 64] ++ zeros 10, by decide⟩

/-- Premises of O42 met together, clause by clause. -/
theorem witness_MicroFaultsTimeAndEvents_1 :
    (∃ (s : State) (w : Micro), Fetches s w ∧ s.dev.kTask w.k = none ∧ HasNext s w ∧ 32 ≤ w.imm.toNat) ∧
    (∃ (s : State) (w : Micro), Fetches s w ∧ s.dev.kTask w.k = none ∧ HasNext s w ∧ w.imm.toNat % 32 ≠ 0) ∧
    (∃ (s : State) (w : Micro), Fetches s w ∧ s.dev.kTask w.k = none ∧ HasNext s w ∧ 64 ≤ w.imm.toNat) ∧
    (∃ (s : State) (w : Micro), Fetches s w ∧ s.dev.kTask w.k = none ∧ HasNext s w ∧ 4096 ≤ w.imm.toNat) ∧
    (∃ (s : State) (w : Micro), Fetches s w ∧ s.dev.kTask w.k = none ∧ ¬ HasNext s w) ∧
    (∃ (s : State) (w : Micro), Fetches s w ∧ s.dev.kTask w.k = none ∧ 0x6000 ≤ s.dev.pc w.k ∧ w.imm.toNat % 2 ^ 15 < 0x6000) ∧
    (∃ (s : State) (w : Micro), Fetches s w ∧ s.dev.kTask w.k = none ∧ (w.d.val < 1 ∨ 26 < w.d.val)) ∧
    (∃ (s : State) (w : Micro), Fetches s w ∧ s.dev.kTask w.k = none ∧ HasNext s w ∧ 5 ≤ w.imm.toNat / 4096) ∧
    (∃ (s : State) (w : Micro), Fetches s w ∧ s.dev.kTask w.k = none ∧ HasNext s w ∧ w.imm.toNat / 4096 = 0) ∧
    (∃ (s : State) (w : Micro), Fetches s w ∧ s.dev.kTask w.k = none) :=
  ⟨⟨testState ({} : Dev), { testWord with imm := 32 }, by decide⟩,
   ⟨testState ({} : Dev), { testWord with imm := 1 }, by decide⟩,
   ⟨testState ({} : Dev), { testWord with imm := 64 }, by decide⟩,
   ⟨testState ({} : Dev), { testWord with imm := 4096 }, by decide⟩,
   ⟨testState ((({} : Dev).sf (rRCK_K_STATUS 0) fRCK_K_STATUS_KSTATE 1).sf (rRCK_K_STATUS 0) fRCK_K_STATUS_PC 0x7FFF).testLive, testWord, by decide⟩,
   ⟨testState ((({} : Dev).sf (rRCK_K_STATUS 0) fRCK_K_STATUS_KSTATE 1).sf (rRCK_K_STATUS 0) fRCK_K_STATUS_PC 0x6000).testLive, { testWord with imm := 0x5FFF }, by decide⟩,
   ⟨testState ({} : Dev), { testWord with d := 27 }, by decide⟩,
   ⟨testState ({} : Dev), { testWord with imm := 0x5000 }, by decide⟩,
   ⟨testState ({} : Dev), testWord, by decide⟩,
   ⟨testState ({} : Dev), testWord, by decide⟩⟩

/-- Premises of O42 met together, clause by clause. -/
theorem witness_MicroFaultsTimeAndEvents_2 :
    (∃ (s : State) (w : Micro), Fetches s w ∧ s.dev.kTask w.k = none ∧ HasNext s w) ∧
    (∃ (s : State) (w : Micro), Fetches s w ∧ s.dev.kTask w.k = none ∧ HasNext s w ∧ (s.dev.ga w + w.imm.signExtend 64).toNat % 8 ≠ 0) ∧
    (∃ (s : State) (w : Micro), Fetches s w ∧ s.dev.kTask w.k = none ∧ HasNext s w ∧ 5 < w.imm.toNat) ∧
    (∃ (s : State) (w : Micro), Fetches s w ∧ s.dev.kTask w.k = none ∧ HasNext s w ∧ w.imm.toNat / 4096 % 4 = 0) ∧
    (∃ (s : State) (w : Micro), Fetches s w ∧ s.dev.kTask w.k = none ∧ HasNext s w ∧ 0x6000 ≤ s.dev.pc w.k ∧ w.imm.toNat % 256 < 0xF0) ∧
    (∃ (s : State) (w : Micro), s.dev.kState w.k = 1 ∧ s.dev.kTask w.k = none ∧ ((w.ecc.val = 2 ∨ (w.k.val / 64, s.dev.pc w.k) ∈ s.dev.rck.csBad))) ∧
    (∃ (s : State) (w : Micro), Fetches s w ∧ HasNext s w ∧ w.d.val ≠ 0 ∧ w.imm.toNat = 0) ∧
    (∃ (s : State) (w : Micro), Fetches s w ∧ HasNext s w ∧ w.d.val ≠ 0 ∧ w.imm.toNat = 1) ∧
    (∃ (s : State) (w : Micro) (i : _) (t : _), Fetches s w ∧ HasNext s w ∧ w.d.val ≠ 0 ∧ w.imm.toNat = 3 ∧ s.dev.kTask w.k = some (i, t)) ∧
    (∃ (s : State) (w : Micro), Fetches s w ∧ HasNext s w ∧ w.imm.toNat / 4096 % 4 = 1) :=
  ⟨⟨testState ({} : Dev), testWord, by decide⟩,
   ⟨testState ({} : Dev), { testWord with imm := 1 }, by decide⟩,
   ⟨testState ({} : Dev), { testWord with imm := 6 }, by decide⟩,
   ⟨testState ({} : Dev), testWord, by decide⟩,
   ⟨testState ((({} : Dev).sf (rRCK_K_STATUS 0) fRCK_K_STATUS_KSTATE 1).sf (rRCK_K_STATUS 0) fRCK_K_STATUS_PC 0x6000).testLive, { testWord with imm := 0xEF }, by decide⟩,
   ⟨testState (({} : Dev).sf (rRCK_K_STATUS 127) fRCK_K_STATUS_KSTATE 1).testLive, { k := 127, d := 0, a := 0, imm := 0, ecc := 2 }, by decide⟩,
   ⟨testState ({} : Dev), testWord, by decide⟩,
   ⟨testState ({} : Dev), { testWord with imm := 1 }, by decide⟩,
   ⟨testState (let d := (((({} : Dev).sf (rRCK_K_STATUS 127) fRCK_K_STATUS_KSTATE 1).sf (rRCK_K_TASK 127) fRCK_K_TASK_VALID 1).sf (rRCK_K_TASK 127) fRCK_K_TASK_INDEX 16383); ({ d with rck := { d.rck with die1 := { tasks := [(16383, some ({ type := 1, gen := 0, deadline := 0, budget := 1, st := .running 127 } : Task))] } } } : Dev)).testLive, { k := 127, d := 31, a := 30, imm := 3, ecc := 0 }, 16383, ({ type := 1, gen := 0, deadline := 0, budget := 1, st := .running 127 } : Task), by decide⟩,
   ⟨testState ({} : Dev), { testWord with imm := 0x1000 }, by decide⟩⟩

/-- Premises of O42 met together, clause by clause. -/
theorem witness_MicroFaultsTimeAndEvents_3 :
    (∃ (s : State) (w : Micro) (cls : _), Fetches s w ∧ HasNext s w ∧ w.imm.toNat / 4096 % 4 = cls ∧ 2 ≤ cls) ∧
    (∃ (s : State) (w : Micro), Fetches s w ∧ HasNext s w ∧ ((s.dev.pc w.k < 0x6000 ∨ 0xF0 ≤ w.imm.toNat % 256))) :=
  ⟨⟨testState ({} : Dev), { testWord with imm := 0x3000 }, 3, by decide⟩,
   ⟨testState ({} : Dev), testWord, by decide⟩⟩

/-- Premises of O43 met together, clause by clause. -/
theorem witness_GrantsAndAborts :
    (∃ (s : State) (die : Fin 2) (i : Nat) (k : Nat) (t : Task), (i, t) ∈ (s.dev.rckD die).all ∧ (s.dev.rckD die).task i = some t ∧ t.st = .ready ∧ s.dev.mayBegin t = true ∧ s.dev.safeMay t = true ∧ t.ops.length = 4 ∧ i < 16384 ∧ t.gen < 256 ∧ ((∀ j u, (j, u) ∈ (s.dev.rckD die).all → u.st = .ready → s.dev.mayBegin u = true → s.dev.safeMay u = true → j < 16384 ∧ (t.deadline < u.deadline ∨ t.deadline = u.deadline ∧ i ≤ j ∧ (i = j → t = u)))) ∧ 64 * die.val ≤ k ∧ k < 64 * die.val + 64 ∧ s.dev.kState k = 0 ∧ s.dev.b (rRCK_K_TASK k) fRCK_K_TASK_VALID = false ∧ t.excluded ≠ some k ∧ ((∀ j, 64 * die.val ≤ j → j < k → s.dev.kState j = 0 → s.dev.b (rRCK_K_TASK j) fRCK_K_TASK_VALID = false → t.excluded = some j)) ∧ 1 ≤ (s.dev.reck k).getD ∧ (s.dev.reck k).getD ≤ 26) ∧
    (∃ (s : State) (die : Fin 2), ((∀ j u, (j, u) ∈ (s.dev.rckD die).all → u.st ≠ .ready))) ∧
    (∃ (s : State) (die : Fin 2) (i : Fin 16384) (k : Fin 128) (t : Task), (s.dev.rckD die).task i = some t ∧ t.st = .running k ∧ s.dev.trk.tick < t.dispTick + t.budget) ∧
    (∃ (s : State) (die : Fin 2) (i : Fin 16384) (k : Fin 128) (t : Task), (s.dev.rckD die).task i = some t ∧ t.st = .running k ∧ t.dispTick + t.budget ≤ s.dev.trk.tick ∧ t.reissued = false ∧ bits (s.dev.entry t.type) 30 30 = 0 ∧ ((t.type < 0x40 → s.dev.b (rRCK_TYPE_CFG t.type) fRCK_TYPE_CFG_NO_REISSUE = false))) ∧
    (∃ (s : State) (die : Fin 2) (i : Fin 16384) (k : Fin 128) (t : Task), (s.dev.rckD die).task i = some t ∧ t.st = .running k ∧ t.dispTick + t.budget ≤ s.dev.trk.tick ∧ t.reissued = true ∧ t.cmd = none ∧ (s.dev.rckD die).held = []) ∧
    (∃ (s : State) (k : Fin 128), s.dev.kState k ≠ 3) ∧
    (∃ (s : State) (k : Fin 128), s.dev.kState k = 3) :=
  ⟨⟨testState (let d := (({} : Dev).sf (rRCK_K_STATUS 0) fRCK_K_STATUS_KSTATE 0); ({ d with rck := { d.rck with die0 := { tasks := [(16383, some ({ type := 1, gen := 0, deadline := 0, budget := 1, st := .ready } : Task))] } } } : Dev)).testLive, 0, 16383, 0, ({ type := 1, gen := 0, deadline := 0, budget := 1, st := .ready } : Task), by decide, by decide, by decide, by decide, by decide, by decide, by decide, by decide, fun j u h _ _ _ => by have h1 : (j, u) = (16383, ({ type := 1, gen := 0, deadline := 0, budget := 1, st := .ready } : Task)) := (List.mem_singleton.mp h); cases h1; exact ⟨by decide, .inr ⟨rfl, Nat.le_refl _, fun _ => rfl⟩⟩, by decide, by decide, by decide, by decide, by decide, fun j _ h => by omega, by decide, by decide⟩,
   ⟨testState ({} : Dev), 0, fun j u h => absurd h (by intro h; exact nomatch h)⟩,
   ⟨testState (let d := ({} : Dev); ({ d with rck := { d.rck with die1 := { tasks := [(16383, some ({ type := 1, gen := 0, deadline := 0, budget := 1, st := .running 127 } : Task))] } } } : Dev)).testLive, 1, 16383, 127, ({ type := 1, gen := 0, deadline := 0, budget := 1, st := .running 127 } : Task), by decide⟩,
   ⟨testState (let d := (let d := ({} : Dev); ({ d with rck := { d.rck with die1 := { tasks := [(16383, some ({ type := 0x40, gen := 0, deadline := 0, budget := 1, st := .running 127 } : Task))] } } } : Dev)); ({ d with trk := { d.trk with tick := 1 } } : Dev)).testLive, 1, 16383, 127, ({ type := 0x40, gen := 0, deadline := 0, budget := 1, st := .running 127 } : Task), by decide⟩,
   ⟨testState (let d := (let d := ({} : Dev); ({ d with rck := { d.rck with die1 := { tasks := [(16383, some ({ type := 1, gen := 0, deadline := 0, budget := 1, st := .running 127, reissued := true } : Task))] } } } : Dev)); ({ d with trk := { d.trk with tick := 1 } } : Dev)).testLive, 1, 16383, 127, ({ type := 1, gen := 0, deadline := 0, budget := 1, st := .running 127, reissued := true } : Task), by decide⟩,
   ⟨testState ({} : Dev), 0, by decide⟩,
   ⟨testState (({} : Dev).sf (rRCK_K_STATUS 127) fRCK_K_STATUS_KSTATE 3).testLive, 127, by decide⟩⟩

/-- Premises of O44 met together, clause by clause. -/
theorem witness_TasksOperandsAndReplies_1 :
    (∃ (used : List Nat), used.length < 16384) ∧
    (∃ (s : State) (w : Micro) (a : Nat) (b : List Byte), Fetches s w ∧ HasNext s w ∧ w.d.val ≠ 0 ∧ (s.dev.ga w + w.imm.setWidth 64).toNat = a ∧ a % 8 = 0 ∧ a + 48 ≤ 4096 ∧ s.dev.scratch w.k a 48 = b ∧ s.dev.pc w.k < 0x6000 ∧ userType (beAt b 0 2) = false ∧ s.dev.taskRoom (w.k.val / 64) (decide (bits (beAt b 3 1) 7 7 = 1)) = true) ∧
    (∃ (s : State) (w : Micro) (a : Nat) (b : List Byte), Fetches s w ∧ HasNext s w ∧ w.d.val ≠ 0 ∧ (s.dev.ga w + w.imm.setWidth 64).toNat = a ∧ a % 8 = 0 ∧ a + 48 ≤ 4096 ∧ s.dev.scratch w.k a 48 = b ∧ s.dev.pc w.k < 0x6000 ∧ userType (beAt b 0 2) = false ∧ s.dev.taskRoom (w.k.val / 64) (decide (bits (beAt b 3 1) 7 7 = 1)) = false) ∧
    (∃ (s : State) (tag : BitVec 32) (t : Task), (s.dev.rckD (bits tag.toNat 31 31)).task (bits tag.toNat 22 9) = some t ∧ t.gen = bits tag.toNat 30 23 ∧ bits t.present (bits tag.toNat 1 0) (bits tag.toNat 1 0) = 0 ∧ t.st = .waiting) ∧
    (∃ (s : State) (tag : BitVec 32) (t : Task), (s.dev.rckD (bits tag.toNat 31 31)).task (bits tag.toNat 22 9) = some t ∧ t.gen ≠ bits tag.toNat 30 23) ∧
    (∃ (s : State) (tag : BitVec 32) (t : Task), (s.dev.rckD (bits tag.toNat 31 31)).task (bits tag.toNat 22 9) = some t ∧ t.gen = bits tag.toNat 30 23 ∧ bits t.present (bits tag.toNat 1 0) (bits tag.toNat 1 0) = 1) ∧
    (∃ (s : State) (w : Micro), Fetches s w ∧ HasNext s w) ∧
    (∃ (s : State) (w : Micro) (i : Nat) (t : Task), Fetches s w ∧ s.dev.kTask w.k = some (i, t) ∧ t.cmd = none ∧ (s.dev.rckD (w.k.val / 64)).held = []) ∧
    (∃ (s : State) (w : Micro) (i : Nat) (t : Task) (c : CmdCtx) (r : Fin 16), Fetches s w ∧ HasNext s w ∧ s.dev.kTask w.k = some (i, t) ∧ t.cmd = some c ∧ w.imm.toNat % 8 = 0 ∧ w.imm.toNat + 16 + beAt (s.dev.scratch w.k w.imm.toNat 16) 4 2 ≤ 4096 ∧ t.replied = false ∧ c.src = .ring r ∧ c.dead = false ∧ bits c.flags 4 4 = 0 ∧ s.dev.b (rDMA_CR_CFG r) fDMA_CR_CFG_EN = true) ∧
    (∃ (s : State) (w : Micro) (i : Nat) (t : Task) (c : CmdCtx), Fetches s w ∧ HasNext s w ∧ s.dev.kTask w.k = some (i, t) ∧ t.cmd = some c ∧ w.imm.toNat % 8 = 0 ∧ w.imm.toNat + 16 + beAt (s.dev.scratch w.k w.imm.toNat 16) 4 2 ≤ 4096 ∧ t.replied = true) :=
  ⟨⟨[], by decide⟩,
   ⟨testState (({} : Dev).sf (rRCK_K_STATUS 127) fRCK_K_STATUS_KSTATE 1).testLive, { k := 127, d := 31, a := 30, imm := 4048, ecc := 0 }, 4048, zeros 48, by decide⟩,
   ⟨testState (let d := ((({} : Dev).sf (rRCK_K_STATUS 127) fRCK_K_STATUS_KSTATE 1).sf (rRCK_D_RESV 1) fRCK_D_RESV_ENTRIES 16383); ({ d with rck := { d.rck with die1 := { tasks := [(16383, some ({ type := 1, gen := 0, deadline := 0, budget := 1, st := .ready } : Task))] } } } : Dev)).testLive, { k := 127, d := 31, a := 30, imm := 4048, ecc := 0 }, 4048, zeros 48, by decide⟩,
   ⟨testState (let d := ({} : Dev); ({ d with rck := { d.rck with die0 := { tasks := [(0, some ({ type := 1, gen := 0, deadline := 0, budget := 1, st := .waiting, required := 1 } : Task))] } } } : Dev)).testLive, 0, ({ type := 1, gen := 0, deadline := 0, budget := 1, st := .waiting, required := 1 } : Task), by decide⟩,
   ⟨testState (let d := ({} : Dev); ({ d with rck := { d.rck with die0 := { tasks := [(0, some ({ type := 1, gen := 1, deadline := 0, budget := 1, st := .waiting, required := 1 } : Task))] } } } : Dev)).testLive, 0, ({ type := 1, gen := 1, deadline := 0, budget := 1, st := .waiting, required := 1 } : Task), by decide⟩,
   ⟨testState (let d := ({} : Dev); ({ d with rck := { d.rck with die0 := { tasks := [(0, some ({ type := 1, gen := 0, deadline := 0, budget := 1, st := .waiting, required := 1, present := 1 } : Task))] } } } : Dev)).testLive, 0, ({ type := 1, gen := 0, deadline := 0, budget := 1, st := .waiting, required := 1, present := 1 } : Task), by decide⟩,
   ⟨testState ({} : Dev), testWord, by decide⟩,
   ⟨testState (let d := (((({} : Dev).sf (rRCK_K_STATUS 127) fRCK_K_STATUS_KSTATE 1).sf (rRCK_K_TASK 127) fRCK_K_TASK_VALID 1).sf (rRCK_K_TASK 127) fRCK_K_TASK_INDEX 16383); ({ d with rck := { d.rck with die1 := { tasks := [(16383, some ({ type := 1, gen := 0, deadline := 0, budget := 1, st := .running 127 } : Task))] } } } : Dev)).testLive, { k := 127, d := 31, a := 30, imm := 0, ecc := 0 }, 16383, ({ type := 1, gen := 0, deadline := 0, budget := 1, st := .running 127 } : Task), by decide⟩,
   ⟨testState ((let d := (((({} : Dev).sf (rRCK_K_STATUS 127) fRCK_K_STATUS_KSTATE 1).sf (rRCK_K_TASK 127) fRCK_K_TASK_VALID 1).sf (rRCK_K_TASK 127) fRCK_K_TASK_INDEX 16383); ({ d with rck := { d.rck with die1 := { tasks := [(16383, some ({ type := 1, gen := 0, deadline := 0, budget := 1, st := .running 127, cmd := some ({ src := .ring 15, tag := 0, flags := 0, opcode := 1, batch := 0, params := [] } : CmdCtx) } : Task))] } } } : Dev)).sf (rDMA_CR_CFG 15) fDMA_CR_CFG_EN 1).testLive, { k := 127, d := 31, a := 30, imm := 4080, ecc := 0 }, 16383, ({ type := 1, gen := 0, deadline := 0, budget := 1, st := .running 127, cmd := some ({ src := .ring 15, tag := 0, flags := 0, opcode := 1, batch := 0, params := [] } : CmdCtx) } : Task), ({ src := .ring 15, tag := 0, flags := 0, opcode := 1, batch := 0, params := [] } : CmdCtx), 15, by decide⟩,
   ⟨testState (let d := (((({} : Dev).sf (rRCK_K_STATUS 127) fRCK_K_STATUS_KSTATE 1).sf (rRCK_K_TASK 127) fRCK_K_TASK_VALID 1).sf (rRCK_K_TASK 127) fRCK_K_TASK_INDEX 16383); ({ d with rck := { d.rck with die1 := { tasks := [(16383, some ({ type := 1, gen := 0, deadline := 0, budget := 1, st := .running 127, cmd := some ({ src := .ring 15, tag := 0, flags := 0, opcode := 1, batch := 0, params := [] } : CmdCtx), replied := true } : Task))] } } } : Dev)).testLive, { k := 127, d := 31, a := 30, imm := 4080, ecc := 0 }, 16383, ({ type := 1, gen := 0, deadline := 0, budget := 1, st := .running 127, cmd := some ({ src := .ring 15, tag := 0, flags := 0, opcode := 1, batch := 0, params := [] } : CmdCtx), replied := true } : Task), ({ src := .ring 15, tag := 0, flags := 0, opcode := 1, batch := 0, params := [] } : CmdCtx), by decide⟩⟩

/-- Premises of O44 met together, clause by clause. -/
theorem witness_TasksOperandsAndReplies_2 :
    (∃ (s : State) (die : Fin 2) (x : _) (l : _), Live s ∧ (s.dev.par die).rmd = x :: l ∧ (s.dev.fr x.frame).ended = true ∧ (s.dev.fr x.frame).bad ≠ 0 ∧ s.dev.b rRCK_OPEN_CTRL fRCK_OPEN_CTRL_RMD_USER = false) ∧
    (∃ (s : State) (die : Fin 2) (i : Nat) (t : Task), Live s ∧ ((s.dev.rckD die).all.find? fun x => decide (x.2.type = 0x03) && x.2.cmd.isNone) = some (i, t) ∧ (s.dev.rckD die).held = []) ∧
    (∃ (s : State) (die : Fin 2) (a : Fin 32768), (1 - die.val, a.val) ∉ s.dev.rck.csBad) ∧
    (∃ (s : State) (die : Fin 2) (a : Fin 32768), (1 - die.val, a.val) ∈ s.dev.rck.csBad) ∧
    (∃ (s : State), s.dev.b rRCK_CTRL fRCK_CTRL_CS_SCRUB_EN = true) ∧
    (∃ (s : State), s.dev.b rRCK_CTRL fRCK_CTRL_CS_SCRUB_EN = false) :=
  ⟨⟨testState (let d := ({} : Dev); ({ d with path := { d.path with frames := [(0, some { port := 0, bytes := [], total := 64, ts := 0, unc := 0, ended := true, bad := 1 })], par0 := { rmd := [({ frame := 0, port := 0, profile := 0, flags := 0, reason := 0, depth := 0, steps := 0, lastState := 0, handle := 0, cells := 0 } : RmdDesc)] } } } : Dev)).testLive, 0, ({ frame := 0, port := 0, profile := 0, flags := 0, reason := 0, depth := 0, steps := 0, lastState := 0, handle := 0, cells := 0 } : RmdDesc), [], by decide⟩,
   ⟨testState (let d := ({} : Dev); ({ d with rck := { d.rck with die1 := { tasks := [(16383, some ({ type := 3, gen := 0, deadline := 0, budget := 1, st := .ready } : Task))] } } } : Dev)).testLive, 1, 16383, ({ type := 3, gen := 0, deadline := 0, budget := 1, st := .ready } : Task), by decide⟩,
   ⟨testState ({} : Dev), 0, 0, by decide⟩,
   ⟨testState (let d := ({} : Dev); ({ d with rck := { d.rck with csBad := [(1, 32767)] } } : Dev)).testLive, 0, 32767, by decide⟩,
   ⟨testState ({} : Dev), by decide⟩,
   ⟨testState (({} : Dev).sf rRCK_CTRL fRCK_CTRL_CS_SCRUB_EN 0).testLive, by decide⟩⟩

/-- Premises of O45 met together, clause by clause. -/
theorem witness_EnergyLedger :
    (∃ (s : State), Live s) ∧
    (∃ (s : State) (col : Fin 16), Live s ∧ s.dev.lb rNRG_CTRL fNRG_CTRL_GATE_EN = true ∧ s.dev.nrg.gated.contains col.val = false ∧ (if s.dev.nrg.plan.pressure then 1 else s.dev.lf rNRG_GATE fNRG_GATE_IDLE_RODS) ≤ kvGet 0 s.dev.nrg.idle col) ∧
    (∃ (v : BitVec 32), 300 ≤ bits v.toNat 9 0 ∧ bits v.toNat 9 0 ≤ 950) ∧
    (∃ (v : BitVec 32), (bits v.toNat 9 0 < 300 ∨ 950 < bits v.toNat 9 0)) ∧
    (∃ (s : State) (w : BitVec 16), Live s ∧ 300 ≤ w.toNat ∧ w.toNat ≤ 950) ∧
    (∃ (s : State) (w : BitVec 16), Live s ∧ (w.toNat < 300 ∨ 950 < w.toNat)) ∧
    (∃ (s : State) (n : BitVec 16), Live s ∧ n.toNat ≠ 0 ∧ n.toNat ≤ 1000) :=
  ⟨⟨testState ({} : Dev), by decide⟩,
   ⟨testState (let d := (({} : Dev).sf rNRG_CTRL fNRG_CTRL_GATE_EN 1); ({ d with nrg := { d.nrg with idle := [(15, 1000)] } } : Dev)).testLive, 15, by decide⟩,
   ⟨950, by decide⟩,
   ⟨0, by decide⟩,
   ⟨testState ({} : Dev), 300, by decide⟩,
   ⟨testState ({} : Dev), 0, by decide⟩,
   ⟨testState ({} : Dev), 1000, by decide⟩⟩

/-- Premises of O46 met together, clause by clause. -/
theorem witness_RingsAndResets_1 :
    (∃ (s : State) (r : Fin 16) (bytes : List Byte), s.dev.fetchTurn = some r.val ∧ cpVersion bytes ≠ 1 ∧ 64 ≤ bytes.length) ∧
    (∃ (s : State) (r : Fin 16) (bytes : List Byte), s.dev.fetchTurn = some r.val ∧ 32 ≤ s.dev.slotSize r ∧ cpVersion bytes = 1 ∧ cpFlags bytes = 0 ∧ beAt bytes 10 2 = 0 ∧ beAt bytes 24 8 = 0 ∧ cpDeck bytes = 0 ∧ cpLen bytes = 0 ∧ cpOpcode bytes = 0x0101 ∧ cpTarget bytes = 0xFFFF ∧ s.dev.entryValid 0x0101 = true ∧ 64 ≤ bytes.length) ∧
    (∃ (s : State) (r : Fin 16), s.dev.fetchTurn = some r.val) ∧
    (∃ (s : State) (r : Fin 16), s.dev.fetchTurn ≠ some r.val) ∧
    (∃ (s : State) (r : Fin 16) (v : BitVec 32), (v.toNat + 2 ^ 32 - s.dev.rn (rDMA_CR_CONS r)) % 2 ^ 32 ≤ 2 ^ s.dev.f (rDMA_CR_CFG r) fDMA_CR_CFG_SIZE_LOG2) ∧
    (∃ (s : State) (r : Fin 16) (v : BitVec 32), 2 ^ s.dev.f (rDMA_CR_CFG r) fDMA_CR_CFG_SIZE_LOG2 < (v.toNat + 2 ^ 32 - s.dev.rn (rDMA_CR_CONS r)) % 2 ^ 32) ∧
    (∃ (s : State) (r : Fin 16) (v : BitVec 32), (v.toNat + 2 ^ 32 - s.dev.rn (rDMA_RR_RD r)) % 2 ^ 32 ≤ (s.dev.rn (rDMA_RR_WR r) + 2 ^ 32 - s.dev.rn (rDMA_RR_RD r)) % 2 ^ 32) ∧
    (∃ (s : State) (r : Fin 16) (v : BitVec 32), (s.dev.rn (rDMA_RR_WR r) + 2 ^ 32 - s.dev.rn (rDMA_RR_RD r)) % 2 ^ 32 < (v.toNat + 2 ^ 32 - s.dev.rn (rDMA_RR_RD r)) % 2 ^ 32) ∧
    (∃ (s : State) (x : Relayed) (l : _), s.dev.host.relayed = x :: l ∧ x.deck + s.dev.f rDMA_CMD_CFG fDMA_CMD_CFG_RELAY_DECKS ≤ s.dev.deck) ∧
    (∃ (s : State), (∀ x ∈ s.dev.host.relayed, s.dev.deck < x.deck + s.dev.f rDMA_CMD_CFG fDMA_CMD_CFG_RELAY_DECKS)) :=
  ⟨⟨testState (((((((({} : Dev).sf rDMA_CTRL fDMA_CTRL_CMD_EN 1).sf rOTP_BOOT_STATUS fOTP_BOOT_STATUS_COMMAND_READY 1).sf (rDMA_CR_CFG 0) fDMA_CR_CFG_EN 1).sf (rDMA_CR_CFG 0) fDMA_CR_CFG_SIZE_LOG2 4).sf (rDMA_CR_CFG 0) fDMA_CR_CFG_SLOT_LOG2 6).sf (rDMA_CR_CFG 0) fDMA_CR_CFG_MAX_OUT 4).wn (rDMA_CR_PROD 0) 1).testLive, 0, zeros 64, by decide⟩,
   ⟨testState (let d := (((((((({} : Dev).sf rDMA_CTRL fDMA_CTRL_CMD_EN 1).sf rOTP_BOOT_STATUS fOTP_BOOT_STATUS_COMMAND_READY 1).sf (rDMA_CR_CFG 0) fDMA_CR_CFG_EN 1).sf (rDMA_CR_CFG 0) fDMA_CR_CFG_SIZE_LOG2 4).sf (rDMA_CR_CFG 0) fDMA_CR_CFG_SLOT_LOG2 6).sf (rDMA_CR_CFG 0) fDMA_CR_CFG_MAX_OUT 4).wn (rDMA_CR_PROD 0) 1); ({ d with rck := { d.rck with entries := [(0x101, 0x80000000)] } } : Dev)).testLive, 0, ([1, 0, 1, 1, 0, 0, 0xFF, 0xFF] ++ zeros 56 : List Byte), by decide⟩,
   ⟨testState (((((((({} : Dev).sf rDMA_CTRL fDMA_CTRL_CMD_EN 1).sf rOTP_BOOT_STATUS fOTP_BOOT_STATUS_COMMAND_READY 1).sf (rDMA_CR_CFG 0) fDMA_CR_CFG_EN 1).sf (rDMA_CR_CFG 0) fDMA_CR_CFG_SIZE_LOG2 4).sf (rDMA_CR_CFG 0) fDMA_CR_CFG_SLOT_LOG2 6).sf (rDMA_CR_CFG 0) fDMA_CR_CFG_MAX_OUT 4).wn (rDMA_CR_PROD 0) 1).testLive, 0, by decide⟩,
   ⟨testState ({} : Dev), 0, by decide⟩,
   ⟨testState ({} : Dev), 0, 0, by decide⟩,
   ⟨testState ({} : Dev), 0, 0xFFFFFFFF, by decide⟩,
   ⟨testState ({} : Dev), 0, 0, by decide⟩,
   ⟨testState ({} : Dev), 0, 1, by decide⟩,
   ⟨testState (let d := (let d := ({} : Dev); ({ d with host := { d.host with relayed := [({ ctx := ({ src := .ring 15, tag := 0, flags := 0, opcode := 1, batch := 0, params := [] } : CmdCtx), token := 7, deck := 0 } : Relayed)] } } : Dev)); ({ d with trk := { d.trk with tick := 10000000000 } } : Dev)).testLive, ({ ctx := ({ src := .ring 15, tag := 0, flags := 0, opcode := 1, batch := 0, params := [] } : CmdCtx), token := 7, deck := 0 } : Relayed), [], by decide⟩,
   ⟨testState ({} : Dev), by decide⟩⟩

/-- Premises of O46 met together, clause by clause. -/
theorem witness_RingsAndResets_2 :
    (∃ (s : State) (id : BitVec 32) (b : Batch), kvGet none s.dev.host.batches id.toNat = some b ∧ b.commit = none ∧ b.deck + s.dev.f rDMA_CMD_CFG fDMA_CMD_CFG_BATCH_TTL ≤ s.dev.deck) ∧
    (∃ (s : State) (id : BitVec 32) (b : Batch), kvGet none s.dev.host.batches id.toNat = some b ∧ b.commit = none ∧ s.dev.deck < b.deck + s.dev.f rDMA_CMD_CFG fDMA_CMD_CFG_BATCH_TTL) ∧
    (∃ (s : State) (n : Fin 128) (v : _), (kvGet ({} : IrqSt) s.dev.irq n).waiting = true ∧ s.dev.b (rDMA_IRQ_MAP n) fDMA_IRQ_MAP_EN = true ∧ (kvGet ({} : IrqSt) s.dev.irq n).lastRod = none ∧ s.dev.f (rDMA_IRQ_MAP n) fDMA_IRQ_MAP_VECTOR = v) ∧
    (∃ (s : State) (n : Fin 128), (kvGet ({} : IrqSt) s.dev.irq n).waiting = false) :=
  ⟨⟨testState (let d := (let d := ({} : Dev); ({ d with host := { d.host with batches := [(9, some ({ ops := [], deck := 0 } : Batch))] } } : Dev)); ({ d with trk := { d.trk with tick := 10000000000 } } : Dev)).testLive, 9, ({ ops := [], deck := 0 } : Batch), by decide⟩,
   ⟨testState (let d := ({} : Dev); ({ d with host := { d.host with batches := [(9, some ({ ops := [], deck := 0 } : Batch))] } } : Dev)).testLive, 9, ({ ops := [], deck := 0 } : Batch), by decide⟩,
   ⟨(let d := (({} : Dev).sf (rDMA_IRQ_MAP 127) fDMA_IRQ_MAP_EN 1); testState { d with irq := [(127, { waiting := true })] }), 127, 0, by decide⟩,
   ⟨testState ({} : Dev), 0, by decide⟩⟩

/-- Premises of O47 met together, clause by clause. -/
theorem witness_ChannelsAndPools_1 :
    (∃ (s : State) (n : Fin 64) (v : BitVec 32), s.dev.chanState n = 0 ∧ s.dev.chanJrn n = false ∧ bits v.toNat 30 30 = 0 ∧ bits v.toNat 29 28 = 0 ∧ bits v.toNat 26 24 = 1 ∧ bits v.toNat 23 21 = 1 ∧ s.dev.rn (rDMA_CH_COUNT n) = 0 ∧ poolOk (s.dev.rdPair (rDMA_CH_SRC_LO n) (rDMA_CH_SRC_HI n)) 0 = true ∧ poolOk (s.dev.rdPair (rDMA_CH_DST_LO n) (rDMA_CH_DST_HI n)) 0 = true) ∧
    (∃ (s : State) (n : Fin 64) (v : BitVec 32), s.dev.chanState n = 0 ∧ s.dev.chanJrn n = false ∧ bits v.toNat 30 30 = 0 ∧ bits v.toNat 29 28 = 0 ∧ bits v.toNat 26 24 = 0 ∧ bits v.toNat 23 21 = 1 ∧ s.dev.rn (rDMA_CH_COUNT n) ≠ 0 ∧ poolOk (s.dev.rdPair (rDMA_CH_DST_LO n) (rDMA_CH_DST_HI n)) (s.dev.rn (rDMA_CH_COUNT n)) = true) ∧
    (∃ (s : State) (n : Fin 64) (v : BitVec 32), s.dev.chanState n = 0 ∧ s.dev.chanJrn n = false ∧ bits v.toNat 30 30 = 0 ∧ bits v.toNat 29 28 = 0 ∧ bits v.toNat 26 24 = 0 ∧ bits v.toNat 23 21 = 0) ∧
    (∃ (s : State) (n : Fin 64) (v : BitVec 32), s.dev.chanState n = 1 ∧ bits v.toNat 30 30 = 0) ∧
    (∃ (s : State) (n : Fin 64), s.dev.chanState n = 1 ∧ s.dev.f (rDMA_CH_CTRL n) fDMA_CH_CTRL_MODE = 0 ∧ s.dev.f (rDMA_CH_CTRL n) fDMA_CH_CTRL_SRC_SPACE = 0 ∧ s.dev.f (rDMA_CH_CTRL n) fDMA_CH_CTRL_DST_SPACE = 1) ∧
    (∃ (s : State) (n : Fin 64), s.dev.chanState n ≠ 1) ∧
    (∃ (s : State) (n : Fin 64) (desc : List Byte), s.dev.chanState n = 1 ∧ s.dev.f (rDMA_CH_CTRL n) fDMA_CH_CTRL_MODE = 1 ∧ beAt desc 16 4 ≠ 0 ∧ bits (beAt desc 20 2) 13 11 = 0 ∧ bits (beAt desc 20 2) 10 8 = 1 ∧ bits (beAt desc 20 2) 15 15 = 1 ∧ poolOk (beAt desc 8 8) (beAt desc 16 4) = true) ∧
    (∃ (s : State) (n : Fin 64) (desc : List Byte), s.dev.chanState n = 1 ∧ s.dev.f (rDMA_CH_CTRL n) fDMA_CH_CTRL_MODE = 2 ∧ s.dev.rn (rDMA_CH_RING_HEAD n) ≠ s.dev.rn (rDMA_CH_RING_TAIL n) ∧ beAt desc 16 4 = 0 ∧ (s.dev.chan n).hops = 0 ∧ s.dev.f (rDMA_CH_HOP n) fDMA_CH_HOP_LIMIT ≠ 1 ∧ bits (beAt desc 20 2) 14 14 = 0) ∧
    (∃ (s : State) (n : Fin 64) (v : BitVec 32), (v.toNat + 2 ^ 32 - s.dev.rn (rDMA_CH_RING_HEAD n)) % 2 ^ 32 ≤ s.dev.chanRing n) ∧
    (∃ (s : State) (n : Fin 64) (v : BitVec 32), s.dev.chanRing n < (v.toNat + 2 ^ 32 - s.dev.rn (rDMA_CH_RING_HEAD n)) % 2 ^ 32) :=
  ⟨⟨testState ({} : Dev), 63, 0x01200000, by decide⟩,
   ⟨testState (({} : Dev).wn (rDMA_CH_COUNT 63) 1).testLive, 63, 0x00200000, by decide⟩,
   ⟨testState ({} : Dev), 0, 0, by decide⟩,
   ⟨testState (({} : Dev).sf (rDMA_CH_STATUS 63) fDMA_CH_STATUS_STATE 1).testLive, 63, 0, by decide⟩,
   ⟨testState ((({} : Dev).sf (rDMA_CH_STATUS 63) fDMA_CH_STATUS_STATE 1).sf (rDMA_CH_CTRL 63) fDMA_CH_CTRL_DST_SPACE 1).testLive, 63, by decide⟩,
   ⟨testState ({} : Dev), 0, by decide⟩,
   ⟨testState ((({} : Dev).sf (rDMA_CH_STATUS 63) fDMA_CH_STATUS_STATE 1).sf (rDMA_CH_CTRL 63) fDMA_CH_CTRL_MODE 1).testLive, 63, zeros 19 ++ [1, 0x81, 0], by decide⟩,
   ⟨testState (((({} : Dev).sf (rDMA_CH_STATUS 63) fDMA_CH_STATUS_STATE 1).sf (rDMA_CH_CTRL 63) fDMA_CH_CTRL_MODE 2).wn (rDMA_CH_RING_HEAD 63) 1).testLive, 63, zeros 32, by decide⟩,
   ⟨testState ({} : Dev), 0, 0, by decide⟩,
   ⟨testState ({} : Dev), 63, 0xFFFFFFFF, by decide⟩⟩

/-- Premises of O47 met together, clause by clause. -/
theorem witness_ChannelsAndPools_2 :
    (∃ (s : State) (n : Fin 64) (cause : HaltCause) (code : _), s.dev.chanState n = 1 ∧ s.dev.f (rDMA_CH_CTRL n) fDMA_CH_CTRL_MODE ≠ 0 ∧ (cause, code) ∈ [(HaltCause.busErr, 1), (.wrFlush, 3), (.selfAddr, 4)]) ∧
    (∃ (s : State) (n : Fin 64), s.dev.chanState n = 1 ∧ s.dev.f (rDMA_CH_CTRL n) fDMA_CH_CTRL_MODE ≠ 0) ∧
    (∃ (s : State) (die : Fin 2) (v : BitVec 32), (s.dev.pool die).held = [] ∧ splitShare v.toNat 0 + splitShare v.toNat 1 + splitShare v.toNat 2 + splitShare v.toNat 3 ≤ 32 ∧ ((∀ p : Nat, p < 4 → s.dev.minSum die p ≤ splitCount v.toNat p))) ∧
    (∃ (s : State) (die : Fin 2), (s.dev.pool die).held ≠ []) ∧
    (∃ (s : State) (die : Fin 2), s.dev.minSum die 0 = 0 ∧ s.dev.minSum die 1 = 0) ∧
    (∃ (s : State) (die : Fin 2) (v : BitVec 32), s.dev.minSum die 0 = 0 ∧ s.dev.minSum die 1 = 0 ∧ v.toNat % 65536 ≤ splitCount (s.dev.rn (rPOOL_SPLIT die)) 1) ∧
    (∃ (s : State) (die : Fin 2) (v : BitVec 32), s.dev.minSum die 0 = 0 ∧ s.dev.minSum die 1 = 0 ∧ splitCount (s.dev.rn (rPOOL_SPLIT die)) 0 < v.toNat / 65536) ∧
    (∃ (s : State) (o : Fin 16) (a : BitVec 32) (die : Nat) (p : Nat) (i : Nat), s.dev.poolAt a.toNat = some (die, p, i) ∧ kvGet 0 (s.dev.pool die).held (16384 * p + i) = o.val + 1) ∧
    (∃ (s : State) (o : Fin 16) (a : BitVec 32) (die : Nat) (p : Nat) (i : Nat), s.dev.poolAt a.toNat = some (die, p, i) ∧ kvGet 0 (s.dev.pool die).held (16384 * p + i) ≠ o.val + 1) :=
  ⟨⟨testState ((({} : Dev).sf (rDMA_CH_STATUS 63) fDMA_CH_STATUS_STATE 1).sf (rDMA_CH_CTRL 63) fDMA_CH_CTRL_MODE 1).testLive, 63, .selfAddr, 4, by decide⟩,
   ⟨testState ((({} : Dev).sf (rDMA_CH_STATUS 63) fDMA_CH_STATUS_STATE 1).sf (rDMA_CH_CTRL 63) fDMA_CH_CTRL_MODE 1).testLive, 63, by decide⟩,
   ⟨testState ({} : Dev), 0, 0x08080808, by decide⟩,
   ⟨testState (let d := ({} : Dev); ({ d with host := { d.host with pool0 := { held := [(0, 1)] } } } : Dev)).testLive, 0, by decide⟩,
   ⟨testState ((List.range 16).foldl (fun d o => d.wn (rPOOL_MIN_A 0 o) 0) {}), 0, by decide⟩,
   ⟨testState ((List.range 16).foldl (fun d o => d.wn (rPOOL_MIN_A 0 o) 0) {}), 0, 1, by decide⟩,
   ⟨testState ((List.range 16).foldl (fun d o => d.wn (rPOOL_MIN_A 0 o) 0) {}), 0, 0xFFFF0000, by decide⟩,
   ⟨testState (let d := ({} : Dev); ({ d with host := { d.host with pool1 := { held := [(0, 16)] } } } : Dev)).testLive, 15, 0x80000000, 1, 0, 0, by decide⟩,
   ⟨testState ({} : Dev), 0, 0, 0, 0, 0, by decide⟩⟩

/-- Premises of O48 met together, clause by clause. -/
theorem witness_DeviceCommands_1 :
    (∃ (a : Nat) (n : Nat) (offset : BitVec 32) (count : BitVec 16), offset.toNat = a ∧ count.toNat = n ∧ a % 4 = 0 ∧ n = 1) ∧
    (∃ (a : Nat) (n : Nat) (offset : BitVec 32) (count : BitVec 16), offset.toNat = a ∧ count.toNat = n ∧ (a % 4 ≠ 0 ∨ n = 0 ∨ 64 < n)) ∧
    (∃ (s : State) (a : Nat) (offset : BitVec 32) (mask : BitVec 32), Live s ∧ offset.toNat = a ∧ a % 4 = 0 ∧ mask = BitVec.allOnes 32) ∧
    (∃ (s : State) (a : Nat) (offset : BitVec 32), Live s ∧ offset.toNat = a ∧ a % 4 = 0) ∧
    (∃ (s : State) (a : Nat) (offset : BitVec 32), Live s ∧ offset.toNat = a ∧ a % 4 ≠ 0) ∧
    (∃ (a : Nat) (m : Nat) (r : RDesc), regAt a = some r ∧ m < 2 ^ 32) ∧
    (∃ (s : State) (block : BitVec 8) (mask : BitVec 8), Live s ∧ bits mask.toNat 0 0 = 1 ∧ block.toNat ∈ [0, 1, 2, 3, 4, 5, 7, 9, 15, 16, 18, 19]) ∧
    (∃ (s : State) (block : BitVec 8) (mask : BitVec 8), Live s ∧ bits mask.toNat 0 0 = 1 ∧ block.toNat ∈ [11, 12, 13, 14, 17]) ∧
    (∃ (s : State) (block : BitVec 8) (mask : BitVec 8), Live s ∧ bits mask.toNat 0 0 = 1 ∧ block.toNat = 10 ∧ s.dev.f rJRN_STATUS fJRN_STATUS_STATE ≠ 0) ∧
    (∃ (s : State) (block : BitVec 8) (mask : BitVec 8), Live s ∧ bits mask.toNat 0 0 = 1 ∧ 19 < block.toNat) :=
  ⟨⟨0, 1, 0, 1, by decide⟩,
   ⟨0, 0, 0, 0, by decide⟩,
   ⟨testState ({} : Dev), 0, 0, BitVec.allOnes 32, by decide⟩,
   ⟨testState ({} : Dev), 0, 0, by decide⟩,
   ⟨testState ({} : Dev), 1, 1, by decide⟩,
   ⟨rTCK_CTRL, 2 ^ 32 - 1, (regAt rTCK_CTRL).get (by decide), by decide⟩,
   ⟨testState ({} : Dev), 0, 1, by decide⟩,
   ⟨testState ({} : Dev), 17, 1, by decide⟩,
   ⟨testState (({} : Dev).sf rJRN_STATUS fJRN_STATUS_STATE 1).testLive, 10, 1, by decide⟩,
   ⟨testState ({} : Dev), 20, 1, by decide⟩⟩

/-- Premises of O48 met together, clause by clause. -/
theorem witness_DeviceCommands_2 :
    (∃ (s : State) (mask : BitVec 8), Live s ∧ mask.toNat % 4 = 0) ∧
    (∃ (s : State) (id : BitVec 32), Live s ∧ kvGet none s.dev.host.batches id.toNat = none) ∧
    (∃ (s : State) (id : BitVec 32) (b : Batch), Live s ∧ kvGet none s.dev.host.batches id.toNat = some b ∧ b.commit = none ∧ b.failed = none) ∧
    (∃ (s : State) (id : BitVec 32) (b : Batch) (testState : _) (n : _), Live s ∧ kvGet none s.dev.host.batches id.toNat = some b ∧ b.commit = none ∧ b.failed = some (testState, n)) ∧
    (∃ (s : State) (id : BitVec 32) (b : Batch), Live s ∧ kvGet none s.dev.host.batches id.toNat = some b ∧ b.commit = none) ∧
    (∃ (s : State) (desc : Vector Byte 16) (frame : List Byte) (port : Nat) (a : Nat) (d1 : Dev), Live s ∧ beAt desc.toList 4 2 = frame.length ∧ 64 ≤ frame.length ∧ frame.length ≤ 16383 ∧ beAt desc.toList 2 2 = port ∧ s.dev.portExists port = true ∧ beAt desc.toList 0 1 = 0 ∧ s.dev.poolTake (dieOf port) 10 frame.length = (d1, some a)) ∧
    (∃ (s : State) (desc : Vector Byte 16) (frame : List Byte) (port : Nat) (d1 : Dev), Live s ∧ beAt desc.toList 4 2 = frame.length ∧ 64 ≤ frame.length ∧ frame.length ≤ 16383 ∧ beAt desc.toList 2 2 = port ∧ s.dev.portExists port = true ∧ beAt desc.toList 0 1 = 0 ∧ s.dev.poolTake (dieOf port) 10 frame.length = (d1, none)) ∧
    (∃ (s : State) (desc : Vector Byte 16) (frame : List Byte), Live s ∧ beAt desc.toList 4 2 ≠ frame.length) ∧
    (∃ (s : State) (offset : BitVec 16) (count : BitVec 16), 1 ≤ count.toNat ∧ count.toNat ≤ 1024 ∧ offset.toNat + count.toNat ≤ s.dev.cert.length) ∧
    (∃ (s : State) (offset : BitVec 16) (count : BitVec 16), s.dev.cert.length < offset.toNat + count.toNat) :=
  ⟨⟨testState ({} : Dev), 0, by decide⟩,
   ⟨testState ({} : Dev), 0, by decide⟩,
   ⟨testState (let d := ({} : Dev); ({ d with host := { d.host with batches := [(9, some ({ ops := [], deck := 0 } : Batch))] } } : Dev)).testLive, 9, ({ ops := [], deck := 0 } : Batch), by decide⟩,
   ⟨testState (let d := ({} : Dev); ({ d with host := { d.host with batches := [(9, some ({ ops := [], deck := 0, failed := some (2, 3) } : Batch))] } } : Dev)).testLive, 9, ({ ops := [], deck := 0, failed := some (2, 3) } : Batch), 2, 3, by decide⟩,
   ⟨testState (let d := ({} : Dev); ({ d with host := { d.host with batches := [(9, some ({ ops := [], deck := 0 } : Batch))] } } : Dev)).testLive, 9, ({ ops := [], deck := 0 } : Batch), by decide⟩,
   ⟨testState (({} : Dev).sf (rPRT_CFG 511) fPRT_CFG_MODE 1).testLive, (⟨#[0, 0, 1, 0xFF, 0, 64, 0, 0, 0, 0, 0, 0, 0, 0, 0, 0], rfl⟩ : Vector Byte 16), zeros 64, 511, ((((testState (({} : Dev).sf (rPRT_CFG 511) fPRT_CFG_MODE 1).testLive)).dev.poolTake (dieOf 511) 10 (zeros 64).length).2.get (by decide)), (((testState (({} : Dev).sf (rPRT_CFG 511) fPRT_CFG_MODE 1).testLive)).dev.poolTake (dieOf 511) 10 (zeros 64).length).1, by decide⟩,
   ⟨testState ((({} : Dev).sf (rPRT_CFG 511) fPRT_CFG_MODE 1).wn (rPOOL_SPLIT 1) 0).testLive, (⟨#[0, 0, 1, 0xFF, 0, 64, 0, 0, 0, 0, 0, 0, 0, 0, 0, 0], rfl⟩ : Vector Byte 16), zeros 64, 511, (((testState ((({} : Dev).sf (rPRT_CFG 511) fPRT_CFG_MODE 1).wn (rPOOL_SPLIT 1) 0).testLive)).dev.poolTake (dieOf 511) 10 (zeros 64).length).1, by decide⟩,
   ⟨testState ({} : Dev), (⟨#[0, 0, 1, 0xFF, 0, 64, 0, 0, 0, 0, 0, 0, 0, 0, 0, 0], rfl⟩ : Vector Byte 16), zeros 63, by decide⟩,
   ⟨testState { cert := zeros 1024 }, 0, 1024, by decide⟩,
   ⟨testState ({} : Dev), 0, 1, by decide⟩⟩

/-- Premises of O49 met together, clause by clause. -/
theorem witness_ModuleAndMicrocodeCommands_1 :
    (∃ (s : State) (cage : BitVec 8) (offset : BitVec 8) (count : BitVec 8) (data : List Byte), Live s ∧ 1 ≤ count.toNat ∧ count.toNat ≤ 128 ∧ offset.toNat + count.toNat ≤ 256 ∧ data.length = count.toNat ∧ s.dev.mstate cage.toNat ≠ 0) ∧
    (∃ (s : State) (cage : BitVec 8) (offset : BitVec 8) (count : BitVec 8) (data : List Byte), Live s ∧ 1 ≤ count.toNat ∧ count.toNat ≤ 128 ∧ offset.toNat + count.toNat ≤ 256 ∧ data.length = count.toNat ∧ s.dev.mstate cage.toNat = 0) ∧
    (∃ (s : State) (offset : BitVec 8) (count : BitVec 8) (data : List Byte), Live s ∧ 1 ≤ count.toNat ∧ count.toNat ≤ 128 ∧ offset.toNat + count.toNat ≤ 256 ∧ data.length = count.toNat) ∧
    (∃ (s : State) (cage : BitVec 8) (page : BitVec 8) (offset : BitVec 8) (count : BitVec 8) (data : List Byte), Live s ∧ 1 ≤ count.toNat ∧ count.toNat ≤ 128 ∧ offset.toNat + count.toNat ≤ 256 ∧ data.length = count.toNat ∧ s.dev.mstate cage.toNat ≠ 0 ∧ page.toNat ≠ 0x10) ∧
    (∃ (s : State) (cage : BitVec 8) (page : BitVec 8) (offset : BitVec 8) (count : BitVec 8) (data : List Byte), Live s ∧ 1 ≤ count.toNat ∧ count.toNat ≤ 128 ∧ offset.toNat + count.toNat ≤ 256 ∧ data.length = count.toNat ∧ s.dev.mstate cage.toNat ≠ 0 ∧ page.toNat = 0x10 ∧ 128 < offset.toNat + count.toNat ∧ s.dev.cagePorts cage.toNat ≠ []) ∧
    (∃ (s : State) (offset : BitVec 8) (count : BitVec 8), Live s ∧ 256 < offset.toNat + count.toNat) ∧
    (∃ (s : State) (first : BitVec 16) (count : BitVec 16), Live s ∧ 1 ≤ count.toNat ∧ first.toNat + count.toNat ≤ 512 ∧ ((∀ n, first.toNat ≤ n → n < first.toNat + count.toNat → n ∉ s.dev.port.calRunning))) ∧
    (∃ (s : State) (first : BitVec 16) (count : BitVec 16) (n : _), Live s ∧ 1 ≤ count.toNat ∧ first.toNat + count.toNat ≤ 512 ∧ first.toNat ≤ n ∧ n < first.toNat + count.toNat ∧ n ∈ s.dev.port.calRunning) ∧
    (∃ (s : State) (len : BitVec 32) (image : List Byte), Live s ∧ s.dev.b rRCK_STATUS fRCK_STATUS_USER_ON = false ∧ s.dev.b rRCK_STATUS fRCK_STATUS_OPEN_BUSY = false ∧ image.length = len.toNat ∧ image.length = imageLen image ∧ openImageOk image = true) ∧
    (∃ (s : State) (len : BitVec 32) (image : List Byte), Live s ∧ s.dev.b rRCK_STATUS fRCK_STATUS_USER_ON = false ∧ s.dev.b rRCK_STATUS fRCK_STATUS_OPEN_BUSY = false ∧ image.length ≠ len.toNat) :=
  ⟨⟨testState (({} : Dev).sf (rPRT_CAGE_STATE 255) fPRT_CAGE_STATE_MSTATE 4).testLive, 255, 128, 128, zeros 128, by decide⟩,
   ⟨testState ({} : Dev), 0, 128, 128, zeros 128, by decide⟩,
   ⟨testState ({} : Dev), 128, 128, zeros 128, by decide⟩,
   ⟨testState (({} : Dev).sf (rPRT_CAGE_STATE 255) fPRT_CAGE_STATE_MSTATE 4).testLive, 255, 0x11, 128, 128, zeros 128, by decide⟩,
   ⟨testState (((({} : Dev).sf (rPRT_CAGE_STATE 0) fPRT_CAGE_STATE_MSTATE 4).sf (rPRT_CFG 0) fPRT_CFG_EN 1).sf (rPRT_CAGE 0) fPRT_CAGE_VALID 1).testLive, 0, 0x10, 128, 128, zeros 128, by decide⟩,
   ⟨testState ({} : Dev), 129, 128, by decide⟩,
   ⟨testState ({} : Dev), 511, 1, by decide, by decide, by decide, fun _ _ _ h => nomatch h⟩,
   ⟨testState (let d := ({} : Dev); ({ d with port := { d.port with calRunning := [511] } } : Dev)).testLive, 511, 1, 511, by decide⟩,
   ⟨testState ({} : Dev), 36, ([0x4E, 0x44, 0x4F, 0x4C, 0, 1, 0, 0, 0, 1, 0, 0, 0, 0, 0x60, 0] ++ zeros 16 : List Byte) ++ beBytes 4 (crc32c ([0x4E, 0x44, 0x4F, 0x4C, 0, 1, 0, 0, 0, 1, 0, 0, 0, 0, 0x60, 0] ++ zeros 16 : List Byte)), by decide⟩,
   ⟨testState ({} : Dev), 1, [], by decide⟩⟩

/-- Premises of O49 met together, clause by clause. -/
theorem witness_ModuleAndMicrocodeCommands_2 :
    (∃ (s : State) (len : BitVec 32) (image : List Byte), Live s ∧ s.dev.b rRCK_STATUS fRCK_STATUS_USER_ON = false ∧ s.dev.b rRCK_STATUS fRCK_STATUS_OPEN_BUSY = false ∧ 36 ≤ image.length ∧ image.length = len.toNat ∧ image.length = imageLen image ∧ beAt image 8 2 ≠ 1) ∧
    (∃ (s : State), Live s ∧ (s.dev.b rRCK_STATUS fRCK_STATUS_USER_ON = true ∨ s.dev.b rRCK_STATUS fRCK_STATUS_OPEN_BUSY = true)) ∧
    (∃ (s : State), Live s ∧ s.dev.b rRCK_STATUS fRCK_STATUS_OPEN_LOADED = true) ∧
    (∃ (s : State), Live s ∧ s.dev.b rRCK_STATUS fRCK_STATUS_OPEN_LOADED = false) ∧
    (∃ (s : State), Live s) ∧
    (∃ (s : State) (h : CmdHdr) (die : BitVec 8) (count : BitVec 8) (type : BitVec 16) (ops : List (BitVec 64)), Live s ∧ die.toNat ≤ 1 ∧ count.toNat ≤ 4 ∧ ops.length = count.toNat ∧ 0x0F00 ≤ type.toNat ∧ type.toNat ≤ 0x0FFF ∧ s.dev.b rRCK_STATUS fRCK_STATUS_USER_ON = true ∧ s.dev.entryValid type.toNat = true ∧ s.dev.cmdTask h.src h.tag 0x0803 = none ∧ s.dev.taskRoom die.toNat false = true) ∧
    (∃ (s : State) (die : BitVec 8) (count : BitVec 8) (type : BitVec 16) (ops : List (BitVec 64)), Live s ∧ die.toNat ≤ 1 ∧ count.toNat ≤ 4 ∧ ops.length = count.toNat ∧ 0x0F00 ≤ type.toNat ∧ type.toNat ≤ 0x0FFF ∧ s.dev.b rRCK_STATUS fRCK_STATUS_USER_ON = false) ∧
    (∃ (s : State) (die : BitVec 8) (count : BitVec 8) (type : BitVec 16) (ops : List (BitVec 64)), Live s ∧ die.toNat ≤ 1 ∧ count.toNat ≤ 4 ∧ ops.length = count.toNat ∧ type.toNat < 0x0F00) :=
  ⟨⟨testState ({} : Dev), 36, zeros 36, by decide⟩,
   ⟨testState (({} : Dev).sf rRCK_STATUS fRCK_STATUS_OPEN_BUSY 1).testLive, by decide⟩,
   ⟨testState (({} : Dev).sf rRCK_STATUS fRCK_STATUS_OPEN_LOADED 1).testLive, by decide⟩,
   ⟨testState ({} : Dev), by decide⟩,
   ⟨testState ({} : Dev), by decide⟩,
   ⟨testState (let d := (({} : Dev).sf rRCK_STATUS fRCK_STATUS_USER_ON 1); ({ d with rck := { d.rck with entries := [(0xFFF, 0x80000000)] } } : Dev)).testLive, testHdr, 1, 4, 0xFFF, [1, 2, 3, 4], by decide⟩,
   ⟨testState ({} : Dev), 1, 4, 0xFFF, [1, 2, 3, 4], by decide⟩,
   ⟨testState ({} : Dev), 0, 0, 0, [], by decide⟩⟩

/-- Premises of O50 met together, clause by clause. -/
theorem witness_TableCommands_1 :
    (∃ (s : State) (no : BitVec 8) (desc : List Byte), Live s ∧ desc.length = 32 ∧ no.toNat < 128 ∧ Machine.descOk desc = true ∧ eb desc 0 ≠ 1 ∧ s.dev.tbl.mem.anyTable no.toNat = none ∧ (∀ die, s.dev.tbl.mem.roomFor die { desc := desc } = true)) ∧
    (∃ (s : State) (no : BitVec 8) (desc : List Byte), Live s ∧ desc.length = 32 ∧ (128 ≤ no.toNat ∨ Machine.descOk desc = false)) ∧
    (∃ (s : State) (no : BitVec 8) (desc : List Byte), Live s ∧ desc.length = 32 ∧ no.toNat < 128 ∧ Machine.descOk desc = true ∧ s.dev.tbl.mem.anyTable no.toNat ≠ none) ∧
    (∃ (s : State) (no : BitVec 8), Live s ∧ s.dev.tbl.jobs = [] ∧ s.dev.tbl.mem.anyTable no.toNat ≠ none ∧ ((∀ die t, s.dev.tbl.mem.table die no.toNat = some t → t.bound = none)) ∧ (∀ die, s.dev.tbl.mem.isCompanion die no.toNat = false) ∧ s.dev.tblHeld no.toNat = false) ∧
    (∃ (s : State) (no : BitVec 8), Live s ∧ s.dev.tbl.jobs = [] ∧ s.dev.tbl.mem.anyTable no.toNat ≠ none ∧ ((∃ die t, die < 2 ∧ s.dev.tbl.mem.table die no.toNat = some t ∧ t.bound ≠ none))) ∧
    (∃ (s : State) (h : CmdHdr) (no : BitVec 8) (dir : BitVec 8) (stage : BitVec 8) (slot : BitVec 8) (comp : BitVec 8) (segs : List Byte), Live s ∧ s.dev.tbl.jobs = [] ∧ h.batch = none ∧ segs.length = 32 ∧ s.dev.tbl.mem.anyTable no.toNat ≠ none ∧ ((∀ die t, s.dev.tbl.mem.table die no.toNat = some t → t.versioned = false ∧ t.companion = none)) ∧ ((∀ die, die < 2 → s.dev.tbl.mem.table die no.toNat ≠ none → s.dev.tbl.mem.bindOk die no.toNat dir.toNat stage.toNat slot.toNat segs comp.toNat = true))) ∧
    (∃ (s : State) (h : CmdHdr) (no : BitVec 8) (dir : BitVec 8) (stage : BitVec 8) (slot : BitVec 8) (comp : BitVec 8) (segs : List Byte), Live s ∧ s.dev.tbl.jobs = [] ∧ h.batch = none ∧ segs.length = 32 ∧ s.dev.tbl.mem.anyTable no.toNat ≠ none ∧ ((∀ die t, s.dev.tbl.mem.table die no.toNat = some t → t.versioned = false ∧ t.companion = none)) ∧ ((∃ die, die < 2 ∧ s.dev.tbl.mem.table die no.toNat ≠ none ∧ s.dev.tbl.mem.bindOk die no.toNat dir.toNat stage.toNat slot.toNat segs comp.toNat = false))) ∧
    (∃ (s : State) (h : CmdHdr) (no : BitVec 8) (segs : List Byte), Live s ∧ s.dev.tbl.jobs = [] ∧ h.batch = none ∧ segs.length = 32 ∧ s.dev.tbl.mem.anyTable no.toNat ≠ none ∧ ((∀ die t, s.dev.tbl.mem.table die no.toNat = some t → t.versioned = false ∧ t.companion = none)) ∧ ((∃ die t, die < 2 ∧ s.dev.tbl.mem.table die no.toNat = some t ∧ t.bound ≠ none))) ∧
    (∃ (s : State) (h : CmdHdr) (no : BitVec 8) (segs : List Byte), Live s ∧ s.dev.tbl.jobs = [] ∧ h.batch = none ∧ segs.length = 32 ∧ s.dev.tbl.mem.anyTable no.toNat ≠ none ∧ ((∀ die t, s.dev.tbl.mem.table die no.toNat = some t → t.versioned = false ∧ t.companion = none)) ∧ ((∀ die t, s.dev.tbl.mem.table die no.toNat = some t → t.bound = none))) ∧
    (∃ (s : State) (h : CmdHdr) (no : BitVec 8) (id : BitVec 32) (b : Batch), Live s ∧ s.dev.tbl.jobs = [] ∧ h.batch = some id ∧ kvGet none s.dev.host.batches id.toNat = some b ∧ b.ops.length < 16384 ∧ ((s.dev.opsApply b.ops 0).1.opApply (.unbind no.toNat)).status = 0) :=
  ⟨⟨testState ({} : Dev), 127, ([4, 0x40, 2, 0, 1, 0xFF] ++ zeros 26), by decide, by decide, by decide, by decide, by decide, by decide, fun die => by unfold TblMem.roomFor; rw [show ∀ s : State, s = testState {} → s.dev.tbl.mem.tablesOf die = [] from fun s h => by rw [h]; rfl] <;> first | decide | rfl⟩,
   ⟨testState ({} : Dev), 0, zeros 32, by decide⟩,
   ⟨testState (let d := ({} : Dev); ({ d with tbl := { d.tbl with mem := { tables := [(0, some ({ desc := [4, 0x40, 2, 0, 1] ++ zeros 27 } : Table))] }, live := { tables := [(0, some ({ desc := [4, 0x40, 2, 0, 1] ++ zeros 27 } : Table))] } } } : Dev)).testLive, 0, ([4, 0x40, 2, 0, 1, 0xFF] ++ zeros 26), by decide⟩,
   ⟨testState (let d := ({} : Dev); ({ d with tbl := { d.tbl with mem := { tables := [(0, some ({ desc := [4, 0x40, 2, 0, 1] ++ zeros 27 } : Table))] }, live := { tables := [(0, some ({ desc := [4, 0x40, 2, 0, 1] ++ zeros 27 } : Table))] } } } : Dev)).testLive, 0, by decide, by decide, by decide, fun die t h => (by rw [testTable_only testTable die t h]; decide), fun die => testTable_noCompanion die, by decide⟩,
   ⟨testState (let d := ({} : Dev); ({ d with tbl := { d.tbl with mem := { tables := [(0, some ({ desc := [4, 0x40, 2, 0, 1] ++ zeros 27, bound := some (0, 1, 0) } : Table))] }, live := { tables := [(0, some ({ desc := [4, 0x40, 2, 0, 1] ++ zeros 27, bound := some (0, 1, 0) } : Table))] } } } : Dev)).testLive, 0, by decide, by decide, by decide, ⟨0, ({ desc := [4, 0x40, 2, 0, 1] ++ zeros 27, bound := some (0, 1, 0) } : Table), by decide⟩⟩,
   ⟨testState (let d := ({} : Dev); ({ d with tbl := { d.tbl with mem := { tables := [(0, some ({ desc := [4, 0x40, 2, 0, 1] ++ zeros 27 } : Table))] }, live := { tables := [(0, some ({ desc := [4, 0x40, 2, 0, 1] ++ zeros 27 } : Table))] } } } : Dev)).testLive, testHdr, 0, 0, 0, 0, 0xFF, zeros 32, by decide, by decide, by decide, by decide, by decide, (fun die t h => by rw [testTable_only _ die t h]; decide), by decide⟩,
   ⟨testState (let d := ({} : Dev); ({ d with tbl := { d.tbl with mem := { tables := [(0, some ({ desc := [4, 0x40, 2, 0, 1] ++ zeros 27 } : Table))] }, live := { tables := [(0, some ({ desc := [4, 0x40, 2, 0, 1] ++ zeros 27 } : Table))] } } } : Dev)).testLive, testHdr, 0, 0, 0, 0, 0, zeros 32, by decide, by decide, by decide, by decide, by decide, (fun die t h => by rw [testTable_only _ die t h]; decide), ⟨0, by decide⟩⟩,
   ⟨testState (let d := ({} : Dev); ({ d with tbl := { d.tbl with mem := { tables := [(0, some ({ desc := [4, 0x40, 2, 0, 1] ++ zeros 27, bound := some (0, 1, 0) } : Table))] }, live := { tables := [(0, some ({ desc := [4, 0x40, 2, 0, 1] ++ zeros 27, bound := some (0, 1, 0) } : Table))] } } } : Dev)).testLive, testHdr, 0, zeros 32, by decide, by decide, by decide, by decide, by decide, (fun die t h => by rw [testTable_only _ die t h]; decide), ⟨0, ({ desc := [4, 0x40, 2, 0, 1] ++ zeros 27, bound := some (0, 1, 0) } : Table), by decide⟩⟩,
   ⟨testState (let d := ({} : Dev); ({ d with tbl := { d.tbl with mem := { tables := [(0, some ({ desc := [4, 0x40, 2, 0, 1] ++ zeros 27 } : Table))] }, live := { tables := [(0, some ({ desc := [4, 0x40, 2, 0, 1] ++ zeros 27 } : Table))] } } } : Dev)).testLive, testHdr, 0, zeros 32, by decide, by decide, by decide, by decide, by decide, (fun die t h => by rw [testTable_only _ die t h]; decide), (fun die t h => by rw [testTable_only _ die t h])⟩,
   ⟨testState (let d := (let d := ({} : Dev); ({ d with tbl := { d.tbl with mem := { tables := [(0, some ({ desc := [4, 0x60, 2, 0, 1] ++ zeros 27, bound := some (0, 1, 0) } : Table))] }, live := { tables := [(0, some { desc := [] })] } } } : Dev)); ({ d with host := { d.host with batches := [(9, some ({ ops := [], deck := 0 } : Batch))] } } : Dev)).testLive, { testHdr with batch := some 9 }, 0, 9, ({ ops := [], deck := 0 } : Batch), by decide⟩⟩

/-- Premises of O50 met together, clause by clause. -/
theorem witness_TableCommands_2 :
    (∃ (s : State) (h : CmdHdr) (no : BitVec 8) (prio : BitVec 32) (result : List Byte) (key : List Byte) (mask : List Byte) (t : Table) (row : Nat), Live s ∧ s.dev.tbl.jobs = [] ∧ h.batch = none ∧ result.length = 8 ∧ key.length = 80 ∧ mask.length = 80 ∧ s.dev.tbl.mem.table 0 no.toNat = some t ∧ t.type = 4 ∧ t.versioned = false ∧ s.dev.tbl.mem.isCompanion 0 no.toNat = false ∧ ((∀ i, t.keyBytes ≤ i → key.getD i 0 = 0 ∧ mask.getD i 0 = 0)) ∧ prio.toNat ≤ 1048575 ∧ tcamPlan t prio.toNat = some ([], row)) ∧
    (∃ (s : State) (h : CmdHdr) (no : BitVec 8) (flags : BitVec 8) (plen : BitVec 8) (prio : BitVec 32) (result : List Byte) (key : List Byte) (mask : List Byte) (testState : Nat) (r : List Byte), Live s ∧ s.dev.tbl.jobs = [] ∧ h.batch = none ∧ result.length = 8 ∧ key.length = 80 ∧ mask.length = 80 ∧ s.dev.opVersioned (.insert no.toNat flags.toNat plen.toNat prio.toNat (s.dev.newHandle no.toNat) result key mask) = false ∧ s.dev.insertPlan no.toNat flags.toNat plen.toNat prio.toNat (s.dev.newHandle no.toNat) result key mask = .error (testState, r, [])) ∧
    (∃ (s : State) (h : CmdHdr) (no : BitVec 8) (handle : BitVec 32) (key : List Byte) (t : Table), Live s ∧ s.dev.tbl.jobs = [] ∧ h.batch = none ∧ key.length = 40 ∧ s.dev.tbl.mem.table 0 no.toNat = some t ∧ t.type = 4 ∧ t.versioned = false ∧ ((∀ x ∈ t.entries, x.handle = handle.toNat → x.flag ≠ 2)) ∧ (t.entries.filter fun x => decide (x.handle = handle.toNat)).length ≤ 1) ∧
    (∃ (s : State) (no : BitVec 8) (handle : BitVec 32) (key : List Byte) (t : Table) (x : _), Live s ∧ key.length = 40 ∧ s.dev.tbl.live.table 0 no.toNat = some t ∧ t.type = 4 ∧ (t.entries.find? fun x => decide (x.handle = handle.toNat) && x.seen (s.dev.verCur 0) (s.dev.verCur 0) (s.dev.verPrev 0)) = some x ∧ x.poisoned = false) ∧
    (∃ (s : State) (no : BitVec 8) (handle : BitVec 32) (key : List Byte) (t : Table), Live s ∧ key.length = 40 ∧ s.dev.tbl.live.table 0 no.toNat = some t ∧ t.type = 4 ∧ (∀ x ∈ t.entries, x.handle ≠ handle.toNat)) ∧
    (∃ (s : State) (no : BitVec 8) (count : BitVec 8) (die : Fin 2) (key : List Byte) (t : Table) (l : _), Live s ∧ key.length = 80 ∧ s.dev.tbl.live.table die no.toNat = some t ∧ t.type = 4 ∧ count.toNat ≤ 64 ∧ tcamMatches (t.entries.filter fun x => x.seen (s.dev.verCur die) (s.dev.verCur die) (s.dev.verPrev die)) (key.take t.keyBytes) = l ∧ l = []) ∧
    (∃ (s : State) (no : BitVec 8) (start : BitVec 8) (count : BitVec 8) (die : Fin 2) (key : List Byte) (t : Table) (l : _) (x : _), Live s ∧ key.length = 80 ∧ s.dev.tbl.live.table die no.toNat = some t ∧ t.type = 4 ∧ count.toNat ≤ 64 ∧ tcamMatches (t.entries.filter fun x => x.seen (s.dev.verCur die) (s.dev.verCur die) (s.dev.verPrev die)) (key.take t.keyBytes) = l ∧ l = [x] ∧ start.toNat = 0 ∧ 1 ≤ count.toNat) ∧
    (∃ (s : State) (h : CmdHdr) (mask : BitVec 8) (dir : BitVec 8) (stage : BitVec 8) (slot : BitVec 8) (p : BitVec 8) (entry : List Byte), Live s ∧ h.batch = none ∧ entry.length = 48 ∧ 1 ≤ p.toNat ∧ p.toNat ≤ 63 ∧ mask.toNat % 4 ≠ 0 ∧ dir.toNat ≤ 1 ∧ stage.toNat < (if dir.toNat = 0 then 12 else 8) ∧ slot.toNat ≤ 1 ∧ profileOk dir.toNat entry = true) ∧
    (∃ (s : State) (h : CmdHdr) (p : BitVec 8) (entry : List Byte), Live s ∧ h.batch = none ∧ entry.length = 48 ∧ p.toNat = 0) ∧
    (∃ (s : State) (die : Fin 2) (index : BitVec 16) (entry : List Byte), Live s ∧ entry.length = 12 ∧ index.toNat < 2048 ∧ s.dev.b (rPAR_STATUS die) fPAR_STATUS_OLD_BANK_BUSY = false) :=
  ⟨⟨testState (let d := ({} : Dev); ({ d with tbl := { d.tbl with mem := { tables := [(0, some ({ desc := [4, 0x40, 2, 0, 1] ++ zeros 27 } : Table))] }, live := { tables := [(0, some ({ desc := [4, 0x40, 2, 0, 1] ++ zeros 27 } : Table))] } } } : Dev)).testLive, testHdr, 0, 1048575, zeros 8, zeros 80, zeros 80, ({ desc := [4, 0x40, 2, 0, 1] ++ zeros 27 } : Table), 0, by decide, by decide, by decide, by decide, by decide, by decide, by decide, by decide, by decide, by decide, fun i _ => ⟨zeros_getD 80 i, zeros_getD 80 i⟩, by decide, by decide⟩,
   ⟨testState ({} : Dev), testHdr, 200, 0, 0, 0, zeros 8, zeros 80, zeros 80, 2, [], by decide, by decide, by decide, by decide, by decide, by decide, by decide, rfl⟩,
   ⟨testState (let d := ({} : Dev); ({ d with tbl := { d.tbl with mem := { tables := [(0, some ({ desc := [4, 0x40, 2, 0, 1] ++ zeros 27 } : Table))] }, live := { tables := [(0, some ({ desc := [4, 0x40, 2, 0, 1] ++ zeros 27 } : Table))] } } } : Dev)).testLive, testHdr, 0, 0, zeros 40, ({ desc := [4, 0x40, 2, 0, 1] ++ zeros 27 } : Table), by decide⟩,
   ⟨testState (let d := ({} : Dev); ({ d with tbl := { d.tbl with mem := { tables := [(0, some ({ desc := [4, 0x40, 2, 0, 1] ++ zeros 27, entries := [{ place := 3, key := zeros 2, mask := zeros 2, result := zeros 8 }] } : Table))] }, live := { tables := [(0, some ({ desc := [4, 0x40, 2, 0, 1] ++ zeros 27, entries := [{ place := 3, key := zeros 2, mask := zeros 2, result := zeros 8 }] } : Table))] } } } : Dev)).testLive, 0, 0, zeros 40, ({ desc := [4, 0x40, 2, 0, 1] ++ zeros 27, entries := [{ place := 3, key := zeros 2, mask := zeros 2, result := zeros 8 }] } : Table), { place := 3, key := zeros 2, mask := zeros 2, result := zeros 8 }, by decide⟩,
   ⟨testState (let d := ({} : Dev); ({ d with tbl := { d.tbl with mem := { tables := [(0, some ({ desc := [4, 0x40, 2, 0, 1] ++ zeros 27 } : Table))] }, live := { tables := [(0, some ({ desc := [4, 0x40, 2, 0, 1] ++ zeros 27 } : Table))] } } } : Dev)).testLive, 0, 0, zeros 40, ({ desc := [4, 0x40, 2, 0, 1] ++ zeros 27 } : Table), by decide⟩,
   ⟨testState (let d := ({} : Dev); ({ d with tbl := { d.tbl with mem := { tables := [(0, some ({ desc := [4, 0x40, 2, 0, 1] ++ zeros 27 } : Table))] }, live := { tables := [(0, some ({ desc := [4, 0x40, 2, 0, 1] ++ zeros 27 } : Table))] } } } : Dev)).testLive, 0, 64, 0, zeros 80, ({ desc := [4, 0x40, 2, 0, 1] ++ zeros 27 } : Table), [], by decide⟩,
   ⟨testState (let d := ({} : Dev); ({ d with tbl := { d.tbl with mem := { tables := [(0, some ({ desc := [4, 0x40, 2, 0, 1] ++ zeros 27, entries := [{ place := 3, key := zeros 2, mask := zeros 2, result := zeros 8 }] } : Table))] }, live := { tables := [(0, some ({ desc := [4, 0x40, 2, 0, 1] ++ zeros 27, entries := [{ place := 3, key := zeros 2, mask := zeros 2, result := zeros 8 }] } : Table))] } } } : Dev)).testLive, 0, 0, 64, 0, zeros 80, ({ desc := [4, 0x40, 2, 0, 1] ++ zeros 27, entries := [{ place := 3, key := zeros 2, mask := zeros 2, result := zeros 8 }] } : Table), [{ place := 3, key := zeros 2, mask := zeros 2, result := zeros 8 }], { place := 3, key := zeros 2, mask := zeros 2, result := zeros 8 }, by decide⟩,
   ⟨testState ({} : Dev), testHdr, 3, 1, 7, 1, 63, zeros 48, by decide⟩,
   ⟨testState ({} : Dev), testHdr, 0, zeros 48, by decide⟩,
   ⟨testState ({} : Dev), 0, 2047, zeros 12, by decide⟩⟩

/-- Premises of O50 met together, clause by clause. -/
theorem witness_TableCommands_3 :
    (∃ (s : State) (die : Fin 2) (index : BitVec 16) (entry : List Byte), Live s ∧ entry.length = 12 ∧ index.toNat < 2048 ∧ s.dev.b (rPAR_STATUS die) fPAR_STATUS_OLD_BANK_BUSY = true) ∧
    (∃ (s : State) (h : CmdHdr) (die : Fin 2), Live s ∧ h.batch = none ∧ s.dev.b (rPAR_STATUS die) fPAR_STATUS_OLD_BANK_BUSY = false) ∧
    (∃ (s : State) (h : CmdHdr) (die : Fin 2), Live s ∧ h.batch = none ∧ s.dev.b (rPAR_STATUS die) fPAR_STATUS_OLD_BANK_BUSY = true) :=
  ⟨⟨testState (({} : Dev).sf (rPAR_STATUS 0) fPAR_STATUS_OLD_BANK_BUSY 1).testLive, 0, 2047, zeros 12, by decide⟩,
   ⟨testState ({} : Dev), testHdr, 0, by decide⟩,
   ⟨testState (({} : Dev).sf (rPAR_STATUS 0) fPAR_STATUS_OLD_BANK_BUSY 1).testLive, testHdr, 0, by decide⟩⟩

/-- Premises of O51 met together, clause by clause. -/
theorem witness_FlowAndQueueCommands_1 :
    (∃ (s : State) (die : Fin 2) (profile : BitVec 8) (flags : BitVec 8) (key : List Byte) (bytes : List Byte) (fk : FKey) (dest : Nat × Nat) (moves : List (Nat × Nat × Nat × Nat)), Live s ∧ profile.toNat ≤ 15 ∧ s.dev.fkey die profile.toNat key = fk ∧ s.dev.opOn die fk = none ∧ s.dev.b (rFLW_STATUS die) fFLW_STATUS_READY = true ∧ (s.dev.flw die).ops.length < 4096 ∧ bits (eb bytes 0) 7 4 ≤ 5 ∧ s.dev.recSeen die fk = none ∧ bits flags.toNat 6 6 = 0 ∧ s.dev.placement die fk = some (dest, moves)) ∧
    (∃ (s : State) (die : Fin 2) (profile : BitVec 8) (flags : BitVec 8) (key : List Byte) (bytes : List Byte) (fk : FKey) (body : List Byte) (hit : Nat) (loc : Nat), Live s ∧ profile.toNat ≤ 15 ∧ s.dev.fkey die profile.toNat key = fk ∧ s.dev.opOn die fk = none ∧ s.dev.b (rFLW_STATUS die) fFLW_STATUS_READY = true ∧ (s.dev.flw die).ops.length < 4096 ∧ bits (eb bytes 0) 7 4 ≤ 5 ∧ s.dev.recSeen die fk = some (body, hit, loc) ∧ bits flags.toNat 7 7 = 0) ∧
    (∃ (s : State) (die : Fin 2) (profile : BitVec 8) (key : List Byte) (bytes : List Byte) (fk : FKey), Live s ∧ profile.toNat ≤ 15 ∧ s.dev.fkey die profile.toNat key = fk ∧ s.dev.opOn die fk = none ∧ s.dev.b (rFLW_STATUS die) fFLW_STATUS_READY = false ∧ bits (eb bytes 0) 7 4 ≤ 5) ∧
    (∃ (s : State) (die : Fin 2) (profile : BitVec 8) (key : List Byte) (fk : FKey) (b : Nat) (i : Nat) (y : FSlot), Live s ∧ profile.toNat ≤ 15 ∧ s.dev.fkey die profile.toNat key = fk ∧ s.dev.opOn die fk = none ∧ (s.dev.hbmFind die fk).1 = some (b, i, y) ∧ y.second = false) ∧
    (∃ (s : State) (die : Fin 2) (profile : BitVec 8) (key : List Byte) (fk : FKey), Live s ∧ profile.toNat ≤ 15 ∧ s.dev.fkey die profile.toNat key = fk ∧ s.dev.opOn die fk = none ∧ (s.dev.hbmFind die fk).1 = none) :=
  ⟨⟨testState ((({} : Dev).sf (rFLW_STATUS 0) fFLW_STATUS_READY 1).sf (rFLW_REGION 0) fFLW_REGION_UNITS 1).testLive, 0, 15, 0, [], zeros 1, Dev.fkey ((testState ((({} : Dev).sf (rFLW_STATUS 0) fFLW_STATUS_READY 1).sf (rFLW_REGION 0) fFLW_REGION_UNITS 1).testLive)).dev 0 15 [], (((testState ((({} : Dev).sf (rFLW_STATUS 0) fFLW_STATUS_READY 1).sf (rFLW_REGION 0) fFLW_REGION_UNITS 1).testLive)).dev.placement 0 (Dev.fkey ((testState ((({} : Dev).sf (rFLW_STATUS 0) fFLW_STATUS_READY 1).sf (rFLW_REGION 0) fFLW_REGION_UNITS 1).testLive)).dev 0 15 [])).get (by decide) |>.1, (((testState ((({} : Dev).sf (rFLW_STATUS 0) fFLW_STATUS_READY 1).sf (rFLW_REGION 0) fFLW_REGION_UNITS 1).testLive)).dev.placement 0 (Dev.fkey ((testState ((({} : Dev).sf (rFLW_STATUS 0) fFLW_STATUS_READY 1).sf (rFLW_REGION 0) fFLW_REGION_UNITS 1).testLive)).dev 0 15 [])).get (by decide) |>.2, by decide⟩,
   ⟨testState (let d := (({} : Dev).sf (rFLW_STATUS 0) fFLW_STATUS_READY 1); ({ d with path := { d.path with flw0 := { buckets := [(0, { occ := 1, slots := [(6, some ({ fp := fingerprint (Dev.fkey {} 0 15 []), lastHit := 0, valid := true, pinned := false, moving := false, kind := 0, second := false, body := zeros 40 ++ [15] ++ zeros 23 } : FSlot))] })] } } } : Dev)).testLive, 0, 15, 0, [], zeros 1, Dev.fkey ((testState (let d := (({} : Dev).sf (rFLW_STATUS 0) fFLW_STATUS_READY 1); ({ d with path := { d.path with flw0 := { buckets := [(0, { occ := 1, slots := [(6, some ({ fp := fingerprint (Dev.fkey {} 0 15 []), lastHit := 0, valid := true, pinned := false, moving := false, kind := 0, second := false, body := zeros 40 ++ [15] ++ zeros 23 } : FSlot))] })] } } } : Dev)).testLive)).dev 0 15 [], zeros 40 ++ [15] ++ zeros 23, 0, (((testState (let d := (({} : Dev).sf (rFLW_STATUS 0) fFLW_STATUS_READY 1); ({ d with path := { d.path with flw0 := { buckets := [(0, { occ := 1, slots := [(6, some ({ fp := fingerprint (Dev.fkey {} 0 15 []), lastHit := 0, valid := true, pinned := false, moving := false, kind := 0, second := false, body := zeros 40 ++ [15] ++ zeros 23 } : FSlot))] })] } } } : Dev)).testLive)).dev.recSeen 0 (Dev.fkey ((testState (let d := (({} : Dev).sf (rFLW_STATUS 0) fFLW_STATUS_READY 1); ({ d with path := { d.path with flw0 := { buckets := [(0, { occ := 1, slots := [(6, some ({ fp := fingerprint (Dev.fkey {} 0 15 []), lastHit := 0, valid := true, pinned := false, moving := false, kind := 0, second := false, body := zeros 40 ++ [15] ++ zeros 23 } : FSlot))] })] } } } : Dev)).testLive)).dev 0 15 [])).get (by decide) |>.2.2, by decide⟩,
   ⟨testState (({} : Dev).sf (rFLW_STATUS 0) fFLW_STATUS_READY 0).testLive, 0, 15, [], zeros 1, Dev.fkey ((testState (({} : Dev).sf (rFLW_STATUS 0) fFLW_STATUS_READY 0).testLive)).dev 0 15 [], by decide⟩,
   ⟨testState (let d := (({} : Dev).sf (rFLW_STATUS 0) fFLW_STATUS_READY 1); ({ d with path := { d.path with flw0 := { buckets := [(0, { occ := 1, slots := [(6, some ({ fp := fingerprint (Dev.fkey {} 0 15 []), lastHit := 0, valid := true, pinned := false, moving := false, kind := 0, second := false, body := zeros 40 ++ [15] ++ zeros 23 } : FSlot))] })] } } } : Dev)).testLive, 0, 15, [], Dev.fkey ((testState (let d := (({} : Dev).sf (rFLW_STATUS 0) fFLW_STATUS_READY 1); ({ d with path := { d.path with flw0 := { buckets := [(0, { occ := 1, slots := [(6, some ({ fp := fingerprint (Dev.fkey {} 0 15 []), lastHit := 0, valid := true, pinned := false, moving := false, kind := 0, second := false, body := zeros 40 ++ [15] ++ zeros 23 } : FSlot))] })] } } } : Dev)).testLive)).dev 0 15 [], 0, 6, ({ fp := fingerprint (Dev.fkey {} 0 15 []), lastHit := 0, valid := true, pinned := false, moving := false, kind := 0, second := false, body := zeros 40 ++ [15] ++ zeros 23 } : FSlot), by decide⟩,
   ⟨testState (({} : Dev).sf (rFLW_STATUS 0) fFLW_STATUS_READY 1).testLive, 0, 15, [], Dev.fkey ((testState (({} : Dev).sf (rFLW_STATUS 0) fFLW_STATUS_READY 1).testLive)).dev 0 15 [], by decide⟩⟩

/-- Premises of O51 met together, clause by clause. -/
theorem witness_FlowAndQueueCommands_2 :
    (∃ (s : State) (die : Fin 2) (profile : BitVec 8) (key : List Byte) (fk : FKey), Live s ∧ profile.toNat ≤ 15 ∧ s.dev.fkey die profile.toNat key = fk ∧ s.dev.opOn die fk = none) ∧
    (∃ (s : State) (die : Fin 2) (profile : BitVec 8) (key : List Byte) (fk : FKey) (b : Nat) (i : Nat) (y : FSlot) (body : List Byte) (hit : Nat) (loc : Nat), Live s ∧ profile.toNat ≤ 15 ∧ s.dev.fkey die profile.toNat key = fk ∧ s.dev.opOn die fk = none ∧ (s.dev.hbmFind die fk).1 = some (b, i, y) ∧ s.dev.recSeen die fk = some (body, hit, loc) ∧ s.dev.cacheFind die fk = none) ∧
    (∃ (s : State) (die : Fin 2) (profile : BitVec 8) (key : List Byte) (mask : Word) (fk : FKey), Live s ∧ profile.toNat ≤ 15 ∧ s.dev.fkey die profile.toNat key = fk ∧ s.dev.opOn die fk = none ∧ bits mask.toNat 0 0 = 1) ∧
    (∃ (s : State) (die : Fin 2) (profile : BitVec 8) (key : List Byte) (mask : Word) (fk : FKey), Live s ∧ profile.toNat ≤ 15 ∧ s.dev.fkey die profile.toNat key = fk ∧ s.dev.opOn die fk = none ∧ bits mask.toNat 0 0 = 0 ∧ s.dev.recSeen die fk = none) ∧
    (∃ (s : State) (die : Fin 2) (profile : BitVec 8) (key : List Byte) (mask : Word) (fk : FKey) (b : Nat) (i : Nat) (y : FSlot), Live s ∧ profile.toNat ≤ 15 ∧ s.dev.fkey die profile.toNat key = fk ∧ s.dev.opOn die fk = none ∧ bits mask.toNat 0 0 = 0 ∧ (s.dev.hbmFind die fk).1 = some (b, i, y) ∧ s.dev.cacheFind die fk = none ∧ y.body.length = 64 ∧ i < 7) :=
  ⟨⟨testState (({} : Dev).sf (rFLW_STATUS 0) fFLW_STATUS_READY 1).testLive, 0, 15, [], Dev.fkey ((testState (({} : Dev).sf (rFLW_STATUS 0) fFLW_STATUS_READY 1).testLive)).dev 0 15 [], by decide⟩,
   ⟨testState (let d := (({} : Dev).sf (rFLW_STATUS 0) fFLW_STATUS_READY 1); ({ d with path := { d.path with flw0 := { buckets := [(0, { occ := 1, slots := [(6, some ({ fp := fingerprint (Dev.fkey {} 0 15 []), lastHit := 0, valid := true, pinned := false, moving := false, kind := 0, second := false, body := zeros 40 ++ [15] ++ zeros 23 } : FSlot))] })] } } } : Dev)).testLive, 0, 15, [], Dev.fkey ((testState (let d := (({} : Dev).sf (rFLW_STATUS 0) fFLW_STATUS_READY 1); ({ d with path := { d.path with flw0 := { buckets := [(0, { occ := 1, slots := [(6, some ({ fp := fingerprint (Dev.fkey {} 0 15 []), lastHit := 0, valid := true, pinned := false, moving := false, kind := 0, second := false, body := zeros 40 ++ [15] ++ zeros 23 } : FSlot))] })] } } } : Dev)).testLive)).dev 0 15 [], 0, 6, ({ fp := fingerprint (Dev.fkey {} 0 15 []), lastHit := 0, valid := true, pinned := false, moving := false, kind := 0, second := false, body := zeros 40 ++ [15] ++ zeros 23 } : FSlot), zeros 40 ++ [15] ++ zeros 23, 0, (((testState (let d := (({} : Dev).sf (rFLW_STATUS 0) fFLW_STATUS_READY 1); ({ d with path := { d.path with flw0 := { buckets := [(0, { occ := 1, slots := [(6, some ({ fp := fingerprint (Dev.fkey {} 0 15 []), lastHit := 0, valid := true, pinned := false, moving := false, kind := 0, second := false, body := zeros 40 ++ [15] ++ zeros 23 } : FSlot))] })] } } } : Dev)).testLive)).dev.recSeen 0 (Dev.fkey ((testState (let d := (({} : Dev).sf (rFLW_STATUS 0) fFLW_STATUS_READY 1); ({ d with path := { d.path with flw0 := { buckets := [(0, { occ := 1, slots := [(6, some ({ fp := fingerprint (Dev.fkey {} 0 15 []), lastHit := 0, valid := true, pinned := false, moving := false, kind := 0, second := false, body := zeros 40 ++ [15] ++ zeros 23 } : FSlot))] })] } } } : Dev)).testLive)).dev 0 15 [])).get (by decide) |>.2.2, by decide⟩,
   ⟨testState (({} : Dev).sf (rFLW_STATUS 0) fFLW_STATUS_READY 1).testLive, 0, 15, [], 1, Dev.fkey ((testState (({} : Dev).sf (rFLW_STATUS 0) fFLW_STATUS_READY 1).testLive)).dev 0 15 [], by decide⟩,
   ⟨testState (({} : Dev).sf (rFLW_STATUS 0) fFLW_STATUS_READY 1).testLive, 0, 15, [], 0, Dev.fkey ((testState (({} : Dev).sf (rFLW_STATUS 0) fFLW_STATUS_READY 1).testLive)).dev 0 15 [], by decide⟩,
   ⟨testState (let d := (({} : Dev).sf (rFLW_STATUS 0) fFLW_STATUS_READY 1); ({ d with path := { d.path with flw0 := { buckets := [(0, { occ := 1, slots := [(6, some ({ fp := fingerprint (Dev.fkey {} 0 15 []), lastHit := 0, valid := true, pinned := false, moving := false, kind := 0, second := false, body := zeros 40 ++ [15] ++ zeros 23 } : FSlot))] })] } } } : Dev)).testLive, 0, 15, [], 0, Dev.fkey ((testState (let d := (({} : Dev).sf (rFLW_STATUS 0) fFLW_STATUS_READY 1); ({ d with path := { d.path with flw0 := { buckets := [(0, { occ := 1, slots := [(6, some ({ fp := fingerprint (Dev.fkey {} 0 15 []), lastHit := 0, valid := true, pinned := false, moving := false, kind := 0, second := false, body := zeros 40 ++ [15] ++ zeros 23 } : FSlot))] })] } } } : Dev)).testLive)).dev 0 15 [], 0, 6, ({ fp := fingerprint (Dev.fkey {} 0 15 []), lastHit := 0, valid := true, pinned := false, moving := false, kind := 0, second := false, body := zeros 40 ++ [15] ++ zeros 23 } : FSlot), by decide⟩⟩

/-- Premises of O51 met together, clause by clause. -/
theorem witness_FlowAndQueueCommands_3 :
    (∃ (s : State) (die : Fin 2) (profile : BitVec 8) (key : List Byte) (fk : FKey) (x : List Byte × Nat × Nat), Live s ∧ profile.toNat ≤ 15 ∧ s.dev.fkey die profile.toNat key = fk ∧ s.dev.opOn die fk = none ∧ s.dev.recSeen die fk = some x ∧ (s.dev.flw die).kills.length < 4096) ∧
    (∃ (s : State) (die : Fin 2) (profile : BitVec 8) (key : List Byte) (fk : FKey) (x : List Byte × Nat × Nat), Live s ∧ profile.toNat ≤ 15 ∧ s.dev.fkey die profile.toNat key = fk ∧ s.dev.opOn die fk = none ∧ s.dev.recSeen die fk = some x) ∧
    (∃ (s : State) (die : Fin 2) (profile : BitVec 8) (key : List Byte) (fk : FKey), Live s ∧ profile.toNat ≤ 15 ∧ s.dev.fkey die profile.toNat key = fk ∧ s.dev.opOn die fk = none ∧ s.dev.recSeen die fk = none) ∧
    (∃ (s : State) (mask : BitVec 8) (index : BitVec 16) (bytes : List Byte), Live s ∧ index.toNat < 256 ∧ bytes.length = 8 ∧ 1 ≤ beAt bytes 0 4 ∧ beAt bytes 0 4 ≤ 16777215 ∧ beAt bytes 0 4 ≤ beAt bytes 4 4 ∧ beAt bytes 4 4 ≤ 16777215 ∧ mask.toNat % 4 ≠ 0) ∧
    (∃ (s : State) (mask : BitVec 8) (index : BitVec 16) (bytes : List Byte), Live s ∧ index.toNat < 256 ∧ bytes.length = 8 ∧ beAt bytes 4 4 < beAt bytes 0 4 ∧ mask.toNat % 4 ≠ 0) :=
  ⟨⟨testState (let d := (({} : Dev).sf (rFLW_STATUS 0) fFLW_STATUS_READY 1); ({ d with path := { d.path with flw0 := { buckets := [(0, { occ := 1, slots := [(6, some ({ fp := fingerprint (Dev.fkey {} 0 15 []), lastHit := 0, valid := true, pinned := false, moving := false, kind := 0, second := false, body := zeros 40 ++ [15] ++ zeros 23 } : FSlot))] })] } } } : Dev)).testLive, 0, 15, [], Dev.fkey ((testState (let d := (({} : Dev).sf (rFLW_STATUS 0) fFLW_STATUS_READY 1); ({ d with path := { d.path with flw0 := { buckets := [(0, { occ := 1, slots := [(6, some ({ fp := fingerprint (Dev.fkey {} 0 15 []), lastHit := 0, valid := true, pinned := false, moving := false, kind := 0, second := false, body := zeros 40 ++ [15] ++ zeros 23 } : FSlot))] })] } } } : Dev)).testLive)).dev 0 15 [], (((testState (let d := (({} : Dev).sf (rFLW_STATUS 0) fFLW_STATUS_READY 1); ({ d with path := { d.path with flw0 := { buckets := [(0, { occ := 1, slots := [(6, some ({ fp := fingerprint (Dev.fkey {} 0 15 []), lastHit := 0, valid := true, pinned := false, moving := false, kind := 0, second := false, body := zeros 40 ++ [15] ++ zeros 23 } : FSlot))] })] } } } : Dev)).testLive)).dev.recSeen 0 (Dev.fkey ((testState (let d := (({} : Dev).sf (rFLW_STATUS 0) fFLW_STATUS_READY 1); ({ d with path := { d.path with flw0 := { buckets := [(0, { occ := 1, slots := [(6, some ({ fp := fingerprint (Dev.fkey {} 0 15 []), lastHit := 0, valid := true, pinned := false, moving := false, kind := 0, second := false, body := zeros 40 ++ [15] ++ zeros 23 } : FSlot))] })] } } } : Dev)).testLive)).dev 0 15 [])).get (by decide), by decide⟩,
   ⟨testState (let d := (({} : Dev).sf (rFLW_STATUS 0) fFLW_STATUS_READY 1); ({ d with path := { d.path with flw0 := { buckets := [(0, { occ := 1, slots := [(6, some ({ fp := fingerprint (Dev.fkey {} 0 15 []), lastHit := 0, valid := true, pinned := false, moving := false, kind := 0, second := false, body := zeros 40 ++ [15] ++ zeros 23 } : FSlot))] })] } } } : Dev)).testLive, 0, 15, [], Dev.fkey ((testState (let d := (({} : Dev).sf (rFLW_STATUS 0) fFLW_STATUS_READY 1); ({ d with path := { d.path with flw0 := { buckets := [(0, { occ := 1, slots := [(6, some ({ fp := fingerprint (Dev.fkey {} 0 15 []), lastHit := 0, valid := true, pinned := false, moving := false, kind := 0, second := false, body := zeros 40 ++ [15] ++ zeros 23 } : FSlot))] })] } } } : Dev)).testLive)).dev 0 15 [], (((testState (let d := (({} : Dev).sf (rFLW_STATUS 0) fFLW_STATUS_READY 1); ({ d with path := { d.path with flw0 := { buckets := [(0, { occ := 1, slots := [(6, some ({ fp := fingerprint (Dev.fkey {} 0 15 []), lastHit := 0, valid := true, pinned := false, moving := false, kind := 0, second := false, body := zeros 40 ++ [15] ++ zeros 23 } : FSlot))] })] } } } : Dev)).testLive)).dev.recSeen 0 (Dev.fkey ((testState (let d := (({} : Dev).sf (rFLW_STATUS 0) fFLW_STATUS_READY 1); ({ d with path := { d.path with flw0 := { buckets := [(0, { occ := 1, slots := [(6, some ({ fp := fingerprint (Dev.fkey {} 0 15 []), lastHit := 0, valid := true, pinned := false, moving := false, kind := 0, second := false, body := zeros 40 ++ [15] ++ zeros 23 } : FSlot))] })] } } } : Dev)).testLive)).dev 0 15 [])).get (by decide), by decide⟩,
   ⟨testState (({} : Dev).sf (rFLW_STATUS 0) fFLW_STATUS_READY 1).testLive, 0, 15, [], Dev.fkey ((testState (({} : Dev).sf (rFLW_STATUS 0) fFLW_STATUS_READY 1).testLive)).dev 0 15 [], by decide⟩,
   ⟨testState ({} : Dev), 3, 255, beBytes 4 0xFFFFFF ++ beBytes 4 0xFFFFFF, by decide⟩,
   ⟨testState ({} : Dev), 3, 255, beBytes 4 1 ++ beBytes 4 0, by decide⟩⟩

/-- Premises of O51 met together, clause by clause. -/
theorem witness_FlowAndQueueCommands_4 :
    (∃ (s : State) (index : BitVec 16) (bytes : List Byte), Live s ∧ index.toNat < 256 ∧ bytes.length = 8) ∧
    (∃ (s : State) (die : Fin 2) (k : Fin 128) (n : _), Live s ∧ bits (s.dev.rn (rFLW_PC_RETIRED die (k.val / 32))) (k.val % 32) (k.val % 32) = 0 ∧ (s.dev.flw die).retire = none ∧ s.dev.f (rFLW_REHASH die) fFLW_REHASH_STATE = 0 ∧ s.dev.f (rFLW_SPARE die) (if k.val < 64 then fFLW_SPARE_STACK0 else fFLW_SPARE_STACK1) = n + 1) ∧
    (∃ (s : State) (die : Fin 2) (k : Fin 128) (j : _), Live s ∧ bits (s.dev.rn (rFLW_PC_RETIRED die (k.val / 32))) (k.val % 32) (k.val % 32) = 0 ∧ (s.dev.flw die).retire = some j) ∧
    (∃ (s : State) (die : Fin 2), Live s ∧ (s.dev.flw die).retire = none ∧ (s.dev.flw die).rehashOn = false ∧ (s.dev.flw die).flushSet = none ∧ s.dev.b (rFLW_STATUS die) fFLW_STATUS_READY = true) ∧
    (∃ (s : State) (die : Fin 2), Live s ∧ (s.dev.flw die).retire = none ∧ (s.dev.flw die).rehashOn = false ∧ (s.dev.flw die).flushSet = none ∧ s.dev.b (rFLW_STATUS die) fFLW_STATUS_READY = false) :=
  ⟨⟨testState ({} : Dev), 255, zeros 8, by decide⟩,
   ⟨testState ((({} : Dev).sf (rFLW_SPARE 0) fFLW_SPARE_STACK0 1).sf (rFLW_SPARE 0) fFLW_SPARE_STACK1 1).testLive, 0, 127, 0, by decide⟩,
   ⟨testState (let d := ({} : Dev); ({ d with path := { d.path with flw0 := { retire := some ({ pc := 0, row := 0, rows := 2 } : RetireJob) } } } : Dev)).testLive, 0, 127, ({ pc := 0, row := 0, rows := 2 } : RetireJob), by decide⟩,
   ⟨testState (({} : Dev).sf (rFLW_STATUS 0) fFLW_STATUS_READY 1).testLive, 0, by decide⟩,
   ⟨testState ({} : Dev), 0, by decide⟩⟩

/-- Premises of O51 met together, clause by clause. -/
theorem witness_FlowAndQueueCommands_5 :
    (∃ (s : State) (die : Fin 2), Live s ∧ (s.dev.flw die).rehashOn = true) ∧
    (∃ (s : State) (h : CmdHdr) (port : BitVec 16) (queue : BitVec 8) (set : ShapeSet), Live s ∧ h.batch = none ∧ s.dev.portExists port.toNat = true ∧ (queue.toNat < 16 ∨ queue.toNat = 0xFF) ∧ shapeOk set = true) ∧
    (∃ (s : State) (h : CmdHdr) (port : BitVec 16) (set : ShapeSet), Live s ∧ h.batch = none ∧ (s.dev.portExists port.toNat = false ∨ shapeOk set = false)) ∧
    (∃ (s : State) (port : BitVec 16) (queue : BitVec 8), Live s ∧ queue.toNat < 16 ∧ s.dev.portExists port.toNat = true) ∧
    (∃ (s : State) (port : BitVec 16) (queue : BitVec 8), Live s ∧ queue.toNat < 16 ∧ s.dev.portExists port.toNat = false) :=
  ⟨⟨testState (let d := ({} : Dev); ({ d with path := { d.path with flw0 := { rehashOn := true } } } : Dev)).testLive, 0, by decide⟩,
   ⟨testState (({} : Dev).sf (rPRT_CFG 511) fPRT_CFG_MODE 1).testLive, testHdr, 511, 15, {}, by decide⟩,
   ⟨testState ({} : Dev), testHdr, 511, {}, by decide⟩,
   ⟨testState (({} : Dev).sf (rPRT_CFG 511) fPRT_CFG_MODE 1).testLive, 511, 15, by decide⟩,
   ⟨testState ({} : Dev), 0, 0, by decide⟩⟩

/-- Premises of O51 met together, clause by clause. -/
theorem witness_FlowAndQueueCommands_6 :
    (∃ (s : State) (h : CmdHdr), Live s ∧ h.batch = none) ∧
    (∃ (s : State) (g : BitVec 16) (x : McGroup), Live s ∧ kvGet {} s.dev.tbl.mem.groups g.toNat = x) ∧
    (∃ (s : State) (g : BitVec 16) (l : BitVec 32) (act : BitVec 2), Live s ∧ g.toNat < 1024 ∧ 60 ≤ l.toNat ∧ l.toNat ≤ 100000 ∧ act.toNat < 2 ∧ s.dev.b (rLVL_GRP_CFG g.toNat) fLVL_GRP_CFG_EN = false) ∧
    (∃ (s : State) (g : BitVec 16) (l : BitVec 32), Live s ∧ g.toNat < 1024 ∧ (l.toNat < 60 ∨ 100000 < l.toNat)) ∧
    (∃ (s : State) (g : BitVec 16) (l : BitVec 32) (act : BitVec 2), Live s ∧ g.toNat < 1024 ∧ 60 ≤ l.toNat ∧ l.toNat ≤ 100000 ∧ act.toNat < 2 ∧ s.dev.b (rLVL_GRP_CFG g.toNat) fLVL_GRP_CFG_EN = true ∧ l.toNat ≠ s.dev.f (rLVL_GRP_CFG g.toNat) fLVL_GRP_CFG_L ∧ s.dev.lvlWindow g.toNat = true) :=
  ⟨⟨testState ({} : Dev), testHdr, by decide⟩,
   ⟨testState ({} : Dev), 0, {}, by decide⟩,
   ⟨testState ({} : Dev), 1023, 60, 1, by decide⟩,
   ⟨testState ({} : Dev), 0, 0, by decide⟩,
   ⟨testState ((({} : Dev).sf (rLVL_GRP_CFG 1023) fLVL_GRP_CFG_EN 1).sf (rLVL_GRP_CFG 1023) fLVL_GRP_CFG_L 100), 1023, 60, 1, by decide⟩⟩

/-- Premises of O51 met together, clause by clause. -/
theorem witness_FlowAndQueueCommands_7 :
    (∃ (s : State) (q : BitVec 16) (g : BitVec 16) (dest : BitVec 16) (cells : BitVec 32) (en : Bool) (pg : Bool) (v : Nat), Live s ∧ q.toNat < 1024 ∧ g.toNat < 1024 ∧ dest.toNat < 512 ∧ cells.toNat < 2 ^ 19 ∧ v = en.toNat * 2 ^ 31 + pg.toNat * 2 ^ 30 + g.toNat * 2 ^ 20 + dest.toNat ∧ s.dev.lvlQueueOk q.toNat v = true) ∧
    (∃ (s : State) (q : BitVec 16) (g : BitVec 16) (dest : BitVec 16) (cells : BitVec 32) (en : Bool) (pg : Bool) (v : Nat), Live s ∧ q.toNat < 1024 ∧ g.toNat < 1024 ∧ dest.toNat < 512 ∧ cells.toNat < 2 ^ 19 ∧ v = en.toNat * 2 ^ 31 + pg.toNat * 2 ^ 30 + g.toNat * 2 ^ 20 + dest.toNat ∧ s.dev.lvlQueueOk q.toNat v = false) ∧
    (∃ (s : State) (first : BitVec 16) (count : BitVec 16) (ranks : List (BitVec 16)), Live s ∧ ranks.length = count.toNat ∧ 1 ≤ count.toNat ∧ count.toNat ≤ 256 ∧ first.toNat + count.toNat ≤ 512) ∧
    (∃ (s : State) (first : BitVec 16) (count : BitVec 16) (ranks : List (BitVec 16)), Live s ∧ ranks.length = count.toNat ∧ 512 < first.toNat + count.toNat) :=
  ⟨⟨testState ({} : Dev), 0, 0, 0, 0, false, false, 0, by decide⟩,
   ⟨testState ({} : Dev), 1023, 1023, 0, 0, false, false, 1023 * 2 ^ 20, by decide⟩,
   ⟨testState ({} : Dev), 256, 256, List.replicate 256 0, by decide⟩,
   ⟨testState ({} : Dev), 512, 1, [0], by decide⟩⟩

/-- Premises of O52 met together, clause by clause. -/
theorem witness_DomainTree_1 :
    (∃ (s : State) (v : BitVec 32), bits v.toNat 31 31 = 1 ∧ s.dev.b rDOM_CTRL fDOM_CTRL_EN = false ∧ (∃ j < 16, s.dev.rn (rDOM_PORT_EN j) ≠ 0)) ∧
    (∃ (s : State) (v : BitVec 32), bits v.toNat 31 31 = 1 ∧ s.dev.b rDOM_CTRL fDOM_CTRL_EN = false ∧ (∀ j < 16, s.dev.rn (rDOM_PORT_EN j) = 0)) ∧
    (∃ (s : State) (v : BitVec 32), bits v.toNat 31 31 = 0 ∧ s.dev.dom.parent = none ∧ s.dev.domState = 0) ∧
    (∃ (s : State) (die : Fin 2) (m : _) (d1 : _), Live s ∧ s.dev.domTake die 0x01 = some (m, d1) ∧ d1.domState ≠ 0 ∧ m.body.length = 32 ∧ d1.isUp m.port = true) ∧
    (∃ (s : State) (p : Fin 512), Live s ∧ s.dev.trk.tick % 1000 = 0 ∧ s.dev.domPortEn p = true ∧ s.dev.isUp p = true ∧ (s.dev.adj p).st ≠ 2 ∧ s.dev.rod ≤ (s.dev.adj p).upRod + 10 ∧ s.dev.domState ≠ 0) ∧
    (∃ (s : State) (p : Fin 512), (s.dev.adj p).st = 2) ∧
    (∃ (s : State), Live s ∧ s.dev.trk.tick % 10000 = 0 ∧ s.dev.domState ≠ 0) ∧
    (∃ (s : State) (p : Fin 512), Live s ∧ (s.dev.adj p).st ≠ 0 ∧ s.dev.isUp p = false ∧ ((∀ q : Nat, q ≠ p.val → (s.dev.adj q).partner ≠ (s.dev.adj p).partner)) ∧ s.dev.dom.parent ≠ some ((s.dev.adj p).partner, p.val)) ∧
    (∃ (s : State) (p : Fin 512), Live s ∧ (s.dev.adj p).st ≠ 0 ∧ s.dev.isUp p = false ∧ ((∀ q : Nat, q ≠ p.val → (s.dev.adj q).partner ≠ (s.dev.adj p).partner)) ∧ s.dev.dom.children = [] ∧ s.dev.dom.parent = some ((s.dev.adj p).partner, p.val)) ∧
    (∃ (s : State), Live s ∧ s.dev.domState = 1 ∧ s.dev.dom.next = none ∧ s.dev.b rDOM_CTRL fDOM_CTRL_ROOT_ELIG = true ∧ s.dev.dom.seekRod + s.dev.lf rDOM_ROOT_CFG fDOM_ROOT_CFG_ROOT_HOLD_RODS ≤ s.dev.rod ∧ (∀ x ∈ s.dev.dom.adj, x.2.st ≠ 2)) :=
  ⟨⟨testState ((({} : Dev).wn (rDOM_PORT_EN 15) 1).sf rDOM_CTRL fDOM_CTRL_EN 0).testLive, 0x80000000, by decide, by decide, ⟨15, by decide⟩⟩,
   ⟨testState (({} : Dev).sf rDOM_CTRL fDOM_CTRL_EN 0).testLive, 0x80000000, by decide⟩,
   ⟨testState ({} : Dev), 0, by decide⟩,
   ⟨testState (let d := ((({} : Dev).sf rDOM_STATUS fDOM_STATUS_STATE 1).sf (rPRT_STATUS 0) fPRT_STATUS_STATE 5); ({ d with dom := { d.dom with q0 := [({ port := 0, bytes := zeros 14 ++ [1, 0x01] ++ zeros 4 ++ [0, 3, 0, 9] ++ zeros 12 ++ beBytes 2 (zeros 32).length ++ [0, 1] ++ zeros 32, tick := 0 } : DomFrame)] } } : Dev)).testLive, 0, ((((testState (let d := ((({} : Dev).sf rDOM_STATUS fDOM_STATUS_STATE 1).sf (rPRT_STATUS 0) fPRT_STATUS_STATE 5); ({ d with dom := { d.dom with q0 := [({ port := 0, bytes := zeros 14 ++ [1, 0x01] ++ zeros 4 ++ [0, 3, 0, 9] ++ zeros 12 ++ beBytes 2 (zeros 32).length ++ [0, 1] ++ zeros 32, tick := 0 } : DomFrame)] } } : Dev)).testLive)).dev.domTake 0 0x01).get (by decide)).1, ((((testState (let d := ((({} : Dev).sf rDOM_STATUS fDOM_STATUS_STATE 1).sf (rPRT_STATUS 0) fPRT_STATUS_STATE 5); ({ d with dom := { d.dom with q0 := [({ port := 0, bytes := zeros 14 ++ [1, 0x01] ++ zeros 4 ++ [0, 3, 0, 9] ++ zeros 12 ++ beBytes 2 (zeros 32).length ++ [0, 1] ++ zeros 32, tick := 0 } : DomFrame)] } } : Dev)).testLive)).dev.domTake 0 0x01).get (by decide)).2, by decide, by decide, by decide, by decide, by decide⟩,
   ⟨testState (((({} : Dev).sf rDOM_STATUS fDOM_STATUS_STATE 1).sf (rPRT_STATUS 0) fPRT_STATUS_STATE 5).wn (rDOM_PORT_EN 0) 1).testLive, 0, by decide⟩,
   ⟨testState (let d := ({} : Dev); ({ d with dom := { d.dom with adj := [(511, { st := 2 })] } } : Dev)).testLive, 511, by decide⟩,
   ⟨testState (({} : Dev).sf rDOM_STATUS fDOM_STATUS_STATE 1).testLive, by decide⟩,
   ⟨testState (let d := ({} : Dev); ({ d with dom := { d.dom with adj := [(511, { st := 2, partner := 7 })] } } : Dev)).testLive, 511, by decide, by decide, by decide, (fun q hq => by rw [show (testState _).dev.adj q = kvGet {} [(511, _)] q from rfl, kvGet, if_neg (show ¬(511 = q) from fun h => hq h.symm)]; show ({} : AdjSt).partner ≠ 7; decide), by decide⟩,
   ⟨testState (let d := ({} : Dev); ({ d with dom := { d.dom with adj := [(511, { st := 2, partner := 7 })], parent := some (7, 511) } } : Dev)).testLive, 511, by decide, by decide, by decide, (fun q hq => by rw [show (testState _).dev.adj q = kvGet {} [(511, _)] q from rfl, kvGet, if_neg (show ¬(511 = q) from fun h => hq h.symm)]; show ({} : AdjSt).partner ≠ 7; decide), by decide, by decide⟩,
   ⟨testState (let d := ((({} : Dev).sf rDOM_STATUS fDOM_STATUS_STATE 1).sf rDOM_CTRL fDOM_CTRL_ROOT_ELIG 1); ({ d with trk := { d.trk with tick := 1000000000 } } : Dev)).testLive, by decide, by decide, by decide, by decide, by decide, fun _ h => nomatch h⟩⟩

/-- Premises of O52 met together, clause by clause. -/
theorem witness_DomainTree_2 :
    (∃ (s : State), s.dev.b rDOM_CTRL fDOM_CTRL_ROOT_ELIG = false) ∧
    (∃ (s : State) (die : Fin 2) (m : _) (d1 : _), Live s ∧ s.dev.domTake die 0x02 = some (m, d1) ∧ (d1.domState = 3 ∨ d1.domState = 4) ∧ m.body.length = 4 ∧ (d1.adj m.port).st = 2 ∧ (d1.dom.children.filter fun (c : Nat × Nat) => decide (c.1 ≠ m.src)).length < 32 ∧ d1.domDepth + 1 + eb m.body 0 ≤ 6 ∧ m.src ∉ d1.dom.path ∧ ((d1.adj m.port).hello = none ∨ d1.dom.root = none)) ∧
    (∃ (s : State) (die : Fin 2) (m : _) (d1 : _), Live s ∧ s.dev.domTake die 0x02 = some (m, d1) ∧ ((d1.domState ≠ 3 ∧ d1.domState ≠ 4) ∨ 32 ≤ (d1.dom.children.filter fun (c : Nat × Nat) => decide (c.1 ≠ m.src)).length ∨ 6 < d1.domDepth + 1 + eb m.body 0 ∨ m.src ∈ d1.dom.path)) ∧
    (∃ (s : State) (die : Fin 2) (m : _) (d1 : _) (dev : _) (p : _) (t : _), Live s ∧ s.dev.domTake die 0x03 = some (m, d1) ∧ d1.dom.asked = some (dev, p, t) ∧ d1.domState = 2 ∧ dev = m.src ∧ p = m.port ∧ m.body.length = 14) ∧
    (∃ (s : State) (die : Fin 2) (m : _) (d1 : _) (dev : _) (p : _) (t : _), Live s ∧ s.dev.domTake die 0x04 = some (m, d1) ∧ d1.dom.asked = some (dev, p, t) ∧ d1.domState = 2 ∧ dev = m.src ∧ p = m.port ∧ m.body.length = 1) ∧
    (∃ (s : State) (dev : _) (p : _) (t : _), Live s ∧ s.dev.dom.asked = some (dev, p, t) ∧ s.dev.domState = 2 ∧ t + 1000 ≤ s.dev.trk.tick) ∧
    (∃ (s : State), s.dev.dom.asked = none) ∧
    (∃ (s : State) (die : Fin 2) (m : _) (d1 : _), Live s ∧ s.dev.domTake die 0x05 = some (m, d1) ∧ d1.domState ≠ 0 ∧ m.body.length % 2 = 0 ∧ m.body.length ≠ 0 ∧ d1.dom.parent.map (·.2) ≠ some m.port) ∧
    (∃ (s : State) (die : Fin 2) (m : _) (d1 : _) (dev : _), Live s ∧ s.dev.domTake die 0x05 = some (m, d1) ∧ d1.domState ≠ 0 ∧ m.body.length % 2 = 0 ∧ m.body.length ≠ 0 ∧ d1.dom.parent = some (dev, m.port)) ∧
    (∃ (s : State) (die : Fin 2) (m : _) (d1 : _), Live s ∧ s.dev.domTake die 0x06 = some (m, d1) ∧ d1.domState ≠ 0 ∧ 10 ≤ m.body.length ∧ m.body.length % 2 = 0 ∧ ((d1.domState = 4 → ∀ r ∈ d1.dom.registry, r.1 = (numbersOf m.body 8).headD 0xFFFF → r.2 = beAt m.body 0 8))) :=
  ⟨⟨testState ({} : Dev), by decide⟩,
   ⟨testState (let d := ((({} : Dev).sf rDOM_STATUS fDOM_STATUS_STATE 4).sf rDOM_STATUS fDOM_STATUS_DEPTH 0); ({ d with dom := { d.dom with q0 := [({ port := 0, bytes := zeros 14 ++ [1, 0x02] ++ zeros 4 ++ [0, 3, 0, 9] ++ zeros 12 ++ beBytes 2 (zeros 4).length ++ [0, 1] ++ zeros 4, tick := 0 } : DomFrame)], adj := [(0, { st := 2 })] } } : Dev)).testLive, 0, ((((testState (let d := ((({} : Dev).sf rDOM_STATUS fDOM_STATUS_STATE 4).sf rDOM_STATUS fDOM_STATUS_DEPTH 0); ({ d with dom := { d.dom with q0 := [({ port := 0, bytes := zeros 14 ++ [1, 0x02] ++ zeros 4 ++ [0, 3, 0, 9] ++ zeros 12 ++ beBytes 2 (zeros 4).length ++ [0, 1] ++ zeros 4, tick := 0 } : DomFrame)], adj := [(0, { st := 2 })] } } : Dev)).testLive)).dev.domTake 0 0x02).get (by decide)).1, ((((testState (let d := ((({} : Dev).sf rDOM_STATUS fDOM_STATUS_STATE 4).sf rDOM_STATUS fDOM_STATUS_DEPTH 0); ({ d with dom := { d.dom with q0 := [({ port := 0, bytes := zeros 14 ++ [1, 0x02] ++ zeros 4 ++ [0, 3, 0, 9] ++ zeros 12 ++ beBytes 2 (zeros 4).length ++ [0, 1] ++ zeros 4, tick := 0 } : DomFrame)], adj := [(0, { st := 2 })] } } : Dev)).testLive)).dev.domTake 0 0x02).get (by decide)).2, by decide, by decide, by decide, by decide, by decide, by decide, by decide, by decide, by decide⟩,
   ⟨testState (let d := (({} : Dev).sf rDOM_STATUS fDOM_STATUS_STATE 2); ({ d with dom := { d.dom with q0 := [({ port := 0, bytes := zeros 14 ++ [1, 0x02] ++ zeros 4 ++ [0, 3, 0, 9] ++ zeros 12 ++ beBytes 2 (zeros 4).length ++ [0, 1] ++ zeros 4, tick := 0 } : DomFrame)] } } : Dev)).testLive, 0, ((((testState (let d := (({} : Dev).sf rDOM_STATUS fDOM_STATUS_STATE 2); ({ d with dom := { d.dom with q0 := [({ port := 0, bytes := zeros 14 ++ [1, 0x02] ++ zeros 4 ++ [0, 3, 0, 9] ++ zeros 12 ++ beBytes 2 (zeros 4).length ++ [0, 1] ++ zeros 4, tick := 0 } : DomFrame)] } } : Dev)).testLive)).dev.domTake 0 0x02).get (by decide)).1, ((((testState (let d := (({} : Dev).sf rDOM_STATUS fDOM_STATUS_STATE 2); ({ d with dom := { d.dom with q0 := [({ port := 0, bytes := zeros 14 ++ [1, 0x02] ++ zeros 4 ++ [0, 3, 0, 9] ++ zeros 12 ++ beBytes 2 (zeros 4).length ++ [0, 1] ++ zeros 4, tick := 0 } : DomFrame)] } } : Dev)).testLive)).dev.domTake 0 0x02).get (by decide)).2, by decide, by decide, by decide⟩,
   ⟨testState (let d := (({} : Dev).sf rDOM_STATUS fDOM_STATUS_STATE 2); ({ d with dom := { d.dom with q0 := [({ port := 0, bytes := zeros 14 ++ [1, 0x03] ++ zeros 4 ++ [0, 3, 0, 9] ++ zeros 12 ++ beBytes 2 (zeros 14).length ++ [0, 1] ++ zeros 14, tick := 0 } : DomFrame)], asked := some (3, 0, 0) } } : Dev)).testLive, 0, ((((testState (let d := (({} : Dev).sf rDOM_STATUS fDOM_STATUS_STATE 2); ({ d with dom := { d.dom with q0 := [({ port := 0, bytes := zeros 14 ++ [1, 0x03] ++ zeros 4 ++ [0, 3, 0, 9] ++ zeros 12 ++ beBytes 2 (zeros 14).length ++ [0, 1] ++ zeros 14, tick := 0 } : DomFrame)], asked := some (3, 0, 0) } } : Dev)).testLive)).dev.domTake 0 0x03).get (by decide)).1, ((((testState (let d := (({} : Dev).sf rDOM_STATUS fDOM_STATUS_STATE 2); ({ d with dom := { d.dom with q0 := [({ port := 0, bytes := zeros 14 ++ [1, 0x03] ++ zeros 4 ++ [0, 3, 0, 9] ++ zeros 12 ++ beBytes 2 (zeros 14).length ++ [0, 1] ++ zeros 14, tick := 0 } : DomFrame)], asked := some (3, 0, 0) } } : Dev)).testLive)).dev.domTake 0 0x03).get (by decide)).2, 3, 0, 0, by decide, by decide, by decide, by decide, by decide, by decide, by decide⟩,
   ⟨testState (let d := (({} : Dev).sf rDOM_STATUS fDOM_STATUS_STATE 2); ({ d with dom := { d.dom with q0 := [({ port := 0, bytes := zeros 14 ++ [1, 0x04] ++ zeros 4 ++ [0, 3, 0, 9] ++ zeros 12 ++ beBytes 2 (zeros 1).length ++ [0, 1] ++ zeros 1, tick := 0 } : DomFrame)], asked := some (3, 0, 0) } } : Dev)).testLive, 0, ((((testState (let d := (({} : Dev).sf rDOM_STATUS fDOM_STATUS_STATE 2); ({ d with dom := { d.dom with q0 := [({ port := 0, bytes := zeros 14 ++ [1, 0x04] ++ zeros 4 ++ [0, 3, 0, 9] ++ zeros 12 ++ beBytes 2 (zeros 1).length ++ [0, 1] ++ zeros 1, tick := 0 } : DomFrame)], asked := some (3, 0, 0) } } : Dev)).testLive)).dev.domTake 0 0x04).get (by decide)).1, ((((testState (let d := (({} : Dev).sf rDOM_STATUS fDOM_STATUS_STATE 2); ({ d with dom := { d.dom with q0 := [({ port := 0, bytes := zeros 14 ++ [1, 0x04] ++ zeros 4 ++ [0, 3, 0, 9] ++ zeros 12 ++ beBytes 2 (zeros 1).length ++ [0, 1] ++ zeros 1, tick := 0 } : DomFrame)], asked := some (3, 0, 0) } } : Dev)).testLive)).dev.domTake 0 0x04).get (by decide)).2, 3, 0, 0, by decide, by decide, by decide, by decide, by decide, by decide, by decide⟩,
   ⟨testState (let d := (let d := (({} : Dev).sf rDOM_STATUS fDOM_STATUS_STATE 2); ({ d with dom := { d.dom with asked := some (3, 0, 0) } } : Dev)); ({ d with trk := { d.trk with tick := 1000 } } : Dev)).testLive, 3, 0, 0, by decide⟩,
   ⟨testState ({} : Dev), by decide⟩,
   ⟨testState (let d := (({} : Dev).sf rDOM_STATUS fDOM_STATUS_STATE 3); ({ d with dom := { d.dom with q0 := [({ port := 0, bytes := zeros 14 ++ [1, 0x05] ++ zeros 4 ++ [0, 3, 0, 9] ++ zeros 12 ++ beBytes 2 (zeros 2).length ++ [0, 1] ++ zeros 2, tick := 0 } : DomFrame)] } } : Dev)).testLive, 0, ((((testState (let d := (({} : Dev).sf rDOM_STATUS fDOM_STATUS_STATE 3); ({ d with dom := { d.dom with q0 := [({ port := 0, bytes := zeros 14 ++ [1, 0x05] ++ zeros 4 ++ [0, 3, 0, 9] ++ zeros 12 ++ beBytes 2 (zeros 2).length ++ [0, 1] ++ zeros 2, tick := 0 } : DomFrame)] } } : Dev)).testLive)).dev.domTake 0 0x05).get (by decide)).1, ((((testState (let d := (({} : Dev).sf rDOM_STATUS fDOM_STATUS_STATE 3); ({ d with dom := { d.dom with q0 := [({ port := 0, bytes := zeros 14 ++ [1, 0x05] ++ zeros 4 ++ [0, 3, 0, 9] ++ zeros 12 ++ beBytes 2 (zeros 2).length ++ [0, 1] ++ zeros 2, tick := 0 } : DomFrame)] } } : Dev)).testLive)).dev.domTake 0 0x05).get (by decide)).2, by decide, by decide, by decide, by decide, by decide, by decide⟩,
   ⟨testState (let d := (({} : Dev).sf rDOM_STATUS fDOM_STATUS_STATE 3); ({ d with dom := { d.dom with q0 := [({ port := 0, bytes := zeros 14 ++ [1, 0x05] ++ zeros 4 ++ [0, 3, 0, 9] ++ zeros 12 ++ beBytes 2 (zeros 2).length ++ [0, 1] ++ zeros 2, tick := 0 } : DomFrame)], parent := some (3, 0) } } : Dev)).testLive, 0, ((((testState (let d := (({} : Dev).sf rDOM_STATUS fDOM_STATUS_STATE 3); ({ d with dom := { d.dom with q0 := [({ port := 0, bytes := zeros 14 ++ [1, 0x05] ++ zeros 4 ++ [0, 3, 0, 9] ++ zeros 12 ++ beBytes 2 (zeros 2).length ++ [0, 1] ++ zeros 2, tick := 0 } : DomFrame)], parent := some (3, 0) } } : Dev)).testLive)).dev.domTake 0 0x05).get (by decide)).1, ((((testState (let d := (({} : Dev).sf rDOM_STATUS fDOM_STATUS_STATE 3); ({ d with dom := { d.dom with q0 := [({ port := 0, bytes := zeros 14 ++ [1, 0x05] ++ zeros 4 ++ [0, 3, 0, 9] ++ zeros 12 ++ beBytes 2 (zeros 2).length ++ [0, 1] ++ zeros 2, tick := 0 } : DomFrame)], parent := some (3, 0) } } : Dev)).testLive)).dev.domTake 0 0x05).get (by decide)).2, 3, by decide, by decide, by decide, by decide, by decide, by decide⟩,
   ⟨testState (let d := (({} : Dev).sf rDOM_STATUS fDOM_STATUS_STATE 3); ({ d with dom := { d.dom with q0 := [({ port := 0, bytes := zeros 14 ++ [1, 0x06] ++ zeros 4 ++ [0, 3, 0, 9] ++ zeros 12 ++ beBytes 2 (zeros 10).length ++ [0, 1] ++ zeros 10, tick := 0 } : DomFrame)] } } : Dev)).testLive, 0, ((((testState (let d := (({} : Dev).sf rDOM_STATUS fDOM_STATUS_STATE 3); ({ d with dom := { d.dom with q0 := [({ port := 0, bytes := zeros 14 ++ [1, 0x06] ++ zeros 4 ++ [0, 3, 0, 9] ++ zeros 12 ++ beBytes 2 (zeros 10).length ++ [0, 1] ++ zeros 10, tick := 0 } : DomFrame)] } } : Dev)).testLive)).dev.domTake 0 0x06).get (by decide)).1, ((((testState (let d := (({} : Dev).sf rDOM_STATUS fDOM_STATUS_STATE 3); ({ d with dom := { d.dom with q0 := [({ port := 0, bytes := zeros 14 ++ [1, 0x06] ++ zeros 4 ++ [0, 3, 0, 9] ++ zeros 12 ++ beBytes 2 (zeros 10).length ++ [0, 1] ++ zeros 10, tick := 0 } : DomFrame)] } } : Dev)).testLive)).dev.domTake 0 0x06).get (by decide)).2, by decide, by decide, by decide, by decide, by decide, fun h => absurd h (by decide)⟩⟩

/-- Premises of O52 met together, clause by clause. -/
theorem witness_DomainTree_3 :
    (∃ (s : State) (die : Fin 2) (m : _) (d1 : _), Live s ∧ s.dev.domTake die 0x07 = some (m, d1) ∧ d1.domState ≠ 0 ∧ m.body.length = 10 ∧ beAt m.body 0 2 = d1.devNo ∧ d1.serial ≠ beAt m.body 2 8) ∧
    (∃ (s : State) (die : Fin 2) (m : _) (d1 : _) (r : _), Live s ∧ s.dev.domTake die 0x07 = some (m, d1) ∧ d1.domState ≠ 0 ∧ m.body.length = 10 ∧ beAt m.body 0 2 ≠ d1.devNo ∧ (d1.dom.routes.find? fun (x : Nat × Nat) => decide (x.1 = beAt m.body 0 2)) = some r) ∧
    (∃ (s : State) (die : Fin 2), s.dev.domTake die 0x01 = none) ∧
    (∃ (s : State) (die : Fin 2), s.dev.domTake die 0x02 = none) ∧
    (∃ (s : State) (die : Fin 2), s.dev.domTake die 0x03 = none) ∧
    (∃ (s : State) (die : Fin 2), s.dev.domTake die 0x04 = none) ∧
    (∃ (s : State) (die : Fin 2), s.dev.domTake die 0x05 = none) ∧
    (∃ (s : State) (die : Fin 2), s.dev.domTake die 0x06 = none) ∧
    (∃ (s : State) (die : Fin 2), s.dev.domTake die 0x07 = none) :=
  ⟨⟨testState (let d := ((({} : Dev).sf rDOM_STATUS fDOM_STATUS_STATE 3).sf rDOM_ID fDOM_ID_DEVICE 0); ({ d with dom := { d.dom with q0 := [({ port := 0, bytes := zeros 14 ++ [1, 0x07] ++ zeros 4 ++ [0, 3, 0, 9] ++ zeros 12 ++ beBytes 2 (zeros 10).length ++ [0, 1] ++ zeros 9 ++ [1], tick := 0 } : DomFrame)] } } : Dev)).testLive, 0, ((((testState (let d := ((({} : Dev).sf rDOM_STATUS fDOM_STATUS_STATE 3).sf rDOM_ID fDOM_ID_DEVICE 0); ({ d with dom := { d.dom with q0 := [({ port := 0, bytes := zeros 14 ++ [1, 0x07] ++ zeros 4 ++ [0, 3, 0, 9] ++ zeros 12 ++ beBytes 2 (zeros 10).length ++ [0, 1] ++ zeros 9 ++ [1], tick := 0 } : DomFrame)] } } : Dev)).testLive)).dev.domTake 0 0x07).get (by decide)).1, ((((testState (let d := ((({} : Dev).sf rDOM_STATUS fDOM_STATUS_STATE 3).sf rDOM_ID fDOM_ID_DEVICE 0); ({ d with dom := { d.dom with q0 := [({ port := 0, bytes := zeros 14 ++ [1, 0x07] ++ zeros 4 ++ [0, 3, 0, 9] ++ zeros 12 ++ beBytes 2 (zeros 10).length ++ [0, 1] ++ zeros 9 ++ [1], tick := 0 } : DomFrame)] } } : Dev)).testLive)).dev.domTake 0 0x07).get (by decide)).2, by decide, by decide, by decide, by decide, by decide, by decide⟩,
   ⟨testState (let d := ((({} : Dev).sf rDOM_STATUS fDOM_STATUS_STATE 3).sf rDOM_ID fDOM_ID_DEVICE 0); ({ d with dom := { d.dom with q0 := [({ port := 0, bytes := zeros 14 ++ [1, 0x07] ++ zeros 4 ++ [0, 3, 0, 9] ++ zeros 12 ++ beBytes 2 (([0, 5] ++ zeros 8)).length ++ [0, 1] ++ ([0, 5] ++ zeros 8), tick := 0 } : DomFrame)], routes := [(5, 9)] } } : Dev)).testLive, 0, ((((testState (let d := ((({} : Dev).sf rDOM_STATUS fDOM_STATUS_STATE 3).sf rDOM_ID fDOM_ID_DEVICE 0); ({ d with dom := { d.dom with q0 := [({ port := 0, bytes := zeros 14 ++ [1, 0x07] ++ zeros 4 ++ [0, 3, 0, 9] ++ zeros 12 ++ beBytes 2 (([0, 5] ++ zeros 8)).length ++ [0, 1] ++ ([0, 5] ++ zeros 8), tick := 0 } : DomFrame)], routes := [(5, 9)] } } : Dev)).testLive)).dev.domTake 0 0x07).get (by decide)).1, ((((testState (let d := ((({} : Dev).sf rDOM_STATUS fDOM_STATUS_STATE 3).sf rDOM_ID fDOM_ID_DEVICE 0); ({ d with dom := { d.dom with q0 := [({ port := 0, bytes := zeros 14 ++ [1, 0x07] ++ zeros 4 ++ [0, 3, 0, 9] ++ zeros 12 ++ beBytes 2 (([0, 5] ++ zeros 8)).length ++ [0, 1] ++ ([0, 5] ++ zeros 8), tick := 0 } : DomFrame)], routes := [(5, 9)] } } : Dev)).testLive)).dev.domTake 0 0x07).get (by decide)).2, (5, 9), by decide, by decide, by decide, by decide, by decide, by decide⟩,
   ⟨testState ({} : Dev), 0, by decide⟩,
   ⟨testState ({} : Dev), 0, by decide⟩,
   ⟨testState ({} : Dev), 0, by decide⟩,
   ⟨testState ({} : Dev), 0, by decide⟩,
   ⟨testState ({} : Dev), 0, by decide⟩,
   ⟨testState ({} : Dev), 0, by decide⟩,
   ⟨testState ({} : Dev), 0, by decide⟩⟩

/-- Premises of O53 met together, clause by clause. -/
theorem witness_DomainMessages_1 :
    (∃ (s : State) (p : Fin 512) (bytes : List (BitVec 8)), Live s ∧ s.dev.isUp p = true ∧ s.dev.isRuley p bytes = true ∧ (s.dev.domQ (dieOf p)).length < 1024 ∧ eb bytes 14 = 1 ∧ beAt bytes 18 2 = s.dev.f rDOM_ID fDOM_ID_DOMAIN ∧ 1 ≤ eb bytes 15 ∧ eb bytes 15 ≤ 0x0F ∧ ebit bytes 16 7 = false) ∧
    (∃ (s : State) (p : Fin 512) (bytes : List (BitVec 8)), Live s ∧ s.dev.isUp p = true ∧ s.dev.isRuley p bytes = true ∧ (s.dev.domQ (dieOf p)).length < 1024 ∧ (eb bytes 14 ≠ 1 ∨ beAt bytes 18 2 ≠ s.dev.f rDOM_ID fDOM_ID_DOMAIN ∨ eb bytes 15 = 0 ∨ 0x0F < eb bytes 15)) ∧
    (∃ (s : State) (p : Fin 512) (bytes : List (BitVec 8)), Live s ∧ s.dev.isUp p = true ∧ s.dev.isRuley p bytes = true ∧ 1024 ≤ (s.dev.domQ (dieOf p)).length) ∧
    (∃ (s : State) (p : Fin 512) (bytes : List (BitVec 8)), s.dev.isRuley p bytes = false) ∧
    (∃ (s : State) (die : Fin 2) (f : _), Live s ∧ ((s.dev.domQ die).find? fun f => decide (f.tick + 100000 < s.dev.trk.tick) && !msgWhole (s.dev.domQ die) f.bytes) = some f) ∧
    (∃ (s : State) (die : Fin 2), (∀ f ∈ s.dev.domQ die, s.dev.trk.tick ≤ f.tick + 100000)) ∧
    (∃ (s : State) (die : Fin 2) (m : _) (d1 : _), Live s ∧ s.dev.domTake die 0x08 = some (m, d1) ∧ d1.domState ≠ 0 ∧ 40 ≤ m.body.length ∧ m.dst ≠ d1.devNo) ∧
    (∃ (s : State) (die : Fin 2) (m : _) (d1 : _), Live s ∧ s.dev.domTake die 0x09 = some (m, d1) ∧ d1.domState ≠ 0 ∧ 24 ≤ m.body.length ∧ m.dst ≠ d1.devNo) ∧
    (∃ (s : State) (die : Fin 2) (m : _) (d1 : _), Live s ∧ s.dev.domTake die 0x09 = some (m, d1) ∧ d1.domState ≠ 0 ∧ 24 ≤ m.body.length ∧ m.dst = d1.devNo ∧ (∀ x ∈ d1.host.relayed, x.token ≠ beAt m.body 0 6)) ∧
    (∃ (s : State) (die : Fin 2) (m : _) (d1 : _) (x : _) (r : _), Live s ∧ s.dev.domTake die 0x09 = some (m, d1) ∧ d1.domState ≠ 0 ∧ 24 ≤ m.body.length ∧ m.dst = d1.devNo ∧ (d1.host.relayed.find? fun y => decide (y.token = beAt m.body 0 6)) = some x ∧ x.ctx.src = .ring r) :=
  ⟨⟨testState (((({} : Dev).sf (rPRT_STATUS 0) fPRT_STATUS_STATE 5).wn (rDOM_PORT_EN 0) 1).sf rDOM_ID fDOM_ID_DOMAIN 0).testLive, 0, (([1, 0x80, 0xC2, 0, 0, 0xE] : List Byte) ++ zeros 6 ++ beBytes 2 (({} : Dev).f rDOM_ETYPE fDOM_ETYPE_ETYPE) ++ [1, 15] ++ zeros 48), by decide⟩,
   ⟨testState (((({} : Dev).sf (rPRT_STATUS 0) fPRT_STATUS_STATE 5).wn (rDOM_PORT_EN 0) 1).sf rDOM_ID fDOM_ID_DOMAIN 0).testLive, 0, (([1, 0x80, 0xC2, 0, 0, 0xE] : List Byte) ++ zeros 6 ++ beBytes 2 (({} : Dev).f rDOM_ETYPE fDOM_ETYPE_ETYPE) ++ [1, 16] ++ zeros 48), by decide⟩,
   ⟨testState (let d := (((({} : Dev).sf (rPRT_STATUS 0) fPRT_STATUS_STATE 5).wn (rDOM_PORT_EN 0) 1).sf rDOM_ID fDOM_ID_DOMAIN 0); ({ d with dom := { d.dom with q0 := List.replicate 1024 { port := 0, bytes := [], tick := 0 } } } : Dev)).testLive, 0, (([1, 0x80, 0xC2, 0, 0, 0xE] : List Byte) ++ zeros 6 ++ beBytes 2 (({} : Dev).f rDOM_ETYPE fDOM_ETYPE_ETYPE) ++ [1, 15] ++ zeros 48), by decide⟩,
   ⟨testState ({} : Dev), 0, [], by decide⟩,
   ⟨testState (let d := (let d := ({} : Dev); ({ d with dom := { d.dom with q0 := [({ port := 0, bytes := zeros 39 ++ [2], tick := 0 } : DomFrame)] } } : Dev)); ({ d with trk := { d.trk with tick := 100001 } } : Dev)).testLive, 0, ({ port := 0, bytes := zeros 39 ++ [2], tick := 0 } : DomFrame), by decide⟩,
   ⟨testState ({} : Dev), 0, by decide⟩,
   ⟨testState (let d := ((({} : Dev).sf rDOM_STATUS fDOM_STATUS_STATE 3).sf rDOM_ID fDOM_ID_DEVICE 4); ({ d with dom := { d.dom with q0 := [({ port := 0, bytes := zeros 14 ++ [1, 0x08] ++ zeros 4 ++ [0, 3, 0, 9] ++ zeros 12 ++ beBytes 2 (zeros 40).length ++ [0, 1] ++ zeros 40, tick := 0 } : DomFrame)] } } : Dev)).testLive, 0, ((((testState (let d := ((({} : Dev).sf rDOM_STATUS fDOM_STATUS_STATE 3).sf rDOM_ID fDOM_ID_DEVICE 4); ({ d with dom := { d.dom with q0 := [({ port := 0, bytes := zeros 14 ++ [1, 0x08] ++ zeros 4 ++ [0, 3, 0, 9] ++ zeros 12 ++ beBytes 2 (zeros 40).length ++ [0, 1] ++ zeros 40, tick := 0 } : DomFrame)] } } : Dev)).testLive)).dev.domTake 0 0x08).get (by decide)).1, ((((testState (let d := ((({} : Dev).sf rDOM_STATUS fDOM_STATUS_STATE 3).sf rDOM_ID fDOM_ID_DEVICE 4); ({ d with dom := { d.dom with q0 := [({ port := 0, bytes := zeros 14 ++ [1, 0x08] ++ zeros 4 ++ [0, 3, 0, 9] ++ zeros 12 ++ beBytes 2 (zeros 40).length ++ [0, 1] ++ zeros 40, tick := 0 } : DomFrame)] } } : Dev)).testLive)).dev.domTake 0 0x08).get (by decide)).2, by decide, by decide, by decide, by decide, by decide⟩,
   ⟨testState (let d := ((({} : Dev).sf rDOM_STATUS fDOM_STATUS_STATE 3).sf rDOM_ID fDOM_ID_DEVICE 4); ({ d with dom := { d.dom with q0 := [({ port := 0, bytes := zeros 14 ++ [1, 0x09] ++ zeros 4 ++ [0, 3, 0, 9] ++ zeros 12 ++ beBytes 2 (zeros 24).length ++ [0, 1] ++ zeros 24, tick := 0 } : DomFrame)] } } : Dev)).testLive, 0, ((((testState (let d := ((({} : Dev).sf rDOM_STATUS fDOM_STATUS_STATE 3).sf rDOM_ID fDOM_ID_DEVICE 4); ({ d with dom := { d.dom with q0 := [({ port := 0, bytes := zeros 14 ++ [1, 0x09] ++ zeros 4 ++ [0, 3, 0, 9] ++ zeros 12 ++ beBytes 2 (zeros 24).length ++ [0, 1] ++ zeros 24, tick := 0 } : DomFrame)] } } : Dev)).testLive)).dev.domTake 0 0x09).get (by decide)).1, ((((testState (let d := ((({} : Dev).sf rDOM_STATUS fDOM_STATUS_STATE 3).sf rDOM_ID fDOM_ID_DEVICE 4); ({ d with dom := { d.dom with q0 := [({ port := 0, bytes := zeros 14 ++ [1, 0x09] ++ zeros 4 ++ [0, 3, 0, 9] ++ zeros 12 ++ beBytes 2 (zeros 24).length ++ [0, 1] ++ zeros 24, tick := 0 } : DomFrame)] } } : Dev)).testLive)).dev.domTake 0 0x09).get (by decide)).2, by decide, by decide, by decide, by decide, by decide⟩,
   ⟨testState (let d := ((({} : Dev).sf rDOM_STATUS fDOM_STATUS_STATE 3).sf rDOM_ID fDOM_ID_DEVICE 9); ({ d with dom := { d.dom with q0 := [({ port := 0, bytes := zeros 14 ++ [1, 0x09] ++ zeros 4 ++ [0, 3, 0, 9] ++ zeros 12 ++ beBytes 2 (zeros 24).length ++ [0, 1] ++ zeros 24, tick := 0 } : DomFrame)] } } : Dev)).testLive, 0, ((((testState (let d := ((({} : Dev).sf rDOM_STATUS fDOM_STATUS_STATE 3).sf rDOM_ID fDOM_ID_DEVICE 9); ({ d with dom := { d.dom with q0 := [({ port := 0, bytes := zeros 14 ++ [1, 0x09] ++ zeros 4 ++ [0, 3, 0, 9] ++ zeros 12 ++ beBytes 2 (zeros 24).length ++ [0, 1] ++ zeros 24, tick := 0 } : DomFrame)] } } : Dev)).testLive)).dev.domTake 0 0x09).get (by decide)).1, ((((testState (let d := ((({} : Dev).sf rDOM_STATUS fDOM_STATUS_STATE 3).sf rDOM_ID fDOM_ID_DEVICE 9); ({ d with dom := { d.dom with q0 := [({ port := 0, bytes := zeros 14 ++ [1, 0x09] ++ zeros 4 ++ [0, 3, 0, 9] ++ zeros 12 ++ beBytes 2 (zeros 24).length ++ [0, 1] ++ zeros 24, tick := 0 } : DomFrame)] } } : Dev)).testLive)).dev.domTake 0 0x09).get (by decide)).2, by decide, by decide, by decide, by decide, by decide, by decide⟩,
   ⟨testState (let d := (let d := ((({} : Dev).sf rDOM_STATUS fDOM_STATUS_STATE 3).sf rDOM_ID fDOM_ID_DEVICE 9); ({ d with host := { d.host with relayed := [({ ctx := ({ src := .ring 15, tag := 0, flags := 0, opcode := 1, batch := 0, params := [] } : CmdCtx), token := 7, deck := 0 } : Relayed)] } } : Dev)); ({ d with dom := { d.dom with q0 := [({ port := 0, bytes := zeros 14 ++ [1, 0x09] ++ zeros 4 ++ [0, 3, 0, 9] ++ zeros 12 ++ beBytes 2 (([0, 0, 0, 0, 0, 7] ++ zeros 18)).length ++ [0, 1] ++ ([0, 0, 0, 0, 0, 7] ++ zeros 18), tick := 0 } : DomFrame)] } } : Dev)).testLive, 0, ((((testState (let d := (let d := ((({} : Dev).sf rDOM_STATUS fDOM_STATUS_STATE 3).sf rDOM_ID fDOM_ID_DEVICE 9); ({ d with host := { d.host with relayed := [({ ctx := ({ src := .ring 15, tag := 0, flags := 0, opcode := 1, batch := 0, params := [] } : CmdCtx), token := 7, deck := 0 } : Relayed)] } } : Dev)); ({ d with dom := { d.dom with q0 := [({ port := 0, bytes := zeros 14 ++ [1, 0x09] ++ zeros 4 ++ [0, 3, 0, 9] ++ zeros 12 ++ beBytes 2 (([0, 0, 0, 0, 0, 7] ++ zeros 18)).length ++ [0, 1] ++ ([0, 0, 0, 0, 0, 7] ++ zeros 18), tick := 0 } : DomFrame)] } } : Dev)).testLive)).dev.domTake 0 0x09).get (by decide)).1, ((((testState (let d := (let d := ((({} : Dev).sf rDOM_STATUS fDOM_STATUS_STATE 3).sf rDOM_ID fDOM_ID_DEVICE 9); ({ d with host := { d.host with relayed := [({ ctx := ({ src := .ring 15, tag := 0, flags := 0, opcode := 1, batch := 0, params := [] } : CmdCtx), token := 7, deck := 0 } : Relayed)] } } : Dev)); ({ d with dom := { d.dom with q0 := [({ port := 0, bytes := zeros 14 ++ [1, 0x09] ++ zeros 4 ++ [0, 3, 0, 9] ++ zeros 12 ++ beBytes 2 (([0, 0, 0, 0, 0, 7] ++ zeros 18)).length ++ [0, 1] ++ ([0, 0, 0, 0, 0, 7] ++ zeros 18), tick := 0 } : DomFrame)] } } : Dev)).testLive)).dev.domTake 0 0x09).get (by decide)).2, ({ ctx := ({ src := .ring 15, tag := 0, flags := 0, opcode := 1, batch := 0, params := [] } : CmdCtx), token := 7, deck := 0 } : Relayed), 15, by decide, by decide, by decide, by decide, by decide, by decide, by decide⟩⟩

/-- Premises of O53 met together, clause by clause. -/
theorem witness_DomainMessages_2 :
    (∃ (s : State) (die : Fin 2) (m : _) (d1 : _), Live s ∧ s.dev.domTake die 0x0A = some (m, d1) ∧ m.body.length ≠ 40 ∧ (∀ c ∈ d1.jrn.closed, m.src ∉ c.waiting)) ∧
    (∃ (s : State) (die : Fin 2) (m : _) (d1 : _), Live s ∧ s.dev.domTake die 0x0A = some (m, d1) ∧ m.body.length = 40 ∧ (∀ c ∈ d1.jrn.closed, c.deck ≠ beAt m.body 0 6) ∧ ((∀ x ∈ d1.jrn.childs, ¬ (beAt x.2 0 8 = beAt m.body 0 6 ∧ beAt x.2 8 2 = m.src))) ∧ (∃ p, (m.src, p) ∈ d1.dom.children) ∧ d1.jrn.openDeck ≤ beAt m.body 0 6 ∧ d1.jrnActive = true) ∧
    (∃ (s : State) (die : Fin 2) (m : _) (d1 : _), Live s ∧ s.dev.domTake die 0x0B = some (m, d1) ∧ d1.domState ≠ 0 ∧ m.body.length = 32 ∧ d1.domState ≠ 4 ∧ d1.isChild (beAt m.body 0 2) = false ∧ d1.dom.parent = none ∧ d1.b rDOM_CTRL fDOM_CTRL_FALLBACK_EN = false) ∧
    (∃ (s : State) (die : Fin 2) (m : _) (d1 : _), Live s ∧ s.dev.domTake die 0x0B = some (m, d1) ∧ d1.domState = 4) ∧
    (∃ (s : State), Live s) ∧
    (∃ (s : State) (first : BitVec 16) (count : BitVec 16), Live s ∧ 1 ≤ count.toNat ∧ first.toNat + count.toNat ≤ 512) ∧
    (∃ (s : State) (first : BitVec 16) (count : BitVec 16), Live s ∧ (count.toNat = 0 ∨ 512 < first.toNat + count.toNat)) :=
  ⟨⟨testState (let d := (({} : Dev).sf rDOM_STATUS fDOM_STATUS_STATE 3); ({ d with dom := { d.dom with q0 := [({ port := 0, bytes := zeros 14 ++ [1, 0x0A] ++ zeros 4 ++ [0, 3, 0, 9] ++ zeros 12 ++ beBytes 2 (zeros 39).length ++ [0, 1] ++ zeros 39, tick := 0 } : DomFrame)] } } : Dev)).testLive, 0, ((((testState (let d := (({} : Dev).sf rDOM_STATUS fDOM_STATUS_STATE 3); ({ d with dom := { d.dom with q0 := [({ port := 0, bytes := zeros 14 ++ [1, 0x0A] ++ zeros 4 ++ [0, 3, 0, 9] ++ zeros 12 ++ beBytes 2 (zeros 39).length ++ [0, 1] ++ zeros 39, tick := 0 } : DomFrame)] } } : Dev)).testLive)).dev.domTake 0 0x0A).get (by decide)).1, ((((testState (let d := (({} : Dev).sf rDOM_STATUS fDOM_STATUS_STATE 3); ({ d with dom := { d.dom with q0 := [({ port := 0, bytes := zeros 14 ++ [1, 0x0A] ++ zeros 4 ++ [0, 3, 0, 9] ++ zeros 12 ++ beBytes 2 (zeros 39).length ++ [0, 1] ++ zeros 39, tick := 0 } : DomFrame)] } } : Dev)).testLive)).dev.domTake 0 0x0A).get (by decide)).2, by decide, by decide, by decide, by decide⟩,
   ⟨testState (let d := ((({} : Dev).sf rDOM_STATUS fDOM_STATUS_STATE 3).sf rJRN_STATUS fJRN_STATUS_STATE 2); ({ d with dom := { d.dom with q0 := [({ port := 0, bytes := zeros 14 ++ [1, 0x0A] ++ zeros 4 ++ [0, 3, 0, 9] ++ zeros 12 ++ beBytes 2 (zeros 40).length ++ [0, 1] ++ zeros 40, tick := 0 } : DomFrame)], children := [(3, 0)] } } : Dev)).testLive, 0, ((((testState (let d := ((({} : Dev).sf rDOM_STATUS fDOM_STATUS_STATE 3).sf rJRN_STATUS fJRN_STATUS_STATE 2); ({ d with dom := { d.dom with q0 := [({ port := 0, bytes := zeros 14 ++ [1, 0x0A] ++ zeros 4 ++ [0, 3, 0, 9] ++ zeros 12 ++ beBytes 2 (zeros 40).length ++ [0, 1] ++ zeros 40, tick := 0 } : DomFrame)], children := [(3, 0)] } } : Dev)).testLive)).dev.domTake 0 0x0A).get (by decide)).1, ((((testState (let d := ((({} : Dev).sf rDOM_STATUS fDOM_STATUS_STATE 3).sf rJRN_STATUS fJRN_STATUS_STATE 2); ({ d with dom := { d.dom with q0 := [({ port := 0, bytes := zeros 14 ++ [1, 0x0A] ++ zeros 4 ++ [0, 3, 0, 9] ++ zeros 12 ++ beBytes 2 (zeros 40).length ++ [0, 1] ++ zeros 40, tick := 0 } : DomFrame)], children := [(3, 0)] } } : Dev)).testLive)).dev.domTake 0 0x0A).get (by decide)).2, by decide, by decide, by decide, by decide, by decide, ⟨0, by decide⟩, by decide, by decide⟩,
   ⟨testState (let d := ((({} : Dev).sf rDOM_STATUS fDOM_STATUS_STATE 3).sf rDOM_CTRL fDOM_CTRL_FALLBACK_EN 0); ({ d with dom := { d.dom with q0 := [({ port := 0, bytes := zeros 14 ++ [1, 0x0B] ++ zeros 4 ++ [0, 3, 0, 9] ++ zeros 12 ++ beBytes 2 (zeros 32).length ++ [0, 1] ++ zeros 32, tick := 0 } : DomFrame)] } } : Dev)).testLive, 0, ((((testState (let d := ((({} : Dev).sf rDOM_STATUS fDOM_STATUS_STATE 3).sf rDOM_CTRL fDOM_CTRL_FALLBACK_EN 0); ({ d with dom := { d.dom with q0 := [({ port := 0, bytes := zeros 14 ++ [1, 0x0B] ++ zeros 4 ++ [0, 3, 0, 9] ++ zeros 12 ++ beBytes 2 (zeros 32).length ++ [0, 1] ++ zeros 32, tick := 0 } : DomFrame)] } } : Dev)).testLive)).dev.domTake 0 0x0B).get (by decide)).1, ((((testState (let d := ((({} : Dev).sf rDOM_STATUS fDOM_STATUS_STATE 3).sf rDOM_CTRL fDOM_CTRL_FALLBACK_EN 0); ({ d with dom := { d.dom with q0 := [({ port := 0, bytes := zeros 14 ++ [1, 0x0B] ++ zeros 4 ++ [0, 3, 0, 9] ++ zeros 12 ++ beBytes 2 (zeros 32).length ++ [0, 1] ++ zeros 32, tick := 0 } : DomFrame)] } } : Dev)).testLive)).dev.domTake 0 0x0B).get (by decide)).2, by decide, by decide, by decide, by decide, by decide, by decide, by decide, by decide⟩,
   ⟨testState (let d := (({} : Dev).sf rDOM_STATUS fDOM_STATUS_STATE 4); ({ d with dom := { d.dom with q0 := [({ port := 0, bytes := zeros 14 ++ [1, 0x0B] ++ zeros 4 ++ [0, 3, 0, 9] ++ zeros 12 ++ beBytes 2 (zeros 32).length ++ [0, 1] ++ zeros 32, tick := 0 } : DomFrame)] } } : Dev)).testLive, 0, ((((testState (let d := (({} : Dev).sf rDOM_STATUS fDOM_STATUS_STATE 4); ({ d with dom := { d.dom with q0 := [({ port := 0, bytes := zeros 14 ++ [1, 0x0B] ++ zeros 4 ++ [0, 3, 0, 9] ++ zeros 12 ++ beBytes 2 (zeros 32).length ++ [0, 1] ++ zeros 32, tick := 0 } : DomFrame)] } } : Dev)).testLive)).dev.domTake 0 0x0B).get (by decide)).1, ((((testState (let d := (({} : Dev).sf rDOM_STATUS fDOM_STATUS_STATE 4); ({ d with dom := { d.dom with q0 := [({ port := 0, bytes := zeros 14 ++ [1, 0x0B] ++ zeros 4 ++ [0, 3, 0, 9] ++ zeros 12 ++ beBytes 2 (zeros 32).length ++ [0, 1] ++ zeros 32, tick := 0 } : DomFrame)] } } : Dev)).testLive)).dev.domTake 0 0x0B).get (by decide)).2, by decide, by decide, by decide⟩,
   ⟨testState ({} : Dev), by decide⟩,
   ⟨testState ({} : Dev), 511, 1, by decide⟩,
   ⟨testState ({} : Dev), 0, 0, by decide⟩⟩

/-- Premises of O54 met together, clause by clause. -/
theorem witness_FaultsClassified :
    (∃ (s : State) (die : Fin 2) (r : _), (s.dev.flt.die die).inbox = [r] ∧ r.injected = false ∧ s.dev.faultClass r ≤ 0xA) ∧
    (∃ (s : State) (die : Fin 2) (r : _) (n : _), (s.dev.flt.die die).inbox = [r] ∧ r.injected = false ∧ s.dev.faultClass r = 0xB ∧ s.dev.fltRec die = none ∧ (s.dev.flt.die die).logPlace 0xB = n ∧ n ≠ 0xFFFF) ∧
    (∃ (s : State) (die : Fin 2) (r : _) (n : _), (s.dev.flt.die die).inbox = [r] ∧ r.injected = false ∧ 0xD ≤ s.dev.faultClass r ∧ s.dev.faultClass r ≤ 0xE ∧ s.dev.fltRec die = none ∧ (s.dev.flt.die die).logPlace (s.dev.faultClass r) = n ∧ n ≠ 0xFFFF ∧ s.dev.b rFLT_STATUS fFLT_STATUS_SAFE = false ∧ s.dev.flt.safeDue = none) ∧
    (∃ (s : State) (die : Fin 2) (h : _) (y : _), (s.dev.flt.die die).handling = some h ∧ h.cls = 0xC ∧ s.dev.logAt die h.idx = some y) ∧
    (∃ (s : State) (die : Fin 2), (s.dev.flt.die die).handling = none) ∧
    (∃ (s : State) (die : Fin 2) (n : _) (l : _) (y : _), s.dev.fltRec die = none ∧ (s.dev.flt.die die).queue = n :: l ∧ s.dev.logAt die n = some y) ∧
    (∃ (s : State) (die : Fin 2), (s.dev.flt.die die).queue = []) :=
  ⟨⟨testState (let d := ({} : Dev); ({ d with flt := { d.flt with die0 := { inbox := [({ cls := 0xA, block := 4, kind := 2, inst := 0, tick := 0 } : FaultRep)] } } } : Dev)).testLive, 0, ({ cls := 0xA, block := 4, kind := 2, inst := 0, tick := 0 } : FaultRep), by decide⟩,
   ⟨testState (let d := ({} : Dev); ({ d with flt := { d.flt with die0 := { inbox := [({ cls := 0xB, block := 4, kind := 2, inst := 0, tick := 0 } : FaultRep)] } } } : Dev)).testLive, 0, ({ cls := 0xB, block := 4, kind := 2, inst := 0, tick := 0 } : FaultRep), 0, by decide⟩,
   ⟨testState (let d := ({} : Dev); ({ d with flt := { d.flt with die0 := { inbox := [({ cls := 0xE, block := 4, kind := 2, inst := 0, tick := 0 } : FaultRep)] } } } : Dev)).testLive, 0, ({ cls := 0xE, block := 4, kind := 2, inst := 0, tick := 0 } : FaultRep), 0, by decide⟩,
   ⟨testState (let d := ({} : Dev); ({ d with flt := { d.flt with die0 := { handling := some ({ idx := 0, cls := 0xC, code := 0, since := 0, atTick := false } : HandRec), log := [(0, some ({ tick := 0, code := 0, cls := 0xC, injected := false, isOpen := true, marked := false, reported := false, cap := 0, joined := 0, endTick := 0, firstJoined := 0, seq := 0, detail := [] } : LogEntry))] } } } : Dev)).testLive, 0, ({ idx := 0, cls := 0xC, code := 0, since := 0, atTick := false } : HandRec), ({ tick := 0, code := 0, cls := 0xC, injected := false, isOpen := true, marked := false, reported := false, cap := 0, joined := 0, endTick := 0, firstJoined := 0, seq := 0, detail := [] } : LogEntry), by decide⟩,
   ⟨testState ({} : Dev), 0, by decide⟩,
   ⟨testState (let d := ({} : Dev); ({ d with flt := { d.flt with die0 := { queue := [0], log := [(0, some ({ tick := 0, code := 0, cls := 0xC, injected := false, isOpen := true, marked := false, reported := false, cap := 0, joined := 0, endTick := 0, firstJoined := 0, seq := 0, detail := [] } : LogEntry))] } } } : Dev)).testLive, 0, 0, [], ({ tick := 0, code := 0, cls := 0xC, injected := false, isOpen := true, marked := false, reported := false, cap := 0, joined := 0, endTick := 0, firstJoined := 0, seq := 0, detail := [] } : LogEntry), by decide⟩,
   ⟨testState ({} : Dev), 0, by decide⟩⟩

/-- Premises of O55 met together, clause by clause. -/
theorem witness_ColumnsAndSafeState :
    (∃ (s : State) (col : Fin 16), s.dev.colRetired col = false ∧ s.dev.flt.stoppedCols.contains col.val = false) ∧
    (∃ (s : State) (col : Fin 16), s.dev.colRetired col = true) ∧
    (∃ (s : State) (col : Fin 16), s.dev.flt.stoppedCols.contains col.val = true ∧ s.dev.colRetired (sibling col) = false ∧ s.dev.flt.stoppedCols.contains (sibling col) = false) ∧
    (∃ (s : State) (x : _), s.dev.flt.safeDue = some x ∧ s.dev.b rFLT_STATUS fFLT_STATUS_SAFE = false ∧ x.cls ≤ 0xE ∧ x.code < 2 ^ 32) ∧
    (∃ (s : State), s.dev.flt.safeDue = none) ∧
    (∃ (s : State) (die : Fin 3), 2 ≤ kvGet 0 s.dev.flt.quietDecks (die.val + 1) ∧ die.val + 1 ∉ s.dev.flt.dieSafe) ∧
    (∃ (s : State), s.dev.b rFLT_STATUS fFLT_STATUS_SAFE = true ∧ s.dev.f rFLT_STATUS fFLT_STATUS_SEAL = 2) ∧
    (∃ (s : State), s.dev.b rFLT_STATUS fFLT_STATUS_SAFE = false) ∧
    (∃ (s : State) (k : _), s.dev.flt.sealDeck = some k ∧ s.dev.f rFLT_STATUS fFLT_STATUS_SEAL = 2 ∧ k + 10 ≤ s.dev.deck) ∧
    (∃ (s : State) (v : BitVec 32), s.dev.b rFLT_STATUS fFLT_STATUS_SAFE = true ∧ v.toNat % 65536 = 0x5AFE) :=
  ⟨⟨testState ({} : Dev), 0, by decide⟩,
   ⟨testState (({} : Dev).sf rFLT_COL_RETIRED fFLT_COL_RETIRED_MAP 0x8000).testLive, 15, by decide⟩,
   ⟨testState (let d := ({} : Dev); ({ d with flt := { d.flt with stoppedCols := [15] } } : Dev)).testLive, 15, by decide⟩,
   ⟨testState (let d := ({} : Dev); ({ d with flt := { d.flt with safeDue := some ({ code := 0, cls := 0xE, die := 0, idx := 0, tick := 0, bytes := [], quiet := false } : SafeDue) } } : Dev)).testLive, ({ code := 0, cls := 0xE, die := 0, idx := 0, tick := 0, bytes := [], quiet := false } : SafeDue), by decide⟩,
   ⟨testState ({} : Dev), by decide⟩,
   ⟨testState (let d := ({} : Dev); ({ d with flt := { d.flt with quietDecks := [(3, 2)] } } : Dev)).testLive, 2, by decide⟩,
   ⟨testState ((({} : Dev).sf rFLT_STATUS fFLT_STATUS_SAFE 1).sf rFLT_STATUS fFLT_STATUS_SEAL 2).testLive, by decide⟩,
   ⟨testState ({} : Dev), by decide⟩,
   ⟨testState (let d := ((let d := ({} : Dev); ({ d with flt := { d.flt with sealDeck := some 0 } } : Dev)).sf rFLT_STATUS fFLT_STATUS_SEAL 2); ({ d with trk := { d.trk with tick := 1000000 } } : Dev)).testLive, 0, by decide⟩,
   ⟨testState (({} : Dev).sf rFLT_STATUS fFLT_STATUS_SAFE 1).testLive, 0x5AFE, by decide⟩⟩

/-- Premises of O56 met together, clause by clause. -/
theorem witness_KModeAndCounters :
    (∃ (s : State), s.dev.b rFLT_MODE fFLT_MODE_KMODE_DIS = false ∧ ((∀ p, p < 512 → s.dev.pState p = 0)) ∧ ((∀ g, g < 128 → s.dev.railState g = 0)) ∧ s.dev.f rJRN_STATUS fJRN_STATUS_STATE = 0 ∧ s.dev.b rDOM_CTRL fDOM_CTRL_EN = false) ∧
    (∃ (s : State), s.dev.b rFLT_MODE fFLT_MODE_KMODE_DIS = true) ∧
    (∃ (s : State), s.dev.b rFLT_KMODE fFLT_KMODE_ACTIVE = true) ∧
    (∃ (s : State), s.dev.b rFLT_KMODE fFLT_KMODE_ACTIVE = false) ∧
    (∃ (s : State) (u : Fin 32) (c : Fin 8) (n : Nat), s.dev.cntOn u c = true ∧ s.dev.b (rCNT_CFG u c) fCNT_CFG_RELOAD_EN = false ∧ s.dev.b (rCNT_CFG u c) fCNT_CFG_IRQ = false ∧ s.dev.b (rCNT_CFG u c) fCNT_CFG_FREEZE = false ∧ n < 2 ^ 48 ∧ 2 ^ 48 ≤ s.dev.rn (rCNT_VAL_HI u c) % 65536 * 2 ^ 32 + s.dev.rn (rCNT_VAL_LO u c) + n) :=
  ⟨⟨testState ({} : Dev), by decide⟩,
   ⟨testState (({} : Dev).sf rFLT_MODE fFLT_MODE_KMODE_DIS 1).testLive, by decide⟩,
   ⟨testState (({} : Dev).sf rFLT_KMODE fFLT_KMODE_ACTIVE 1).testLive, by decide⟩,
   ⟨testState ({} : Dev), by decide⟩,
   ⟨testState ((((((({} : Dev).sf rCNT_CTRL fCNT_CTRL_RUN 1).sf (rCNT_CFG 31 7) fCNT_CFG_EN 1).sf (rCNT_CFG 31 7) fCNT_CFG_IRQ 0).sf (rCNT_CFG 31 7) fCNT_CFG_FREEZE 0).sf (rCNT_CFG 31 7) fCNT_CFG_RELOAD_EN 0).wn (rCNT_VAL_LO 31 7) 1).testLive, 31, 7, 2 ^ 48 - 1, by decide⟩⟩

/-- Premises of O57 met together, clause by clause. -/
theorem witness_FaultAndOtpCommands :
    (∃ (s : State) (die : BitVec 8) (count : BitVec 32), Live s ∧ s.dev.b rFLT_CTRL fFLT_CTRL_INJ_EN = true ∧ s.dev.b rFLT_KMODE fFLT_KMODE_ACTIVE = false ∧ die.toNat < 2 ∧ 0 < count.toNat ∧ count.toNat ≤ 65535 ∧ (s.dev.flt.die die.toNat).armed.length < 16) ∧
    (∃ (s : State), Live s ∧ s.dev.b rFLT_CTRL fFLT_CTRL_INJ_EN = false) ∧
    (∃ (die : BitVec 8) (first : BitVec 16) (count : BitVec 16), die.toNat < 2 ∧ count.toNat ≤ 32 ∧ first.toNat < 1024) ∧
    (∃ (die : BitVec 8), 2 ≤ die.toNat) ∧
    (∃ (s : State) (die : BitVec 8), Live s ∧ die.toNat < 2) ∧
    (∃ (s : State) (die : BitVec 8), Live s ∧ 2 ≤ die.toNat) ∧
    (∃ (bank : BitVec 8) (offset : BitVec 16) (count : BitVec 16), bank.toNat ≤ 2 ∧ offset.toNat + count.toNat ≤ bankSize bank.toNat ∧ (¬ (bank.toNat = 1 ∧ offset.toNat < 32 ∧ count.toNat ≠ 0))) ∧
    (∃ (bank : BitVec 8) (offset : BitVec 16) (count : BitVec 16), bank.toNat = 1 ∧ offset.toNat < 32 ∧ count.toNat ≠ 0 ∧ offset.toNat + count.toNat ≤ bankSize 1) ∧
    (∃ (s : State) (gen : Vector Byte 256) (k : Nat) (l : List Nat), Live s ∧ burnOk gen.toList = true ∧ (List.range 4).filter (fun k => decide (genState (s.otp.gen k) = 0)) = k :: l) ∧
    (∃ (s : State) (gen : Vector (BitVec 8) 256), Live s ∧ burnOk gen.toList = false) :=
  ⟨⟨testState (({} : Dev).sf rFLT_CTRL fFLT_CTRL_INJ_EN 1).testLive, 1, 65535, by decide⟩,
   ⟨testState ({} : Dev), by decide⟩,
   ⟨0, 0, 0, by decide⟩,
   ⟨2, by decide⟩,
   ⟨testState ({} : Dev), 1, by decide⟩,
   ⟨testState ({} : Dev), 2, by decide⟩,
   ⟨0, 0, 0, by decide⟩,
   ⟨1, 31, 225, by decide⟩,
   ⟨testState ({} : Dev), (⟨(([0x5A, 0x3C, 2] ++ zeros 249 : List Byte) ++ beBytes 4 (crc32c ([0x5A, 0x3C, 2] ++ zeros 249 : List Byte))).toArray, by decide +kernel⟩ : Vector Byte 256), 0, [1, 2, 3], by decide +kernel⟩,
   ⟨testState ({} : Dev), 0, by decide⟩⟩

/-- Premises of O58 met together, clause by clause. -/
theorem witness_ResetPins :
    (∃ (s : State), s.dev.board.perst = true ∧ s.dev.board.supplyHold = false) ∧
    (∃ (s : State), (s.dev.board.perst = false ∨ s.dev.board.supplyHold = true)) ∧
    (∃ (s : State), s.dev.stepDone 2 = false) ∧
    (∃ (s : State), s.dev.stepDone 2 = true) ∧
    (∃ (s : State), s.dev.board.supplyHold = true) ∧
    (∃ (s : State), s.dev.board.hiZ = true) ∧
    (∃ (s : State), s.dev.board.hiZ = false) :=
  ⟨⟨testState ({} : Dev), by decide⟩,
   ⟨testState (let d := ({} : Dev); ({ d with board := { d.board with perst := false } } : Dev)).testLive, by decide⟩,
   ⟨testState ({} : Dev), by decide⟩,
   ⟨testState (let d := ({} : Dev); ({ d with board := { d.board with ended := [2] } } : Dev)).testLive, by decide⟩,
   ⟨testState (let d := ({} : Dev); ({ d with board := { d.board with supplyHold := true } } : Dev)).testLive, by decide⟩,
   ⟨testState (let d := ({} : Dev); ({ d with board := { d.board with hiZ := true } } : Dev)).testLive, by decide⟩,
   ⟨testState ({} : Dev), by decide⟩⟩

/-- Premises of O59 met together, clause by clause. -/
theorem witness_StartUpSteps_1 :
    (∃ (s : State), s.dev.mayStep 1 [] = true) ∧
    (∃ (s : State), s.dev.mayStep 2 [1] = true) ∧
    (∃ (s : State), s.dev.mayStep 3 [2] = true) ∧
    (∃ (s : State) (stack : Fin 4), s.dev.mayStep 4 [3] = true ∧ stack.val ∉ s.dev.board.trained) ∧
    (∃ (s : State), s.dev.mayStep 5 [3] = true) ∧
    (∃ (s : State), s.dev.mayStep 6 [3] = true ∧ s.dev.board.waitHost = false ∧ s.dev.bootSrc ≠ 1) ∧
    (∃ (v : BitVec 32), bits v.toNat 31 31 = 0 ∧ bits v.toNat 23 0 ≤ 8388608) ∧
    (∃ (s : State) (v : BitVec 32), bits v.toNat 31 31 = 1 ∧ bits v.toNat 23 0 ≤ 8388608 ∧ s.dev.mayStep 6 [3] = true ∧ s.dev.board.waitHost = true) ∧
    (∃ (s : State), s.dev.mayStep 7 [4] = true) ∧
    (∃ (s : State), s.dev.mayStep 8 [5, 6, 7] = true) :=
  ⟨⟨testState (let d := ({} : Dev); ({ d with board := { d.board with perst := false, ended := [] } } : Dev)).testLive, by decide⟩,
   ⟨testState (let d := ({} : Dev); ({ d with board := { d.board with perst := false, ended := [1] } } : Dev)).testLive, by decide⟩,
   ⟨testState (let d := ({} : Dev); ({ d with board := { d.board with perst := false, ended := [2] } } : Dev)).testLive, by decide⟩,
   ⟨testState (let d := ({} : Dev); ({ d with board := { d.board with perst := false, ended := [3] } } : Dev)).testLive, 3, by decide⟩,
   ⟨testState (let d := ({} : Dev); ({ d with board := { d.board with perst := false, ended := [3] } } : Dev)).testLive, by decide⟩,
   ⟨testState (let d := ({} : Dev); ({ d with board := { d.board with perst := false, ended := [3] } } : Dev)).testLive, by decide⟩,
   ⟨8388608, by decide⟩,
   ⟨testState (let d := ({} : Dev); ({ d with board := { d.board with perst := false, ended := [3], waitHost := true } } : Dev)).testLive, 0x80800000, by decide⟩,
   ⟨testState (let d := ({} : Dev); ({ d with board := { d.board with perst := false, ended := [4] } } : Dev)).testLive, by decide⟩,
   ⟨testState (let d := ({} : Dev); ({ d with board := { d.board with perst := false, ended := [5, 6, 7] } } : Dev)).testLive, by decide⟩⟩

/-- Premises of O59 met together, clause by clause. -/
theorem witness_StartUpSteps_2 :
    (∃ (s : State), s.dev.mayStep 9 [8] = true ∧ s.dev.bistEn = true) ∧
    (∃ (s : State), s.dev.mayStep 1 [] = false) ∧
    (∃ (s : State), s.dev.mayStep 2 [1] = false) ∧
    (∃ (s : State), s.dev.mayStep 3 [2] = false) ∧
    (∃ (s : State), s.dev.mayStep 4 [3] = false) ∧
    (∃ (s : State), s.dev.mayStep 5 [3] = false) ∧
    (∃ (s : State), s.dev.mayStep 6 [3] = false) ∧
    (∃ (s : State), s.dev.mayStep 7 [4] = false) ∧
    (∃ (s : State), s.dev.mayStep 8 [5, 6, 7] = false) ∧
    (∃ (s : State), s.dev.mayStep 9 [8] = false) :=
  ⟨⟨testState (let d := ({} : Dev); ({ d with board := { d.board with perst := false, ended := [8], gen := [0, 0, 0, 0, 4] } } : Dev)).testLive, by decide⟩,
   ⟨testState ({} : Dev), by decide⟩,
   ⟨testState ({} : Dev), by decide⟩,
   ⟨testState ({} : Dev), by decide⟩,
   ⟨testState ({} : Dev), by decide⟩,
   ⟨testState ({} : Dev), by decide⟩,
   ⟨testState ({} : Dev), by decide⟩,
   ⟨testState ({} : Dev), by decide⟩,
   ⟨testState ({} : Dev), by decide⟩,
   ⟨testState ({} : Dev), by decide⟩⟩

/-- A premise of O60 met: a command that completes. -/
theorem witness_CommandFrames : ∃ t, exec .bypass State.reset = .next t := ⟨_, rfl⟩

/-! ### Ill-formed commands -/

/-- An ill-formed term for each check of `Instr.wf` on units and ticks. -/
theorem test_ill_formed_units : ([
    .registerWrite false 0x2000000 32 0, .registerWrite false 0 24 0, .readClear 0 0, .pairLowReadLatch 0x2000000,
    .pairLowWriteCommit 0x2000000 0 0, .rodBoundary { sensors := [1] }, .deckBoundary [0, 0] [] false [0, 0, 0, 0],
    .deckBoundary [] [0, 0] false [0, 0, 0, 0], .deckBoundary [] [] false [0], .gridCheck [(0, 1), (0, 2)],
    .sidebandMessage 0 0 [.fault 0xF 0 0 0], .supervisorCommand 0 (.reset 0 256), .supervisorCommand 0 (.fault 0xA 27 0 0),
    .supervisorCommand 0 (.write 0x2000000 0), .frameChunkArrive 0 true false 64 [] 655360,
    .frameChunkArrive 0 true false 0 [] 0, .frameChunkArrive 0 false false 0 (zeros 65) 0, .copyDequeue 0 655360,
    .pauseFrameReceive 0 true 0 [0], .pauseFrameReceive 0 false 0 [65536], .laneCalDone 0 65536 0 true,
    .auditPass 0 [1, 1] 0 [], .auditPass 0 [] 393217 [], .ptpFrameReceive 0 [] 655360, .timeTask 0 655360 [],
    .timeTask 0 0 [(0, 1), (0, 2)], .ptpSyncSend 0 655360, .ptpDelayReqSend 0 655360, .ptpPdelayReqSend 0 655360,
    .ptpAnnounceSend 0 655360, .captureEdge 0 false 655360, .jrnDrainTask 0 0, .csScrubPass 0 [(0, true), (0, false)],
    .counterOverflow 0 0 0, .serdesCalibration 0 [3, 3]] : List Instr).all (fun i => !i.wf) = true := by decide

/-- An ill-formed term for each check of `Instr.wf` on packets of bytes. -/
theorem test_ill_formed_bytes : ([
    .commandFetch 0 (some (zeros 63)), .dmaDescriptorDone 0 (zeros 31) [], .tblCreate testHdr 0 (zeros 31),
    .tblBind testHdr 0 0 0 0 (zeros 31) 0, .tblInsert testHdr 0 0 0 0 (zeros 7) [] [],
    .tblInsert testHdr 0 0 0 0 (zeros 8) (zeros 81) [], .tblInsert testHdr 0 0 0 0 (zeros 8) [] (zeros 81),
    .tblDelete testHdr 0 0 0 0 (zeros 41), .tblRead testHdr 0 0 0 0 (zeros 41), .tcamStep testHdr 0 0 0 0 (zeros 81),
    .tblProfileWrite testHdr 0 0 0 0 0 (zeros 47), .flowInsert testHdr 0 0 0 [] (zeros 23),
    .flowInsert testHdr 0 0 0 (zeros 41) (zeros 24), .flowDelete testHdr 0 0 (zeros 41), .flowRead testHdr 0 0 (zeros 41),
    .flowWrite testHdr 0 0 [] 0 (zeros 25), .flowKill testHdr 0 0 (zeros 41), .flowUnkill testHdr 0 0 (zeros 41),
    .lvlRankWrite testHdr 0 2 [7], .mcCall testHdr 0 1 0 []] : List Instr).all (fun i => !i.wf) = true := by decide

/-- Commands at the edges of the same checks are accepted. -/
theorem test_well_formed : ([
    .registerWrite false 0x1FFFFFC 64 0, .deckBoundary [3, 0] [1] false [0, 0, 0, 0], .frameChunkArrive 511 true true 64 (zeros 64) 655359,
    .pauseFrameReceive 511 true 255 [0, 0, 0, 0, 0, 0, 0, 65535], .commandFetch 15 (some (zeros 4096)), .tcamStep testHdr 0 0 0 0 (zeros 80),
    .tblInsert testHdr 0 0 0 0 (zeros 8) (zeros 80) (zeros 80), .flowInsert testHdr 0 0 0 (zeros 40) (zeros 24)] :
    List Instr).all Instr.wf = true := by decide

/-! ### Worked examples of the spec -/

/-- A session's flow key in chapter 7's worked example. -/
def testFlow : FKey := { profile := 5, key := [], h1 := 0x9C3E21A7, h2 := 0x4410B9E3 }

/-- Chapter 7, a session message that misses: b1, its pseudo-channel, b2, the fingerprint. -/
theorem test_flow_buckets : homeBucket (2 ^ 26) testFlow = 40958086 ∧ bucketPc 40958086 = 67 ∧
    secondBucket (2 ^ 26) testFlow = 17842791 ∧ fingerprint testFlow = 0x2E9844 := by decide

/-- Chapters 7 and 8: locators of slots on each die. -/
theorem test_locators : locator 0 0x0270F886 4 = 0x1387C434 ∧ locator 1 0x01552A10 3 = 0x8AA95083 ∧
    locator 1 0x020377C5 5 = 0x901BBE2D := by decide

/-- Chapter 9, a partial multicast: CD1's reserves with four lossless ports of 514 cells and two tree ports. -/
theorem test_reserves : resvIn ([300, 304, 308, 312].foldl (fun d p => d.wn (rPRT_HEADROOM p) 514) ({} : Dev)).regs
    [256, 257] 1 = 59416 := by decide

/-- Chapter 10, a shaped retransmission queue: after the seventh reply the queue waits for tick 1,201; the reply of tick
1,201 sends it to 2,401; at twice the rate that of 2,401 to 3,001. -/
theorem test_shaper_waits :
    ({ credit := 900 * 4294967296, t0 := 720, rate := 1000000 } : Shaper).charge 720 1500 =
      { credit := -600 * 4294967296, t0 := 720, rate := 1000000, wheel := some (1201, false) } ∧
    (({ credit := -600 * 4294967296, t0 := 720, rate := 1000000 } : Shaper).refill 1201 1000000 9000).charge 1201 1500 =
      { credit := -1498 * 4294967296 - 3221225472, t0 := 1201, rate := 1000000, burst := 9000, wheel := some (2401, false) } ∧
    ((({ credit := -1498 * 4294967296 - 3221225472, t0 := 1201, rate := 1000000, burst := 9000 } : Shaper).refill 2401 2000000
      9000).charge 2401 1500).wheel = some (3001, false) := by decide

/-- Chapter 11, five orders to one engine: on-time boundaries of B, C and E and the departure of A, in units of 2.56 ns. -/
theorem test_departure_boundaries :
    ceilTo 4194304 (fine (stampTime (stampOf (2000 * 65536 + 16384)))) = 782 * 4194304 ∧
    ceilTo 4194304 (fine (2030 * 65536)) = 793 * 4194304 ∧ ceilTo 4194304 (fine (2150 * 65536)) = 840 * 4194304 ∧
    ceilTo 4194304 (782 * 4194304 + 704 * 163840) = 810 * 4194304 := by decide

/-- Chapter 12: a time-stamp of 456,789,012.5 ns carries nanoseconds 0x1B3A0C14 and fraction 0x8000. -/
theorem test_stamp : stampOf (456789012 * 65536 + 32768) = 0x1B3A0C148000 ∧
    stampTime (1712000040 * 2 ^ 48 + 0x1B3A0C148000) = (1712000040 * 1000000000 + 456789012) * 65536 + 32768 := by decide

/-- Chapter 13, verifying one order: count 5,000,000,000 on CD1 is sequence 0x25_40BE401. -/
theorem test_sequence : ({ jrn := { die1 := { n := 5000000000 } } } : Dev).jrnSeq 1 = 0x2540BE401 := by decide

/-- Chapter 18, a 700 W limit: the device before its planning task. -/
def testPlanner : Dev :=
  let d := ((({} : Dev).sf rNRG_LIMIT fNRG_LIMIT_WATTS 700).sf rNRG_CTRL fNRG_CTRL_EN 1).sf rNRG_CTRL fNRG_CTRL_THR_MODE 2
  let e := (d.sf rNRG_CTRL fNRG_CTRL_MARGIN_PCT 5).testLive
  { e with nrg := { e.nrg with
    hist := [{ committed := 6800, be := 2100, shed := 120, beBytes := 37500000 }], lastBe0 := 20000000, lastBe1 := 17500000 } }

/-- Its plan: 32,767,857 best-effort bytes, level 33, 7,000 uJ in all, minima only. -/
theorem test_plan : ((testPlanner.nrgPlan [320, 0, 0, 0, 0, 300]).nrg.next.map fun p =>
    (p.budget, p.pressure, p.allowance, p.level, p.total, (p.grants.map (·.2)).sum)) =
    some (7000, true, 32767857, 33, 7000, 110) := by decide

/-- The dies' shares of the allowance. -/
theorem test_plan_shares : (fun (e : Dev) => (e.nrg.share0, e.nrg.share1)) (testPlanner.nrgPlan [320, 0, 0, 0, 0, 300]).nrgApply =
    (some 17476190, some 15291666) := by decide

/-- Buffers of a pool held by an owner, in an unbroken run. -/
def testHeld (owner pool first count : Nat) : List (Nat × Nat) :=
  (List.range count).map fun i => (16384 * pool + first + i, owner + 1)

/-- Chapter 16, a punt that falls back: 40 buffers of the 4 KiB pool and 20 of the 16 KiB pool are free. -/
def testPools : Dev :=
  let h := testHeld 9 2 0 70 ++ testHeld 8 2 70 20 ++ testHeld 11 2 90 12 ++ testHeld 14 2 102 16 ++ testHeld 15 2 118 10 ++
    testHeld 12 2 128 344 ++ testHeld 9 3 0 16 ++ testHeld 10 3 16 3 ++ testHeld 14 3 19 8 ++ testHeld 15 3 27 4 ++
    testHeld 12 3 31 6 ++ testHeld 12 3 38 71
  { host := { pool0 := { held := h } } }

/-- Owner 9's request for 1,300 bytes is refused by the 4 KiB pool and granted by the 16 KiB pool, and which. -/
theorem test_pool_falls_back : testPools.poolPick 0 9 [2] = none ∧ testPools.poolPick 0 9 [2, 3] = some 3 := by decide

/-- The lowest free index of that pool is 37, at pool address 0x694000. -/
theorem test_pool_address :
    lowestFree ((testPools.host.pool0.held.filter fun e => decide (e.1 / 16384 = 3)).map fun e => e.1 % 16384) 0 = 37 ∧
    testPools.poolAddr 0 3 37 = 0x694000 := by decide

/-- Chapter 19, a column lost, a reckoner lost: codes of the two faults. -/
theorem test_fault_codes : faultCode 23 3 5 = 0x17030005 ∧ faultCode 12 5 17 = 0x0C050011 := by decide

/-- Chapter 3: an XOFF of 65,535 quanta lasts 33,553,920 bit times at 100 Gb/s, in whole ticks. -/
theorem test_quanta : quantaTicks 4 65535 = 33554 := by decide

end Sys2Proof.Machine
end

section
/-! Obligation O25: a destination that joins an ACQUIRING group starts a calibration run of its lane (R89, R97), so its write
changes the ports' part too, which the statement's frame leaves out. -/
namespace Sys2Proof.Machine

/-- A command that is an effect on the device completes with what holds of that effect. -/
theorem completes_iff_of_onDev {i : Instr} {s : State} {f : Dev → Dev} {P : Dev → Prop} (h : exec i s = onDev s f) :
    Completes i s P ↔ P (f s.dev) := by
  constructor
  · rintro ⟨e, he, hP⟩
    rw [h] at he
    cases he
    exact hP
  · exact fun hP => ⟨f s.dev, h, hP⟩

theorem exec_railDstConfigWrite (n : Fin 512) (v : BitVec 32) (s : State) :
    exec (.railDstConfigWrite n v) s = onDev s fun d => d.railDstWrite n v.toNat := rfl

/-- A calibration run that starts on one lane without one adds it to those running (R89). -/
theorem Dev.calStart_singleton_calRunning (d : Dev) (n : Nat) (h : n ∉ d.port.calRunning) :
    (d.calStart [n]).port.calRunning = d.port.calRunning ++ [n] := by
  simp [Dev.calStart, h]

/-- A new destination of an ACQUIRING group starts a calibration run of its lane, which R97 waits for. -/
theorem Dev.railDstWrite_calRunning_of_acquiring (d : Dev) (n v : Nat) (hvalid : bits v 31 31 = 1)
    (hok : d.railDstOk (bits v 6 0) n = true) (hnew : d.railDest n = false) (hacq : d.railState (bits v 6 0) = 1)
    (hidle : n ∉ d.port.calRunning) :
    (d.railDstWrite n v).port.calRunning = d.port.calRunning ++ [n] := by
  simp only [Dev.railDstWrite, hvalid, hok, hnew, hacq, Dev.when, decide_true, Bool.not_true, Bool.not_false, Bool.and_false,
    Bool.false_and, Bool.true_or, Bool.and_true, Bool.false_eq_true, if_true, if_false]
  exact Dev.calStart_singleton_calRunning _ _ hidle

/-- Group 0 is enabled with source lane 1 and is ACQUIRING; the rest is as after reset. -/
def railAcquiring : State :=
  { State.reset with
    dev := (((({} : Dev).sf (rRAIL_GRP_CFG 0) fRAIL_GRP_CFG_EN 1).sf (rRAIL_GRP_CFG 0) fRAIL_GRP_CFG_SRC 1).sf
      (rRAIL_GRP_STATUS 0) fRAIL_GRP_STATUS_STATE 1) }

/-- RAIL_DST_CFG with VALID 1 and GROUP 0. -/
def railJoinGroup0 : BitVec 32 := BitVec.ofNat 32 (2 ^ 31)

/-- Lane 0 joins the ACQUIRING group 0, and its calibration run begins. -/
theorem railJoinGroup0_starts_calibration :
    (railAcquiring.dev.railDstWrite (0 : Fin 512) railJoinGroup0.toNat).port.calRunning = [0] :=
  Dev.railDstWrite_calRunning_of_acquiring _ _ _ (by decide) (by decide) (by decide) (by decide) (by decide)

end Sys2Proof.Machine

open Sys2Proof Sys2Proof.Machine

/-- Refutes O25 in the clause of a destination that is taken: in an ACQUIRING group the write also starts a calibration run of
the lane, so the ports' part is not as it was. -/
theorem not_railGroups : ¬ Obligations.RailGroups := by
  rintro ⟨-, -, -, hjoin, -⟩
  have hwrite := hjoin railAcquiring 0 railJoinGroup0 (by decide) (by decide) (by decide)
  obtain ⟨-, -, -, hframe⟩ := (completes_iff_of_onDev (exec_railDstConfigWrite _ _ _)).1 hwrite
  have hport : (railAcquiring.dev.railDstWrite (0 : Fin 512) railJoinGroup0.toNat).port = railAcquiring.dev.port :=
    hframe .port (by decide)
  have hrun := railJoinGroup0_starts_calibration
  rw [hport] at hrun
  exact absurd hrun (by decide)
end

section
/-! Obligations O33 and O34: the time chapter's sources, triggers and captures (R311, R324 to R331, R333). O33 fails: an offset
that waits while the servo has another source is left (R324), so TIM_OFFSET does not show it. -/
namespace Sys2Proof.Machine

/-! ### Completing commands and their frames -/

/-- A command that is a constant effect on the device completes with what holds of that device. -/
theorem Completes.of_onDev {i : Instr} {s : State} {e : Dev} {P : Dev → Prop} (h : exec i s = onDev s fun _ => e)
    (hP : P e) : Completes i s P := (completes_iff_of_onDev h).2 hP

/-- An effect that keeps every part outside a list leaves the device the same but for that list. -/
theorem SameBut.of_keep {ps : List Part} {d e : Dev} (h : e.keep ps = d.keep ps) : SameBut ps d e :=
  fun p hp => Part.same_of_keep h p hp

/-! ### Registers: other registers after a write, and a write of a register that is one field -/

theorem Dev.rd_wn_ne (d : Dev) {a b : Nat} (v : Nat) (h : b ≠ a) : (d.wn a v).rd b = d.rd b := by
  rw [Dev.wn, Dev.rd_wr, if_neg h]

theorem Dev.rd_sb_ne (d : Dev) {a b : Nat} (g : Fld) (x : Bool) (h : b ≠ a) : (d.sb a g x).rd b = d.rd b :=
  Dev.rd_wn_ne _ _ h

theorem Dev.rd_cnt32_ne (d : Dev) {a b : Nat} (n : Nat) (h : b ≠ a) : (d.cnt32 a n).rd b = d.rd b :=
  Dev.rd_wn_ne _ _ h

theorem Dev.b_wn_ne (d : Dev) {a b : Nat} (v : Nat) (g : Fld) (h : b ≠ a) : (d.wn a v).b b g = d.b b g := by
  rw [Dev.b, Dev.f, Dev.rn_wn, if_neg h]; rfl

theorem Dev.rn_bus (d : Dev) (x : BusSt) (a : Nat) : ({ d with bus := x } : Dev).rn a = d.rn a := rfl

/-- A register that is one RW field takes the value written, whatever it held. -/
theorem merge_word (r : RDesc) (h : r.fields = [⟨fALL, .rw, 0⟩]) (old v : Nat) (ho : old < 2 ^ 32) (hv : v < 2 ^ 32) :
    r.merge old v = v := by
  simp only [RDesc.merge, h, List.foldl, mergeField, fALL, putBits, bits]
  omega

theorem Dev.plainWrite_word (d : Dev) {a v : Nat} {r : RDesc} (hr : regAt a = some r) (hf : r.fields = [⟨fALL, .rw, 0⟩])
    (hv : v < 2 ^ 32) : d.plainWrite a v = d.wn a v := by
  rw [Dev.plainWrite, hr]
  simp only [merge_word r hf (d.rn a) v (d.rn_lt a) hv]

/-! ### Events leave the time block and the values in force alone -/

theorem Dev.raise_tim (d : Dev) (code inst : Nat) (data : Option Nat) : (d.raise code inst data).tim = d.tim :=
  Part.same_of_keep (Dev.raise_keep Part.event d code inst data rfl) .tim (by decide)

theorem Dev.raise_live (d : Dev) (code inst : Nat) (data : Option Nat) : (d.raise code inst data).live = d.live :=
  Part.same_of_keep (Dev.raise_keep Part.event d code inst data rfl) .live (by decide)

/-! ### The servo (R324): an offset of a port that is not its source -/

/-- The servo drops the oldest offset where its source is another port (R324). -/
theorem exec_servoOffset_of_other_source (s : State) {p : Nat} {o log : Int} {l : List (Nat × Int × Int)}
    (hw : s.dev.tim.waiting = (p, o, log) :: l) (hv : s.dev.srcValid = true) (hp : s.dev.srcPort ≠ p) :
    exec .servoOffset s = onDev s fun _ => { s.dev with tim := { s.dev.tim with waiting := l } } := by
  have hcond : (Dev.srcValid { s.dev with tim := { s.dev.tim with waiting := l } } &&
      decide (Dev.srcPort { s.dev with tim := { s.dev.tim with waiting := l } } ≠ p)) = true := by
    rw [Bool.and_eq_true, decide_eq_true_iff]
    exact ⟨hv, hp⟩
  change execServoOffset s = _
  simp only [execServoOffset, onDev, hw, hcond, if_true]

/-- The servo's source is port 0, and an offset of 1/256 ns, measured while port 1 was the source, waits. -/
def staleOffset : State :=
  { State.reset with
    dev := { (({} : Dev).sb rTIM_STATUS fTIM_STATUS_SRC_VALID true) with tim := { waiting := [(1, 256, 0)] } } }

theorem staleOffset_srcValid : staleOffset.dev.srcValid = true := by decide

theorem staleOffset_srcPort : staleOffset.dev.srcPort = 0 := by decide

/-- TIM_OFFSET of that device is as after reset. -/
theorem staleOffset_timOffset : staleOffset.dev.rn rTIM_OFFSET = 0 := by decide

/-! ### Triggers (R330) -/

@[simp] theorem Dev.trig_setTrig (d : Dev) (n : Nat) (x : TrigSt) : (d.setTrig n x).trig n = x := kvGet_set_self _ _ _ _

@[simp] theorem Dev.rd_setTrig (d : Dev) (n : Nat) (x : TrigSt) (a : Nat) : (d.setTrig n x).rd a = d.rd a := rfl

@[simp] theorem Dev.rn_setTrig (d : Dev) (n : Nat) (x : TrigSt) (a : Nat) : (d.setTrig n x).rn a = d.rn a := rfl

theorem exec_timeTriggerWrite (n : Fin 8) (r : TrigReg) (v : BitVec 32) (s : State) :
    exec (.timeTriggerWrite n r v) s = onDev s fun d => d.trigWrite n r v.toNat := rfl

/-- A write that is not allowed sets CFG_ERR (R330). -/
theorem Dev.trigWrite_of_not_ok {d : Dev} {n v : Nat} {r : TrigReg} (h : d.trigOk n r v = false) :
    d.trigWrite n r v = d.sb (rTIM_TRIG_CFG n) fTIM_TRIG_CFG_CFG_ERR true := by
  simp [Dev.trigWrite, h]

/-- The low seconds, the period and the width of a trigger are registers of one RW field. -/
theorem regAt_trigAddr_word (n : Fin 8) {r : TrigReg} (hr : r = .secLo ∨ r = .period ∨ r = .width) :
    ∃ x, regAt (trigAddr n r) = some x ∧ x.fields = [⟨fALL, .rw, 0⟩] := by
  rcases hr with rfl | rfl | rfl
  · exact ⟨⟨0x4004, [(32, 8)], [⟨fALL, .rw, 0⟩]⟩, by decide +revert, rfl⟩
  · exact ⟨⟨0x4010, [(32, 8)], [⟨fALL, .rw, 0⟩]⟩, by decide +revert, rfl⟩
  · exact ⟨⟨0x4014, [(32, 8)], [⟨fALL, .rw, 0⟩]⟩, by decide +revert, rfl⟩

theorem trigCfg_ne_trigAddr_word (n : Nat) {r : TrigReg} (hr : r = .secLo ∨ r = .period ∨ r = .width) :
    rTIM_TRIG_CFG n ≠ trigAddr n r := by
  rcases hr with rfl | rfl | rfl <;>
    simp [trigAddr, rTIM_TRIG_CFG, rTIM_TRIG_SEC_LO, rTIM_TRIG_PERIOD, rTIM_TRIG_WIDTH]

/-- While the trigger is off, an allowed write of its start, period or width is stored, and the trigger starts afresh. -/
theorem Dev.trigWrite_of_off {d : Dev} {n : Fin 8} {r : TrigReg} {v : Nat} (hr : r = .secLo ∨ r = .period ∨ r = .width)
    (hok : d.trigOk n r v = true) (hoff : d.b (rTIM_TRIG_CFG n) fTIM_TRIG_CFG_EN = false) (hv : v < 2 ^ 32) :
    d.trigWrite n r v = (d.wn (trigAddr n r) v).setTrig n {} := by
  obtain ⟨x, hx, hf⟩ := regAt_trigAddr_word n hr
  have hw : d.plainWrite (trigAddr n r) v = d.wn (trigAddr n r) v := d.plainWrite_word hx hf hv
  have hstill : (d.wn (trigAddr n r) v).b (rTIM_TRIG_CFG n) fTIM_TRIG_CFG_EN = false := by
    rw [Dev.b_wn_ne _ _ _ (trigCfg_ne_trigAddr_word n hr), hoff]
  simp [Dev.trigWrite, hok, hw, hstill]

/-- The device after a trigger's next edge (R330): EMITTED counts a pulse's start that leaves the pin. -/
def Dev.trigFire (d : Dev) (n : Nat) : Dev :=
  let d1 := d.setTrig n { next := (d.trig n).next + 1, high := decide ((d.trig n).next % 2 = 0) }
  if (d.trig n).next % 2 = 0 && (d.locked || !d.b (rTIM_TRIG_CFG n) fTIM_TRIG_CFG_LOCK_GATE) then
    d1.cnt32 (rTIM_TRIG_STATUS n)
  else d1

/-- An edge of an enabled trigger that has pulses left, in the edge's tick. -/
theorem exec_triggerEdge_due (n : Fin 8) (s : State) (hlive : Live s)
    (hen : s.dev.b (rTIM_TRIG_CFG n) fTIM_TRIG_CFG_EN = true)
    (hleft : ∀ c, s.dev.trigPulses n = some c → (s.dev.trig n).next < 2 * c)
    (hdue : s.dev.trigEdge n (s.dev.trig n).next / 10 = s.dev.trk.tick) :
    exec (.triggerEdge n) s = onDev s fun _ => s.dev.trigFire n := by
  change execTriggerEdge n s = _
  cases hc : s.dev.trigPulses n with
  | none => simp [execTriggerEdge, onLive, onDev, hlive, hen, hdue, hc, Dev.trigFire]
  | some c => simp [execTriggerEdge, onLive, onDev, hlive, hen, hdue, hc, hleft c hc, Dev.trigFire]

/-- A trigger that is off has no edge. -/
theorem exec_triggerEdge_of_off (n : Fin 8) (s : State) (hoff : s.dev.b (rTIM_TRIG_CFG n) fTIM_TRIG_CFG_EN = false) :
    exec (.triggerEdge n) s = .next s := by
  change execTriggerEdge n s = _
  simp [execTriggerEdge, onLive, onDev, hoff]

theorem Dev.trigFire_trig (d : Dev) (n : Nat) :
    (d.trigFire n).trig n =
      { d.trig n with next := (d.trig n).next + 1, high := decide ((d.trig n).next % 2 = 0) } := by
  unfold Dev.trigFire
  split
  · exact Dev.trig_setTrig _ _ _
  · exact Dev.trig_setTrig _ _ _

theorem Dev.trigFire_rd (d : Dev) {n a : Nat} (h : a ≠ rTIM_TRIG_STATUS n) : (d.trigFire n).rd a = d.rd a := by
  unfold Dev.trigFire
  split
  · rw [Dev.rd_cnt32_ne _ _ h, Dev.rd_setTrig]
  · exact Dev.rd_setTrig _ _ _ _

theorem Dev.trigFire_keep (d : Dev) (n : Nat) : (d.trigFire n).keep [.regs, .tim] = d.keep [.regs, .tim] := by
  unfold Dev.trigFire
  split
  · rw [Dev.cnt32_keep _ _ _ _ rfl, Dev.setTrig_keep _ _ _ _ rfl]
  · exact Dev.setTrig_keep _ _ _ _ rfl

/-! ### Captures (R331, R333) -/

@[simp] theorem Dev.capt_setCapt (d : Dev) (n : Nat) (x : CaptSt) : (d.setCapt n x).capt n = x := kvGet_set_self _ _ _ _

theorem Dev.capt_congr {d e : Dev} (h : d.tim = e.tim) (n : Nat) : d.capt n = e.capt n := by simp only [Dev.capt, h]

theorem Dev.lb_congr {d e : Dev} (h : d.live = e.live) (a : Nat) (g : Fld) : d.lb a g = e.lb a g := by
  rw [Dev.lb, Dev.lf, Dev.lrn, h]; rfl

/-- The device after an edge joins a capture FIFO that has room: the first entry raises an event (R331). -/
def Dev.captJoin (d : Dev) (n : Nat) (falling : Bool) (t : Nat) : Dev :=
  let x : CaptSt := { fifo := (d.capt n).fifo ++ [(stampOf t, uncAdd d.uDom 16, falling)], last := some t }
  if (d.capt n).fifo = [] then (d.setCapt n x).raise eTIM_CAPT_EVT 0xFFFF else d.setCapt n x

theorem Dev.captJoin_capt (d : Dev) (n : Nat) (falling : Bool) (t : Nat) :
    (d.captJoin n falling t).capt n =
      { fifo := (d.capt n).fifo ++ [(stampOf t, uncAdd d.uDom 16, falling)], last := some t } := by
  unfold Dev.captJoin
  split
  · rw [Dev.capt_congr (Dev.raise_tim _ _ _ _), Dev.capt_setCapt]
  · exact Dev.capt_setCapt _ _ _

theorem Dev.captJoin_live (d : Dev) (n : Nat) (falling : Bool) (t : Nat) : (d.captJoin n falling t).live = d.live := by
  unfold Dev.captJoin
  split
  · exact Dev.raise_live _ _ _ _
  · rfl

/-- The first rising edge of an enabled input that is not PPS_IN and is not journalled joins its FIFO. -/
theorem exec_captureEdge_first_rise (n : Fin 9) (dt : Nat) (s : State) (hn : n.val ≠ 8)
    (hen : s.dev.lb (rTIM_CAPT_CFG n) fTIM_CAPT_CFG_EN = true) (hedge : s.dev.lf (rTIM_CAPT_CFG n) fTIM_CAPT_CFG_EDGE ≠ 2)
    (hlast : (s.dev.capt n).last = none) (hroom : (s.dev.capt n).fifo.length < 64)
    (hjrn : s.dev.lb (rTIM_CAPT_CFG n) fTIM_CAPT_CFG_JRN = false) :
    exec (.captureEdge n false dt) s = onDev s fun _ => s.dev.captJoin n false (s.dev.nowT + dt) := by
  have hjrn' : (s.dev.captJoin n false (s.dev.nowT + dt)).lb (rTIM_CAPT_CFG n) fTIM_CAPT_CFG_JRN = false := by
    rw [Dev.lb_congr (Dev.captJoin_live _ _ _ _), hjrn]
  simp only [Dev.captJoin] at hjrn'
  change execCaptureEdge n false dt s = _
  simp [execCaptureEdge, onDev, hn, hen, hedge, hlast, hroom, hjrn', Dev.captJoin]

/-- An input that is off captures nothing. -/
theorem exec_captureEdge_of_off (n : Fin 9) (falling : Bool) (dt : Nat) (s : State)
    (hoff : s.dev.lb (rTIM_CAPT_CFG n) fTIM_CAPT_CFG_EN = false) : exec (.captureEdge n falling dt) s = .next s := by
  change execCaptureEdge n falling dt s = _
  simp [execCaptureEdge, onDev, hoff]

theorem exec_captureFifoPop (n : Fin 9) (s : State) : exec (.captureFifoPop n) s = onDev s fun d => d.captPop n := rfl

/-- A pop takes the oldest entry, answers its low seconds and latches its nanoseconds (R331, R333). -/
theorem Dev.captPop_cons (d : Dev) (n : Nat) {st u : Nat} {fall : Bool} {l : List (Nat × Nat × Bool)}
    (h : (d.capt n).fifo = (st, u, fall) :: l) :
    ((d.captPop n).capt n).fifo = l ∧ (d.captPop n).bus.rdata = BitVec.ofNat 32 (st / 2 ^ 48) ∧
      (d.captPop n).rn (rTIM_CAPT_NS n) = st / 2 ^ 16 % 2 ^ 32 := by
  have hne : rTIM_CAPT_NS n ≠ rTIM_CAPT_FRAC n := by simp [rTIM_CAPT_NS, rTIM_CAPT_FRAC]
  refine ⟨?_, ?_, ?_⟩
  · simp only [Dev.captPop, h]
    exact congrArg CaptSt.fifo (Dev.capt_setCapt _ _ _)
  · simp only [Dev.captPop, h]
  · simp only [Dev.captPop, h]
    rw [Dev.rn_bus, Dev.rn_wn, if_neg hne, Dev.rn_wn, if_pos rfl, Nat.mod_mod]

/-- A pop of an empty FIFO reads 0 (R331). -/
theorem Dev.captPop_nil (d : Dev) (n : Nat) (h : (d.capt n).fifo = []) :
    (d.captPop n).bus.rdata = 0 ∧ (d.captPop n).rn (rTIM_CAPT_SEC_HI n) = 0 := by
  simp only [Dev.captPop, h]
  exact ⟨rfl, (Dev.rn_wn _ _ _ _).trans (if_pos rfl)⟩

end Sys2Proof.Machine

open Sys2Proof Sys2Proof.Machine

/-- Refutes O33 in its first clause: an offset of port 1 waits while the servo's source is port 0, is dropped, and leaves
TIM_OFFSET as it was. -/
theorem not_timeSources : ¬ Obligations.TimeSources := by
  rintro ⟨hservo, -⟩
  have hdrop := exec_servoOffset_of_other_source staleOffset (l := []) rfl staleOffset_srcValid
    (by rw [staleOffset_srcPort]; decide)
  obtain ⟨-, hshown⟩ := (completes_iff_of_onDev hdrop).1 (hservo staleOffset 1 256 0 [] rfl)
  have hkept : ({ staleOffset.dev with tim := { staleOffset.dev.tim with waiting := [] } } : Dev).rn rTIM_OFFSET = 0 :=
    staleOffset_timOffset
  rw [hkept] at hshown
  exact absurd hshown (by decide)

/-- Settles O34, clause by clause from what each command does in its case. -/
theorem triggersCaptures : Obligations.TriggersCaptures := by
  unfold Obligations.TriggersCaptures
  refine ⟨?refused, ?stored, ?edge, ?edgeOff, ?capture, ?captureOff, ?pop, ?popEmpty⟩
  case refused =>
    intro s n r v h
    refine (completes_iff_of_onDev (exec_timeTriggerWrite n r v s)).2 ?_
    rw [Dev.trigWrite_of_not_ok h]
    exact ⟨Dev.b_sb_self _ _ _ _ rfl (by decide), fun a ha => Dev.rd_sb_ne _ _ _ ha,
      SameBut.of_keep (Dev.sb_keep _ _ _ _ _ rfl)⟩
  case stored =>
    intro s n r v hr hok hoff
    refine (completes_iff_of_onDev (exec_timeTriggerWrite n r v s)).2 ?_
    rw [Dev.trigWrite_of_off hr hok hoff v.isLt]
    refine ⟨?_, fun a ha => Dev.rd_wn_ne _ _ ha, SameBut.of_keep ?_⟩
    · rw [Dev.rn_setTrig, Dev.rn_wn, if_pos rfl, Nat.mod_eq_of_lt v.isLt]
    · rw [Dev.setTrig_keep _ _ _ _ rfl, Dev.wn_keep _ _ _ _ rfl]
  case edge =>
    intro s n hlive hen hleft hdue
    exact .of_onDev (exec_triggerEdge_due n s hlive hen hleft hdue)
      ⟨Dev.trigFire_trig _ _, fun a ha => Dev.trigFire_rd _ ha, SameBut.of_keep (Dev.trigFire_keep _ _)⟩
  case edgeOff => exact fun s n hoff => exec_triggerEdge_of_off n s hoff
  case capture =>
    intro s n dt hn hen hedge hlast hroom hjrn
    refine .of_onDev (exec_captureEdge_first_rise n dt s hn hen hedge hlast hroom hjrn) ?_
    rw [Dev.captJoin_capt]
    exact ⟨rfl, rfl⟩
  case captureOff => exact fun s n falling dt hoff => exec_captureEdge_of_off n falling dt s hoff
  case pop =>
    exact fun s n st u fall l h =>
      (completes_iff_of_onDev (exec_captureFifoPop n s)).2 (Dev.captPop_cons s.dev n h)
  case popEmpty =>
    exact fun s n h => (completes_iff_of_onDev (exec_captureFifoPop n s)).2 (Dev.captPop_nil s.dev n h)
end

section
/-! Obligation O37: the journal's commands (R344, R345, R354, R358). Also what it means for a command to answer or to refuse
when its effect is known as one on the device. -/
namespace Sys2Proof.Machine

/-! ### Commands known by their effect on the device -/

/-- A command whose effect ends in its reply answers. -/
theorem Answers.of_onDev {i : Instr} {s : State} {f : Dev → Dev} {h : CmdHdr} {opcode status flags : Nat} {result : List Byte}
    {e : Dev} {P : Dev → Prop} (hexec : exec i s = onDev s f) (hreply : f s.dev = e.reply h opcode status flags result)
    (hP : P e) : Answers i s h opcode status flags result P := ⟨e, by rw [hexec, onDev, hreply], hP⟩

/-- A command whose whole effect is a reply of a status refuses. -/
theorem Rejects.of_onDev {i : Instr} {s : State} {f : Dev → Dev} {h : CmdHdr} {opcode status : Nat}
    (hexec : exec i s = onDev s f) (hreply : f s.dev = s.dev.replySt h opcode status) : Rejects i s h opcode status := by
  rw [Rejects, hexec, onDev, hreply]

/-- Outside the safe state a host command has its whole effect (R487). -/
theorem onCmd_of_live {s : State} (hlive : Live s) (h : CmdHdr) (opcode : Nat) (f : Dev → Dev) :
    onCmd s h opcode f = onDev s f := by
  simp [onCmd, onDev, hlive]

/-! ### JRN_READ (R344) -/

theorem exec_jrnRead_of_disabled (h : CmdHdr) (die : BitVec 8) (count : BitVec 16) (first : BitVec 64) {s : State}
    (hoff : s.dev.f rJRN_STATUS fJRN_STATUS_STATE = 0) :
    exec (.jrnRead h die count first) s = onDev s fun d => d.replySt h 0x0700 stNotReady := by
  change execJrnRead h die count first s = _
  simp only [execJrnRead, onDev, if_pos hoff]

/-- Records that lie in the ring are answered behind the latest signed entry. -/
theorem exec_jrnRead_of_inRing (h : CmdHdr) {die : BitVec 8} {count : BitVec 16} {first : BitVec 64} {s : State}
    (hon : s.dev.f rJRN_STATUS fJRN_STATUS_STATE ≠ 0) (hdie : die.toNat < 2) (hcount : count.toNat ≤ 64)
    (hside : first.toNat % 2 = die.toNat) (hend : (first.toNat - die.toNat) / 2 + count.toNat ≤ s.dev.jrnWr die.toNat)
    (hkept : s.dev.jrnWr die.toNat ≤ (first.toNat - die.toNat) / 2 + s.dev.jrnSize die.toNat) :
    exec (.jrnRead h die count first) s = onDev s fun d => d.reply h 0x0700 stOk 0
      ((d.jrn.signed ++ zeros 256).take 256 ++
        (d.jrnRecs die.toNat ((first.toNat - die.toNat) / 2) count.toNat).flatten) := by
  change execJrnRead h die count first s = _
  simp [execJrnRead, onDev, hon, hside, hend, hkept, Nat.not_lt.2 (Nat.le_of_lt_succ hdie), Nat.not_lt.2 hcount]

/-! ### JRN_SUM_READ and JRN_CHILD_READ (R354, R358) -/

theorem exec_jrnSumRead_of_found (h : CmdHdr) {deck : BitVec 64} {s : State} {e : Nat × List Byte}
    (he : s.dev.jrn.sums.find? (fun e => decide (beAt e.2 0 8 = deck.toNat)) = some e) :
    exec (.jrnSumRead h deck) s = onDev s fun d => d.reply h 0x0701 stOk 0 e.2 := by
  change execJrnSumRead h deck s = _
  simp only [execJrnSumRead, onDev, he]

theorem exec_jrnSumRead_of_missing (h : CmdHdr) {deck : BitVec 64} {s : State}
    (hnone : s.dev.jrn.sums.find? (fun e => decide (beAt e.2 0 8 = deck.toNat)) = none) :
    exec (.jrnSumRead h deck) s = onDev s fun d => d.replySt h 0x0701 stBadParam := by
  change execJrnSumRead h deck s = _
  simp only [execJrnSumRead, onDev, hnone]

theorem sortBy_singleton {α : Type} (key : α → Nat) (x : α) : sortBy key [x] = [x] := rfl

/-- The one child entry of a deck is the answer. -/
theorem exec_jrnChildRead_of_single (h : CmdHdr) {deck : BitVec 64} {s : State} {e : Nat × List Byte}
    (he : s.dev.jrn.childs.filter (fun e => decide (beAt e.2 0 8 = deck.toNat)) = [e]) :
    exec (.jrnChildRead h deck) s = onDev s fun d => d.reply h 0x0702 stOk 0 e.2 := by
  change execJrnChildRead h deck s = _
  simp [execJrnChildRead, onDev, he, sortBy_singleton]

theorem exec_jrnChildRead_of_none (h : CmdHdr) {deck : BitVec 64} {s : State}
    (hnone : ∀ e ∈ s.dev.jrn.childs, beAt e.2 0 8 ≠ deck.toNat) :
    exec (.jrnChildRead h deck) s = onDev s fun d => d.replySt h 0x0702 stBadParam := by
  have hempty : s.dev.jrn.childs.filter (fun e => decide (beAt e.2 0 8 = deck.toNat)) = [] :=
    List.filter_eq_nil_iff.2 fun e he => by simpa using hnone e he
  change execJrnChildRead h deck s = _
  simp [execJrnChildRead, onDev, hempty]

/-! ### JRN_PORT_SET (R345) -/

/-- The drain port's settings wait for the next deck boundary. -/
def Dev.withPortNext (d : Dev) (port recs : Nat) (addr : List Byte) : Dev :=
  { d with jrn := { d.jrn with portNext := some (port, recs, addr) } }

theorem Dev.withPortNext_keep (d : Dev) (port recs : Nat) (addr : List Byte) :
    (d.withPortNext port recs addr).keep [.jrn] = d.keep [.jrn] := Dev.keep_jrn _ _ _ rfl

theorem exec_jrnPortSet_of_ok (h : CmdHdr) {port : BitVec 16} {recs : BitVec 8} (dst src : BitVec 48) {s : State}
    (hlive : Live s) (hport : port.toNat < 512) (hpos : 0 < recs.toNat) (hrecs : recs.toNat ≤ 140) :
    exec (.jrnPortSet h port recs dst src) s = onDev s fun d =>
      (d.withPortNext port.toNat recs.toNat (beBytes 6 dst.toNat ++ beBytes 6 src.toNat)).replySt h 0x0703 stOk := by
  have hok : ¬ (512 ≤ port.toNat ∨ recs.toNat = 0 ∨ 140 < recs.toNat) := by omega
  change execJrnPortSet h port recs dst src s = _
  simp only [execJrnPortSet, onCmd_of_live hlive, if_neg hok, Dev.withPortNext]

theorem exec_jrnPortSet_of_bad (h : CmdHdr) {port : BitVec 16} {recs : BitVec 8} (dst src : BitVec 48) {s : State}
    (hlive : Live s) (hbad : 512 ≤ port.toNat ∨ recs.toNat = 0 ∨ 140 < recs.toNat) :
    exec (.jrnPortSet h port recs dst src) s = onDev s fun d => d.replySt h 0x0703 stBadParam := by
  change execJrnPortSet h port recs dst src s = _
  simp only [execJrnPortSet, onCmd_of_live hlive, if_pos hbad]

end Sys2Proof.Machine

open Sys2Proof Sys2Proof.Machine

/-- Settles O37, clause by clause from what each command does in its case. -/
theorem journalCommands : Obligations.JournalCommands := by
  unfold Obligations.JournalCommands
  refine ⟨?inRing, ?disabled, ?sum, ?noSum, ?child, ?noChild, ?portSet, ?portBad⟩
  case inRing =>
    exact fun s h die count first hon hdie _ hcount hside hend hkept =>
      .of_onDev (exec_jrnRead_of_inRing h hon hdie hcount hside hend hkept) rfl rfl
  case disabled =>
    exact fun s h die count first hoff => .of_onDev (exec_jrnRead_of_disabled h die count first hoff) rfl
  case sum => exact fun s h deck k x hx => .of_onDev (exec_jrnSumRead_of_found h hx) rfl rfl
  case noSum => exact fun s h deck hnone => .of_onDev (exec_jrnSumRead_of_missing h hnone) rfl
  case child => exact fun s h deck k x hx => .of_onDev (exec_jrnChildRead_of_single h hx) rfl rfl
  case noChild => exact fun s h deck hnone => .of_onDev (exec_jrnChildRead_of_none h hnone) rfl
  case portSet =>
    exact fun s h port recs dst src hlive hport hpos hrecs =>
      .of_onDev (exec_jrnPortSet_of_ok h dst src hlive hport hpos hrecs) rfl
        ⟨rfl, SameBut.of_keep (Dev.withPortNext_keep _ _ _ _)⟩
  case portBad =>
    exact fun s h port recs dst src hlive hbad => .of_onDev (exec_jrnPortSet_of_bad h dst src hlive hbad) rfl
end

section
/-! Obligation O53: the messages of the Ruley domain and its status commands (R357, R430, R441, R442, R452, R453, R455, R457). -/
namespace Sys2Proof.Machine

/-! ### Counter pairs (R497) -/

theorem Dev.rn_cnt_ne (d : Dev) {a b : Nat} (n : Nat) (hlo : b ≠ a) (hhi : b ≠ a + 4) : (d.cnt a n).rn b = d.rn b := by
  rw [Dev.rn_cnt, if_neg hhi, if_neg hlo]

theorem Dev.f_cnt_ne (d : Dev) {a b : Nat} (n : Nat) (g : Fld) (hlo : b ≠ a) (hhi : b ≠ a + 4) :
    (d.cnt a n).f b g = d.f b g := by rw [Dev.f, Dev.rn_cnt_ne _ _ hlo hhi, Dev.f]

theorem Dev.b_cnt_ne (d : Dev) {a b : Nat} (n : Nat) (g : Fld) (hlo : b ≠ a) (hhi : b ≠ a + 4) :
    (d.cnt a n).b b g = d.b b g := by rw [Dev.b, Dev.f_cnt_ne _ _ _ hlo hhi, Dev.b]

theorem Dev.rdPair_congr {d e : Dev} (h : d.regs = e.regs) (lo hi : Nat) : d.rdPair lo hi = e.rdPair lo hi := by
  simp only [Dev.rdPair, Dev.rn_congr h]

theorem Dev.counted_cnt (d : Dev) (a n : Nat) : Counted d (d.cnt a n) a n := by
  have hsat : satAdd (2 ^ 64 - 1) (d.rdPair a (a + 4)) n < 2 ^ 64 := by unfold satAdd; omega
  rw [Counted, Dev.rdPair, Dev.rn_cnt, Dev.rn_cnt, if_pos rfl, if_neg (by omega), if_pos rfl]
  omega

theorem Dev.rdPair_cnt_ne (d : Dev) {a b : Nat} (n : Nat) (hab : a + 8 ≤ b ∨ b + 8 ≤ a) :
    (d.cnt a n).rdPair b (b + 4) = d.rdPair b (b + 4) := by
  have hlo : (d.cnt a n).rn b = d.rn b := Dev.rn_cnt_ne _ _ (by omega) (by omega)
  have hhi : (d.cnt a n).rn (b + 4) = d.rn (b + 4) := Dev.rn_cnt_ne _ _ (by omega) (by omega)
  rw [Dev.rdPair, hlo, hhi, Dev.rdPair]

/-- Two counters that share no register each count, whichever counts first. -/
theorem Dev.counted_cnt_cnt (d : Dev) {a b : Nat} (n m : Nat) (hab : a + 8 ≤ b ∨ b + 8 ≤ a) :
    Counted d ((d.cnt a n).cnt b m) a n ∧ Counted d ((d.cnt a n).cnt b m) b m := by
  constructor
  · rw [Counted, Dev.rdPair_cnt_ne _ _ hab.symm]
    exact d.counted_cnt a n
  · have h := (d.cnt a n).counted_cnt b m
    rwa [Counted, Dev.rdPair_cnt_ne _ _ hab] at h

theorem Dev.sameBut_cnt (d : Dev) (a n : Nat) : SameBut [.regs] d (d.cnt a n) := .of_keep (Dev.cnt_keep _ _ _ _ rfl)

theorem Dev.sameBut_cnt_cnt (d : Dev) (a b n m : Nat) : SameBut [.regs] d ((d.cnt a n).cnt b m) := by
  refine .of_keep ?_
  rw [Dev.cnt_keep _ _ _ _ rfl, Dev.cnt_keep _ _ _ _ rfl]

theorem rDOM_CNT_LO_apart {i j : Nat} (h : i ≠ j) :
    rDOM_CNT_LO i + 8 ≤ rDOM_CNT_LO j ∨ rDOM_CNT_LO j + 8 ≤ rDOM_CNT_LO i := by
  unfold rDOM_CNT_LO
  omega

/-- Two counters of the domain count and nothing else changes. -/
theorem Dev.counts_two_domain_counters (d : Dev) {i j : Nat} (h : i ≠ j) :
    Counted d ((d.cnt (rDOM_CNT_LO i)).cnt (rDOM_CNT_LO j)) (rDOM_CNT_LO i) 1 ∧
      Counted d ((d.cnt (rDOM_CNT_LO i)).cnt (rDOM_CNT_LO j)) (rDOM_CNT_LO j) 1 ∧
      SameBut [.regs] d ((d.cnt (rDOM_CNT_LO i)).cnt (rDOM_CNT_LO j)) := by
  obtain ⟨hi, hj⟩ := d.counted_cnt_cnt 1 1 (rDOM_CNT_LO_apart h)
  exact ⟨hi, hj, d.sameBut_cnt_cnt _ _ _ _⟩

/-! ### Work that the safe state stops (R485) -/

theorem onLive_of_live {s : State} (hlive : Live s) (f : Dev → Dev) : onLive s f = onDev s f := by
  simp [onLive, onDev, hlive]

/-- An effect that leaves the device as it was is no effect, in the safe state or out of it. -/
theorem onLive_of_eq {s : State} {f : Dev → Dev} (h : f s.dev = s.dev) : onLive s f = .next s := by
  simp [onLive, onDev, h]

/-! ### The domain queue (R441, R442, R453) -/

theorem Dev.domQ_congr {d e : Dev} (h : d.dom = e.dom) (die : Nat) : d.domQ die = e.domQ die := by simp only [Dev.domQ, h]

@[simp] theorem Dev.domQ_setDomQ (d : Dev) (die : Nat) (l : List DomFrame) : (d.setDomQ die l).domQ die = l := by
  unfold Dev.domQ Dev.setDomQ
  split <;> rfl

theorem Dev.taskRaise_dom (d : Dev) (die ty : Nat) (ops : List Nat) (requester : Nat) :
    (d.taskRaise die ty ops requester).dom = d.dom :=
  Part.same_of_keep (Dev.taskRaise_keep (Part.event ++ [.rck, .fresh]) d die ty ops requester rfl) .dom (by decide)

/-- A full queue drops the frame (R441). -/
theorem Dev.domQueue_of_full {d : Dev} {p : Nat} (bs : List Byte) (hfull : 1024 ≤ (d.domQ (dieOf p)).length) :
    d.domQueue p bs = (d.cnt (rDOM_CNT_LO 0)).cnt (rDOM_CNT_LO 9) := by
  simp only [Dev.domQueue, if_pos hfull]

/-- A frame of another version, domain or type is dropped (R441, R442). -/
theorem Dev.domQueue_of_foreign {d : Dev} {p : Nat} {bs : List Byte} (hroom : (d.domQ (dieOf p)).length < 1024)
    (hbad : eb bs 14 ≠ 1 ∨ beAt bs 18 2 ≠ d.f rDOM_ID fDOM_ID_DOMAIN ∨ eb bs 15 = 0 ∨ 0x0F < eb bs 15) :
    d.domQueue p bs = (d.cnt (rDOM_CNT_LO 0)).cnt (rDOM_CNT_LO 10) := by
  have hbad' : (decide (eb bs 14 ≠ 1) || decide (beAt bs 18 2 ≠ d.f rDOM_ID fDOM_ID_DOMAIN) || decide (eb bs 15 = 0) ||
      decide (0x0F < eb bs 15)) = true := by
    simpa only [Bool.or_eq_true, decide_eq_true_eq, or_assoc] using hbad
  simp only [Dev.domQueue, if_neg (Nat.not_le.2 hroom), if_pos hbad']

/-- A frame of the domain that is not flooded joins the queue, last, whether or not it completes its message. -/
theorem Dev.domQueue_domQ {d : Dev} {p : Nat} {bs : List Byte} (hroom : (d.domQ (dieOf p)).length < 1024)
    (hver : eb bs 14 = 1) (hdom : beAt bs 18 2 = d.f rDOM_ID fDOM_ID_DOMAIN) (hlo : 1 ≤ eb bs 15) (hhi : eb bs 15 ≤ 0x0F)
    (hflood : ebit bs 16 7 = false) :
    (d.domQueue p bs).domQ (dieOf p) = d.domQ (dieOf p) ++ [{ port := p, bytes := bs, tick := d.trk.tick }] := by
  have hgood : (decide (eb bs 14 ≠ 1) || decide (beAt bs 18 2 ≠ d.f rDOM_ID fDOM_ID_DOMAIN) || decide (eb bs 15 = 0) ||
      decide (0x0F < eb bs 15)) = false := by
    simp [hver, hdom, hhi, Nat.one_le_iff_ne_zero.1 hlo]
  simp only [Dev.domQueue, if_neg (Nat.not_le.2 hroom), hgood, hflood, Bool.false_and, Bool.false_eq_true, if_false]
  split
  · rw [Dev.domQ_congr (Dev.taskRaise_dom _ _ _ _ _), Dev.domQ_setDomQ]
  · exact Dev.domQ_setDomQ _ _ _

theorem exec_ruleyFrameReceive_of_ruley {s : State} {p : Fin 512} {bytes : List Byte} (hlive : Live s)
    (hup : s.dev.isUp p = true) (hruley : s.dev.isRuley p bytes = true) :
    exec (.ruleyFrameReceive p bytes) s = onDev s fun d => d.domQueue p bytes := by
  change execRuleyFrameReceive p bytes s = _
  simp only [execRuleyFrameReceive, onLive_of_live hlive, onDev, hup, hruley, Bool.and_self, if_true]

theorem exec_ruleyFrameReceive_of_other {s : State} {p : Fin 512} {bytes : List Byte}
    (hother : s.dev.isRuley p bytes = false) : exec (.ruleyFrameReceive p bytes) s = .next s := by
  change execRuleyFrameReceive p bytes s = _
  rw [execRuleyFrameReceive]
  exact onLive_of_eq (by simp only [hother, Bool.and_false, Bool.false_eq_true, if_false])

/-! ### Messages that lack parts (R441) -/

/-- The device without the frames of the message of a frame, which counts as discarded. -/
def Dev.domDiscard (d : Dev) (die : Nat) (f : DomFrame) : Dev :=
  (d.setDomQ die ((d.domQ die).filter fun g => !(partsOf (d.domQ die) f.bytes).contains g)).cnt (rDOM_CNT_LO 11)

theorem Dev.domDiscard_domQ (d : Dev) (die : Nat) (f : DomFrame) :
    (d.domDiscard die f).domQ die = (d.domQ die).filter fun g => !(partsOf (d.domQ die) f.bytes).contains g :=
  (Dev.domQ_congr (Dev.cnt_dom _ _ _) _).trans (Dev.domQ_setDomQ _ _ _)

/-- A frame is a part of its own message. -/
theorem mem_partsOf {q : List DomFrame} {f : DomFrame} (h : f ∈ q) : f ∈ partsOf q f.bytes := by
  simp [partsOf, h]

theorem Dev.not_mem_domDiscard (d : Dev) {die : Nat} {f : DomFrame} (h : f ∈ d.domQ die) :
    f ∉ (d.domDiscard die f).domQ die := by
  rw [Dev.domDiscard_domQ]
  simp [mem_partsOf h]

theorem Dev.setDomQ_regs (d : Dev) (die : Nat) (l : List DomFrame) : (d.setDomQ die l).regs = d.regs := rfl

theorem Dev.domDiscard_counted (d : Dev) (die : Nat) (f : DomFrame) : Counted d (d.domDiscard die f) (rDOM_CNT_LO 11) 1 := by
  have h := (d.setDomQ die ((d.domQ die).filter fun g => !(partsOf (d.domQ die) f.bytes).contains g)).counted_cnt
    (rDOM_CNT_LO 11) 1
  rwa [Counted, Dev.rdPair_congr (Dev.setDomQ_regs _ _ _)] at h

theorem Dev.domDiscard_keep (d : Dev) (die : Nat) (f : DomFrame) :
    (d.domDiscard die f).keep [.regs, .dom] = d.keep [.regs, .dom] := by
  rw [Dev.domDiscard, Dev.cnt_keep _ _ _ _ rfl, Dev.setDomQ_keep _ _ _ _ rfl]

theorem exec_reassemblyTimeout_of_due {s : State} {die : Fin 2} {f : DomFrame} (hlive : Live s)
    (hf : ((s.dev.domQ die).find? fun f =>
      decide (f.tick + 100000 < s.dev.trk.tick) && !msgWhole (s.dev.domQ die) f.bytes) = some f) :
    exec (.reassemblyTimeout die) s = onDev s fun d => d.domDiscard die f := by
  change execReassemblyTimeout die s = _
  simp only [execReassemblyTimeout, onLive_of_live hlive, onDev, hf, Dev.domDiscard]

theorem exec_reassemblyTimeout_of_young {s : State} {die : Fin 2}
    (hyoung : ∀ f ∈ s.dev.domQ die, s.dev.trk.tick ≤ f.tick + 100000) : exec (.reassemblyTimeout die) s = .next s := by
  have hnone : ((s.dev.domQ die).find? fun f =>
      decide (f.tick + 100000 < s.dev.trk.tick) && !msgWhole (s.dev.domQ die) f.bytes) = none :=
    List.find?_eq_none.2 fun f hf => by simp [Nat.not_lt.2 (hyoung f hf)]
  change execReassemblyTimeout die s = _
  rw [execReassemblyTimeout]
  exact onLive_of_eq (by simp only [hnone])

/-! ### Messages for another device (R452) -/

theorem Dev.relayOn_dom (d : Dev) (p : Nat) (m : DomMsg) : (d.relayOn p m).dom = d.dom :=
  Part.same_of_keep (Dev.relayOn_keep (Part.event ++ [.jrn, .path, .nrg, .host, .fresh]) d p m rfl) .dom (by decide)

/-- A message that leaves by a port of the tree changes nothing of the tree. -/
theorem Dev.routeOn_dom {d : Dev} {m : DomMsg} {p : Nat} (hroute : d.routeTo m.dst = some p) (hp : p ≠ m.port) :
    (d.routeOn m).dom = d.dom := by
  simp only [Dev.routeOn, hroute, if_neg hp, Dev.cnt_dom, Dev.relayOn_dom]

/-- A route back to where the message came from is none: it is dropped and counted. -/
theorem Dev.routeOn_back_counted {d : Dev} {m : DomMsg} (hroute : d.routeTo m.dst = some m.port) :
    Counted d (d.routeOn m) (rDOM_CNT_LO 7) 1 ∧ SameBut [.regs] d (d.routeOn m) := by
  have hdrop : d.routeOn m = d.cnt (rDOM_CNT_LO 7) := by simp only [Dev.routeOn, hroute, if_true]
  rw [hdrop]
  exact ⟨d.counted_cnt _ _, d.sameBut_cnt _ _⟩

/-- Where the tree offers no path and nothing is flooded, the message is dropped and counted. -/
theorem Dev.routeOn_none_counted {d : Dev} {m : DomMsg} (hroute : d.routeTo m.dst = none)
    (hfall : d.b rDOM_CTRL fDOM_CTRL_FALLBACK_EN = false) :
    Counted d (d.routeOn m) (rDOM_CNT_LO 7) 1 ∧ SameBut [.regs] d (d.routeOn m) := by
  have hdrop : d.routeOn m = d.cnt (rDOM_CNT_LO 7) := by
    simp only [Dev.routeOn, hroute, hfall, Bool.false_eq_true, if_false]
  rw [hdrop]
  exact ⟨d.counted_cnt _ _, d.sameBut_cnt _ _⟩

section
variable {s : State} {die : Fin 2} {m : DomMsg} {d1 : Dev}

theorem exec_ruleyCmd_of_other (hlive : Live s) (htake : s.dev.domTake die 0x08 = some (m, d1)) (hon : d1.domState ≠ 0)
    (hlen : 40 ≤ m.body.length) (hdst : m.dst ≠ d1.devNo) : exec (.ruleyCmd die) s = onDev s fun _ => d1.routeOn m := by
  change execRuleyCmd die s = _
  simp [execRuleyCmd, onLive_of_live hlive, onDev, htake, hon, hdst, Nat.not_lt.2 hlen]

theorem exec_ruleyReply_of_other (hlive : Live s) (htake : s.dev.domTake die 0x09 = some (m, d1)) (hon : d1.domState ≠ 0)
    (hlen : 24 ≤ m.body.length) (hdst : m.dst ≠ d1.devNo) : exec (.ruleyReply die) s = onDev s fun _ => d1.routeOn m := by
  change execRuleyReply die s = _
  simp [execRuleyReply, onLive_of_live hlive, onDev, htake, hon, hdst, Nat.not_lt.2 hlen]

/-! ### Replies to relayed commands (R430) -/

/-- A relayed command ends with its reply: it is no longer outstanding, its buffer goes back. -/
def Dev.relayEnd (d : Dev) (x : Relayed) (status flags tick : Nat) (result : List Byte) : Dev :=
  ((({ d with host := { d.host with relayed := d.host.relayed.erase x } }).ctxReply x.ctx status flags tick result).cmdBuf
    x.ctx).cmdOut x.ctx.src x.ctx.pos

theorem exec_ruleyReply_of_unknown (hlive : Live s) (htake : s.dev.domTake die 0x09 = some (m, d1)) (hon : d1.domState ≠ 0)
    (hlen : 24 ≤ m.body.length) (hdst : m.dst = d1.devNo) (hnone : ∀ x ∈ d1.host.relayed, x.token ≠ beAt m.body 0 6) :
    exec (.ruleyReply die) s = onDev s fun _ => (d1.cnt (rDOM_CNT_LO 8)).cnt (rDMA_CNT_LO 7) := by
  have hfind : (d1.host.relayed.find? fun x => decide (x.token = beAt m.body 0 6)) = none :=
    List.find?_eq_none.2 fun x hx => by simpa using hnone x hx
  change execRuleyReply die s = _
  simp [execRuleyReply, onLive_of_live hlive, onDev, htake, hon, hdst, Nat.not_lt.2 hlen, hfind]

theorem exec_ruleyReply_of_known {x : Relayed} (hlive : Live s) (htake : s.dev.domTake die 0x09 = some (m, d1))
    (hon : d1.domState ≠ 0) (hlen : 24 ≤ m.body.length) (hdst : m.dst = d1.devNo)
    (hx : (d1.host.relayed.find? fun y => decide (y.token = beAt m.body 0 6)) = some x) :
    exec (.ruleyReply die) s = onDev s fun _ => d1.relayEnd x (beAt (m.body.drop 8) 2 2) (beAt (m.body.drop 8) 6 1 % 128)
      (beAt (m.body.drop 8) 8 8) (bytesAt (m.body.drop 8) 16 (beAt (m.body.drop 8) 4 2)) := by
  change execRuleyReply die s = _
  simp [execRuleyReply, onLive_of_live hlive, onDev, htake, hon, hdst, Nat.not_lt.2 hlen, hx, Dev.relayEnd]

end

/-- A fold of updates that each keep a value keeps it. -/
theorem Dev.each_of_keeps {α β : Type} (g : Dev → β) {f : Dev → α → Dev} (hf : ∀ e x, g (f e x) = g e) (l : List α)
    (d : Dev) : g (d.each l f) = g d := by
  induction l generalizing d with
  | nil => rfl
  | cons x l ih => exact (ih (f d x)).trans (hf d x)

/-- The relayed commands that wait for their reply (R430). -/
def Dev.relayed (d : Dev) : List Relayed := d.host.relayed

theorem Dev.relayed_congr {d e : Dev} (h : d.host = e.host) : d.relayed = e.relayed := by rw [Dev.relayed, h, Dev.relayed]

theorem Dev.raiseD_relayed (d : Dev) (code die inst : Nat) (data : Option Nat) :
    (d.raiseD code die inst data).relayed = d.relayed :=
  Dev.relayed_congr (Part.same_of_keep (Dev.raiseD_keep Part.event d code die inst data rfl) .host (by decide))

theorem Dev.setPool_relayed (d : Dev) (die : Nat) (x : PoolDie) : (d.setPool die x).relayed = d.relayed := by
  unfold Dev.setPool
  split <;> rfl

theorem Dev.poolReport_relayed (d : Dev) (die o : Nat) : (d.poolReport die o).relayed = d.relayed := by
  unfold Dev.poolReport
  refine (Dev.each_of_keeps Dev.relayed (fun e p => ?_) _ _).trans ?_
  · dsimp only
    split
    · rw [Dev.raiseD_relayed, Dev.setPool_relayed]
    · split
      · exact Dev.setPool_relayed _ _ _
      · rfl
  · rfl

theorem Dev.poolBadReturn_relayed (d : Dev) (die : Nat) : (d.poolBadReturn die).relayed = d.relayed :=
  Dev.relayed_congr (Part.same_of_keep (Dev.poolBadReturn_keep Part.event d die rfl) .host (by decide))

theorem Dev.poolReturn_relayed (d : Dev) (o addr : Nat) : (d.poolReturn o addr).relayed = d.relayed := by
  cases hbuf : d.poolAt addr with
  | none =>
    rw [Dev.poolReturn, hbuf]
    exact Dev.poolBadReturn_relayed _ _
  | some x =>
    rw [Dev.poolReturn, hbuf]
    dsimp only
    split
    · rw [Dev.poolReport_relayed, Dev.setPool_relayed]
    · exact Dev.poolBadReturn_relayed _ _

theorem Dev.cmdBuf_relayed (d : Dev) (c : CmdCtx) : (d.cmdBuf c).relayed = d.relayed := by
  unfold Dev.cmdBuf
  split
  · exact Dev.poolReturn_relayed _ _ _
  · rfl

theorem Dev.cmdOut_relayed (d : Dev) (src : CmdSrc) (pos : Nat) : (d.cmdOut src pos).relayed = d.relayed := by
  cases src <;> rfl

theorem Dev.replyRing_relayed (d : Dev) (r tag : Nat) (noReply : Bool) (status flags tick : Nat) (result : List Byte) :
    (d.replyRing r tag noReply status flags tick result).relayed = d.relayed :=
  Dev.relayed_congr
    (Part.same_of_keep (Dev.replyRing_keep Part.event d r tag noReply status flags tick result rfl) .host (by decide))

theorem Dev.ctxReply_relayed_of_ring (d : Dev) {c : CmdCtx} {r : Nat} (hsrc : c.src = .ring r) (status flags tick : Nat)
    (result : List Byte) : (d.ctxReply c status flags tick result).relayed = d.relayed := by
  unfold Dev.ctxReply
  split
  · rfl
  · rw [hsrc]
    exact Dev.replyRing_relayed _ _ _ _ _ _ _ _

/-- A command of a ring that has its reply no longer waits for one; every other relayed command still does. -/
theorem Dev.relayEnd_relayed (d : Dev) {x : Relayed} {r : Nat} (hsrc : x.ctx.src = .ring r) (status flags tick : Nat)
    (result : List Byte) : (d.relayEnd x status flags tick result).relayed = d.relayed.erase x := by
  rw [Dev.relayEnd, Dev.cmdOut_relayed, Dev.cmdBuf_relayed, Dev.ctxReply_relayed_of_ring _ hsrc]
  rfl

/-! ### Domain sums (R357) -/

section
variable {s : State} {die : Fin 2} {m : DomMsg} {d1 : Dev}

theorem exec_ruleySum_of_bad (hlive : Live s) (htake : s.dev.domTake die 0x0A = some (m, d1)) (hlen : m.body.length ≠ 40)
    (hnobody : ∀ c ∈ d1.jrn.closed, m.src ∉ c.waiting) : exec (.ruleySum die) s = onDev s fun _ => d1 := by
  have hfind : (d1.jrn.closed.find? fun c => c.waiting.contains m.src) = none :=
    List.find?_eq_none.2 fun c hc => by simpa using hnobody c hc
  change execRuleySum die s = _
  simp only [execRuleySum, onLive_of_live hlive, onDev, htake, if_neg hlen, hfind]

theorem exec_ruleySum_of_good (hlive : Live s) (htake : s.dev.domTake die 0x0A = some (m, d1)) (hlen : m.body.length = 40) :
    exec (.ruleySum die) s = onDev s fun _ => d1.jrnChildSum m.src (beAt m.body 0 6) (m.body.drop 8) := by
  change execRuleySum die s = _
  simp only [execRuleySum, onLive_of_live hlive, onDev, htake, if_pos hlen]

end

/-- A child's sum for a deck that has not closed is kept until it does. -/
theorem Dev.jrnChildSum_of_early {d : Dev} {dev deck : Nat} (sum : List Byte) (hclosed : ∀ c ∈ d.jrn.closed, c.deck ≠ deck)
    (hnew : ∀ x ∈ d.jrn.childs, ¬ (beAt x.2 0 8 = deck ∧ beAt x.2 8 2 = dev)) (hchild : ∃ p, (dev, p) ∈ d.dom.children)
    (hdeck : d.jrn.openDeck ≤ deck) (hact : d.jrnActive = true) :
    d.jrnChildSum dev deck sum = { d with jrn := { d.jrn with early := d.jrn.early ++ [(deck, dev, sum)] } } := by
  have hopen : (d.jrn.closed.find? fun c => decide (c.deck = deck)) = none :=
    List.find?_eq_none.2 fun c hc => by simpa using hclosed c hc
  have hunknown : (d.jrn.childs.find? fun e => decide (beAt e.2 0 8 = deck) && decide (beAt e.2 8 2 = dev)) = none :=
    List.find?_eq_none.2 fun x hx => by simpa using hnew x hx
  have hchild' : (d.dom.children.any fun c => decide (c.1 = dev)) = true := by
    obtain ⟨p, hp⟩ := hchild
    exact List.any_eq_true.2 ⟨(dev, p), hp, decide_eq_true rfl⟩
  simp only [Dev.jrnChildSum, hopen, hunknown, hchild', hdeck, hact, decide_true, Bool.and_self, if_true]

/-! ### FAULT messages (R455) -/

theorem Dev.domState_cnt (d : Dev) (i : Nat) : (d.cnt (rDOM_CNT_LO i)).domState = d.domState :=
  Dev.f_cnt_ne _ _ _ (by unfold rDOM_STATUS rDOM_CNT_LO; omega) (by unfold rDOM_STATUS rDOM_CNT_LO; omega)

theorem Dev.fallback_cnt (d : Dev) (i : Nat) :
    (d.cnt (rDOM_CNT_LO i)).b rDOM_CTRL fDOM_CTRL_FALLBACK_EN = d.b rDOM_CTRL fDOM_CTRL_FALLBACK_EN :=
  Dev.b_cnt_ne _ _ _ (by unfold rDOM_CTRL rDOM_CNT_LO; omega) (by unfold rDOM_CTRL rDOM_CNT_LO; omega)

theorem Dev.isChild_cnt (d : Dev) (a dev : Nat) : (d.cnt a).isChild dev = d.isChild dev := rfl

/-! An event writes no register of the domain's block but its own status (R416, R417). -/

theorem Dev.raise_dom (d : Dev) (code inst : Nat) (data : Option Nat) : (d.raise code inst data).dom = d.dom :=
  Part.same_of_keep (Dev.raise_keep Part.event d code inst data rfl) .dom (by decide)

theorem Dev.irqTry_rn (d : Dev) (src b : Nat) : (d.irqTry src).rn b = d.rn b :=
  Dev.rn_congr (Part.same_of_keep (Dev.irqTry_keep [.irq, .msix, .out] d src rfl) .regs (by decide)) b

theorem Dev.rn_cnt_dma (d : Dev) {i b : Nat} (hi : i < 32) (hb : rDOM_CTRL ≤ b) :
    (d.cnt (rDMA_CNT_LO i)).rn b = d.rn b := by
  have hbelow : rDMA_CNT_LO i + 4 < b := by
    refine Nat.lt_of_lt_of_le ?_ hb
    unfold rDMA_CNT_LO rDOM_CTRL
    omega
  exact Dev.rn_cnt_ne _ _ (by omega) (by omega)

theorem Dev.rn_out (d : Dev) (x : OutSt) (b : Nat) : ({ d with out := x } : Dev).rn b = d.rn b := rfl

theorem Dev.rn_evtDropped (d : Dev) (n b : Nat) : ({ d with evtDropped := n } : Dev).rn b = d.rn b := rfl

theorem Dev.evtStore_rn (d : Dev) (code dieF inst : Nat) (data : Option Nat) {b : Nat} (hb : rDOM_CTRL ≤ b) :
    (d.evtStore code dieF inst data).rn b = d.rn b := by
  have hwr : b ≠ rDMA_EVT_WR := Nat.ne_of_gt (Nat.lt_of_lt_of_le (by decide) hb)
  unfold Dev.evtStore
  dsimp only
  rw [Dev.rn_cnt_dma _ (by decide) hb, Dev.rn_wn, if_neg hwr, Dev.rn_out]

theorem Dev.evtDrop_rn (d : Dev) (n : Nat) {b : Nat} (hb : rDOM_CTRL ≤ b) :
    (({ d with evtDropped := n } : Dev).cnt (rDMA_CNT_LO 6)).rn b = d.rn b := by
  rw [Dev.rn_cnt_dma _ (by decide) hb, Dev.rn_evtDropped]

/-- The device once the LOST entry of earlier drops is stored, where there were any. -/
def Dev.evtLost (d : Dev) : Dev :=
  if d.evtDropped = 0 then d else { d.evtStore 0 0 0xFFFF (some d.evtDropped) with evtDropped := 0 }

theorem Dev.evtLost_rn (d : Dev) {b : Nat} (hb : rDOM_CTRL ≤ b) : d.evtLost.rn b = d.rn b := by
  unfold Dev.evtLost
  split
  · rfl
  · rw [Dev.rn_evtDropped, Dev.evtStore_rn _ _ _ _ _ hb]

theorem Dev.evtPut_eq (d : Dev) (code dieF inst : Nat) (data : Option Nat) : d.evtPut code dieF inst data =
    if d.b rDMA_CTRL fDMA_CTRL_EVT_EN then
      if d.evtRoom then
        if d.evtLost.evtRoom then (d.evtLost.evtStore code dieF inst data).irqTry 96
        else ({ d.evtLost with evtDropped := d.evtLost.evtDropped + 1 }.cnt (rDMA_CNT_LO 6)).irqTry 96
      else { d with evtDropped := d.evtDropped + 1 }.cnt (rDMA_CNT_LO 6)
    else d := rfl

theorem Dev.evtPut_rn (d : Dev) (code dieF inst : Nat) (data : Option Nat) {b : Nat} (hb : rDOM_CTRL ≤ b) :
    (d.evtPut code dieF inst data).rn b = d.rn b := by
  rw [Dev.evtPut_eq]
  split
  · split
    · split
      · rw [Dev.irqTry_rn, Dev.evtStore_rn _ _ _ _ _ hb, Dev.evtLost_rn _ hb]
      · rw [Dev.irqTry_rn, Dev.evtDrop_rn _ _ hb, Dev.evtLost_rn _ hb]
    · exact Dev.evtDrop_rn _ _ hb
  · rfl

theorem Dev.raise_rn (d : Dev) {code a bit b : Nat} (inst : Nat) (data : Option Nat) (hreg : evtReg code 0 = some (a, bit))
    (hb : rDOM_CTRL ≤ b) (hba : b ≠ a) : (d.raise code inst data).rn b = d.rn b := by
  unfold Dev.raise Dev.raiseAt
  rw [hreg]
  dsimp only
  rw [Dev.evtPut_rn _ _ _ _ _ hb]
  split
  · rw [Dev.irqTry_rn, Dev.rn_wn, if_neg hba]
  · rw [Dev.rn_wn, if_neg hba]

theorem Dev.raise_remoteFault_domState (d : Dev) (inst : Nat) (data : Option Nat) :
    (d.raise eDOM_REMOTE_FAULT inst data).domState = d.domState := by
  have hrn : (d.raise eDOM_REMOTE_FAULT inst data).rn rDOM_STATUS = d.rn rDOM_STATUS :=
    Dev.raise_rn d inst data (a := rDOM_EVT_STATUS) rfl (by decide) (by decide)
  simp only [Dev.domState, Dev.f, hrn]

section
variable {s : State} {die : Fin 2} {m : DomMsg} {d1 : Dev}

/-- A device with no way toward the root counts the message and drops it. -/
theorem exec_ruleyFault_of_no_way (hlive : Live s) (htake : s.dev.domTake die 0x0B = some (m, d1)) (hon : d1.domState ≠ 0)
    (hlen : m.body.length = 32) (hroot : d1.domState ≠ 4) (hchild : d1.isChild (beAt m.body 0 2) = false)
    (hparent : d1.dom.parent = none) (hfall : d1.b rDOM_CTRL fDOM_CTRL_FALLBACK_EN = false) :
    exec (.ruleyFault die) s = onDev s fun _ => (d1.cnt (rDOM_CNT_LO 5)).cnt (rDOM_CNT_LO 7) := by
  change execRuleyFault die s = _
  simp [execRuleyFault, onLive_of_live hlive, onDev, htake, hon, hlen, hroot, hchild, hparent, hfall, Dev.domState_cnt,
    Dev.fallback_cnt, Dev.isChild_cnt]

/-- A root counts and tells a message of the right length, and sends it no further. -/
theorem exec_ruleyFault_of_root (hlive : Live s) (htake : s.dev.domTake die 0x0B = some (m, d1)) (hroot : d1.domState = 4) :
    exec (.ruleyFault die) s = onDev s fun _ => if m.body.length ≠ 32 then d1
      else (d1.cnt (rDOM_CNT_LO 5)).raise eDOM_REMOTE_FAULT (beAt m.body 0 2) (some (beAt m.body 4 4)) := by
  change execRuleyFault die s = _
  simp [execRuleyFault, onLive_of_live hlive, onDev, htake, hroot, Dev.domState_cnt, Dev.raise_remoteFault_domState]

end

/-! ### Status commands (R457) -/

/-- The answer of DOM_STATUS: the device's place in the tree. -/
def Dev.domStatusResult (d : Dev) : List Byte :=
  beBytes 1 d.domState ++ beBytes 1 d.domDepth ++ beBytes 1 d.dom.children.length ++ beBytes 1 d.domHeight ++
  beBytes 2 d.devNo ++ beBytes 2 (d.f rDOM_ID fDOM_ID_DOMAIN) ++ beBytes 2 (d.dom.root.getD 0xFFFF) ++
  beBytes 2 ((d.dom.parent.map (·.1)).getD 0xFFFF) ++ beBytes 2 ((d.dom.parent.map (·.2)).getD 0xFFFF) ++
  beBytes 2 d.dom.routes.length ++ beBytes 4 d.dom.reparents ++ beBytes 4 (min (2 ^ 32 - 1) (d.rod - d.dom.changeRod))

theorem exec_domStatus_of_live (h : CmdHdr) {s : State} (hlive : Live s) :
    exec (.domStatus h) s = onDev s fun d => d.reply h 0x0C00 stOk 0 d.domStatusResult := by
  change execDomStatus h s = _
  simp only [execDomStatus, onCmd_of_live hlive, Dev.domStatusResult]

theorem exec_domNeigh_of_ok (h : CmdHdr) {first count : BitVec 16} {s : State} (hlive : Live s) (hpos : 1 ≤ count.toNat)
    (hend : first.toNat + count.toNat ≤ 512) :
    exec (.domNeigh h first count) s = onDev s fun d =>
      d.reply h 0x0C01 stOk 0 ((List.range count.toNat).flatMap fun k => d.neighEntry (first.toNat + k)) := by
  have hok : ¬ (count.toNat = 0 ∨ 512 < first.toNat + count.toNat) := by omega
  change execDomNeigh h first count s = _
  simp only [execDomNeigh, onCmd_of_live hlive, if_neg hok]

theorem exec_domNeigh_of_bad (h : CmdHdr) {first count : BitVec 16} {s : State} (hlive : Live s)
    (hbad : count.toNat = 0 ∨ 512 < first.toNat + count.toNat) :
    exec (.domNeigh h first count) s = onDev s fun d => d.replySt h 0x0C01 stBadParam := by
  change execDomNeigh h first count s = _
  simp only [execDomNeigh, onCmd_of_live hlive, if_pos hbad]

end Sys2Proof.Machine

open Sys2Proof Sys2Proof.Machine

/-- Settles O53, clause by clause from what each command does in its case. -/
theorem domainMessages : Obligations.DomainMessages := by
  unfold Obligations.DomainMessages
  refine ⟨?joins, ?foreign, ?full, ?notRuley, ?lateParts, ?youngParts, ?cmdOther, ?replyOther, ?replyUnknown, ?replyKnown,
    ?sumBad, ?sumEarly, ?faultNoWay, ?faultRoot, ?status, ?neigh, ?neighBad⟩
  case joins =>
    intro s p bytes hlive hup hruley hroom hver hdom hlo hhi hflood
    exact (completes_iff_of_onDev (exec_ruleyFrameReceive_of_ruley hlive hup hruley)).2
      (Dev.domQueue_domQ hroom hver hdom hlo hhi hflood)
  case foreign =>
    intro s p bytes hlive hup hruley hroom hbad
    refine (completes_iff_of_onDev (exec_ruleyFrameReceive_of_ruley hlive hup hruley)).2 ?_
    rw [Dev.domQueue_of_foreign hroom hbad]
    exact Dev.counts_two_domain_counters _ (by decide)
  case full =>
    intro s p bytes hlive hup hruley hfull
    refine (completes_iff_of_onDev (exec_ruleyFrameReceive_of_ruley hlive hup hruley)).2 ?_
    rw [Dev.domQueue_of_full bytes hfull]
    exact Dev.counts_two_domain_counters _ (by decide)
  case notRuley => exact fun s p bytes hother => exec_ruleyFrameReceive_of_other hother
  case lateParts =>
    intro s die f hlive hf
    exact (completes_iff_of_onDev (exec_reassemblyTimeout_of_due hlive hf)).2
      ⟨Dev.domDiscard_domQ _ _ _, Dev.not_mem_domDiscard _ (List.mem_of_find?_eq_some hf), Dev.domDiscard_counted _ _ _,
        .of_keep (Dev.domDiscard_keep _ _ _)⟩
  case youngParts => exact fun s die hyoung => exec_reassemblyTimeout_of_young hyoung
  case cmdOther =>
    exact fun s die m d1 hlive htake hon hlen hdst =>
      .of_onDev (exec_ruleyCmd_of_other hlive htake hon hlen hdst)
        ⟨fun p => Dev.routeOn_dom, Dev.routeOn_back_counted, Dev.routeOn_none_counted⟩
  case replyOther =>
    exact fun s die m d1 hlive htake hon hlen hdst =>
      .of_onDev (exec_ruleyReply_of_other hlive htake hon hlen hdst)
        ⟨fun p => Dev.routeOn_dom, Dev.routeOn_none_counted⟩
  case replyUnknown =>
    intro s die m d1 hlive htake hon hlen hdst hnone
    obtain ⟨htoken, hdma⟩ := d1.counted_cnt_cnt (a := rDOM_CNT_LO 8) (b := rDMA_CNT_LO 7) 1 1 (by decide)
    exact .of_onDev (exec_ruleyReply_of_unknown hlive htake hon hlen hdst hnone) ⟨htoken, hdma, d1.sameBut_cnt_cnt _ _ _ _⟩
  case replyKnown =>
    exact fun s die m d1 x r hlive htake hon hlen hdst hx hsrc =>
      .of_onDev (exec_ruleyReply_of_known hlive htake hon hlen hdst hx) (Dev.relayEnd_relayed _ hsrc _ _ _ _)
  case sumBad =>
    exact fun s die m d1 hlive htake hlen hnobody => .of_onDev (exec_ruleySum_of_bad hlive htake hlen hnobody) rfl
  case sumEarly =>
    exact fun s die m d1 hlive htake hlen hclosed hnew hchild hdeck hact =>
      .of_onDev (exec_ruleySum_of_good hlive htake hlen) (Dev.jrnChildSum_of_early _ hclosed hnew hchild hdeck hact)
  case faultNoWay =>
    exact fun s die m d1 hlive htake hon hlen hroot hchild hparent hfall =>
      .of_onDev (exec_ruleyFault_of_no_way hlive htake hon hlen hroot hchild hparent hfall)
        (Dev.counts_two_domain_counters _ (by decide))
  case faultRoot =>
    intro s die m d1 hlive htake hroot
    refine .of_onDev (exec_ruleyFault_of_root hlive htake hroot) ?_
    split
    · rfl
    · rw [Dev.raise_dom, Dev.cnt_dom]
  case status =>
    exact fun s h hlive => .of_onDev (exec_domStatus_of_live h hlive) rfl rfl
  case neigh =>
    exact fun s h first count hlive hpos hend => .of_onDev (exec_domNeigh_of_ok h hlive hpos hend) rfl rfl
  case neighBad =>
    exact fun s h first count hlive hbad => .of_onDev (exec_domNeigh_of_bad h hlive hbad) rfl
end
